-- ==== Sys2Proof/Word.lean ====
section
/-! DEFINITION. The plainest data of the model: bytes, byte strings, 32-bit register words, handles and ticks.
Field extraction and byte order live in Machine/Bits.lean, where a repair may mend them. -/

namespace Sys2Proof

/-- One byte of a command, a descriptor, a message or a text. -/
abbrev Byte := BitVec 8

/-- A byte string, offset 0 first (R20). -/
abbrev Bytes := List Byte

/-- A 32-bit host-visible register (R555). -/
abbrev Word := BitVec 32

/-- A value of the 64-bit timebase, in ticks of 10 ns (R23). -/
abbrev Tick := Nat

/-- A 32-bit handle word (R92). -/
abbrev Handle := Nat

/-- A token ID (R7: 21 bits, carried in 24-bit fields). -/
abbrev Tok := Nat

end Sys2Proof
end

