-- ==== Sys2Proof/Config.lean ====
section
/-! DEFINITION. What a configuration fixes (R6, R7, R129, R165, R303, R341, R454, R561) and the free values: opaque
constants with no body, for what the manual leaves open. Nothing in Lean can evaluate one. -/

namespace Sys2Proof

/-- The three configurations (R6). A `State` carries its own and never changes it. -/
inductive Cfg where
  | S | M | L
deriving DecidableEq, Repr

namespace Cfg

/-- R6, R34. -/
def bays : Cfg → Nat
  | S => 1 | M => 2 | L => 4

/-- R6, R34. -/
def quads (c : Cfg) : Nat := 4 * c.bays

/-- R6, R34. -/
def cores (c : Cfg) : Nat := 16 * c.bays

/-- R6. -/
def terraces : Cfg → Nat
  | S => 8 | M => 16 | L => 16

/-- R6, R560. -/
def memPorts : Cfg → Nat
  | S => 1 | M => 2 | L => 2

/-- R6: only Kidevon L has the flash port and tier T2. -/
def hasFlash : Cfg → Bool
  | L => true | S => false | M => false

/-- R8: Kidevon S and M require crust encoding. -/
def crustRequired (c : Cfg) : Bool := !c.hasFlash

/-- Request-table entries (R6). -/
def reqEntries : Cfg → Nat
  | S => 4096 | M => 8192 | L => 16384

/-- Rows per step (R6). -/
def rowsPerStep : Cfg → Nat
  | S => 2048 | M => 4096 | L => 8192

/-- Sync objects (R6). -/
def syncObjects : Cfg → Nat
  | S => 2048 | M => 4096 | L => 8192

/-- Starters (R6). -/
def starters : Cfg → Nat
  | S => 16384 | M => 32768 | L => 65536

/-- Riddle rows (R6, R159). -/
def riddleRows (c : Cfg) : Nat := 32768 * c.quads

/-- Object slots (R129). -/
def objectSlots : Cfg → Nat
  | S => 4096 | M => 8192 | L => 16384

/-- Run-store entries (R303). -/
def runStore : Cfg → Nat
  | S => 786432 | M => 1572864 | L => 3145728

/-- Step staging in KiB (R341). -/
def stagingKiB : Cfg → Nat
  | S => 2048 | M => 4096 | L => 6144

/-- Count-table slots, which bound the live slots of all terraces together (R454). -/
def liveSlots : Cfg → Nat
  | S => 256 | M => 512 | L => 1024

/-- On-block SRAM in MiB (R6). -/
def sramMiB : Cfg → Nat
  | S => 48 | M => 96 | L => 160

/-- CONFIG field of KDV_VERSION (R12). -/
def code : Cfg → Nat
  | S => 1 | M => 2 | L => 3

/-- Dedicated external memory per port in 64 KiB units: 72 GiB a port (R6: 72 GiB with one port, 144 with two). DEDUCED, log
entry 79. -/
def t1Units : Cfg → Nat → Nat
  | S, 0 => 1179648 | S, _ => 0
  | M, 0 => 1179648 | M, 1 => 1179648 | M, _ => 0
  | L, 0 => 1179648 | L, 1 => 1179648 | L, _ => 0

end Cfg

namespace Config

/-- FREE VALUE. A 64-bit draw of physical noise or of a DRBG under fresh entropy (R4, R414, R415). The argument is the
model's own counter `State.fresh`; DESIGN CHOICE, log entry 3. -/
opaque freeNoise : Nat → BitVec 64

/-- FREE VALUE. A byte whose contents the manual calls undefined (R86, R133, R209, R447, R585); DESIGN CHOICE, log entry 4. -/
opaque freeByte : Nat → BitVec 8

/-- FREE VALUE. The exponential unit's nearest-mode rounding of 2^(s - G) in M64, before it is held to the bound of R65;
arguments: the score in crumbs (non-positive) and the row shift; DESIGN CHOICE, log entry 5. -/
opaque expNearest : Int → Nat → Int

/-- FREE VALUE. The exponential unit's upward-mode rounding (R65); DESIGN CHOICE, log entry 5. -/
opaque expUpward : Int → Nat → Int

/-- FREE VALUE. The logarithm unit's result in crumbs for an M64 value (R66); DESIGN CHOICE, log entry 5. -/
opaque logUnit : Nat → Int

/-- FREE VALUE. The estimate of a row's relative sum behind the row shift (R50), as which of the three shifts that an
estimate within a factor of 2 leaves; the argument is the row's scores in crumbs; DESIGN CHOICE, log entry 5. -/
opaque rowSumEstimate : List Int → Nat

/-- Capacity of one way in KiB: 0 Pantry slice, 1 mask-cache slice (R454 counts ways and gives no size). DESIGN CHOICE, log
entry 38. -/
opaque wayKib : Nat → Nat

/-- FREE VALUE. What a lane of a core holds once a task has begun (R27); arguments: model counter, lane; DESIGN CHOICE, log
entry 149. -/
opaque laneValue : Nat → Nat → BitVec 64

/-- FREE VALUE. The bucket line of a key in a table that `ewq` writes, a vocabulary's spelling table or a passage store's
directory (R220, R250); arguments: OBJ_UID, which of the two choices, the key; DESIGN CHOICE, log entry 147. -/
opaque bucketLine : Nat → Nat → List (BitVec 8) → Nat

/-- FREE VALUE. KiB of an object that is not pinned found resident in T0 (R136, R145); argument: model counter. DESIGN
CHOICE, log entry 38. -/
opaque t0Resident : Nat → Nat

/-- FREE VALUE. The contents of the debug window as its Nymuri-internal layout shows them (R579); DESIGN CHOICE, log entry
6. -/
opaque debugWindow : Nat → BitVec 32

/-- Per release: KDV_VERSION.IP_PATCH (R12); DESIGN CHOICE, log entry 7. -/
opaque ipPatch : BitVec 8

/-- Unicode 15.1 character data outside ASCII, which the manual names and does not print (R189, R193, R200, R217): General
Category and binary-property class code of R200 (0 to 9) for a code point; DESIGN CHOICE, log entry 8. -/
opaque ucdClass : Nat → Nat

/-- Unicode 15.1: does it assign the code point (R193, R200)? DESIGN CHOICE, log entry 8. -/
opaque ucdAssigned : Nat → Bool

/-- Unicode 15.1: canonical combining class (R193); DESIGN CHOICE, log entry 8. -/
opaque ucdCcc : Nat → Nat

/-- Unicode 15.1: one-step canonical decomposition mapping, empty when there is none (R193); DESIGN CHOICE, log entry 8. -/
opaque ucdCanonDecomp : Nat → List Nat

/-- Unicode 15.1: one-step compatibility or canonical decomposition mapping, empty when there is none (R193). DESIGN CHOICE,
log entry 8. -/
opaque ucdCompatDecomp : Nat → List Nat

/-- Unicode 15.1: primary composite of two code points, exclusions applied (R193); DESIGN CHOICE, log entry 8. -/
opaque ucdCompose : Nat → Nat → Option Nat

/-- Unicode 15.1: Sentence_Terminal (R217); DESIGN CHOICE, log entry 8. -/
opaque ucdSentenceTerminal : Nat → Bool

/-- Unicode 15.1: General Category Pe or Pf, or Po being quotation mark or apostrophe (R217); DESIGN CHOICE, log entry 8. -/
opaque ucdCloser : Nat → Bool

/-- The two Nymuri public keys of the boot ROM (R514): slot, then x and y as integers; DESIGN CHOICE, log entry 9. -/
opaque nymuriKey : Nat → Nat × Nat

/-- FREE VALUE. How many of a batch of search issues wait a cycle for an update step (R176); argument: model counter. DESIGN
CHOICE, log entry 142. -/
opaque updateWait : Nat → Nat

/-- FREE VALUE. The cycles of sclk in a tick, whose frequency the integrator chooses (R475), at least 1. DESIGN CHOICE, log
entry 151. -/
opaque sclkCycles : Nat

/-- FREE VALUE. Does a message presented in a sealed turn run past its end, because the accelerator does not take its beats
in time (R461)? Argument: model counter. DESIGN CHOICE, log entry 151. -/
opaque overruns : Nat → Bool

/-- FREE VALUE. How many issue slots of a terrace's reservation are lent in a tick (R463); argument: model counter. DESIGN
CHOICE, log entry 151. -/
opaque slotsLent : Nat → Nat

/-- FREE VALUE. How many 64-byte lines a spilled live state takes in T1 (R288); argument: distinct tokens counted. DESIGN
CHOICE, log entry 117. -/
opaque spillLines : Nat → Nat

/-- FREE VALUE. The run-store index PAGE_ROOT shows, opaque to host software (R302); argument: model counter. DESIGN CHOICE,
log entry 117. -/
opaque pageRoot : Nat → Nat

/-- FREE VALUE. Which of the places that are free on a port the block takes for a terrace's T1 quota (R452, "of its own
choosing"); arguments: port, model counter. DESIGN CHOICE, log entry 78. -/
opaque t1Place : Nat → Nat → Nat

/-- FREE VALUE. The 64-byte data lines of a terrace's quota that its journal area takes (R143), whose size the manual does
not state; arguments: request quota, Starter quota. DESIGN CHOICE, log entry 127. -/
opaque journalLines : Nat → Nat → Nat

/-- FREE VALUE. Which port a line lies on where the T1 quota names both (R143); argument: the operation. DESIGN CHOICE, log
entry 127. -/
opaque t1Port : Nat → Nat

/-- FREE VALUE. The T1 address that the record of a MEMORY failure holds (R556), since the block places data itself;
arguments: port, model counter. DESIGN CHOICE, log entry 80. -/
opaque t1Address : Nat → Nat → Nat

/-- Where block-owned T1 lies on a port: first 64 KiB unit and number of units (R148, R588); argument: port. DESIGN CHOICE,
log entry 78. -/
opaque blockOwnedT1 : Nat → Nat × Nat

/-- FREE VALUE. What a flash target's ONFI parameter page and factory marks say (R148, R593): whether a target stands there,
whether it has read retry, bytes of a page, units of 16 KiB in an erase block, and its erase blocks with the mark bad and
their erase counts; argument: channel × 4 + target. DESIGN CHOICE, log entry 103. -/
opaque flashPage : Nat → Bool × Bool × Nat × Nat × List (Bool × Nat)

/-- FREE VALUE. Units of 16 KiB that an erase block of the mounted targets holds (R149), at least 1. DESIGN CHOICE, log
entry 103. -/
opaque blockUnits : Nat

/-- FREE VALUE. The deepest read-retry level of the targets (R149, R150). DESIGN CHOICE, log entry 103. -/
opaque deepestRetry : Nat

end Config

end Sys2Proof
end

