-- ==== Sys2Proof/Syntax.lean ====
section
/-! DEFINITION. The commands the block takes: `Instr`, one constructor per row of spec/opcode_table.json, and the
operand types they carry. A ring or sideband command carries the 64 bytes of R89 and the mailbox it stands in; what the
block reads from host memory within that step arrives with it (log entry 1). -/

namespace Sys2Proof

/-- Where a command of R89 is taken from: a terrace mailbox, the management mailbox's ring, or the sideband (R72, R108). -/
inductive Src where
  | terrace (n : Nat)
  | mgmt
  | sideband
deriving DecidableEq, Repr

/-- What one read of host memory returned: the bytes, or a host fabric error (R585). DEDUCED, log entry 1. -/
inductive HostRead where
  | okay (b : Bytes)
  | error
deriving DecidableEq, Repr

/-! ### Object images. The byte layout of an image body is Nymuri-internal (R125); its content is stated as behaviour
(R220, R248, R250, R367, R391, R392) and is carried as that content. -/

/-- A token row of a vocabulary (R220). `score` is the stored score in crumbs, `pair` the merge result pair of mode 0x02: the two
tokens that merge into this one. -/
structure TokRow where
  id       : Tok
  bytes    : Bytes
  score    : Int
  control  : Bool
  fallback : Bool
  pair     : Option (Tok × Tok) := none
deriving DecidableEq, Repr

/-- The fallback section of a vocabulary (R220): 256 IDs, or one unknown-token ID. -/
inductive Fallback where
  | byte (ids : List Tok)
  | unk (id : Tok)
deriving DecidableEq, Repr

/-- An entry of the merge table (R220). -/
structure MergeRow where
  left   : Tok
  right  : Tok
  rank   : Nat
  result : Tok
deriving DecidableEq, Repr

/-- One range of the class map of a split table (R200). -/
structure ClassRange where
  lo  : Nat
  hi  : Nat
  cls : Nat
deriving DecidableEq, Repr

/-- The split table (R200): class map, 32 × 32 break codes row by row, run caps per class. -/
structure SplitTable where
  classes : List ClassRange
  codes   : List Nat
  caps    : List Nat
deriving DecidableEq, Repr

/-- The sections of a vocabulary or overlay image (R220). `freq` is ewq's frequency order (R163). -/
structure VocabBody where
  tokens   : List TokRow
  fallback : Fallback
  merges   : List MergeRow
  split    : SplitTable
  freq     : List Tok
deriving DecidableEq, Repr

/-- One state of a token automaton with its mask (R367, R368, R371). `enc` is the mask's encoding code, `tiles` the
summary bits set, `trans` the transitions. -/
structure GState where
  allowed   : List Tok
  accept    : Bool
  terminal  : Bool
  eosPermit : Bool
  enc       : Nat
  tiles     : List Nat
  trans     : List (Tok × Nat)
deriving DecidableEq, Repr

/-- The sections of a grammar image; state number s is entry s - 1 (R367). -/
structure GrammarBody where
  states : List GState
deriving DecidableEq, Repr

/-- The segment kinds of R248; `reserved` keeps a reserved code for OBJ_SEAL to reject. -/
inductive SegKind where
  | text (b : Bytes)
  | control (t : Tok)
  | slot (n : Nat)
  | groupOpen
  | passage
  | groupClose
  | reserved (code : Nat)
deriving DecidableEq, Repr

/-- A template segment (R248). `keepTail` is SIDE = KEEP_TAIL. -/
structure Segment where
  kind     : SegKind
  prio     : Nat
  keepTail : Bool
  minKeep  : Nat
deriving DecidableEq, Repr

/-- The sections of a template image (R248). -/
structure TemplateBody where
  segs : List Segment
deriving DecidableEq, Repr

/-- One passage of a passage store (R250). -/
structure Passage where
  ident  : Bytes
  tokens : List Tok
deriving DecidableEq, Repr

/-- The sections of a passage store image (R250). -/
structure StoreBody where
  passages : List Passage
deriving DecidableEq, Repr

/-- The sections of a bias set image (R392); a bias is a NOFF code, a signed integer in 2^-24 nat. -/
structure BiasBody where
  biases : List (Tok × Int)
  bans   : List Tok
deriving DecidableEq, Repr

/-- The sections of a sampling profile image (R391), each field as its code; `minP` is the signed L40 code. -/
structure ProfileBody where
  tempScale  : Nat
  topK       : Nat
  topP       : Nat
  minP       : Int
  presence   : Int
  frequency  : Int
  rpPos      : Nat
  rpNeg      : Nat
  countScope : Nat
deriving DecidableEq, Repr

/-- The content of an image body, by kind (R124). -/
inductive ObjBody where
  | vocab (b : VocabBody)
  | grammar (b : GrammarBody)
  | template (b : TemplateBody)
  | store (b : StoreBody)
  | bias (b : BiasBody)
  | profile (b : ProfileBody)
deriving DecidableEq, Repr

/-! ### Port operands -/

/-- What REQ_SUBMIT reads at intake (R273): the request descriptor, the stop strings in order, the token input or the
assembly descriptor, and the identifiers of the assembly's passage entries. DEDUCED, log entry 1. -/
structure SubmitReads where
  desc   : HostRead
  stops  : List HostRead
  input  : HostRead
  idents : List HostRead
deriving DecidableEq, Repr

/-- The data of a host fabric read operation (R585): its parts in the order asked, an object image with the content of
its body, or ERROR. -/
inductive HostData where
  | parts (ps : List Bytes)
  | image (b : Bytes) (body : Option ObjBody)
  | error
deriving DecidableEq, Repr

/-- The data of a memory-port read operation (R541): nothing the model needs, an image's body read back, or bytes. DEDUCED,
log entry 32. -/
inductive MpData where
  | lines
  | body (b : Option ObjBody)
  | bytes (b : Bytes)
deriving DecidableEq, Repr

/-- A step-port ingress message: beat 0, the payload of the later beats, and the beats counted to SP_I_LAST (R339, R343). -/
structure SpMsg where
  head    : Bytes
  payload : Bytes
  beats   : Nat
deriving DecidableEq, Repr

/-- One access on the host fabric target (R556, R583). `port` is the requester's initiator port (R572). -/
structure Access where
  off   : Nat
  write : Bool
  data  : Word
  strb  : BitVec 4
  priv  : Bool
  port  : Nat
deriving DecidableEq, Repr

/-- The strap inputs sampled at the release of a reset (R513, R598). -/
structure Straps where
  bootSrc  : BitVec 2
  bootAddr : BitVec 52
deriving DecidableEq, Repr

/-- A parity error found in an SRAM word within a step (R532 to R536): the structure code of R544, the owner's entry or
index within its terrace, whether it found the word unreplayable (third error, failed copy), its location word, and the
word's index within the structure's unit (for counter storage, the cause code of the counter, R549). DEDUCED, log entry 106. -/
structure ParityErr where
  structure_ : Nat
  owner      : Nat
  lost       : Bool
  location   : Nat
  word       : Nat
deriving DecidableEq, Repr

/-- The wake events of S1 (R495) beyond those of R497. -/
inductive S1Cause where
  | hfpAccess
  | spIValid
  | timer
deriving DecidableEq, Repr

/-- The background work of the flash translation layer (R149). -/
inductive FtlWork where
  | staticWear
  | disturbRefresh
  | retentionRefresh
  | retire
deriving DecidableEq, Repr

/-- The commands of the block, one constructor per row of spec/opcode_table.json. -/
inductive Instr where
  | fwQuery (src : Src) (c : Bytes)
  | commandUnassigned (src : Src) (c : Bytes)
  | terraceCreate (src : Src) (c : Bytes) (desc : HostRead)
  | terraceDestroy (src : Src) (c : Bytes)
  | terraceDestroyDone (t : Nat)
  | t1ClearDone (job : Nat)
  | destroyDiscardTimer (t : Nat)
  | terraceSetTerrace (src : Src) (c : Bytes)
  | terraceSetSchedule (src : Src) (c : Bytes)
  | keyInstall (src : Src) (c : Bytes) (blob : HostRead)
  | lifecycleAdvance (src : Src) (c : Bytes)
  | otpAdvAck (w1 w2 : Word)
  | otpAdvTimeout (w1 w2 : Word)
  | lifecycleReset (straps : Straps)
  | powerSet (src : Src) (c : Bytes)
  | powerSleep (src : Src) (c : Bytes)
  | quiesceDone
  | quiesceTimeout
  | countersReadCounters (src : Src) (c : Bytes)
  | countersReadFaults (src : Src) (c : Bytes)
  | countersClear (src : Src) (c : Bytes)
  | stepPortConfigSet (src : Src) (c : Bytes)
  | stepPortConfigResume (src : Src) (c : Bytes)
  | stepPortConfigQuery (src : Src) (c : Bytes)
  | poolConfigCreate (src : Src) (c : Bytes)
  | poolConfigAddRange (src : Src) (c : Bytes)
  | poolConfigDelete (src : Src) (c : Bytes)
  | objCreate (src : Src) (c : Bytes) (hdr : HostRead)
  | objLoad (src : Src) (c : Bytes)
  | objSeal (src : Src) (c : Bytes)
  | objReplace (src : Src) (c : Bytes)
  | objDestroy (src : Src) (c : Bytes)
  | objHint (src : Src) (c : Bytes)
  | objQuery (src : Src) (c : Bytes)
  | reloadLimitExpiry (t : Nat) (obj : Nat) (ver : Nat)
  | tok (src : Src) (c : Bytes)
  | tokDone (task : Nat)
  | tokStreamOpen (src : Src) (c : Bytes)
  | tokStreamPut (src : Src) (c : Bytes)
  | tokStreamClose (src : Src) (c : Bytes)
  | detok (src : Src) (c : Bytes)
  | pack (src : Src) (c : Bytes) (desc : HostRead)
  | pair (src : Src) (c : Bytes) (desc : HostRead)
  | reqSubmit (src : Src) (c : Bytes) (rd : SubmitReads)
  | intakeComplete (t : Nat) (idx : Nat)
  | reqCancel (src : Src) (c : Bytes)
  | reqAmend (src : Src) (c : Bytes)
  | reqQuery (src : Src) (c : Bytes)
  | starterCreateSpan (src : Src) (c : Bytes) (toks : HostRead)
  | starterCreateFromRequest (src : Src) (c : Bytes)
  | starterRelease (src : Src) (c : Bytes)
  | streamOpen (src : Src) (c : Bytes)
  | streamClose (src : Src) (c : Bytes)
  | streamCredit (src : Src) (c : Bytes)
  | syncCreate (src : Src) (c : Bytes)
  | syncSignalAdd (src : Src) (c : Bytes)
  | syncSignalAdvanceTo (src : Src) (c : Bytes)
  | syncWait (src : Src) (c : Bytes)
  | syncWaitTimeout (t : Nat) (idx : Nat)
  | syncDestroy (src : Src) (c : Bytes)
  | doorbell (mb : Nat) (v : Word)
  | mbCqHeadWrite (mb : Nat) (v : Word)
  | mbEnable (mb : Nat)
  | mbDisable (mb : Nat)
  | mbIrqWrite (mb : Nat) (v : Word)
  | mbCoalTimer (mb : Nat)
  | irqStatusWrite (v : Word) (raised : Word)
  | irqMaskWrite (v : Word)
  | irqModeWrite (v : Word)
  | timebaseLoRead (port : Nat)
  | cntSelectWrite (v : Word)
  | cntSnapshotDone
  | registerWrite (a : Access)
  | sbPrivateWrite (ptr : Byte) (data : Bytes)
  | sbGo
  | sbAck
  | sidebandWake
  | entdaa (addr : BitVec 7)
  | setdasa (stat : BitVec 7) (addr : BitVec 7)
  | setnewda (addr : BitVec 7)
  | rstdaa
  | getpid
  | getbcr
  | getdcr
  | getstatus
  | idcode
  | bypass
  | dbgStatus
  | dbgChallenge
  | dbgResponse (dr : Bytes)
  | debugEraseDone
  | dbgAccess (dr : BitVec 128)
  | dbgClose
  | trstN
  | aonResetN (straps : Straps)
  | sysResetN (straps : Straps)
  | watchdogReset (straps : Straps) (parity : Option ParityErr)
  | otpRvalid (w : Word)
  | otpReadTimeout
  | fwReady
  | firmwareStartTimeout
  | t2MountDone
  | t2MountTimeout
  | ppVack (level : Bool)
  | ppFack (level : Bool)
  | biasSettled
  | ppAckTimeout
  | ppClkack (v : BitVec 6)
  | autoLevelTick (busy : Nat) (total : Nat)
  | autoS1Entry
  | s1Wake (cause : S1Cause)
  | wakeAlarm
  | spAttn
  | wakeRestoreDone
  | bounds (m : SpMsg)
  | tiles (m : SpMsg)
  | rowsFull (m : SpMsg)
  | attnStepDone (m : SpMsg)
  | attnDrafts (m : SpMsg)
  | attnAbort (m : SpMsg)
  | spReservedMessage (m : SpMsg)
  | stepTimeout (t : Nat)
  | rowWithdrawTimeout (t : Nat) (row : Nat)
  | stepBoundary (t : Nat) (parity : Option ParityErr)
  | idleBoundary (t : Nat) (parity : Option ParityErr)
  | slotEnd
  | taskDispatch (bay : Nat) (parity : Option ParityErr)
  | hfpReadResponse (op : Nat) (d : HostData)
  | hfpWriteAck (op : Nat) (resp : BitVec 2)
  | hfpResponseTimeout (op : Nat)
  | mpReadResponse (op : Nat) (resp : BitVec 2) (tagOk : Bool) (d : MpData)
  | mpWriteAck (op : Nat) (resp : BitVec 2)
  | mpCtrlReady (port : Nat) (level : Bool)
  | fillWatchdog (op : Nat)
  | journalBaseWrite (t : Nat)
  | riddleCompaction (t : Nat) (region : Nat)
  | echoRowCleanup (t : Nat)
  | streamCoalTimer (t : Nat) (idx : Nat)
  | springHealthFail (raw : List Bool)
  | springRetryTimer (raw : List Bool)
  | drbgInstantiateDone (t : Nat)
  | drbgGenerate (t : Nat)
  | drbgReseed (t : Nat)
  | fpRbReady (chan : Nat) (target : Nat) (ok : Bool)
  | fpReadData (chan : Nat) (data : Bytes) (retry : Nat)
  | fpPhyReady (chan : Nat) (level : Bool)
  | ftlBackground (work : FtlWork)
  | pdWhRestoreDone
  | sramClearDone
  | privilegedDomainReady (te : Bool)
  | vddAonOff (straps : Straps)
deriving DecidableEq, Repr

end Sys2Proof
end

