-- ==== Sys2Proof/Decode.lean ====
section
/-! DEFINITION. Words of the opcode table: no row of spec/opcode_table.json gives bits, so no word spells a command. -/

namespace Sys2Proof

/-- The command a table word spells: none, since every row's operands are structured and none has bit fields. DESIGN CHOICE,
log entry 123. -/
def decodeTableWord (_nbits _w : Nat) : Option Instr := none

end Sys2Proof
end

