-- ==== Sys2Proof/Machine/State.lean ====
section
/-! DEFINITION. State as plain data: every register, ring index, table, queue, buffer, counter, mode and pin the manual
gives the block, the queue of waiting commands, and `State.reset`. A default written at a field is its reset value. -/

namespace Sys2Proof.Machine

/-- Why a run stops with a fault. No meaning of this model ends in one: the manual gives every row an effect, and where
it describes a broken duty it says what the block does. -/
inductive Fault where
  /-- Raised by nobody; kept so that the outcome type has a closed reason type. Safe. -/
  | none
deriving DecidableEq, Repr

/-- Why a command is refused. -/
inductive Refusal where
  /-- Raised by an arm of `exec` whose row has no meaning yet. Safe: the model stops. -/
  | notModelled (mnemonic : String)
deriving DecidableEq, Repr

/-! ### Tables: sparse data by key, keys strictly rising -/

/-- A table of entries by number; an unlisted number holds no entry. -/
abbrev Tbl (α : Type) := List (Nat × α)

/-! ### Completions and mailboxes (R72 to R102) -/

/-- A completion before it is given its ring slot, PHASE and SQ_HEAD (R97). `flags` is CPFLAGS without PHASE;
`noIrq` is the command's NO_IRQ flag (R89). -/
structure Cpl where
  tag      : Nat
  handle   : Handle
  status   : Nat
  opcode   : Nat
  kind     : Nat
  flags    : Nat
  fieldOff : Nat
  res0     : Nat
  res1     : Nat
  noIrq    : Bool
  /-- Order of production, and its tick (R86, R467). -/
  seq      : Nat
  at_      : Tick
deriving DecidableEq, Repr

/-- What a command needs to write its later completions (R97, R98). -/
structure Ticket where
  src    : Src
  tag    : Nat
  opcode : Nat
  handle : Handle
  noIrq  : Bool
deriving DecidableEq, Repr

/-- One mailbox page and the block's side of its rings (R72 to R86, R115). -/
structure Mailbox where
  sqBaseLo : Word := 0
  sqBaseHi : Word := 0
  sqSize   : Word := 0
  sqTail   : Word := 0
  cqBaseLo : Word := 0
  cqBaseHi : Word := 0
  cqSize   : Word := 0
  cqHead   : Word := 0
  enable   : Bool := false
  error    : Bool := false
  errCode  : Nat := 0
  irq      : Word := 0
  msiLo    : Word := 0
  msiHi    : Word := 0
  msiData  : Word := 0
  /-- SQ_HEAD: the next submission entry the block will take. -/
  sqHead   : Nat := 0
  /-- Ring settings latched at ENABLE (R75). -/
  sqBase   : Nat := 0
  sqLog    : Nat := 0
  cqBase   : Nat := 0
  cqLog    : Nat := 0
  /-- Completion ring: next slot, and the PHASE of the pass (R81). -/
  cqTail   : Nat := 0
  phase    : Bool := true
  /-- Completions written and not yet returned (R83), and for each of them, oldest first, its order of production and
  the token stream whose PROGRESS it is, or 0 (R214). -/
  used     : Nat := 0
  outQ     : List (Nat × Handle) := []
  /-- Credits reserved for FINAL completions (R83). -/
  reserved : Nat := 0
  /-- Entries read ahead and not yet taken, by ring index, and the next index to read (R79). -/
  ahead    : Tbl Bytes := []
  readNext : Nat := 0
  /-- Doorbells not yet passed by SQ_HEAD: the tail written and its arrival tick (R87). -/
  bells    : List (Nat × Tick) := []
  /-- Completions produced while disabled or in ERROR (R86). -/
  held     : List Cpl := []
  /-- How often ENABLE has latched rings: tells writes to an old ring from those to the new one (R86). -/
  epoch    : Nat := 0
  /-- Commands taken whose last completion is not yet written (R91). -/
  live     : Nat := 0
  /-- A management command's ONLY is being produced over several rows (R111). -/
  busy     : Bool := false
  /-- Commands of a terrace mailbox whose ONLY comes in a later row, in the order of taking, each with the completions that
  wait behind it (R102). -/
  openOnly : List (Ticket × List Cpl) := []
  /-- Unannounced completions and the tick the first of them was written (R115). -/
  unann    : Nat := 0
  firstAt  : Tick := 0
  /-- Shadows of MB_SQ_TAIL (each write with its arrival, oldest first) and MB_CQ_HEAD kept while asleep (R88, R496). -/
  shTail   : List (Word × Tick) := []
  shHead   : Option Word := none
deriving DecidableEq, Repr

/-! ### Interrupts (R114, R565 to R568) -/

structure Irq where
  status : Word := 0
  mask   : Word := 0xBFFFFF
  /-- IRQ_MODE bits [23:17]; the bits below mirror MB_IRQ. -/
  mode   : Word := 0
  msiLo  : Word := 0
  msiHi  : Word := 0
  /-- IRQ_MSI_DATA_17 to IRQ_MSI_DATA_23. -/
  msiData : List Word := [0, 0, 0, 0, 0, 0, 0]
deriving DecidableEq, Repr

/-! ### Lifecycle, boot and fuses (R508 to R523) -/

structure Lcs where
  state      : Nat := 0
  otpValid   : Bool := false
  ready      : Bool := false
  t2Ready    : Bool := false
  debugOpen  : Bool := false
  erased     : Bool := false
  fwErr      : Nat := 0
  resetCause : Nat := 0
  svn        : Nat := 0
deriving DecidableEq, Repr

/-- Where the start-up sequence of R508 stands. -/
inductive BootStep where
  | voltage | clocks | pdWh | otp | sram | header | body | firmware | running | failed
deriving DecidableEq, Repr

structure Boot where
  step     : BootStep := .voltage
  straps   : Straps := ⟨0, 0⟩
  /-- The fuse word being read, its first reading, and the words read (R517). -/
  otpWord  : Nat := 0
  otpFirst : Option Word := none
  otpSeen  : Tbl Word := []
  /-- The tick the step began, for its limit. -/
  since    : Tick := 0
  /-- The 256-byte image header being checked (R514). -/
  header   : Bytes := []
  /-- Identity of the running image, reported by FW_QUERY (R113, R514). -/
  ifMinor  : Nat := 0
  ifMajor  : Nat := 0
  fwBuild  : Nat := 0
  objMinor : Nat := 0
  objMajor : Nat := 0
  imageId  : Nat := 0
  /-- A wake from S3 without RG2 runs only steps 3, 6, 7 and 8 (R512). -/
  restart  : Bool := false
  t2Failed : Bool := false
  /-- The tick READY was set, for the mount limit of R511. -/
  readyAt  : Tick := 0
deriving DecidableEq, Repr

/-- Fuse fields as loaded (R517). -/
structure Fuses where
  uid        : Bytes := []
  rootKey    : Option Bytes := none
  keyHash    : Bytes := []
  revoke     : Nat := 0
  minSvn     : Nat := 0
  sbStatic   : BitVec 7 := 0
  sbValid    : Bool := false
  sbInstance : BitVec 4 := 0
  sramTrim   : Word := 0
  flashTrim0 : Word := 0
  flashTrim1 : Word := 0
deriving DecidableEq, Repr

/-- A LIFECYCLE_ADVANCE between FIRST and the internal reset (R523). -/
structure Advance where
  ticket : Ticket
  old    : Nat
  target : Nat
  nibble : Nat
  since  : Tick
  /-- Its FINAL is produced and a reset follows; the tick source 22 was raised, for the reset 1,000 ticks later. -/
  done   : Bool := false
  ended  : Option Tick := none
deriving DecidableEq, Repr

/-! ### Power (R480 to R504, R563, R564, R594) -/

/-- Where a level change or the retention request stands (R481, R492): asking for a voltage, settling, asking for a
frequency. -/
inductive PwrPhase where
  | idle | volt | bias | freq
deriving DecidableEq, Repr

/-- Sleep states, entry and exit (R486, R492, R493, R500): `entering` stands before the abort point of `stage`, `abort` and
`wakeClk` wait for clock acknowledgements, `wakeVolt` for the voltage, `waking` for the domains. -/
inductive SleepPhase where
  | awake | quiesce | entering | abort | s1 | s2 | s3Enter | s3 | wakeVolt | wakeClk | waking
deriving DecidableEq, Repr

/-- The power registers and pins (R563, R594). DESIGN CHOICE, log entry 119. -/
structure Power where
  vLevel   : Nat := 0
  vAcked   : Bool := false
  fLevel   : Nat := 0
  fAcked   : Bool := false
  target   : Nat := 4
  changing : Bool := true
  auto     : Bool := false
  levelHi  : Nat := 0
  levelLo  : Nat := 0
  s1Idle   : Nat := 1000
  /-- Power port pins (R594). -/
  vreq     : Bool := false
  vack     : Bool := false
  vsel     : Nat := 4
  freq     : Bool := false
  fack     : Bool := false
  fsel     : Nat := 4
  clkreq   : BitVec 6 := 0
  clkack   : BitVec 6 := 0
  bb       : BitVec 8 := 0x22
  iso      : BitVec 4 := 0
  memQuiet : Bool := false
  spAwake  : Bool := false
  /-- SRAM assist settings in force (R480): read assist, write assist. -/
  readAssist  : Nat := 2
  writeAssist : Nat := 1
  phase    : PwrPhase := .volt
  /-- The select a voltage request asks for (R594). -/
  vGoal    : Nat := 4
  since    : Tick := 0
  /-- The POWER_SET waiting for its change, and whether the change in progress is its own (R483). -/
  setBy    : Option Ticket := none
  bySet    : Bool := false
  lastAuto : Tick := 0
deriving DecidableEq, Repr

structure Sleep where
  phase    : SleepPhase := .awake
  /-- PWR_STATE.STATE and LAST_WAKE (R564). -/
  code     : Nat := 5
  lastWake : Nat := 0
  goal     : Nat := 0
  attnWake : Bool := false
  retMask  : Word := 0
  alarm    : Tick := 0
  limit    : Nat := 0
  since    : Tick := 0
  ticket   : Option Ticket := none
  /-- Wake sources latched by the first pending event's tick, and that tick (R494). -/
  wakeSrc  : Nat := 0
  wakeAt   : Option Tick := none
  outcome  : Nat := 0
  /-- The entry step reached, as the number of the abort point before which it stands (R492). -/
  stage    : Nat := 0
  /-- The retention voltage was not acknowledged (R482). -/
  failed   : Bool := false
  /-- Terraces whose final quiesce boundary has run (R491). -/
  spilled  : List Nat := []
  /-- Terrace whose live state did not fit (R491). -/
  noRoom   : Option Nat := none
  /-- PD_TE and PD_RB0 restored since the wake (R502), and the tick an access began to wait for each. -/
  teOn     : Bool := true
  rbOn     : Bool := true
  teWait   : Option Tick := none
  rbWait   : Option Tick := none
  /-- Since when the block has been idle (R495). -/
  idleSince : Tick := 0
deriving DecidableEq, Repr

/-! ### Sideband and TAP (R108, R524 to R530) -/

/-- The sideband and its registers (R108, R529). DESIGN CHOICE, log entry 119. -/
structure Sideband where
  ptr     : Byte := 0
  cmd     : Bytes := List.replicate 64 0
  busy    : Bool := false
  done    : Bool := false
  refused : Bool := false
  cpl     : Bytes := List.replicate 32 0
  dynAddr : BitVec 7 := 0
  dynValid : Bool := false
  /-- A GO placed and not yet run, and the tick it was placed (R109, R111, R112). -/
  queued  : Bool := false
  goAt    : Tick := 0
  /-- The last value the front end returned for a CCC or a private read. -/
  answer  : Bytes := []
deriving DecidableEq, Repr

/-- The TAP and the debug port (R524 to R528, R578). PRESUMED, log entry 93. -/
structure Tap where
  ir       : BitVec 8 := 0x01
  /-- The data register last read out, least significant bit first in the word. -/
  dr       : BitVec 256 := 0
  nonce    : Option (BitVec 256 × Tick) := none
  attempts : Nat := 3
  locked   : Bool := false
  result   : Nat := 0
  /-- Steps 2 to 5 of R527 are running, since this tick. -/
  erasing  : Option Tick := none
  /-- Writes accepted into the debug window, newest first: word address and data (R578). -/
  window   : List (Nat × Word) := []
deriving DecidableEq, Repr

/-! ### Objects (R124 to R156) -/

/-- One version of an object (R137 to R140, R155). -/
structure Version where
  num        : Nat
  /-- The 128-byte header, and the sealed content; `none` while not sealed. -/
  header     : Bytes
  body       : Option ObjBody
  backing    : Nat
  backAddr   : Nat
  limit      : Nat
  /-- Requests, commands and streams pinned to it (R136). -/
  users      : Nat
  quarantine : Bool
  lost       : Bool
  quarAt     : Tick
  attempts   : Nat
  /-- T1 lines reserved, tags included, in 64-byte lines. -/
  t1Lines    : Nat
  /-- Starters that hold it (R312); they keep it from retiring and are no users (R136). -/
  starters   : Nat := 0
deriving DecidableEq, Repr

/-- An object slot in use (R130 to R136). -/
structure Obj where
  kind     : Nat
  gen      : Nat
  state    : Nat
  overlay  : Bool
  uid      : Nat
  dep      : Nat
  base     : Handle
  hint     : Nat
  cur      : Nat
  nextVer  : Nat
  versions : List Version
  /-- The version an OBJ_REPLACE is making, until its FINAL (R138, R139). -/
  making   : Option Version := none
  /-- The header read at OBJ_CREATE (R134). -/
  header   : Bytes
  /-- Chunks loaded, newest first: image offset and bytes (R133). -/
  chunks   : List (Nat × Bytes)
  /-- KiB resident in T0, and pinned in T0 (R136, R146). -/
  t0Kib    : Nat
  pinned   : Bool
  /-- Its pinned lines were lost in a sleep and are being filled again (R503). -/
  refill   : Bool := false
  /-- The home is T2, and the T1 copy is released (R146). -/
  cold     : Bool
  t1Gone   : Bool
  /-- A cold object is being copied back to T1 (R146). -/
  promoting : Bool := false
  /-- OBJ_SEAL or OBJ_DESTROY in progress. -/
  ticket   : Option Ticket
  /-- Settings of the OBJ_SEAL in progress: BACKING, BACKING_ADDR, RELOAD_LIMIT. -/
  sealing  : Option (Nat × Nat × Nat)
  /-- The content an OBJ_SEAL read back, until it is placed. -/
  sealBody : Option ObjBody := none
deriving DecidableEq, Repr

/-! ### Sync objects (R117 to R123) -/

structure SyncWaiter where
  ticket  : Ticket
  target  : Nat
  timeout : Tick
deriving DecidableEq, Repr

/-- A SYNC_SIGNAL that was taken and is applied when the tick ends (R121). DEDUCED, log entry 135. -/
structure Signal where
  ticket : Ticket
  handle : Handle
  mode   : Nat
  value  : Nat
deriving DecidableEq, Repr

structure SyncObj where
  gen     : Nat
  value   : Nat
  kind    : Nat
  addr    : Nat
  err     : Bool
  waiters : List SyncWaiter
deriving DecidableEq, Repr

/-! ### Riddle (R157 to R185) -/

/-- A Riddle row (R157): PREFILTER, FINGERPRINT, KEY_LEN, VALUE, AUX, RSTATE, and the parity bit of each of its three 32-bit
words. -/
structure RRow where
  pre : BitVec 16
  fp  : BitVec 40
  kl  : BitVec 8
  val : BitVec 24
  ax  : BitVec 6
  rs  : BitVec 2
  par : BitVec 3
deriving DecidableEq, Repr

/-- What a Pantry line holds; a line of the model is one entry of a table (R238, R249 to R251). DESIGN CHOICE, log entry
147. -/
inductive LineKey where
  /-- Length masks by the first byte, and by the first two (R220). -/
  | mask1 (b : Nat)
  | mask2 (a b : Nat)
  /-- A bucket line of the spelling table. -/
  | bucket (n : Nat)
  | row (t : Tok)
  | merge (a b : Tok)
  /-- A template's segments. -/
  | segs
  /-- A bucket line of a passage store's directory, a passage's token count, and 16 of its tokens. -/
  | dir (n : Nat)
  | count (n : Nat)
  | passage (n i : Nat)
  | bias
  | profile
deriving DecidableEq, Repr

/-- A line of an object version, by object key. -/
structure VLine where
  obj : Nat
  ver : Nat
  key : LineKey
deriving DecidableEq, Repr

/-- A line resident in a quad's Pantry slice; `unread` is the task whose run-ahead brought it and that has not read it yet, 0
where there is none. -/
structure PLine where
  quad   : Nat
  line   : VLine
  unread : Nat
deriving DecidableEq, Repr

/-- A grammar mask resident in a bay's slice; `unread` says that no row has read it since a run-ahead fill brought it (R383). -/
structure MaskLine where
  obj    : Nat
  ver    : Nat
  state  : Nat
  bay    : Nat
  unread : Bool
deriving DecidableEq, Repr

/-- A line that a task reads (`read`), or that its fetch engine fetches ahead (`ahead`), or both. `part` numbers the stretches of
its work, `pos` is the place within one, and `grp` the passage (R239, R263). -/
structure Need where
  line  : VLine
  part  : Nat
  pos   : Nat
  grp   : Nat
  read  : Bool
  ahead : Bool
deriving DecidableEq, Repr

/-- An entry of the Starter directory: the bucket it lies in, a digest, and its Starter index entry (R166). -/
structure DirEntry where
  bucket : Nat
  digest : Bytes
  index  : Nat
deriving DecidableEq, Repr

/-- Searches made in the Riddle (R185): issues, probes, and candidates that failed key verification. -/
structure RWork where
  searches  : Nat := 0
  probes    : Nat := 0
  falseHits : Nat := 0
deriving DecidableEq, Repr

/-- A region (R161, R163): its kind, the object version it belongs to where it has one, its salt, its rows in order, whether
a compaction is due (R182), and whether a VOCAB region is FULLY_HELD, decided at seal (R222). Every replica holds the same
rows (R164). DEDUCED, log entry 121. -/
structure Region where
  kind    : Nat
  obj     : Nat
  ver     : Nat
  salt    : BitVec 128
  rows    : List RRow
  compact : Bool
  full    : Bool
deriving DecidableEq, Repr

/-! ### Requests (R266 to R297) -/

/-- The Slicer's state of one request (R431): shift-and states, assembler bytes held, hold-back, output offset. -/
structure Slicer where
  shift  : List (BitVec 64) := []
  asm    : Bytes := []
  hold   : Bytes := []
  offset : Nat := 0
deriving DecidableEq, Repr

/-- The pinned version numbers a request uses (R30, R137); 0 where none. -/
structure Pins where
  vocab    : Nat := 0
  grammar  : Nat := 0
  bias     : Nat := 0
  profile  : Nat := 0
  template : Nat := 0
  store    : Nat := 0
deriving DecidableEq, Repr

/-- A run of consecutive own pages (R302). -/
structure Run where
  first : Nat
  count : Nat
deriving DecidableEq, Repr

/-- A posted REQ_AMEND (R294). -/
structure Amend where
  ticket   : Ticket
  mask     : Nat
  priority : Nat
  dlFirst  : Tick
  dlEnd    : Tick
  maxNew   : Nat
  setDrop  : Bool
  drop     : Bool
deriving DecidableEq, Repr

/-- What a slot of an assembly descriptor holds once read (R253). -/
inductive SlotFill where
  | empty
  | await (isText : Bool)
  | text (b : Bytes)
  | tokens (ts : List Tok)
deriving DecidableEq, Repr

/-- A parsed assembly descriptor (R252 to R254). A passage entry is `(byIdent, number, identifier)`. -/
structure Assembly where
  budget   : Nat
  reject   : Bool
  destKind : Nat
  slots    : List SlotFill
  passages : List (Bool × Nat × Bytes)
deriving DecidableEq, Repr

/-- The intake work still owed by a request (R37): text bytes, known tokens, or an assembly. -/
inductive Intake where
  | none
  | text (reject : Bool) (b : Option Bytes)
  | tokens (ts : List Tok)
  | assembly (a : Assembly) (ready : Bool)
deriving DecidableEq, Repr

/-- A draw record's content (R418); LOGPROB and RESIDUAL as signed crumbs. -/
structure DrawRec where
  tok      : Tok
  pos      : Nat
  logprob  : Int
  aflags   : Nat
  dkind    : Nat
  variates : Nat
  variate  : Nat
  residual : Int
  tiles    : Nat
  step     : Nat
deriving DecidableEq, Repr

/-- A request-table entry (R266) and Wellhead's part of the request (R30). -/
structure Req where
  gen        : Nat
  state      : Nat
  /-- The state a STALLED or SPILLED request returns to. -/
  back       : Nat := 3
  priority   : Nat := 0
  late       : Bool := false
  cancel     : Bool := false
  cancelLate : Bool := false
  dropLate   : Bool := false
  pagesRel   : Bool := false
  stopAtEnd  : Bool := false
  drawRecs   : Bool := false
  endReason  : Nat := 0
  endStatus  : Nat := 0
  stall      : Nat := 0
  draftSrc   : Nat := 0
  draftMax   : Nat := 0
  tag        : Nat := 0
  committed  : Nat := 0
  specLen    : Nat := 0
  promptLen  : Nat := 0
  prefilled  : Nat := 0
  generated  : Nat := 0
  maxNew     : Nat := 0
  pageNeed   : Nat := 0
  gstate     : Nat := 0
  arrival    : Tick := 0
  dlFirst    : Tick := 0
  dlEnd      : Tick := 0
  firstAt    : Tick := 0
  endAt      : Tick := 0
  vocab      : Handle := 0
  grammar    : Handle := 0
  bias       : Handle := 0
  profile    : Handle := 0
  stream     : Handle := 0
  starter    : Handle := 0
  lastStep   : Nat := 0
  /-- Bay that ran its last output row (R380). -/
  lastBay    : Option Nat := none
  endOffset  : Nat := 0
  preempts   : Nat := 0
  stallTicks : Nat := 0
  /-- Own pages, in position order (R302). -/
  runs       : List Run := []
  hasList    : Bool := false
  /-- Committed tokens of every position after the Starter's (R326, token history). -/
  history    : List Tok := []
  /-- The prompt's own tokens, known from QUEUED on. -/
  prompt     : List Tok := []
  /-- Counts of generated tokens, and of all positions under COUNT_SCOPE 1 (R393). -/
  counts     : Tbl Nat := []
  stops      : List Bytes := []
  slicer     : Slicer := {}
  stopIndex  : Nat := 0xFF
  pins       : Pins := {}
  template   : Handle := 0
  store      : Handle := 0
  intake     : Intake := .none
  ticket     : Ticket
  amends     : List Amend := []
  /-- Drafts held for the next boundary, and the BASE_LEN of an accelerator set (R334). -/
  drafts     : List Tok := []
  draftBase  : Nat := 0
  hasDrafts  : Bool := false
  wantDrafts : Bool := false
  satOut     : Bool := false
  /-- A Starter build has no sampling row (R314): the Starter's index. -/
  build      : Option Nat := none
  /-- A FROM_REQUEST capture waiting for the end (R315): Starter index, LENGTH, and its ticket. -/
  capture    : Option (Nat × Nat × Ticket) := none
  /-- An error found between boundaries that ends the request at the next one (R269). -/
  doom       : Option Nat := none
  /-- FIELD_OFFSET that FINAL gives, and whether this error end skips part 1 (R270, R272). -/
  fieldOff   : Nat := 0xFFFF
  illegal    : Bool := false
  /-- PAGE_ROOT while a page list is held (R302). -/
  root       : Option Nat := none
  /-- The entry's 256 bytes as the last completed boundary left them; none where a later change took effect at once (R32, R268). -/
  shown      : Option Bytes := none
  /-- Spilled live state is still being read back, or its read failed (R288, R289). -/
  spillWait  : Bool := false
  liveSlot   : Bool := false
  /-- The pre-empted request whose spill write must complete before this one writes the live slot it took over (R288). -/
  slotAfter  : Option Handle := none
  /-- 64-byte T1 lines taken by the spill area (R288, R440). -/
  spillT1    : Nat := 0
  /-- Its ENDED record has been formed (R436). -/
  endedRec   : Bool := false
  version    : Nat := 0
deriving DecidableEq, Repr

/-! ### Starters (R312 to R319) -/

structure Starter where
  gen    : Nat
  /-- 0 BUILDING, 1 READY, 2 RELEASED, 3 LOST. -/
  state  : Nat
  holds  : Nat
  users  : Nat
  vocab  : Handle
  ver    : Nat
  toks   : List Tok
  link   : Option Nat
  runs   : List Run
  digest : Bytes
  ticket : Option Ticket
  fromReq : Option Nat
  cancel : Bool
  /-- A FROM_REQUEST handle that came to name the matched Starter of this index (R313, R316). -/
  other  : Option Nat := none
deriving DecidableEq, Repr

/-! ### Token streams (R210 to R218) -/

/-- Work counted by the Sifter (R185, R219, R247). -/
structure SiftStats where
  repl     : Nat := 0
  safe     : Nat := 0
  escaped  : Nat := 0
  cuts     : Nat := 0
  bytes    : Nat := 0
  toks     : Nat := 0
  fallback : Nat := 0
  cold     : Nat := 0
  merges   : Nat := 0
  work     : RWork := {}
deriving DecidableEq, Repr

/-- A put of R211: the text once read, whether its task has been given a core and which, and whether its text has been taken
into the stream, its FINAL still waiting for scratch (R214). -/
structure Put where
  id     : Nat
  ticket : Ticket
  text   : Option Bytes
  docEnd : Bool
  ready  : Bool
  core   : Nat := 0
  taken  : Bool := false
deriving DecidableEq, Repr

/-- A token of a stream with what window placement needs (R213, R216, R217). -/
structure STok where
  tok    : Tok
  src    : Nat
  para   : Bool
  sent   : Bool
  flags  : Nat
deriving DecidableEq, Repr

/-- A window written and not yet announced (R215). -/
structure PWin where
  k     : Nat
  slot  : Nat
  doc   : Nat
  flags : Nat
  count : Nat
  acked : Bool
deriving DecidableEq, Repr

structure TokStream where
  gen      : Nat
  ticket   : Ticket
  vocab    : Handle
  ver      : Nat
  dest     : Nat
  kind     : Nat
  sync     : Handle
  release  : Handle
  w        : Nat
  o        : Nat
  slots    : Nat
  prefer   : Nat
  reject   : Bool
  /-- Puts not yet released, in order; bytes of the open document held back; bytes put so far. -/
  puts     : List Put := []
  textBuf  : Bytes := []
  docBase  : Nat := 0
  putBytes : Nat := 0
  /-- Settled tokens of the open document. -/
  toks     : List STok := []
  pend     : List PWin := []
  core     : Nat := 0
  docSeq   : Nat := 0
  start    : Nat := 0
  win      : Nat := 0
  announced : Nat := 0
  total    : Nat := 0
  /-- PROGRESS completions of windows that MB_CQ_HEAD has passed (R214). -/
  passed   : Nat := 0
  docDone  : Bool := false
  /-- Work of the open document that has been counted (R219). -/
  counted  : SiftStats := {}
  closing  : Bool := false
  abandon  : Bool := false
  /-- The TOK_STREAM_CLOSE whose ONLY follows OPEN's FINAL (R212). -/
  closer   : Option Ticket := none
  err      : Option Nat := none
deriving DecidableEq, Repr

/-! ### Result streams (R432 to R444) -/

/-- A record's content (R434, R435), before its slot and PHASE. A token entry is `(token, aflags, tbytes, tflags)`. -/
structure Rec where
  req      : Handle
  reqIdx   : Nat
  tag      : Nat
  flags    : Nat
  step     : Nat
  tick     : Tick
  firstGen : Nat
  toks     : List (Tok × Nat × Nat × Nat)
  draws    : List DrawRec
  bytes    : Bytes
  endReason : Nat
  endStatus : Nat
  stopIndex : Nat
  outOff   : Nat
  aflags   : Nat
  endOff   : Nat
  generated : Nat
deriving DecidableEq, Repr

structure RStream where
  gen      : Nat
  ring     : Nat
  log2     : Nat
  irqEn    : Bool
  ctrl     : Bool
  coalCount : Nat
  coalTime : Nat
  sync     : Handle
  produced : Nat := 0
  consumed : Nat := 0
  waiting  : List Rec := []
  err      : Bool := false
  closing  : Option Ticket := none
  discarded : Bool := false
  unann    : Nat := 0
  firstAt  : Tick := 0
  creditAt : Tick := 0
  /-- Writes of the burst not yet acknowledged, and the requests whose ENDED record of it is visible (R438, R442). -/
  out      : Nat := 0
  ended    : List Handle := []
deriving DecidableEq, Repr

/-! ### Pool, step port, journal (R298 to R364, R537 to R540) -/

structure Pool where
  gen    : Nat
  psize  : Nat
  ranges : List Run
  /-- Ranges added and not yet free for allocation (R301). -/
  newRanges : List Run := []
  runs   : Nat
deriving DecidableEq, Repr

/-- An exactly decoded value (R57, R64): a dyadic number m × 2^e, or a special. -/
inductive XVal where
  | nan
  | pinf
  | ninf
  | fin (m : Int) (e : Int)
deriving DecidableEq, Repr

/-- A TILE_REQ outstanding for a row (R347, R348): its round, its tiles in order, whether it is FULL or the FULL_ROW
answer (round 0xFF), and how many tiles have arrived. -/
structure TileReq where
  round : Nat
  list  : List Nat
  full  : Bool
  got   : Nat
deriving DecidableEq, Repr

/-- How a row stands in its step (R322, R338). -/
inductive RowState where
  | waitBounds
  | waitTiles
  | selected
  | done
  | withdrawn
deriving DecidableEq, Repr

/-- A row of a step (R344, R345) and its exchange with the accelerator (R354). -/
structure Row where
  owner   : Handle
  idx     : Nat
  pos     : Nat
  tok     : Tok
  page    : Nat
  link    : Handle
  kind    : Nat
  nt      : Nat
  gstate  : Nat := 0
  st      : RowState := .done
  bounds  : List XVal := []
  hasBounds : Bool := false
  scale   : Option Nat := none
  req     : Option TileReq := none
  round   : Nat := 0
  fetched : Tbl (List XVal) := []
  breach  : Bool := false
  breached : List Nat := []
  aflags  : Nat := 0
  /-- Waiting for a mask, per-request data or an object since this tick: the stall code of R287 that a withdrawal gives, or
  0 for MASK_LATE, 6 for a cold object's way back to T1 and 7 for a shared object's line, which withdraw no row (R338). -/
  waitAt  : Option (Tick × Nat) := none
  /-- Its overflow counts have been read (R393). -/
  filled  : Bool := false
deriving DecidableEq, Repr

/-- What an owner's rows yielded (R336): accepted drafts and the drawn token with their draw records, or an error
status after the accepted drafts. -/
structure OwnerRes where
  toks : List DrawRec
  acc  : Nat
  err  : Option Nat
  /-- First tentative token in which a stop completes, and its position in the stop set (R429). -/
  stop : Option (Nat × Nat)
deriving DecidableEq, Repr

/-- A step in flight (R322). -/
structure Step where
  id     : Nat
  lfmt   : Nat
  bfmt   : Nat
  fullRow : Bool
  rows   : List Row
  res    : Tbl OwnerRes := []
  done   : Bool := false
  failed : Bool := false
  /-- Failures by parity do not count toward the halt (R534). -/
  parity : Bool := false
  openAt : Tick
  /-- Its STEP_OPEN has been presented (R340). -/
  sent   : Bool := false
  drafts : Tbl (List Tok) := []
  withdrawn : Tbl Nat := []
  /-- A row of it waited under MASK_LATE (R332). -/
  maskLate : Bool := false
  /-- Reason code of an ATTN ABORT, recorded and not interpreted (R353). -/
  reason : Nat := 0
deriving DecidableEq, Repr

/-- Step-port settings of a terrace (R361). -/
structure SpSet where
  lfmt   : Nat := 1
  bfmt   : Nat := 1
  mode   : Nat := 0
  rowsMax : Nat := 0
  kMax   : Nat := 512
  target : Nat := 0
  stage  : Nat := 256
  breachLimit : Nat := 16
  timeout : Nat := 0
deriving DecidableEq, Repr

structure StepPort where
  cur      : SpSet := {}
  posted   : Option SpSet := none
  nextId   : Nat := 0
  lastId   : Option Nat := none
  lastFailed : Option Nat := none
  flight   : Option Step := none
  /-- A closed step whose STEP_COMMIT has not been presented (R358). -/
  closing  : Option Step := none
  failures : Nat := 0
  halted   : Bool := false
  forced   : Bool := false
  /-- Breaching output rows in each of the last 256 steps, newest first (R357). -/
  breachWin : List Nat := []
  k        : Nat := 512
  cap      : Nat := 512
  lateSteps : Nat := 0
  lastRows : Nat := 0
deriving DecidableEq, Repr

/-- An egress message (R343 to R352), as the fields that fill it. -/
inductive EMsg where
  | stepOpen (t id lfmt bfmt psize flags pool tick outRows promptRows prev : Nat) (rows : List Row)
  | tileReq (t id row round : Nat) (full : Bool) (tiles : List Nat)
  | stepCommit (t id tick next : Nat) (failed : Bool) (recs : List (Nat × Nat × Nat × Nat × Nat × Nat))
  | pageOp (t id pool : Nat) (notices : List (Nat × Nat × Nat × Nat × Nat))
deriving DecidableEq, Repr

/-- The step-interval model (R276): A, B and C as fractions, the intervals measured `(d, r, p)` newest first, and the
coefficients before the last refit kept where the fit is singular. -/
structure Model where
  a      : Int × Nat := (5000, 1)
  b      : Int × Nat := (8, 1)
  c      : Int × Nat := (4, 1)
  win    : List (Nat × Nat × Nat) := []
  /-- Intervals measured since the last level change (R485). -/
  fresh  : Nat := 0
  lastAt : Option Tick := none
  lastR  : Nat := 0
  lastP  : Nat := 0
  tainted : Bool := false
deriving DecidableEq, Repr

structure Journal where
  degraded : Bool := false
  /-- The DELTA of the last boundary is not yet acknowledged (R538). -/
  unacked  : Bool := false
  retried  : Bool := false
  /-- A full BASE pass since DEGRADED is under way, unacknowledged writes left. -/
  basePass : Option Nat := none
  boundaries : Nat := 0
deriving DecidableEq, Repr

/-- A terrace's DRBG (R415): whether it holds state, that state (AES-256 key and counter), its instantiation count, Generate
requests since the last seed, and the buffered variates. -/
structure Drbg where
  live    : Bool := false
  key     : Bytes := []
  v       : Bytes := []
  count   : Nat := 0
  gens    : Nat := 0
  buffer  : List (BitVec 40) := []
deriving DecidableEq, Repr

/-! ### Terraces (R449 to R474) -/

/-- The terrace descriptor as set (R451, R457). -/
structure TDesc where
  coreMask : Nat
  weights  : Nat
  pantry   : Nat
  maskWays : Nat
  holeH    : Nat
  liveSlots : Nat
  riddle   : Nat
  stopRows : Nat
  echoRows : Nat
  reqQuota : Nat
  objQuota : Nat
  syncQuota : Nat
  starterQuota : Nat
  reserve  : Nat
  budget   : Nat
  t1mp0    : Nat
  t1mp1    : Nat
  shBase   : Nat
  shSize   : Nat
  bw0      : Nat
  bw1      : Nat
  bwH      : Nat
  shPort   : Nat
  t2Quota  : Nat
  turn     : Nat
  modelA   : Nat
  modelB   : Nat
  modelC   : Nat
deriving DecidableEq, Repr

structure Terrace where
  destroying : Option Ticket := none
  /-- Progress of R467: 0 not destroying, 1 waiting for the boundary, 2 waiting for FINALs, 3 clearing. -/
  destroyStep : Nat := 0
  destroyAt : Tick := 0
  expert   : Bool := false
  desc     : TDesc
  /-- Changes that take effect at the next round: TURN_TICKS, and the three bandwidth shares (R457). -/
  nextTurn : Option Nat := none
  nextBw   : Option (Nat × Nat × Nat) := none
  /-- KiB of one way of a Pantry slice and of a mask-cache slice, as the chip has them. -/
  wayKib   : Nat × Nat := (1, 1)
  /-- Key set of R464: XTS key and tag key, 96 bytes; empty when erased. -/
  keys     : Bytes := []
  reqs     : Tbl Req := []
  objs     : Tbl Obj := []
  syncs    : Tbl SyncObj := []
  starters : Tbl Starter := []
  toks     : Tbl TokStream := []
  streams  : Tbl RStream := []
  pool     : Option Pool := none
  sp       : StepPort := {}
  model    : Model := {}
  drbg     : Drbg := {}
  regions  : List Region := []
  /-- Starter directory and its salt (R166): entries in order of the last hit, latest first. -/
  starterDir : List DirEntry := []
  dirSalt  : BitVec 128 := 0
  journal  : Journal := {}
  /-- Egress messages waiting for the terrace's turn (R340). -/
  egressQ  : List EMsg := []
  /-- Grammar masks resident, least recently used first (R145, R379, R380). -/
  masks    : List MaskLine := []
  /-- Lines resident in the terrace's Pantry ways, least recently used first (R142, R145). -/
  pantry   : List PLine := []
  /-- Where the T1 quota was placed on MP0 and on MP1: ranges of 64 KiB units, first unit and count (R452). -/
  t1At0    : List (Nat × Nat) := []
  t1At1    : List (Nat × Nat) := []
  /-- Core-cycles used per work class in the window that began at this tick (R456). -/
  used     : List Nat := [0, 0, 0, 0]
  usedAt   : Tick := 0
  /-- SWITCH_AT_BOUNDARY moves posted: object index and version (R141). -/
  switches : List (Nat × Nat) := []
  /-- It takes turns in the running round: set at the start of each round (R452, R458). -/
  inRound  : Bool := false
  /-- MASK_LATE or TURN_WAIT counted since the last AUTO test (R484). -/
  lateAuto : Bool := false
  /-- The idle boundary of the running turn has run (R324). -/
  idleDone : Bool := true
deriving DecidableEq, Repr

/-! ### Tasks, host fabric and memory operations -/

/-- A rill-core task (R29, R456). `cls`: 0 step work, 1 tokenization, 2 packing, 3 object loading. -/
inductive TaskKind where
  | tok (vocab : Handle) (ver : Nat) (outAddr offsAddr cap : Nat) (reject : Bool)
  | detok (vocab : Handle) (ver : Nat) (outAddr cap : Nat) (ctrl hold : Bool)
  | pack (isPair : Bool) (template vocab store sync : Handle) (tv vv sv : Nat) (outAddr cap : Nat) (a : Assembly)
  | objLoad (obj : Handle) (off len : Nat)
  | objReplace (obj : Handle) (backing limit backAddr : Nat) (switch : Bool)
  | streamPut (stream put : Nat)
  | intake (req : Handle)
deriving DecidableEq, Repr

/-- A task: what it works on, its inputs once read, and the core it runs on. `result` is the FINAL it will write:
status, RESULT0, RESULT1, FIELD_OFFSET. -/
structure Task where
  id     : Nat
  terr   : Nat
  cls    : Nat
  prio   : Nat
  index  : Nat
  ticket : Ticket
  kind   : TaskKind
  input  : Option (List Bytes) := none
  /-- The content of an object image read by OBJ_REPLACE. -/
  image  : Option ObjBody := none
  /-- The lines it has still to read or to fetch ahead; none before it starts. -/
  todo   : Option (List Need) := none
  /-- Every line has been read and the task's work is done. -/
  ran    : Bool := false
  /-- Lines in its window of core scratch (R146 STREAM), oldest first. -/
  window : List VLine := []
  core   : Option Nat := none
  began  : Tick := 0
  restarted : Bool := false
  result : Option (Nat × Nat × Nat × Nat) := none
  /-- Output writes not yet acknowledged. -/
  outs   : Nat := 0
  /-- Records whose turn to advance SYNC has not come: the address, and whether the write is visible (R258). -/
  recs   : List (Nat × Bool) := []
deriving DecidableEq, Repr

/-- A rill core: 16 lanes of 64 bits, and bytes in use of its 512 KiB of private scratch (R27). Where a task's data lies in
scratch is Nymuri's own affair; the data itself stands with the task. DESIGN CHOICE, log entry 149. -/
structure RillCore where
  lanes   : List (BitVec 64) := List.replicate 16 0
  scratch : Nat := 0
deriving DecidableEq, Repr

/-- What an outstanding host fabric operation is for (R585: the operation is the unit that fails). -/
inductive HfpKind where
  | sqRead (mb epoch idx : Nat)
  | cplWrite (mb epoch slot : Nat) (phase : Bool) (head : Nat) (c : Cpl)
  | msi (source : Nat) (addr : Nat) (data : Word)
  | mirror (t sync val : Nat)
  /-- `start` counts slots since STREAM_OPEN; no record is a PAD (R433). -/
  | record (stream : Handle) (start slots : Nat) (phase : Bool) (r : Option Rec)
  | taskRead (task : Nat) (addrs : List (Nat × Nat))
  | taskWrite (task : Nat) (addr : Nat) (data : Bytes) (sync : Handle)
  | putRead (stream put : Nat) (addr len : Nat)
  | window (stream win : Nat) (addr : Nat) (data : Bytes)
  | intakeRead (req : Handle) (addrs : List (Nat × Nat))
  | queryWrite (tk : Ticket) (addr : Nat) (data : Bytes) (res0 res1 : Nat)
  | refetch (obj : Handle) (ver addr : Nat)
  | bootHeader
  | bootBody
deriving DecidableEq, Repr

structure HfpOp where
  id   : Nat
  terr : Nat
  at_  : Tick
  kind : HfpKind
deriving DecidableEq, Repr

/-- What an outstanding memory-port operation is for (R541). -/
inductive MpKind where
  | fill (obj : Handle) (ver : Nat)
  /-- `owner` is the request a run-ahead fill is made for, 0 for a demand fill (R379). -/
  | maskFill (obj : Handle) (ver state bay : Nat) (owner : Handle)
  | sealRead (obj : Handle)
  | rewrite (obj : Handle) (ver : Nat)
  | reqFill (req : Handle)
  | spillWrite (req : Handle)
  | spillRead (req : Handle)
  | journalDelta (t : Nat) (retry : Bool)
  | journalBase (t : Nat) (retry : Bool)
  | objWrite (task : Nat)
  /-- A Pantry line for a quad's slice: a demand fill, or a run-ahead fill of a task (R238 to R240, R263). `task` is 0 for a row
  of a step. -/
  | line (obj : Handle) (line : VLine) (quad task : Nat) (ahead : Bool)
  /-- Lines of a version that an OBJ_REPLACE makes of a pinned object. -/
  | objFill (task : Nat)
  | window (stream win : Nat) (addr : Nat) (data : Bytes)
  | taskWrite (task : Nat) (addr : Nat) (data : Bytes) (sync : Handle)
  | mirror (t sync val : Nat)
  | starterToks (starter : Handle)
  | bootHeader
  | bootBody
deriving DecidableEq, Repr

structure MpOp where
  id    : Nat
  port  : Nat
  issued : Bool
  at_   : Tick
  kind  : MpKind
deriving DecidableEq, Repr

/-! ### Spring, schedule, faults, counters, flash -/

structure Spring where
  failed   : Bool := false
  /-- Stays FAILED until reset after the fourth failure within 1 s (R416). -/
  dead     : Bool := false
  failAt   : List Tick := []
  /-- Terraces still to be reinstantiated, in ascending order. -/
  queue    : List Nat := []
deriving DecidableEq, Repr

/-- The slot of the schedule that runs (R458). `slot = none` is the management slot before terrace `next`. -/
structure Sched where
  turn    : Option Nat := none
  /-- The terrace whose turn follows the management slot, or whose turn it is. -/
  next    : Option Nat := none
  start   : Tick := 0
  len     : Nat := 200
  mgmt    : Nat := 200
  sealed  : Bool := false
  /-- TERRACE_SET SCHEDULE waiting for the next round. -/
  posted  : Option (Nat × Bool) := none
  /-- The slot's holder has had work within the present tick (R474). -/
  worked  : Bool := false
  /-- The sclk cycle of the turn, counted from its start, from which the egress is free again (R461). -/
  busy    : Nat := 0
deriving DecidableEq, Repr

/-- A fault record (R542). -/
structure FaultRec where
  seq      : Nat
  cls      : Nat
  terr     : Nat
  location : Nat
  cause    : Nat
  detail   : Nat
  handle   : Handle
  tick     : Tick
  step     : Nat
  info     : Nat
deriving DecidableEq, Repr

/-- The logs (R545): block log newest first, and terrace logs newest first with their last number. -/
structure Faults where
  blockLog : List FaultRec := []
  blockSeq : Nat := 0
  blockClear : Tick := 0
  terrLogs : Tbl (List FaultRec) := []
  terrSeq  : Tbl Nat := []
  terrClear : Tbl Tick := []
  /-- The record of a fault that stopped Wellhead, kept in the always-on domain. -/
  kept     : Option FaultRec := none
deriving DecidableEq, Repr

/-- A counter's name (R547). -/
structure CntKey where
  group : Nat
  index : Nat
  terr  : Nat
  loc   : Nat
deriving DecidableEq, Repr

/-- The clear ticks of R552, by terrace and group. -/
structure Counters where
  vals   : List (CntKey × Nat) := []
  /-- What was counted in the present tick, which a clear at that tick leaves (R554). -/
  recent : List (CntKey × Nat) := []
  clears : List (Nat × Nat × Tick) := []
  /-- Counters whose word failed parity (R549). -/
  bad    : List CntKey := []
deriving DecidableEq, Repr

/-- The counter window (R574 to R577). -/
structure CntWin where
  select : Word := 0
  busy   : Bool := false
  err    : Bool := false
  valid  : Bool := false
  since  : Tick := 0
  sample : Tick := 0
  clear  : Tick := 0
  newest : Nat := 0
  vals   : List Nat := []
deriving DecidableEq, Repr

/-- T1 space of a destroyed terrace being overwritten (R468): port, units, number of the job. -/
structure ClearJob where
  id    : Nat
  t1mp0 : Nat
  t1mp1 : Nat
  at0   : List (Nat × Nat)
  at1   : List (Nat × Nat)
  shPort : Nat
  shBase : Nat
  shSize : Nat
deriving DecidableEq, Repr

/-- A command waiting on the flash translation layer (R134, R511). -/
inductive FlashJob where
  | sealCopy (obj : Handle)
  | coldHint (obj : Handle) (tk : Ticket)
  /-- A hint other than COLD brings the home back to T1. -/
  | warmHint (obj : Handle) (tk : Ticket) (hint : Nat)
  | backCopy (task : Nat)
  | promote (obj : Handle)
  | refetch (obj : Handle) (ver : Nat)
deriving DecidableEq, Repr

/-- A job on its way, with the number FILL_WATCHDOG gives and the tick it was handed to the translation layer (R153). -/
structure FlashOp where
  id  : Nat
  at_ : Tick
  job : FlashJob
deriving DecidableEq, Repr

/-- An erase block of an accepted target: bad-block table, erase and read counts, and whether a read of it made it due for
retention refresh (R148, R149). -/
structure FBlock where
  chan   : Nat
  target : Nat
  bad    : Bool
  erases : Nat
  reads  : Nat
  due    : Bool
deriving DecidableEq, Repr

/-- Mapping of `count` units of 16 KiB of a version, from unit `first` on, to an erase block (R149). -/
structure FMap where
  obj   : Handle
  ver   : Nat
  first : Nat
  count : Nat
  block : Nat
deriving DecidableEq, Repr

/-- What the flash array itself keeps whatever happens to the block: the blocks' wear, and the mapping in the checkpoint
journal (R148, R150). -/
structure Medium where
  blocks : List FBlock := []
  ckpt   : List FMap := []
deriving DecidableEq, Repr

/-- The flash port and the translation layer (R148 to R150, R591 to R593). DEDUCED, log entry 102. DESIGN CHOICE, log entry
119. -/
structure Flash where
  phyReady : List Bool := List.replicate 8 false
  ceN      : List Nat := List.replicate 8 15
  wpN      : List Bool := List.replicate 8 false
  mode     : Nat := 0
  tmode    : Nat := 0
  /-- Usable and reserve capacity in GiB (R148). -/
  usable   : Nat := 0
  reserve  : Nat := 0
  jobs     : List FlashOp := []
  /-- The mapping tables, which block-owned T1 holds (R148). -/
  maps     : List FMap := []
  /-- What the oldest writing job has programmed so far (R150). -/
  prog     : List FMap := []
deriving DecidableEq, Repr

/-- The whole block. -/
structure State where
  cfg      : Cfg
  /-- The timebase (R23). -/
  tick     : Tick
  /-- The MODEL's own counter behind free values; no statement rests on it. -/
  fresh    : Nat
  irq      : Irq
  lcs      : Lcs
  boot     : Boot
  fuses    : Fuses
  advance  : Option Advance
  pwr      : Power
  sleep    : Sleep
  sb       : Sideband
  tap      : Tap
  /-- Terrace mailboxes 0 to 15, then the management mailbox (R72). -/
  mbs      : List Mailbox
  sched    : Sched
  /-- ACTIVE and DESTROYING terraces by number; an unlisted number is FREE (R449). -/
  terr     : Tbl Terrace
  /-- How often each slot's generation has moved on, by terrace × 16 + type and index (R94). -/
  gens     : List ((Nat × Nat) × Nat)
  /-- TERRACE_DESTROYs of each terrace, each of which advances every slot's generation (R94). -/
  genBase  : Tbl Nat
  /-- Instantiations of each terrace's DRBG (R415). -/
  instCount : Tbl Nat
  tasks    : List Task
  /-- The rill cores by number (R27). -/
  cores    : List RillCore
  /-- Quads whose shared instruction store holds the engine programs (R28). -/
  programs : List Nat
  /-- Round-robin pointer of each bay's dispatcher (R456). -/
  rrBay    : List Nat
  hfp      : List HfpOp
  mp       : List MpOp
  mpReady  : List Bool
  /-- Next number for a task, an operation or a job. -/
  nextId   : Nat
  /-- Messages presented on step-port egress, oldest first (R340). -/
  egress   : List EMsg
  spring   : Spring
  faults   : Faults
  cnt      : Counters
  cntWin   : CntWin
  /-- TIMEBASE_HI latches by initiator port (R572). -/
  tbLatch  : Tbl Nat
  clearing : List ClearJob
  /-- SYNC_SIGNALs taken in the present tick, in intake order, and the sync objects whose waits time out in it, by terrace
  and index (R121, R122). -/
  signals  : List Signal
  syncEnds : List (Nat × Nat)
  flash    : Flash
  medium   : Medium
  /-- Intake closed by step 1 of R527 or by R523; and the port was opened in DEPLOYED, so only the commands of R527 run. -/
  intakeClosed : Bool
  erasedMode : Bool
  /-- HFP_T_RSP_RDATA of the last access answered (R583). -/
  rsp      : Word
  /-- SP_ATTN has been seen 1 (R590). -/
  spAttn   : Bool
  /-- The commands waiting, first in first out. -/
  pending  : List Instr
deriving DecidableEq, Repr

/-- Seventeen mailboxes with every register at its reset value (R72, R74 to R76). -/
def resetMailboxes : List Mailbox := List.replicate 17 {}

/-- The block right after AON_RESET_N is released: the timebase is 0 and step 1 of R508 requests the VDD_K of P4. The
configuration is L (DESIGN CHOICE, log entry 2); straps read 0 (DESIGN CHOICE, log entry 10). DESIGN CHOICE, log entry 119.
DESIGN CHOICE, log entry 120. -/
def State.reset : State where
  cfg := .L
  tick := 0
  fresh := 0
  irq := {}
  lcs := {}
  boot := {}
  fuses := {}
  advance := none
  pwr := {}
  sleep := {}
  sb := {}
  tap := {}
  mbs := resetMailboxes
  sched := {}
  terr := []
  gens := []
  genBase := []
  instCount := []
  tasks := []
  cores := List.replicate 64 {}
  programs := []
  rrBay := [0, 0, 0, 0]
  hfp := []
  mp := []
  mpReady := [false, false]
  nextId := 1
  egress := []
  spring := {}
  faults := {}
  cnt := {}
  cntWin := {}
  tbLatch := []
  clearing := []
  signals := []
  syncEnds := []
  flash := {}
  medium := {}
  intakeClosed := false
  erasedMode := false
  rsp := 0
  spAttn := false
  pending := []

end Sys2Proof.Machine
end

