-- ==== Sys2Proof/Machine/Bits.lean ====
section
/-! DEFINITION. Bit fields, byte order (R20), handle words (R92), location words (R35) and tables: the plain helpers
every meaning is written over. -/

namespace Sys2Proof.Machine

/-! ### Byte strings -/

/-- The little-endian value of the first `n` bytes; bytes past the end read as 0 (R20). -/
def leVal : Nat → Bytes → Nat
  | 0, _ => 0
  | _ + 1, [] => 0
  | n + 1, b :: bs => b.toNat + 256 * leVal n bs

/-- The field of `n` bytes at offset `off` (R20). -/
def rd (b : Bytes) (off n : Nat) : Nat := leVal n (b.drop off)

/-- `n` bytes holding `v` modulo 2^(8n), low byte first (R20). -/
def le : Nat → Nat → Bytes
  | 0, _ => []
  | n + 1, v => BitVec.ofNat 8 v :: le n (v / 256)

/-- `n` zero bytes. -/
def zeros (n : Nat) : Bytes := List.replicate n 0

/-- Bytes `off` to `off + n - 1`. -/
def slice (b : Bytes) (off n : Nat) : Bytes := (b.drop off).take n

/-- ASCII bytes of a string. -/
def ascii (s : String) : Bytes := s.toList.map (fun c => BitVec.ofNat 8 c.toNat)

/-- Bits `[lo + w - 1 : lo]` of a number. -/
def bits (v lo w : Nat) : Nat := v / 2 ^ lo % 2 ^ w

/-- Bit `i` of a number. -/
def bit (v i : Nat) : Bool := v / 2 ^ i % 2 == 1

/-- A flag as a bit. -/
def b2n (b : Bool) : Nat := if b then 1 else 0

/-- The signed value of the low `w` bits of `v`. -/
def sgn (w v : Nat) : Int :=
  let m := v % 2 ^ w
  if 2 * m < 2 ^ w then (m : Int) else (m : Int) - (2 : Int) ^ w

/-- The low `w` bits of a signed value. -/
def unsgn (w : Nat) (v : Int) : Nat := (v % (2 : Int) ^ w).toNat

def ceilDiv (a b : Nat) : Nat := (a + b - 1) / b

/-- Is `v` a power of two from `2^lo` to `2^hi`? -/
def isPow2 (v lo hi : Nat) : Bool := (List.range (hi + 1)).any (fun k => lo ≤ k && v == 2 ^ k)

/-- Position of the first element that satisfies `p`. -/
def findIdx {α : Type} (p : α → Bool) : List α → Option Nat
  | [] => none
  | a :: as => if p a then some 0 else (findIdx p as).map (· + 1)

/-- Replace the element at position `i`. -/
def setAt {α : Type} (i : Nat) (f : α → α) : List α → List α
  | [] => []
  | a :: as => match i with
    | 0 => f a :: as
    | j + 1 => a :: setAt j f as

/-- Insert before the first element it goes ahead of. -/
def insertBy {α : Type} (le : α → α → Bool) (a : α) : List α → List α
  | [] => [a]
  | b :: r => if le a b then a :: b :: r else b :: insertBy le a r

/-- Stable sort by insertion. -/
def sortBy {α : Type} (le : α → α → Bool) (l : List α) : List α := l.foldr (insertBy le) []

/-- The least number below `n` that satisfies `p`. DEDUCED, log entry 23. -/
def leastBelow (n : Nat) (p : Nat → Bool) : Option Nat := (List.range n).find? p

/-! ### Tables -/

/-- The entry of number `k`. -/
def Tbl.get {α : Type} (t : Tbl α) (k : Nat) : Option α :=
  match t with
  | [] => none
  | (j, a) :: r => if j = k then some a else Tbl.get r k

/-- Write entry `k`, keeping the numbers rising. -/
def Tbl.put {α : Type} (t : Tbl α) (k : Nat) (a : α) : Tbl α :=
  match t with
  | [] => [(k, a)]
  | (j, b) :: r =>
    if k < j then (k, a) :: (j, b) :: r
    else if j = k then (k, a) :: r
    else (j, b) :: Tbl.put r k a

/-- Remove entry `k`. -/
def Tbl.del {α : Type} (t : Tbl α) (k : Nat) : Tbl α := t.filter (fun e => e.1 != k)

/-- Change entry `k` where there is one. -/
def Tbl.mod {α : Type} (t : Tbl α) (k : Nat) (f : α → α) : Tbl α :=
  t.map (fun e => if e.1 = k then (e.1, f e.2) else e)

/-- Change every entry. -/
def Tbl.mapVals {α β : Type} (f : Nat → α → β) (t : Tbl α) : Tbl β := t.map (fun e => (e.1, f e.1 e.2))

/-- The numbers in use, rising. -/
def Tbl.keys {α : Type} (t : Tbl α) : List Nat := t.map (·.1)

/-- The lowest number not in use. DEDUCED, log entry 23. -/
def Tbl.fresh {α : Type} (t : Tbl α) : Nat := ((List.range (t.length + 1)).find? (fun k => (t.get k).isNone)).getD 0

/-- Numbers rise strictly: the canonical form of a table. -/
abbrev Tbl.wf {α : Type} (t : Tbl α) : Prop := (t.map (·.1)).Pairwise (· < ·)

/-! ### Handles (R92) and location words (R35) -/

def hTerr (h : Nat) : Nat := h / 2 ^ 28 % 16
def hType (h : Nat) : Nat := h / 2 ^ 24 % 16
def hIndex (h : Nat) : Nat := h / 64 % 2 ^ 18
def hGen (h : Nat) : Nat := h % 64

/-- TYPE and INDEX of a handle as one number: the key of the object table, whose slots are numbered per type (R92). -/
def hKey (h : Nat) : Nat := h / 64 % 2 ^ 22

def mkHandle (terr ty idx gen : Nat) : Handle := ((terr * 16 + ty) * 2 ^ 18 + idx) * 64 + gen

/-- Handle type codes (R93). -/
def tyTerrace : Nat := 0
def tyVocab : Nat := 1
def tyGrammar : Nat := 2
def tyTemplate : Nat := 3
def tyStore : Nat := 4
def tyBias : Nat := 5
def tyProfile : Nat := 6
def tyStarter : Nat := 7
def tyReq : Nat := 8
def tyTok : Nat := 9
def tyStream : Nat := 10
def tySync : Nat := 11
def tyPool : Nat := 12

/-- LEVEL and INDEX of a location word. -/
def locLevel (w : Nat) : Nat := w / 2 ^ 13 % 8
def locIndex (w : Nat) : Nat := w % 2 ^ 13
def mkLoc (level index : Nat) : Nat := level * 2 ^ 13 + index

/-- LEVEL 0b101, INDEX 0: the block (R36). -/
def locBlock : Nat := 0xA000
def locBay (b : Nat) : Nat := mkLoc 4 b
def locQuad (q : Nat) : Nat := mkLoc 3 q
def locCore (c : Nat) : Nat := mkLoc 2 c

def sumBy {α : Type} (f : α → Nat) (l : List α) : Nat := (l.map f).foldl (· + ·) 0

/-- TERRACE field value for no terrace (R542, R547). -/
def noTerr : Nat := 0x1F

/-- The largest 64-bit value. -/
def max64 : Nat := 0xFFFFFFFFFFFFFFFF

/-! ### Status codes (R101) and completion kinds (R97) -/

def stOK : Nat := 0x00
def stACCEPTED : Nat := 0x01
def stBAD_COMMAND : Nat := 0x10
def stBAD_FIELD : Nat := 0x11
def stBAD_FORMAT : Nat := 0x12
def stSTALE_HANDLE : Nat := 0x20
def stWRONG_TERRACE : Nat := 0x21
def stNOT_PERMITTED : Nat := 0x22
def stNO_RESOURCE : Nat := 0x30
def stRETRY_AFTER : Nat := 0x31
def stDEADLINE_INFEASIBLE : Nat := 0x32
def stCANCELLED : Nat := 0x40
def stNOT_ACTIVE : Nat := 0x41
def stGRAMMAR_DEAD : Nat := 0x50
def stNO_CANDIDATE : Nat := 0x51
def stOBJECT_LOST : Nat := 0x60
def stDATA_ERROR : Nat := 0x61
def stPARITY_LOSS : Nat := 0x62
def stENTROPY_HALT : Nat := 0x70
def stPOWER_STATE : Nat := 0x71
def stINTERNAL : Nat := 0x7F

def kONLY : Nat := 0
def kFIRST : Nat := 1
def kPROGRESS : Nat := 2
def kFINAL : Nat := 3

/-- FIELD_OFFSET of completions that name no field (R96). -/
def noField : Nat := 0xFFFF

/-! ### Checks: the first failing one gives the status and the field offset -/

/-- What a check found: nothing, or a status and FIELD_OFFSET (R95, R96). -/
abbrev Chk := Option (Nat × Nat)

def Chk.need (ok : Bool) (status off : Nat) : Chk := if ok then none else some (status, off)

/-- BAD_FIELD at `off` unless `ok`. -/
def field (ok : Bool) (off : Nat) : Chk := Chk.need ok stBAD_FIELD off

/-- Another status, which names no field, unless `ok`. -/
def cond (ok : Bool) (status : Nat) : Chk := Chk.need ok status noField

/-- The first failure of a list of checks, in order. -/
def Chk.first : List Chk → Chk
  | [] => none
  | some e :: _ => some e
  | none :: r => Chk.first r

end Sys2Proof.Machine
end

