-- ==== Sys2Proof/Machine/Ops.lean ====
section
/-! DEFINITION. The operations every meaning shares: terraces and slots, cause counters, fault records, interrupt
sources, host fabric and memory-port operations, completions and credits. -/

namespace Sys2Proof.Machine

/-! ### Terraces and generations -/

/-- An ACTIVE or DESTROYING terrace (R449). -/
def State.terrace (s : State) (t : Nat) : Option Terrace := s.terr.get t

/-- Change terrace `t` where it is not FREE. -/
def State.modT (s : State) (t : Nat) (f : Terrace → Terrace) : State := { s with terr := s.terr.mod t f }

/-- How far slot `idx` of type `ty` has moved on, the terrace's destructions aside. -/
def State.genSteps (s : State) (t ty idx : Nat) : Nat :=
  ((s.gens.find? (fun g => g.1 == (t * 16 + ty, idx))).map (·.2)).getD 0

/-- Generation of a slot: 1 at reset, up by 1 at each reuse and at each TERRACE_DESTROY, wrapping 63 to 1 (R94). -/
def State.genOf (s : State) (t ty idx : Nat) : Nat :=
  (s.genSteps t ty idx + (s.genBase.get t).getD 0) % 63 + 1

/-- The handle of slot `idx` now. -/
def State.handleOf (s : State) (t ty idx : Nat) : Handle := mkHandle t ty idx (s.genOf t ty idx)

def State.terrHandle (s : State) (t : Nat) : Handle := s.handleOf t tyTerrace 0

/-- The slot is freed; its next use has the next generation (R94). -/
def State.bumpGen (s : State) (t ty idx : Nat) : State :=
  { s with gens :=
      if s.gens.any (fun g => g.1 == (t * 16 + ty, idx)) then
        s.gens.map (fun g => if g.1 == (t * 16 + ty, idx) then (g.1, g.2 + 1) else g)
      else s.gens ++ [((t * 16 + ty, idx), 1)] }

/-- Is terrace `t` beyond the configuration? -/
def State.badTerr (s : State) (t : Nat) : Bool := s.cfg.terraces ≤ t

/-- A fresh number for a task, an operation or a completion. DESIGN CHOICE, log entry 120. -/
def State.newId (s : State) : State := { s with nextId := s.nextId + 1 }

/-! ### Cause counters (R547 to R550) -/

/-- A cause: group and index. -/
abbrev Cause := Nat × Nat

def cPARITY_REPLAY : Cause := (0x01, 1)
def cPARITY_LOSS_EVT : Cause := (0x01, 2)
def cJOURNAL_REPLAY : Cause := (0x01, 3)
def cJOURNAL_WAIT : Cause := (0x01, 4)
def cJOURNAL_DEGRADED : Cause := (0x01, 5)
def cMC_CORRECTED : Cause := (0x01, 6)
def cMC_UNCORRECTABLE : Cause := (0x01, 7)
def cTAG_MISMATCH : Cause := (0x01, 8)
def cPRIV_DENIED : Cause := (0x01, 9)
def cFAULT_RECORDS : Cause := (0x01, 10)
def cT2_RETIRED : Cause := (0x01, 13)
def cT2_REFRESH : Cause := (0x01, 14)
def cFILL_LATE : Cause := (0x03, 1)
def cFILL_TIMEOUT : Cause := (0x03, 2)
def cT2_PROMOTE : Cause := (0x03, 3)
def cOBJ_QUARANTINE : Cause := (0x03, 4)
def cPREFETCH_WASTE : Cause := (0x03, 5)
def cRIDDLE_SEARCH : Cause := (0x04, 1)
def cRIDDLE_PROBE : Cause := (0x04, 2)
def cRIDDLE_FALSE_HIT : Cause := (0x04, 3)
def cRIDDLE_UPDATE_WAIT : Cause := (0x04, 4)
def cRIDDLE_MOVE : Cause := (0x04, 5)
def cRIDDLE_FULL : Cause := (0x04, 6)
def cRIDDLE_REBUILD : Cause := (0x04, 7)
def cECHO_DROP : Cause := (0x04, 8)
def cSTARTER_COLD_LOOKUP : Cause := (0x04, 9)
def cUTF8_REPLACED : Cause := (0x05, 1)
def cSTREAMSAFE_INSERT : Cause := (0x05, 2)
def cCONTROL_ESCAPED : Cause := (0x05, 3)
def cFORCED_CUT : Cause := (0x05, 4)
def cWINDOW_WAIT : Cause := (0x05, 5)
def cSIFT_BYTES : Cause := (0x06, 1)
def cSIFT_TOKENS : Cause := (0x06, 2)
def cSIFT_FALLBACK : Cause := (0x06, 3)
def cSIFT_COLD_LOOKUP : Cause := (0x06, 4)
def cSIFT_MERGES : Cause := (0x06, 5)
def cKNEAD_TOKENS : Cause := (0x07, 1)
def cKNEAD_CUT : Cause := (0x07, 2)
def cKNEAD_DROP : Cause := (0x07, 3)
def cPASSAGE_COLD_LOOKUP : Cause := (0x07, 4)
def cREQ_ADMITTED : Cause := (0x08, 1)
def cREQ_RETRY : Cause := (0x08, 2)
def cREQ_INFEASIBLE : Cause := (0x08, 3)
def cREQ_LATE : Cause := (0x08, 4)
def cREQ_DROPPED_LATE : Cause := (0x08, 5)
def cREQ_CANCEL_LATE : Cause := (0x08, 6)
def cPREEMPT : Cause := (0x08, 7)
def cPREEMPT_PAGES : Cause := (0x08, 8)
def cRESUME : Cause := (0x08, 9)
def cSTALL_TICKS : Cause := (0x08, 10)
def cPOOL_ALLOC : Cause := (0x09, 1)
def cPOOL_FREE : Cause := (0x09, 2)
def cPOOL_SHORT : Cause := (0x09, 3)
def cRUNS_FULL : Cause := (0x09, 4)
def cPAGE_COPY : Cause := (0x09, 5)
def cSTARTER_JOIN : Cause := (0x09, 6)
def cSTARTER_MATCH : Cause := (0x09, 7)
def cSTEP_OPENED : Cause := (0x0A, 1)
def cSTEP_FAILED : Cause := (0x0A, 2)
def cSTEP_ROWS : Cause := (0x0A, 3)
def cDRAFT_ROWS : Cause := (0x0A, 4)
def cDRAFT_ACCEPTED : Cause := (0x0A, 5)
def cDRAFT_STALE : Cause := (0x0A, 6)
def cDRAFT_WAIT : Cause := (0x0A, 7)
def cROW_WITHDRAWN : Cause := (0x0A, 8)
def cTILES_FETCHED : Cause := (0x0A, 9)
def cFULL_ROW_FETCH : Cause := (0x0A, 10)
def cBOUND_BREACH : Cause := (0x0A, 11)
def cSP_PROTO_ERR : Cause := (0x0A, 12)
def cSP_LATE_MSG : Cause := (0x0A, 13)
def cMASK_FILL : Cause := (0x0B, 1)
def cMASK_HIT : Cause := (0x0B, 2)
def cMASK_LATE : Cause := (0x0B, 3)
def cMASK_LATE_ROWS : Cause := (0x0B, 4)
def cMASK_SLICE_COPY : Cause := (0x0B, 5)
def cCHAIN_CUT : Cause := (0x0B, 6)
def cGRAMMAR_DEAD : Cause := (0x0B, 7)
def cGRAMMAR_EOS : Cause := (0x0B, 8)
def cGRAMMAR_ACCEPT : Cause := (0x0B, 9)
def cSAMPLE_ROWS : Cause := (0x0C, 1)
def cSAMPLE_ROUNDS : Cause := (0x0C, 2)
def cSAMPLE_CANDIDATES : Cause := (0x0C, 3)
def cSAMPLE_SKIPPED_TILES : Cause := (0x0C, 4)
def cSAMPLE_GREEDY : Cause := (0x0C, 5)
def cSPEC_ACCEPT_DRAWS : Cause := (0x0C, 6)
def cSPEC_REJECTED : Cause := (0x0C, 7)
def cSPEC_ROWS_WASTED : Cause := (0x0C, 8)
def cVARIATES_USED : Cause := (0x0C, 9)
def cENTROPY_FAIL : Cause := (0x0C, 10)
def cENTROPY_STALL : Cause := (0x0C, 11)
def cSLICE_TOKENS : Cause := (0x0D, 1)
def cSLICE_BYTES : Cause := (0x0D, 2)
def cSLICE_REPLACED : Cause := (0x0D, 3)
def cSTOP_HIT : Cause := (0x0D, 4)
def cSTOP_CUT_BYTES : Cause := (0x0D, 5)
def cSTREAM_RECORDS : Cause := (0x0D, 6)
def cSTREAM_PAD : Cause := (0x0D, 7)
def cSTREAM_FULL : Cause := (0x0D, 8)
def cTURNS : Cause := (0x0E, 1)
def cTURN_TICKS_USED : Cause := (0x0E, 2)
def cTURN_WAIT : Cause := (0x0E, 3)
def cTURN_OVERRUN : Cause := (0x0E, 4)
def cSLOT_LENT : Cause := (0x0E, 5)
def cDESTROY_DISCARD : Cause := (0x0E, 6)
def cPWR_LEVEL_CHANGE : Cause := (0x0F, 1)
def cPWR_ACK_TIMEOUT : Cause := (0x0F, 2)
def cS1_ENTER : Cause := (0x0F, 3)
def cSLEEP_ENTER : Cause := (0x0F, 4)
def cSLEEP_ABANDON : Cause := (0x0F, 5)
def cSLEEP_SPILL : Cause := (0x0F, 6)
def cSLEEP_WRITE_DROP : Cause := (0x0F, 7)
def cON_DEMAND_WAKE : Cause := (0x0F, 8)
def cDEBUG_CHALLENGE : Cause := (0x10, 1)
def cDEBUG_FAIL : Cause := (0x10, 2)
def cDEBUG_OPEN : Cause := (0x10, 3)

/-- Causes of each group's source table (R547, R548). -/
def groupSize (g : Nat) : Nat :=
  match g with
  | 0x01 => 14 | 0x02 => 4 | 0x03 => 5 | 0x04 => 9 | 0x05 => 5 | 0x06 => 5 | 0x07 => 4 | 0x08 => 10 | 0x09 => 7
  | 0x0A => 14 | 0x0B => 9 | 0x0C => 11 | 0x0D => 8 | 0x0E => 6 | 0x0F => 8 | 0x10 => 3 | _ => 0

/-- Saturating 64-bit addition (R549). -/
def satAdd (a n : Nat) : Nat := min max64 (a + n)

/-- Add `n` to one counter of a list. -/
def bump (l : List (CntKey × Nat)) (k : CntKey) (n : Nat) : List (CntKey × Nat) :=
  if l.any (fun e => e.1 == k) then l.map (fun e => if e.1 == k then (e.1, satAdd e.2 n) else e) else l ++ [(k, satAdd 0 n)]

/-- Add `n` to one counter. -/
def Counters.add (c : Counters) (k : CntKey) (n : Nat) : Counters :=
  { c with vals := bump c.vals k n, recent := bump c.recent k n }

/-- Count `n` events of a cause for a terrace at a location. -/
def State.count (s : State) (c : Cause) (terr loc n : Nat) : State :=
  if n = 0 then s else { s with cnt := s.cnt.add ⟨c.1, c.2, terr, loc⟩ n }

/-- Count one event at block level. -/
def State.tally (s : State) (c : Cause) (terr : Nat) : State := s.count c terr locBlock 1

/-! ### Interrupt sources (R114 to R116, R565 to R570) -/

def State.mailbox (s : State) (mb : Nat) : Mailbox := s.mbs.getD mb {}

def State.modMb (s : State) (mb : Nat) (f : Mailbox → Mailbox) : State := { s with mbs := setAt mb f s.mbs }

/-- IRQ_MODE bit of a source: MSG_MODE of the mailbox for sources 0 to 16 (R567). -/
def State.msgMode (s : State) (n : Nat) : Bool :=
  if n ≤ 16 then (s.mailbox n).irq.getLsbD 1 else s.irq.mode.getLsbD n

/-- Message address of a source; `none` when it is zero (R568). -/
def State.msgAddr (s : State) (n : Nat) : Option Nat :=
  let a := if n ≤ 16 then (s.mailbox n).msiLo.toNat + (s.mailbox n).msiHi.toNat * 2 ^ 32
           else s.irq.msiLo.toNat + s.irq.msiHi.toNat * 2 ^ 32
  if a = 0 then none else some a

def State.msgData (s : State) (n : Nat) : Word :=
  if n ≤ 16 then (s.mailbox n).msiData else s.irq.msiData.getD (n - 17) 0

def State.irqMasked (s : State) (n : Nat) : Bool := s.irq.mask.getLsbD n

/-- Set a source's status bit; bits 31 to 24 are reserved (R566). -/
def State.setStatus (s : State) (n : Nat) : State :=
  { s with irq := { s.irq with status := s.irq.status ||| (BitVec.ofNat 32 (2 ^ n) &&& 0xFFFFFF) } }

def State.clearStatus (s : State) (n : Nat) : State :=
  { s with irq := { s.irq with status := s.irq.status &&& ~~~ (BitVec.ofNat 32 (2 ^ n)) } }

/-- Put an operation on the host fabric initiator (R584, R585). -/
def State.hfpIssue (s : State) (terr : Nat) (k : HfpKind) : State :=
  { s with hfp := s.hfp ++ [⟨s.nextId, terr, s.tick, k⟩], nextId := s.nextId + 1 }

/-- Put an operation on a memory port; it is issued once the controller is ready (R587). -/
def State.mpIssue (s : State) (port : Nat) (k : MpKind) : State :=
  { s with mp := s.mp ++ [⟨s.nextId, port, s.mpReady.getD port false, s.tick, k⟩], nextId := s.nextId + 1 }

/-- Hand a job to the flash translation layer (R148). -/
def State.flashAsk (s : State) (j : FlashJob) : State :=
  { s with flash := { s.flash with jobs := s.flash.jobs ++ [⟨s.nextId, s.tick, j⟩] }, nextId := s.nextId + 1 }

/-- The terrace number a source's message goes out under (R584). -/
def srcTerr (n : Nat) : Nat := if n < 16 then n else noTerr

/-- Raise a source (R569). Sources 8 to 15 of Kidevon S and 24 to 31 are never raised (R114). -/
def State.raise (s : State) (n : Nat) : State :=
  if 23 < n || (s.cfg == .S && 8 ≤ n && n ≤ 15) then s
  else if s.msgMode n && !s.irqMasked n then
    match s.msgAddr n with
    | some a => s.hfpIssue (srcTerr n) (.msi n a (s.msgData n))
    | none => s.setStatus n
  else s.setStatus n

/-- A cleared mask bit or a set MODE bit with the status bit at 1 writes one message and clears the bit (R569). -/
def State.unmaskMsg (s : State) (n : Nat) : State :=
  if s.irq.status.getLsbD n && s.msgMode n && !s.irqMasked n then
    match s.msgAddr n with
    | some a => (s.hfpIssue (srcTerr n) (.msi n a (s.msgData n))).clearStatus n
    | none => s
  else s

/-! ### Fault records (R542 to R545) -/

def fcPARITY_REPLAYED : Nat := 1
def fcPARITY_LOST : Nat := 2
def fcMEMORY : Nat := 3
def fcOBJECT : Nat := 4
def fcSTEP_PORT : Nat := 5
def fcPOWER : Nat := 6
def fcISOLATION : Nat := 7
def fcFIRMWARE : Nat := 8
def fcFLASH : Nat := 9

/-- Interrupt source of a class (R543). -/
def faultSource (cls : Nat) : Nat := if cls = fcSTEP_PORT then 23 else if cls = fcPOWER then 21 else 19

/-- A record number after `n`: wraps from 0xFFFF_FFFF to 1. -/
def nextSeq (n : Nat) : Nat := if 0xFFFFFFFF ≤ n then 1 else n + 1

/-- The step in flight of a terrace, from its STEP_OPEN until its STEP_COMMIT is sent, or 0xFFFF_FFFF (R358, R542). -/
def State.stepIdOf (s : State) (t : Nat) : Nat :=
  match (s.terrace t).bind (fun te =>
    te.sp.closing.map (·.id) <|> te.sp.flight.bind (fun f => if f.sent then some f.id else none)) with
  | some n => n
  | none => 0xFFFFFFFF

def Faults.file (f : Faults) (r : FaultRec) : Faults :=
  let f := { f with blockSeq := nextSeq f.blockSeq
                    blockLog := ({ r with seq := nextSeq f.blockSeq } :: f.blockLog).take 1024 }
  if r.terr < 16 then
    let n := nextSeq ((f.terrSeq.get r.terr).getD 0)
    { f with terrSeq := f.terrSeq.put r.terr n
             terrLogs := f.terrLogs.put r.terr (({ r with seq := n } :: (f.terrLogs.get r.terr).getD []).take 64) }
  else f

/-- File a fault record, count it and raise its source. -/
def State.fault (s : State) (cls terr loc : Nat) (cause : Cause) (detail : Nat) (handle : Handle) (info : Nat) : State :=
  let r : FaultRec := ⟨0, cls, terr, loc, cause.1 * 256 + cause.2, detail, handle, s.tick, s.stepIdOf terr, info⟩
  let s := { s with faults := s.faults.file r }
  (s.tally cFAULT_RECORDS terr).raise (faultSource cls)

/-- No cause (R542). -/
def noCause : Cause := (0, 0)

/-- A completion with INTERNAL files a fault report of class FIRMWARE (R131, R543). DEDUCED, log entry 150. -/
def State.inconsistent (s : State) (tk : Ticket) (status : Nat) (handle : Handle) : State :=
  if status = stINTERNAL then
    s.fault fcFIRMWARE (match tk.src with | .terrace n => n | _ => noTerr) locBlock noCause 0 handle 0
  else s

/-! ### Completions and credits (R81 to R86, R97, R98, R115) -/

/-- Mailbox number of a command's source; the sideband has none of its own (R108). -/
def srcMb : Src → Nat
  | .terrace n => n
  | .mgmt => 16
  | .sideband => 16

/-- Credits not held by a written completion and not reserved (R83, R84). -/
def Mailbox.free (m : Mailbox) : Nat := 2 ^ m.cqLog - 1 - m.used - m.reserved

/-- May the mailbox write a completion now? -/
def Mailbox.canWrite (m : Mailbox) : Bool := m.enable && !m.error && m.held.isEmpty && m.used < 2 ^ m.cqLog - 1

/-- The mailbox stops under R85 and source 18 is raised; entries read ahead and not taken are dropped (R79). -/
def State.mbError (s : State) (mb code : Nat) : State :=
  if (s.mailbox mb).enable && !(s.mailbox mb).error then
    (s.modMb mb (fun m => { m with error := true, errCode := code, ahead := [] })).raise 18
  else s

/-- Bytes of a completion as written to its slot (R97). -/
def Cpl.bytes (c : Cpl) (phase : Bool) (head : Nat) : Bytes :=
  le 4 c.tag ++ le 4 c.handle ++ le 1 c.status ++ le 1 c.opcode ++ le 1 c.kind ++ le 1 (c.flags + b2n phase)
    ++ le 2 head ++ le 2 c.fieldOff ++ le 8 c.res0 ++ le 8 c.res1

/-- Write a completion into the next slot: one credit, one 32-byte write (R82, R83). -/
def State.writeCpl (s : State) (mb : Nat) (c : Cpl) : State :=
  let m := s.mailbox mb
  let s := s.hfpIssue (srcTerr mb) (.cplWrite mb m.epoch m.cqTail m.phase m.sqHead c)
  let last := m.cqTail + 1 = 2 ^ m.cqLog
  s.modMb mb (fun m => { m with used := m.used + 1, cqTail := if last then 0 else m.cqTail + 1
                                phase := if last then !m.phase else m.phase
                                outQ := m.outQ ++ [(c.seq, if c.kind = kPROGRESS then c.handle else 0)] })

/-- Keep held completions in order of production (R86). DEDUCED, log entry 33. -/
def holdCpl (c : Cpl) : List Cpl → List Cpl
  | [] => [c]
  | d :: r => if c.seq < d.seq then c :: d :: r else d :: holdCpl c r

/-- Write a completion, or hold it while the mailbox is disabled, in ERROR or full. DEDUCED, log entry 33. -/
def State.emitCpl (s : State) (mb : Nat) (c : Cpl) : State :=
  let c := { c with seq := s.nextId, at_ := s.tick }
  let s := s.newId
  if (s.mailbox mb).canWrite then s.writeCpl mb c else s.modMb mb (fun m => { m with held := holdCpl c m.held })

/-- Produce several completions, in order. -/
def State.emitAll (s : State) (mb : Nat) : List Cpl → State
  | [] => s
  | c :: r => (s.emitCpl mb c).emitAll mb r

/-- Write held completions while slots are free; `fuel` is their number. DEDUCED, log entry 33. -/
def State.flushHeld (s : State) (mb : Nat) : Nat → State
  | 0 => s
  | n + 1 =>
    match (s.mailbox mb).held with
    | [] => s
    | c :: r =>
      let m := s.mailbox mb
      if m.enable && !m.error && m.used < 2 ^ m.cqLog - 1 then
        ((s.modMb mb (fun m => { m with held := r })).writeCpl mb c).flushHeld mb n
      else s

/-- COAL_COUNT and COAL_TIME of an MB_IRQ value (R76). -/
def coalCount (w : Word) : Nat := bits w.toNat 8 8
def coalTime (w : Word) : Nat := bits w.toNat 16 16

/-- Test the two conditions of R115 and raise the source. -/
def State.testMbIrq (s : State) (mb : Nat) : State :=
  let m := s.mailbox mb
  let due := (max 1 (coalCount m.irq) ≤ m.unann) ||
    (coalTime m.irq ≠ 0 && m.firstAt + 16 * coalTime m.irq ≤ s.tick)
  if m.irq.getLsbD 0 && 0 < m.unann && due then
    (s.modMb mb (fun m => { m with unann := 0 })).raise mb
  else s

/-- One more completion is visible and unannounced: it counts toward COAL_COUNT, and starts COAL_TIME, from its
acknowledgement on (R115, R116; DESIGN CHOICE, log entry 137). -/
def State.announceCpl (s : State) (mb : Nat) (noIrq : Bool) : State :=
  if noIrq then s
  else (s.modMb mb (fun m => { m with unann := m.unann + 1, firstAt := if m.unann = 0 then s.tick else m.firstAt })).testMbIrq mb

/-- The sideband shows an ONLY or FINAL completion with PHASE 1 and SQ_HEAD 0, and DONE in place of BUSY; the command, which
stood in the management mailbox's intake, has written its last completion (R91, R109). -/
def State.sbComplete (s : State) (c : Cpl) : State :=
  if c.kind = kFIRST || c.kind = kPROGRESS then s
  else (({ s with sb := { s.sb with cpl := c.bytes true 0, busy := false, done := true } }).modMb 16
    (fun m => { m with live := m.live - 1 })).raise 17

/-- Does `c` come from a command one of whose completions is `d`? -/
def Cpl.follows (c d : Cpl) : Bool := c.tag = d.tag && c.opcode = d.opcode && c.handle = d.handle

/-- Put a completion behind the open ONLY it has to wait for: an ONLY or FIRST behind the youngest, a PROGRESS or FINAL behind
the one its own FIRST waits for; none where it need not wait (R102). -/
def waitBehind (c : Cpl) (l : List (Ticket × List Cpl)) : Option (List (Ticket × List Cpl)) :=
  if l.isEmpty then none
  else if c.kind = kONLY || c.kind = kFIRST then some (setAt (l.length - 1) (fun e => (e.1, e.2 ++ [c])) l)
  else if l.any (fun e => e.2.any c.follows) then
    some (l.map (fun e => if e.2.any c.follows then (e.1, e.2 ++ [c]) else e))
  else none

/-- A completion goes to its ring, or waits for an earlier command's ONLY (R102). DEDUCED, log entry 12. -/
def State.orderCpl (s : State) (mb : Nat) (c : Cpl) : State :=
  match waitBehind c (s.mailbox mb).openOnly with
  | some l => s.modMb mb (fun m => { m with openOnly := l })
  | none => s.emitCpl mb c

def mkCpl (tk : Ticket) (kind status : Nat) (handle : Handle) (flags off r0 r1 : Nat) : Cpl :=
  ⟨tk.tag, handle, status, tk.opcode, kind, flags, off, r0 % 2 ^ 64, r1 % 2 ^ 64, tk.noIrq, 0, 0⟩

/-- Produce a completion of a command. -/
def State.complete (s : State) (tk : Ticket) (kind status : Nat) (handle : Handle) (flags off r0 r1 : Nat) : State :=
  let s := s.inconsistent tk status handle
  let c := mkCpl tk kind status handle flags off r0 r1
  match tk.src with
  | .sideband => s.sbComplete c
  | src => s.orderCpl (srcMb src) c

/-- Reserve or give back the credit of a later completion (R83); the sideband has none. -/
def State.reserve (s : State) (src : Src) : State :=
  match src with
  | .sideband => s
  | _ => s.modMb (srcMb src) (fun m => { m with reserved := m.reserved + 1 })

def State.unreserve (s : State) (src : Src) : State :=
  match src with
  | .sideband => s
  | _ => s.modMb (srcMb src) (fun m => { m with reserved := m.reserved - 1 })

/-- FIRST with ACCEPTED and the handle of the work (R98). -/
def State.first (s : State) (tk : Ticket) (handle : Handle) : State :=
  (s.complete tk kFIRST stACCEPTED handle 0 noField 0 0).reserve tk.src

/-- FINAL, against its reserved credit. -/
def State.final (s : State) (tk : Ticket) (status : Nat) (handle : Handle) (flags off r0 r1 : Nat) : State :=
  (s.unreserve tk.src).complete tk kFINAL status handle flags off r0 r1

/-- ONLY, written in the step that took the command. -/
def State.only (s : State) (tk : Ticket) (status : Nat) (handle : Handle) (r0 r1 : Nat) : State :=
  s.complete tk kONLY status handle 0 noField r0 r1

/-- ONLY of a failed check: the command's HANDLE unchanged, and FIELD_OFFSET (R96, R97). -/
def State.refuse (s : State) (tk : Ticket) (status off : Nat) : State :=
  s.complete tk kONLY status tk.handle 0 off 0 0

/-- The command's ONLY comes in a later step. A terrace mailbox takes further commands meanwhile, whose ONLY and FIRST wait
behind it (R102; DEDUCED, log entry 12); management commands run one at a time (R111). No credit is reserved: that is for a
FINAL alone (R84). -/
def State.defer (s : State) (tk : Ticket) : State :=
  match tk.src with
  | .terrace n => s.modMb n (fun m => { m with openOnly := m.openOnly ++ [(tk, [])] })
  | _ => s.modMb 16 (fun m => { m with busy := true })

/-- The open ONLY of a ticket is ready as `c`: it and what waits behind it go out, or wait for an older open ONLY. -/
def closeOnly (tk : Ticket) (c : Cpl) : List (Ticket × List Cpl) → List Cpl × List (Ticket × List Cpl)
  | [] => ([c], [])
  | e :: r =>
    if e.1 = tk then (c :: e.2, r)
    else match r with
      | [] => ([c], [e])
      | _ => let x := closeOnly tk c r; ([], (e.1, e.2 ++ x.1) :: x.2)

/-- The ONLY of a deferred command. DEDUCED, log entry 12. -/
def State.finish (s : State) (tk : Ticket) (status : Nat) (handle : Handle) (off r0 r1 : Nat) : State :=
  let s := s.inconsistent tk status handle
  let c := mkCpl tk kONLY status handle 0 off r0 r1
  match tk.src with
  | .terrace n =>
    let x := closeOnly tk c (s.mailbox n).openOnly
    (s.modMb n (fun m => { m with openOnly := x.2 })).emitAll n x.1
  | _ => (s.modMb 16 (fun m => { m with busy := false })).complete tk kONLY status handle 0 off r0 r1

/-! ### Lists of work -/

/-- Apply `f` once for each element, left to right. -/
def State.forEach {α : Type} (s : State) (l : List α) (f : State → α → State) : State := l.foldl f s

/-- Add a task; it waits for its bay's dispatcher (R29, R456). -/
def State.addTask (s : State) (terr cls prio index : Nat) (tk : Ticket) (k : TaskKind) (input : Option (List Bytes)) : State :=
  { s with tasks := s.tasks ++ [{ id := s.nextId, terr := terr, cls := cls, prio := prio, index := index, ticket := tk
                                  kind := k, input := input }]
           nextId := s.nextId + 1 }

def State.task (s : State) (id : Nat) : Option Task := s.tasks.find? (fun k => k.id == id)

def State.modTask (s : State) (id : Nat) (f : Task → Task) : State :=
  { s with tasks := s.tasks.map (fun k => if k.id = id then f k else k) }

/-- The outstanding host fabric operation of a number (R585). DEDUCED, log entry 24. -/
def State.hfpOp (s : State) (id : Nat) : Option HfpOp := s.hfp.find? (fun o => o.id == id)

def State.hfpDone (s : State) (id : Nat) : State := { s with hfp := s.hfp.filter (fun o => o.id != id) }

/-- The outstanding memory-port operation of a number (R587). DEDUCED, log entry 24. -/
def State.mpOp (s : State) (id : Nat) : Option MpOp := s.mp.find? (fun o => o.id == id)

def State.mpDone (s : State) (id : Nat) : State := { s with mp := s.mp.filter (fun o => o.id != id) }

/-- The level in force: that of the clocks, P4 until the first frequency acknowledgement (R508, R563). DEDUCED, log entry
87. -/
def Power.level (p : Power) : Nat := if p.fAcked then p.fLevel else 4

/-- The block is awake: S0 (R486). -/
def State.awake (s : State) : Bool := s.sleep.phase == .awake

/-- Firmware runs and takes commands: READY, in S0 (R508, R491). -/
def State.running (s : State) : Bool := s.lcs.ready && s.awake

/-- Kidevon S has no mailbox pages 8 to 15 (R10, R72). -/
def State.mbExists (s : State) (mb : Nat) : Bool := mb < s.cfg.terraces || mb == 16

end Sys2Proof.Machine
end

