-- ==== Sys2Proof/Machine/Operands.lean ====
section
/-! DEFINITION. The operand forms of a ring or sideband command: the header of R89, taking an entry (R79, R83, R91,
R104, R111), the check order of R95, and handle lookup. -/

namespace Sys2Proof.Machine

/-! ### The header of R89 -/

def cOp (c : Bytes) : Nat := rd c 0 1
def cFlags (c : Bytes) : Nat := rd c 1 1
def cTag (c : Bytes) : Nat := rd c 4 4
def cHandle (c : Bytes) : Nat := rd c 8 4
/-- CFLAGS [0] EXP, [1] FENCE, [2] NO_IRQ. -/
def cExp (c : Bytes) : Bool := bit (cFlags c) 0
def cFence (c : Bytes) : Bool := bit (cFlags c) 1
def cNoIrq (c : Bytes) : Bool := bit (cFlags c) 2

/-- What later completions of a command need. -/
def ticketOf (src : Src) (c : Bytes) : Ticket := ⟨src, cTag c, cOp c, cHandle c, cNoIrq c⟩

/-- The assigned opcodes and where each is allowed: 0 any mailbox, 1 management, 2 terrace (R100). -/
def opWhere (op : Nat) : Option Nat :=
  match op with
  | 0x01 => some 0 | 0x02 => some 1 | 0x03 => some 1 | 0x04 => some 1 | 0x05 => some 1 | 0x06 => some 1 | 0x07 => some 1
  | 0x08 => some 1 | 0x09 => some 0 | 0x0A => some 1 | 0x0B => some 1 | 0x0C => some 1
  | 0x10 => some 2 | 0x11 => some 2 | 0x12 => some 2 | 0x13 => some 2 | 0x14 => some 2 | 0x15 => some 2 | 0x16 => some 2
  | 0x20 => some 2 | 0x21 => some 2 | 0x22 => some 2 | 0x23 => some 2 | 0x24 => some 2 | 0x25 => some 2 | 0x26 => some 2
  | 0x30 => some 2 | 0x31 => some 2 | 0x32 => some 2 | 0x33 => some 2 | 0x34 => some 2 | 0x35 => some 2
  | 0x40 => some 2 | 0x41 => some 2 | 0x42 => some 2
  | 0x50 => some 2 | 0x51 => some 2 | 0x52 => some 2 | 0x53 => some 2
  | _ => none

/-! ### Handle lookup (R95 check 5, R106) -/

inductive Life where
  | live | ending | stale
deriving DecidableEq, Repr

/-- Request states of R267. -/
def rsADMIT_WAIT : Nat := 1
def rsQUEUED : Nat := 2
def rsPREFILL : Nat := 3
def rsDECODE : Nat := 4
def rsSTALLED : Nat := 5
def rsSPILLED : Nat := 6
def rsDRAINING : Nat := 7
def rsDONE : Nat := 8

/-- Object states of R130. -/
def osLOADING : Nat := 0
def osSEALING : Nat := 1
def osREADY : Nat := 2
def osQUARANTINED : Nat := 3
def osLOST : Nat := 4
def osDESTROYING : Nat := 5

/-- Starter states. -/
def stBUILDING : Nat := 0
def stREADY : Nat := 1
def stRELEASED : Nat := 2
def stLOST : Nat := 3

/-- Does a handle match a live object, one that has ended or is being destroyed, or none (R95, R106)? -/
def State.life (s : State) (h : Nat) : Life :=
  let t := hTerr h
  match s.terrace t with
  | none => .stale
  | some te =>
    let i := hIndex h
    let ty := hType h
    if hGen h ≠ s.genOf t ty i then .stale
    else if ty = tyTerrace then
      if i ≠ 0 then .stale else if te.destroying.isSome then .ending else .live
    else if ty ≤ tyProfile then
      match te.objs.get (hKey h) with
      | some o => if o.state = osDESTROYING then .ending else .live
      | none => .stale
    else if ty = tyStarter then
      match te.starters.get i with
      | some x =>
        let y := (x.other.bind te.starters.get).getD x
        if y.state = stRELEASED || y.cancel then .ending else .live
      | none => .stale
    else if ty = tyReq then
      match te.reqs.get i with
      | some r => if r.build.isSome then .stale else if rsDRAINING ≤ r.state || r.cancel then .ending else .live
      | none => .stale
    else if ty = tyTok then
      match te.toks.get i with
      | some x => if x.closing || x.err.isSome then .ending else .live
      | none => .stale
    else if ty = tyStream then
      match te.streams.get i with
      | some x => if x.closing.isSome then .ending else .live
      | none => .stale
    else if ty = tySync then (if (te.syncs.get i).isSome then .live else .stale)
    else if ty = tyPool then (if i = 0 && te.pool.isSome then .live else .stale)
    else .stale

/-- A handle field: offset, the types it accepts, whether 0x0000_0000 passes as "none", and whether an object whose
end is under way passes (R106). -/
structure HField where
  off      : Nat
  types    : List Nat
  nullOk   : Bool := false
  observer : Bool := false
deriving DecidableEq, Repr

/-- Check 5 of R95 for a handle value. `own` is the mailbox's terrace, absent on the management mailbox. -/
def State.checkHandle (s : State) (own : Option Nat) (f : HField) (h : Nat) : Chk :=
  if f.nullOk && h = 0 then none
  else if !f.nullOk && hGen h = 0 then some (stBAD_FIELD, f.off)
  else if s.badTerr (hTerr h) then some (stSTALE_HANDLE, noField)
  else if own.isSome && own ≠ some (hTerr h) then some (stWRONG_TERRACE, noField)
  else if !f.types.contains (hType h) then some (stBAD_FIELD, f.off)
  else match s.life h with
    | .stale => some (stSTALE_HANDLE, noField)
    | .ending => if f.observer then none else some (stNOT_ACTIVE, noField)
    | .live => none

def State.checkHandles (s : State) (own : Option Nat) (b : Bytes) (base : Nat) : List HField → Chk
  | [] => none
  | f :: r =>
    match s.checkHandle own f (rd b (f.off - base) 4) with
    | some e => some e
    | none => s.checkHandles own b base r

/-! ### Reserved fields (R21, R24) -/

/-- A reserved field of `size` bytes at `off`. DEDUCED, log entry 20. -/
def rz (c : Bytes) (off size : Nat) : Chk := field (rd c off size == 0) off

/-- Reserved bits `mask` of the field of `size` bytes at `off`. DEDUCED, log entry 20. -/
def rm (c : Bytes) (off size mask : Nat) : Chk := field (rd c off size &&& mask == 0) off

/-- A code above `top` is reserved (R24). DEDUCED, log entry 20. -/
def rc (c : Bytes) (off top : Nat) : Chk := field (decide (rd c off 1 ≤ top)) off

/-- The shape of an opcode: its code, whether HANDLE is unused, the reserved fields of its body and of XBODY, its handle
fields, and its host-memory address fields with whether it always names host memory (R110). DEDUCED, log entry 19. DEDUCED,
log entry 21. -/
structure Shape where
  op      : Nat
  noHandle : Bool := false
  body    : Bytes → List Chk := fun _ => []
  xbody   : Bytes → List Chk := fun c => [rz c 48 16]
  handles : Bytes → List HField := fun _ => []
  addrs   : List Nat := []
  hostMem : Bool := false

/-- The mailbox's own terrace. -/
def srcOwn : Src → Option Nat
  | .terrace n => some n
  | _ => none

/-- Check 2 of R95, the sideband's R110 and the erased block's R527 with it (DEDUCED, log entry 11). -/
def State.checkMailbox (s : State) (src : Src) (sh : Shape) (c : Bytes) : Chk :=
  let where_ := (opWhere sh.op).getD 0
  match src with
  | .terrace n =>
    Chk.first [cond (where_ != 1) stNOT_PERMITTED,
      cond (sh.op != 0x09 || bits (rd c 25 1) 0 5 == n) stNOT_PERMITTED,
      cond ((s.terrace n).isSome || sh.op == 0x01) stSTALE_HANDLE]
  | _ =>
    Chk.first [cond (where_ != 2) stNOT_PERMITTED,
      cond (!s.erasedMode || sh.op == 0x01 || sh.op == 0x09 || sh.op == 0x07 || (sh.op == 0x06 && rd c 16 1 == 5))
        stNOT_PERMITTED,
      cond (src != .sideband || (!sh.hostMem && sh.addrs.all (fun a => rd c a 8 == 0))) stNOT_PERMITTED]

/-- May the sender set EXP (R90)? DEDUCED, log entry 18. -/
def State.expOk (s : State) (src : Src) : Bool :=
  match src with
  | .terrace n => match s.terrace n with | some te => te.expert | none => false
  | _ => true

/-- Checks 2 to 5 of R95 on the 64 bytes. DEDUCED, log entry 22. -/
def State.intakeChk (s : State) (src : Src) (sh : Shape) (c : Bytes) : Chk :=
  Chk.first ([s.checkMailbox src sh c, rm c 1 1 0xF8, rz c 2 2, if sh.noHandle then rz c 8 4 else none, rz c 12 4]
    ++ sh.body c ++ (if cExp c then sh.xbody c else [rz c 48 16])
    ++ [cond (!cExp c || s.expOk src) stNOT_PERMITTED,
        s.checkHandles (srcOwn src) c 0 (sh.handles c)])

/-! ### Taking an entry -/

/-- How far a ring index stands behind SQ_HEAD. -/
def Mailbox.ahead_ (m : Mailbox) (i : Nat) : Nat := (i + 2 ^ m.sqLog - m.sqHead) % 2 ^ m.sqLog

/-- The index lies from SQ_HEAD up to but not including the tail last written (R79). -/
def Mailbox.inRange (m : Mailbox) (i : Nat) : Bool := m.ahead_ i < m.ahead_ m.sqTail.toNat

/-- The entry at SQ_HEAD is announced and has been read ahead, credits allow it, no management command is open and FENCE is
satisfied (R79, R83, R91, R111). DEDUCED, log entry 27. -/
def Mailbox.ready (m : Mailbox) (c : Bytes) : Bool :=
  m.enable && !m.error && m.inRange m.sqHead && m.ahead.get m.sqHead == some c && 2 ≤ m.free && !m.busy
    && (!cFence c || m.live == 0)

/-- Wellhead's slot still runs: work dispatched at its end belongs to the next (R459). -/
def State.slotOpen (s : State) : Bool := s.tick < s.sched.start + s.sched.len

/-- Is the source served in the running slot (R33, R104, R449, R458, R467)? -/
def State.served (s : State) (src : Src) : Bool :=
  match src with
  | .terrace n => match s.terrace n with
    | some te => s.sched.turn == some n && te.destroying.isNone
    | none => s.sched.turn == none
  | _ => s.sched.turn == none

/-- A ring command waits on the management mailbox. -/
def State.mgmtRingReady (s : State) : Bool :=
  let m := s.mailbox 16
  match m.ahead.get m.sqHead with
  | some c => m.ready c
  | none => false

/-- Arrival tick of the entry at SQ_HEAD of a mailbox: that of the doorbell which covers it (R87). -/
def State.ringArrival (s : State) (mb : Nat) : Tick :=
  (((s.mailbox mb).bells.find? (fun b => b.1 != (s.mailbox mb).sqHead)).map (·.2)).getD s.tick

/-- A GO waits that came before the ring's command, with nothing else in its way: FENCE waits for the management mailbox's
commands, sideband commands among them (R91, R109, R111). DEDUCED, log entry 27. -/
def State.sbReady (s : State) : Bool :=
  !(s.mailbox 16).busy && s.sb.queued && (!cFence s.sb.cmd || (s.mailbox 16).live == 0)

/-- A SYNC_WAIT or SYNC_DESTROY comes after the SYNC_SIGNALs its mailbox sent on the same handle (R103), which are applied
when their tick ends. DEDUCED, log entry 135. -/
def State.signalled (s : State) (src : Src) (c : Bytes) : Bool :=
  (cOp c == 0x52 || cOp c == 0x53) && s.signals.any (fun x => x.ticket.src = src && x.handle = cHandle c)

/-- May this command be taken now? Management commands run one at a time, in the order of arrival, the ring's first where
both came in one tick; none is taken while a POWER_SLEEP has not written its FINAL (R111, R490), and none anywhere while
intake is closed (R491, R523, R527). -/
def State.takeable (s : State) (src : Src) (c : Bytes) : Bool :=
  s.running && !s.intakeClosed && s.slotOpen && s.served src &&
  match src with
  | .terrace n => n < s.cfg.terraces && (s.mailbox n).ready c && !s.signalled src c
  | .mgmt => s.sleep.ticket.isNone && (s.mailbox 16).ready c && (!s.sbReady || s.ringArrival 16 ≤ s.sb.goAt)
  | .sideband => s.sleep.ticket.isNone && s.sbReady && s.sb.cmd == c && (!s.mgmtRingReady || s.sb.goAt < s.ringArrival 16)

/-- Entries announced and not yet read, at most 16 ahead (R79). -/
def State.readAhead (s : State) (mb : Nat) : Nat → State
  | 0 => s
  | n + 1 =>
    let m := s.mailbox mb
    let out := (s.hfp.filter (fun o => match o.kind with
      | .sqRead b e _ => b == mb && e == m.epoch
      | _ => false)).length
    if m.enable && !m.error && m.readNext ≠ m.sqTail.toNat && m.ahead.length + out < 16 then
      ((s.hfpIssue (srcTerr mb) (.sqRead mb m.epoch m.readNext)).modMb mb (fun m =>
        { m with readNext := (m.readNext + 1) % 2 ^ m.sqLog })).readAhead mb n
    else s

/-- Bells whose tail SQ_HEAD has reached are passed (R87). -/
def dropBells (head : Nat) : List (Nat × Tick) → List (Nat × Tick)
  | [] => []
  | b :: r => if b.1 = head then dropBells head r else b :: r

/-- Arrival tick of the entry at SQ_HEAD: that of the doorbell which covers it (R87). -/
def State.arrival (s : State) (src : Src) : Tick :=
  match src with
  | .sideband => s.tick
  | _ => s.ringArrival (srcMb src)

/-- SQ_HEAD moves past the entry; it counts as taken (R79). -/
def State.take (s : State) (src : Src) : State :=
  let s := { s with sched := { s.sched with worked := true } }
  match src with
  | .sideband => { s with sb := { s.sb with queued := false } }.modMb 16 (fun m => { m with live := m.live + 1 })
  | _ =>
    (s.modMb (srcMb src) (fun m =>
      let h := (m.sqHead + 1) % 2 ^ m.sqLog
      { m with ahead := m.ahead.del m.sqHead, sqHead := h, bells := dropBells h m.bells, live := m.live + 1 })).readAhead
        (srcMb src) 16

/-! ### Privileged domains (R502) -/

/-- Opcodes whose effect reads the request table, which stands in PD_TE: terrace, pool, request and Starter commands.
DEDUCED, log entry 97. -/
def needsTe (op : Nat) : Bool := [0x02, 0x03, 0x0C, 0x30, 0x31, 0x32, 0x33, 0x34, 0x35].contains op

/-- Opcodes whose effect searches Riddle rows of bank group 0, in PD_RB0: the Starter directory, and the rows of objects
where the terrace has cores in quad 0. DEDUCED, log entry 97. -/
def State.needsRb0 (s : State) (src : Src) (op : Nat) : Bool :=
  [0x30, 0x34].contains op || ([0x12, 0x13].contains op &&
    (((srcOwn src).bind s.terrace).map (fun te => bits te.desc.coreMask 0 4 != 0)).getD false)

/-- Does the command stall for a domain that is not restored? DEDUCED, log entry 97. -/
def State.domainMissing (s : State) (src : Src) (op : Nat) : Bool :=
  (needsTe op && !s.sleep.teOn) || (s.needsRb0 src op && !s.sleep.rbOn)

/-- The access waits, and the domain's restore is asked for. DEDUCED, log entry 97. -/
def State.awaitDomain (s : State) (src : Src) (op : Nat) : State :=
  { s with sleep := { s.sleep with
    teWait := if needsTe op && !s.sleep.teOn then some (s.sleep.teWait.getD s.tick) else s.sleep.teWait
    rbWait := if s.needsRb0 src op && !s.sleep.rbOn then some (s.sleep.rbWait.getD s.tick) else s.sleep.rbWait } }

/-- Run a command: nothing happens while it cannot be taken, or while it stalls for a domain; otherwise it is taken, checked,
and either refused with the first failing check's status or given its effect. `row` says that the bytes are those of this
row of the table. -/
def State.command (s : State) (sh : Shape) (row : Bool) (src : Src) (c : Bytes) (own : State → Chk)
    (act : State → State) : State :=
  if row && s.takeable src c then
    if s.domainMissing src sh.op then s.awaitDomain src sh.op
    else
      let s' := s.take src
      match s'.intakeChk src sh c with
      | some (st, off) => s'.refuse (ticketOf src c) st off
      | none =>
        match own s' with
        | some (st, off) => s'.refuse (ticketOf src c) st off
        | none => act s'
  else s

/-- The bytes carry the shape's opcode. -/
def Shape.row (sh : Shape) (c : Bytes) : Bool := cOp c == sh.op

end Sys2Proof.Machine
end

