-- ==== Sys2Proof/Machine/Flags.lean ====
section
/-! DEFINITION. Every status word, flag byte and register value the manual defines over the state: the read value of
each register (R12, R74 to R76, R516, R530, R559 to R577) and the flag fields of entries and completions. -/

namespace Sys2Proof.Machine

/-! ### Mailbox registers -/

/-- CQ_STALL: fewer than 2 credits are free (R75, R84). DEDUCED, log entry 114. -/
def Mailbox.cqStall (m : Mailbox) : Bool := m.enable && m.free < 2

/-- MB_STATUS (R75). DEDUCED, log entry 114. -/
def Mailbox.status (m : Mailbox) : Word :=
  BitVec.ofNat 32 (b2n m.enable + 2 * b2n (m.enable && !m.error) + 4 * b2n m.error + 8 * b2n m.cqStall
    + 16 * m.errCode + 65536 * m.sqHead)

/-- Read value of a mailbox page offset (R72). -/
def Mailbox.reg (m : Mailbox) (off : Nat) : Word :=
  match off with
  | 0x000 => m.sqBaseLo | 0x004 => m.sqBaseHi | 0x008 => m.sqSize | 0x00C => m.sqTail
  | 0x010 => m.cqBaseLo | 0x014 => m.cqBaseHi | 0x018 => m.cqSize | 0x01C => m.cqHead
  | 0x020 => m.status | 0x024 => m.irq | 0x028 => m.msiLo | 0x02C => m.msiHi | 0x030 => m.msiData
  | _ => 0

/-! ### The global page -/

/-- KDV_ID (R559). -/
def kdvId : Word := 0x4B444D01

/-- KDV_VERSION: CONFIG, IP_PATCH, IP_MINOR 0x02, IP_MAJOR 0x07 (R12). DESIGN CHOICE, log entry 7. -/
def kdvVersion (c : Cfg) : Word :=
  BitVec.ofNat 32 (16 * c.code + 256 * Config.ipPatch.toNat + 65536 * 2 + 2 ^ 24 * 7)

/-- KDV_CAP0 to KDV_CAP3 (R560). -/
def kdvCap0 (c : Cfg) : Word :=
  BitVec.ofNat 32 (c.cores + 2 ^ 8 * c.bays + 2 ^ 16 * c.terraces + 2 ^ 21 * c.memPorts + 2 ^ 23 * b2n c.hasFlash
    + 2 ^ 24 * b2n c.crustRequired)

def kdvCap1 (c : Cfg) : Word := BitVec.ofNat 32 (c.reqEntries + 2 ^ 16 * c.rowsPerStep)

def kdvCap2 (c : Cfg) : Word := BitVec.ofNat 32 (c.syncObjects + 2 ^ 16 * c.objectSlots)

def kdvCap3 (c : Cfg) : Word :=
  BitVec.ofNat 32 (c.starters / 1024 + 2 ^ 8 * (c.riddleRows / 1024) + 2 ^ 18 * (c.stagingKiB / 1024)
    + 2 ^ 24 * (c.sramMiB / 8))

/-- LCS (R516). -/
def Lcs.word (l : Lcs) : Word :=
  BitVec.ofNat 32 (l.state + 8 * b2n l.otpValid + 16 * b2n l.ready + 32 * b2n l.t2Ready + 64 * b2n l.debugOpen
    + 128 * b2n l.erased + 256 * l.fwErr + 4096 * l.resetCause + 65536 * l.svn)

/-- PWR_LEVEL (R563). -/
def Power.word (p : Power) : Word :=
  BitVec.ofNat 32 (p.vLevel + 8 * b2n p.vAcked + 16 * p.fLevel + 128 * b2n p.fAcked + 256 * p.target
    + 2048 * b2n p.changing + 4096 * b2n p.auto + 65536 * p.levelHi + 2 ^ 20 * p.levelLo)

/-- PWR_STATE (R564). -/
def Sleep.word (l : Sleep) : Word := BitVec.ofNat 32 (l.code + 256 * l.lastWake)

/-- SB_ADDR (R530). -/
def State.sbAddr (s : State) : Word :=
  BitVec.ofNat 32 (s.fuses.sbStatic.toNat + 128 * b2n (s.lcs.otpValid && s.fuses.sbValid) + 256 * s.sb.dynAddr.toNat
    + 32768 * b2n s.sb.dynValid)

/-- IRQ_MODE: mailbox mirrors in [16:0], MODE in [23:17] (R567). -/
def State.irqModeWord (s : State) : Word :=
  BitVec.ofNat 32 (((List.range 17).map (fun n => b2n ((s.mailbox n).irq.getLsbD 1) * 2 ^ n)).foldl (· + ·) 0
    + (s.irq.mode.toNat / 2 ^ 17 % 2 ^ 7) * 2 ^ 17)

/-- IRQ_OUT: wired output n is high while its status bit is 1, its mask bit 0 and its mode wired (R114, R598). -/
def State.irqOut (s : State) : Word :=
  BitVec.ofNat 32 (((List.range 24).map (fun n =>
    b2n (s.irq.status.getLsbD n && !s.irqMasked n && !s.msgMode n) * 2 ^ n)).foldl (· + ·) 0)

/-- CNT_STATUS (R575). -/
def CntWin.status (w : CntWin) : Word := BitVec.ofNat 32 (b2n w.busy + 2 * b2n w.err + 4 * b2n w.valid)

/-- The low and high words of a 64-bit value. -/
def loWord (v : Nat) : Word := BitVec.ofNat 32 v
def hiWord (v : Nat) : Word := BitVec.ofNat 32 (v / 2 ^ 32)

/-- DBG_STATUS word (R525). -/
def State.dbgWord (s : State) : Nat :=
  s.lcs.state + 8 * b2n s.lcs.debugOpen + 16 * b2n s.tap.nonce.isSome + 32 * s.tap.attempts + 128 * b2n s.tap.locked
    + 256 * s.tap.result

/-! ### Flag bytes of requests and completions -/

/-- RFLAGS (R266). -/
def Req.rflags (r : Req) : Nat :=
  b2n r.late + 2 * b2n r.cancel + 4 * b2n r.cancelLate + 8 * b2n r.dropLate + 16 * b2n r.pagesRel
    + 32 * b2n r.stopAtEnd + 64 * b2n r.drawRecs

/-- CPFLAGS of a request's FINAL, PHASE aside (R97, R280). -/
def Req.cpflags (r : Req) : Nat := 2 * b2n r.cancelLate + 4 * b2n r.late

/-- SB_STAT (R108). -/
def Sideband.stat (b : Sideband) : Byte := BitVec.ofNat 8 (b2n b.busy + 2 * b2n b.done + 4 * b2n b.refused)

/-- Arithmetic flags of a row (R71). -/
def afNAN : Nat := 1
def afCLAMP : Nat := 2
def afBREACH : Nat := 4
def afUNDER : Nat := 8

/-- The union of two flag bytes. -/
def afOr (a b : Nat) : Nat := a ||| b

end Sys2Proof.Machine
end

