-- ==== Sys2Proof/Machine/Crypto.lean ====
section
/-! DEFINITION. The published algorithms the manual names, over byte strings: CRC-32C, SHA-2, HMAC, the counter-mode KDF,
SipHash-2-4, AES-256 with its key wrap, XTS and CMAC modes, and ECDSA verification over P-384 (log entry 14). -/

namespace Sys2Proof.Machine

/-- Apply a function `n` times. -/
def iter {α : Type} (f : α → α) : Nat → α → α
  | 0, a => a
  | n + 1, a => iter f n (f a)

/-- Big-endian value of a byte string. -/
def beVal (b : Bytes) : Nat := b.foldl (fun a x => a * 256 + x.toNat) 0

/-- `n` bytes, high byte first. -/
def be (n v : Nat) : Bytes := (le n v).reverse

/-- Cut a byte string into pieces of `k` bytes; `n` bounds their number. -/
def pieces (k : Nat) : Nat → Bytes → List Bytes
  | 0, _ => []
  | n + 1, b => if b.isEmpty then [] else b.take k :: pieces k n (b.drop k)

def xorBytes (a b : Bytes) : Bytes := List.zipWith (· ^^^ ·) a b

/-! ### CRC-32C, the Castagnoli polynomial -/

def crcStep (c : BitVec 32) : BitVec 32 := if c.getLsbD 0 then (c >>> 1) ^^^ 0x82F63B78 else c >>> 1

/-- CRC-32C of a byte string (R126, R517). PRESUMED, log entry 14. -/
def crc32c (b : Bytes) : Nat :=
  (~~~ (b.foldl (fun c x => iter crcStep 8 (c ^^^ BitVec.setWidth 32 x)) (0xFFFFFFFF : BitVec 32))).toNat

/-! ### SHA-2. The constants are the leading fraction bits of square and cube roots of the first primes. -/

/-- The largest `r` with `r ^ k ≤ n`, found bit by bit from bit `b` down. -/
def rootBits (k n : Nat) : Nat → Nat → Nat
  | 0, r => r
  | b + 1, r => let r' := r + 2 ^ b; if r' ^ k ≤ n then rootBits k n b r' else rootBits k n b r

def isPrime (n : Nat) : Bool := 2 ≤ n && (List.range 21).all (fun d => d < 2 || n ≤ d || n % d != 0)

/-- The first 80 primes: `isPrime` tries divisors up to 20, enough below 441. -/
def primes : List Nat := ((List.range 410).filter isPrime).take 80

def fracSqrt (w p : Nat) : Nat := rootBits 2 (p * 2 ^ (2 * w)) (w + 6) 0 % 2 ^ w
def fracCbrt (w p : Nat) : Nat := rootBits 3 (p * 2 ^ (3 * w)) (w + 6) 0 % 2 ^ w

/-- The variant of a SHA-2 function: word bits, rounds, rotation amounts of Σ0 Σ1 σ0 σ1 (the last of each σ a shift). -/
structure Sha where
  w  : Nat
  n  : Nat
  s0 : Nat × Nat × Nat
  s1 : Nat × Nat × Nat
  t0 : Nat × Nat × Nat
  t1 : Nat × Nat × Nat

def sha32 : Sha := ⟨32, 64, (2, 13, 22), (6, 11, 25), (7, 18, 3), (17, 19, 10)⟩
def sha64 : Sha := ⟨64, 80, (28, 34, 39), (14, 18, 41), (1, 8, 7), (19, 61, 6)⟩

def rotr (w x n : Nat) : Nat := (x / 2 ^ n + x * 2 ^ (w - n)) % 2 ^ w

def Sha.big (h : Sha) (r : Nat × Nat × Nat) (x : Nat) : Nat := rotr h.w x r.1 ^^^ rotr h.w x r.2.1 ^^^ rotr h.w x r.2.2
def Sha.small (h : Sha) (r : Nat × Nat × Nat) (x : Nat) : Nat := rotr h.w x r.1 ^^^ rotr h.w x r.2.1 ^^^ (x / 2 ^ r.2.2)

/-- Message schedule, newest word first. -/
def Sha.expand (h : Sha) : Nat → List Nat → List Nat
  | 0, ws => ws
  | k + 1, ws =>
    h.expand k (((h.small h.t1 (ws.getD 1 0) + ws.getD 6 0 + h.small h.t0 (ws.getD 14 0) + ws.getD 15 0) % 2 ^ h.w) :: ws)

/-- One round over the eight working values. -/
def Sha.round (h : Sha) (v : List Nat) (kw : Nat) : List Nat :=
  let m := 2 ^ h.w
  let a := v.getD 0 0; let b := v.getD 1 0; let c := v.getD 2 0; let d := v.getD 3 0
  let e := v.getD 4 0; let f := v.getD 5 0; let g := v.getD 6 0; let x := v.getD 7 0
  let ch := (e &&& f) ^^^ ((m - 1 - e) &&& g)
  let t1 := x + h.big h.s1 e + ch + kw
  let maj := (a &&& b) ^^^ (a &&& c) ^^^ (b &&& c)
  [(t1 + h.big h.s0 a + maj) % m, a, b, c, (d + t1) % m, e, f, g]

def Sha.block (h : Sha) (ks : List Nat) (st : List Nat) (b : Bytes) : List Nat :=
  let ws := (h.expand (h.n - 16) ((pieces (h.w / 8) 16 b).map beVal).reverse).reverse
  let v := (List.zipWith (· + ·) ks ws).foldl h.round st
  List.zipWith (fun a x => (a + x) % 2 ^ h.w) st v

def Sha.pad (h : Sha) (b : Bytes) : Bytes :=
  let blk := 2 * h.w
  let z := (blk - (b.length + 1 + h.w / 4) % blk) % blk
  b ++ [0x80] ++ zeros z ++ be (h.w / 4) (8 * b.length)

def Sha.run (h : Sha) (init : List Nat) (out : Nat) (b : Bytes) : Bytes :=
  let ks := (primes.take h.n).map (fracCbrt h.w)
  let p := h.pad b
  (((pieces (2 * h.w) (p.length / (2 * h.w)) p).foldl (h.block ks) init).flatMap (be (h.w / 8))).take out

/-- SHA-256 (R126, R312). PRESUMED, log entry 14. -/
def sha256 (b : Bytes) : Bytes := sha32.run ((primes.take 8).map (fracSqrt 32)) 32 b
/-- SHA-384 (R514, R526). PRESUMED, log entry 14. -/
def sha384 (b : Bytes) : Bytes := sha64.run (((primes.drop 8).take 8).map (fracSqrt 64)) 48 b

/-- HMAC-SHA-256. PRESUMED, log entry 14. -/
def hmac256 (key msg : Bytes) : Bytes :=
  let k := if 64 < key.length then sha256 key else key
  let k := k ++ zeros (64 - k.length)
  sha256 (k.map (· ^^^ 0x5C) ++ sha256 (k.map (· ^^^ 0x36) ++ msg))

/-- The key-encryption key of R466: one block of the SP 800-108 counter-mode KDF with label `KDV-TKEK` and the terrace
number and lifecycle code as context; 32-bit counter first, 32-bit length last (PRESUMED, log entry 14). -/
def tkek (root : Bytes) (terr lcs : Nat) : Bytes :=
  hmac256 root (be 4 1 ++ ascii "KDV-TKEK" ++ [0] ++ le 1 terr ++ le 1 lcs ++ be 4 256)

/-! ### SipHash-2-4 -/

def rotl64 (x : BitVec 64) (n : Nat) : BitVec 64 := x.rotateLeft n

def sipRound (v : BitVec 64 × BitVec 64 × BitVec 64 × BitVec 64) : BitVec 64 × BitVec 64 × BitVec 64 × BitVec 64 :=
  let (v0, v1, v2, v3) := v
  let v0 := v0 + v1
  let v1 := rotl64 v1 13 ^^^ v0
  let v0 := rotl64 v0 32
  let v2 := v2 + v3
  let v3 := rotl64 v3 16 ^^^ v2
  let v0 := v0 + v3
  let v3 := rotl64 v3 21 ^^^ v0
  let v2 := v2 + v1
  let v1 := rotl64 v1 17 ^^^ v2
  let v2 := rotl64 v2 32
  (v0, v1, v2, v3)

/-- SipHash-2-4 (R168). PRESUMED, log entry 14. -/
def sipHash (key : BitVec 128) (b : Bytes) : BitVec 64 :=
  let k0 : BitVec 64 := key.extractLsb' 0 64
  let k1 : BitVec 64 := key.extractLsb' 64 64
  let init := (k0 ^^^ 0x736f6d6570736575, k1 ^^^ 0x646f72616e646f6d, k0 ^^^ 0x6c7967656e657261, k1 ^^^ 0x7465646279746573)
  let last := BitVec.ofNat 64 (leVal 7 (b.drop (b.length / 8 * 8)) + b.length % 256 * 2 ^ 56)
  let ws := (List.range (b.length / 8)).map (fun i => BitVec.ofNat 64 (rd b (8 * i) 8)) ++ [last]
  let absorb := fun (v : BitVec 64 × BitVec 64 × BitVec 64 × BitVec 64) (m : BitVec 64) =>
    let (v0, v1, v2, v3) := v
    let (v0, v1, v2, v3) := iter sipRound 2 (v0, v1, v2, v3 ^^^ m)
    (v0 ^^^ m, v1, v2, v3)
  let (v0, v1, v2, v3) := ws.foldl absorb init
  let (v0, v1, v2, v3) := iter sipRound 4 (v0, v1, v2 ^^^ 0xFF, v3)
  v0 ^^^ v1 ^^^ v2 ^^^ v3

/-! ### AES-256 -/

/-- Multiplication by x in GF(2^8). -/
def xtime (a : Byte) : Byte := if a.getLsbD 7 then (a <<< 1) ^^^ 0x1B else a <<< 1

def gmul (a b : Byte) : Byte :=
  ((List.range 8).foldl (fun (p : Byte × Byte) i => (if b.getLsbD i then p.1 ^^^ p.2 else p.1, xtime p.2)) (0, a)).1

/-- The inverse in GF(2^8), as a^254. -/
def ginv (a : Byte) : Byte :=
  let a2 := gmul a a; let a4 := gmul a2 a2; let a8 := gmul a4 a4; let a16 := gmul a8 a8
  let a32 := gmul a16 a16; let a64 := gmul a32 a32; let a128 := gmul a64 a64
  gmul a2 (gmul a4 (gmul a8 (gmul a16 (gmul a32 (gmul a64 a128)))))

def subByte (a : Byte) : Byte :=
  let b := ginv a
  b ^^^ b.rotateLeft 1 ^^^ b.rotateLeft 2 ^^^ b.rotateLeft 3 ^^^ b.rotateLeft 4 ^^^ 0x63

def invSubByte (a : Byte) : Byte :=
  ginv (a.rotateLeft 1 ^^^ a.rotateLeft 3 ^^^ a.rotateLeft 6 ^^^ 0x05)

/-- Round-key words of AES-256, oldest first: `n` more words after those given. -/
def aesExpand : Nat → Nat → List Bytes → List Bytes
  | 0, _, ws => ws
  | n + 1, i, ws =>
    let t := ws.getD (i - 1) []
    let t := if i % 8 = 0 then xorBytes ((t.drop 1 ++ t.take 1).map subByte) (iter xtime (i / 8 - 1) (1 : Byte) :: [0, 0, 0])
      else if i % 8 = 4 then t.map subByte else t
    aesExpand n (i + 1) (ws ++ [xorBytes (ws.getD (i - 8) []) t])

/-- The fifteen round keys. -/
def aesKeys (key : Bytes) : List Bytes :=
  let ws := aesExpand 52 8 (pieces 4 8 key)
  (List.range 15).map (fun r => (List.range 4).flatMap (fun c => ws.getD (4 * r + c) []))

def shiftRows (s : Bytes) : Bytes := (List.range 16).map (fun i => s.getD ((i + 4 * (i % 4)) % 16) 0)
def invShiftRows (s : Bytes) : Bytes := (List.range 16).map (fun i => s.getD ((i + 12 * (i % 4)) % 16) 0)

/-- Multiply each column by a circulant matrix whose first row is `m`. -/
def mixCols (m : List Byte) (s : Bytes) : Bytes :=
  (List.range 16).map (fun i =>
    (List.range 4).foldl (fun a j => a ^^^ gmul (m.getD ((j + 4 - i % 4) % 4) 0) (s.getD (i / 4 * 4 + j) 0)) 0)

/-- AES-256 of one block (R464). PRESUMED, log entry 14. -/
def aesEnc (ks : List Bytes) (b : Bytes) : Bytes :=
  let s := (List.range 13).foldl (fun s r =>
    xorBytes (mixCols [2, 3, 1, 1] (shiftRows (s.map subByte))) (ks.getD (r + 1) [])) (xorBytes b (ks.getD 0 []))
  xorBytes (shiftRows (s.map subByte)) (ks.getD 14 [])

/-- The inverse cipher (R466). PRESUMED, log entry 14. -/
def aesDec (ks : List Bytes) (b : Bytes) : Bytes :=
  let s := (List.range 13).foldl (fun s r =>
    mixCols [14, 11, 13, 9] (xorBytes ((invShiftRows s).map invSubByte) (ks.getD (13 - r) []))) (xorBytes b (ks.getD 14 []))
  xorBytes ((invShiftRows s).map invSubByte) (ks.getD 0 [])

/-- One inner step of AES-KW unwrapping: step number `t` and the register it works on. -/
def kwStep (ks : List Bytes) (n : Nat) (st : Bytes × List Bytes) (t : Nat) : Bytes × List Bytes :=
  let i := (t - 1) % n
  let a := xorBytes st.1 (be 8 t)
  let x := aesDec ks (a ++ st.2.getD i [])
  (x.take 8, setAt i (fun _ => x.drop 8) st.2)

/-- AES-KW unwrapping (SP 800-38F): the key data, or none where the integrity value is wrong. PRESUMED, log entry 14. -/
def aesUnwrap (kek blob : Bytes) : Option Bytes :=
  let ps := pieces 8 (blob.length / 8) blob
  let n := ps.length - 1
  let ks := aesKeys kek
  let r := ((List.range (6 * n)).map (fun k => 6 * n - k)).foldl (kwStep ks n) (ps.headD [], ps.tail)
  if r.1 = List.replicate 8 0xA6 then some r.2.flatten else none

/-- Multiply an XTS tweak by x, little-endian (IEEE 1619). -/
def xtsDouble (t : Nat) : Nat := if t < 2 ^ 127 then 2 * t else (2 * t) % 2 ^ 128 ^^^ 0x87

/-- XTS-AES-256 of one 64-byte line at an address: the tweak is the address divided by 64 (R465). PRESUMED, log entry 14.
DEDUCED, log entry 32. -/
def lineCipher (xtsKey : Bytes) (addr : Nat) (line : Bytes) : Bytes :=
  let ks := aesKeys (xtsKey.take 32)
  let t := leVal 16 (aesEnc (aesKeys (xtsKey.drop 32)) (le 16 (addr / 64)))
  (List.range 4).flatMap (fun i =>
    let ti := le 16 (iter xtsDouble i t)
    xorBytes (aesEnc ks (xorBytes (slice line (16 * i) 16) ti)) ti)

/-- Doubling of a CMAC subkey, big-endian (SP 800-38B). -/
def cmacDouble (b : Bytes) : Bytes :=
  let v := beVal b
  be 16 (if v < 2 ^ 127 then 2 * v else (2 * v) % 2 ^ 128 ^^^ 0x87)

/-- AES-256-CMAC. PRESUMED, log entry 14. -/
def cmac (key msg : Bytes) : Bytes :=
  let ks := aesKeys key
  let k1 := cmacDouble (aesEnc ks (zeros 16))
  let n := max 1 (ceilDiv msg.length 16)
  let lastB := msg.drop (16 * (n - 1))
  let last := if lastB.length = 16 then xorBytes lastB k1
    else xorBytes (lastB ++ [0x80] ++ zeros (15 - lastB.length)) (cmacDouble k1)
  aesEnc ks (xorBytes ((pieces 16 (n - 1) (msg.take (16 * (n - 1)))).foldl (fun x b => aesEnc ks (xorBytes x b)) (zeros 16)) last)

/-- A line's integrity tag: bits [31:0] of the CMAC over ciphertext and 8-byte address (R465). DEDUCED, log entry 32. -/
def lineTag (tagKey cipher : Bytes) (addr : Nat) : Nat := rd (cmac tagKey (cipher ++ le 8 addr)) 0 4

/-! ### CTR_DRBG of SP 800-90A with AES-256 and the derivation function (R415). PRESUMED, log entry 14. -/

/-- A 16-byte big-endian counter after `n` steps. -/
def ctrPlus (v : Bytes) (n : Nat) : Bytes := be 16 ((beVal v + n) % 2 ^ 128)

/-- `n` blocks of output behind counter `v`. -/
def ctrBlocks (ks : List Bytes) (v : Bytes) (n : Nat) : Bytes :=
  (List.range n).flatMap (fun i => aesEnc ks (ctrPlus v (i + 1)))

/-- Key and counter after an update with 48 bytes of provided data. -/
def ctrUpdate (key v data : Bytes) : Bytes × Bytes :=
  let x := xorBytes (ctrBlocks (aesKeys key) v 3) data
  (x.take 32, x.drop 32)

/-- The chaining function of the derivation function. -/
def cbcMac (ks : List Bytes) (msg : Bytes) : Bytes :=
  (pieces 16 (ceilDiv msg.length 16) msg).foldl (fun a b => aesEnc ks (xorBytes a b)) (zeros 16)

/-- The derivation function: 48 bytes from a string. -/
def ctrDf (input : Bytes) : Bytes :=
  let s := be 4 input.length ++ be 4 48 ++ input ++ [0x80]
  let s := s ++ zeros ((16 - s.length % 16) % 16)
  let ks := aesKeys ((List.range 32).map (fun i => BitVec.ofNat 8 i))
  let t := (List.range 3).flatMap (fun i => cbcMac ks (be 4 i ++ zeros 12 ++ s))
  let kx := aesKeys (t.take 32)
  let x1 := aesEnc kx (t.drop 32)
  let x2 := aesEnc kx x1
  x1 ++ x2 ++ aesEnc kx x2

/-- Key and counter of a new instance, and after a reseed. PRESUMED, log entry 14. -/
def ctrInstantiate (entropy nonce pers : Bytes) : Bytes × Bytes := ctrUpdate (zeros 32) (zeros 16) (ctrDf (entropy ++ nonce ++ pers))
def ctrReseed (key v entropy : Bytes) : Bytes × Bytes := ctrUpdate key v (ctrDf entropy)

/-- One Generate request: `n` blocks of output, and the key and counter that follow. PRESUMED, log entry 14. -/
def ctrGenerate (key v : Bytes) (n : Nat) : Bytes × Bytes × Bytes :=
  (ctrBlocks (aesKeys key) v n, ctrUpdate key (ctrPlus v n) (zeros 48))

/-! ### ECDSA over P-384 (FIPS 186-5) -/

def p384p : Nat := 2 ^ 384 - 2 ^ 128 - 2 ^ 96 + 2 ^ 32 - 1
def p384n : Nat := 0xffffffffffffffffffffffffffffffffffffffffffffffffc7634d81f4372ddf581a0db248b0a77aecec196accc52973
def p384b : Nat := 0xb3312fa7e23ee7e4988e056be3f82d19181d9c6efe8141120314088f5013875ac656398d8a2ed19d2a85c8edd3ec2aef
def p384gx : Nat := 0xaa87ca22be8b05378eb1c71ef320ad746e1d3b628ba79b9859f741e082542a385502f25dbf55296c3a545e3872760ab7
def p384gy : Nat := 0x3617de4a96262c6f5d9e98bf9292dc29f8f41dbd289a147ce9da3113b5f0b8c00a60b1ce1d7e819d7a431d7c90ea0e5f

/-- `a ^ e` modulo `m`, over the low `n` bits of `e`. -/
def powMod (m : Nat) : Nat → Nat → Nat → Nat
  | 0, _, _ => 1
  | n + 1, a, e => let r := powMod m n (a * a % m) (e / 2); if e % 2 = 1 then a * r % m else r

def invMod (m a : Nat) : Nat := powMod m 384 (a % m) (m - 2)

/-- Point addition on the curve; `none` is the point at infinity. -/
def p384add (a b : Option (Nat × Nat)) : Option (Nat × Nat) :=
  match a, b with
  | none, b => b
  | a, none => a
  | some (x1, y1), some (x2, y2) =>
    let p := p384p
    if x1 = x2 ∧ (y1 + y2) % p = 0 then none
    else
      let l := if x1 = x2 then (3 * x1 * x1 + (p - 3)) * invMod p (2 * y1) % p
        else (y2 + p - y1) * invMod p (x2 + p - x1) % p
      let x3 := (l * l + 2 * p - x1 - x2) % p
      some (x3, (l * (x1 + p - x3) + (p - y1)) % p)

def p384mul : Nat → Nat → Option (Nat × Nat) → Option (Nat × Nat)
  | 0, _, _ => none
  | n + 1, k, q =>
    let r := p384mul n (k / 2) (p384add q q)
    if k % 2 = 1 then p384add q r else r

/-- A public key is a point of the curve other than infinity. -/
def p384valid (q : Nat × Nat) : Bool :=
  q.1 < p384p && q.2 < p384p && q.2 * q.2 % p384p == (q.1 * q.1 * q.1 + (p384p - 3) * q.1 + p384b) % p384p

/-- Verify (r, s) over a SHA-384 digest. PRESUMED, log entry 14. -/
def ecdsaVerify (q : Nat × Nat) (digest : Bytes) (r s : Nat) : Bool :=
  p384valid q && 0 < r && r < p384n && 0 < s && s < p384n &&
  (let w := invMod p384n s
   let e := beVal digest
   match p384add (p384mul 384 (e * w % p384n) (some (p384gx, p384gy))) (p384mul 384 (r * w % p384n) (some q)) with
   | some (x, _) => x % p384n == r
   | none => false)

end Sys2Proof.Machine
end

