-- ==== Sys2Proof/Machine/Riddle.lean ====
section
/-! DEFINITION. The Riddle associative store (R157 to R185): rows and their parity, key hashes, search issues, row updates,
ordered regions with holes, compaction, and the regions of a terrace. -/

namespace Sys2Proof.Machine

/-- Region kinds (R161). -/
def rkVOCAB : Nat := 1
def rkCONTROL : Nat := 2
def rkSTOP : Nat := 3
def rkSTARTER : Nat := 4
def rkPASSAGE : Nat := 5
def rkECHO : Nat := 6

/-- RSTATE codes (R157). -/
def rrEMPTY : Nat := 0
def rrPENDING : Nat := 1
def rrVALID : Nat := 2

/-! ### Rows (R157, R158) -/

def RRow.keyLen (r : RRow) : Nat := r.kl.toNat
def RRow.value (r : RRow) : Nat := r.val.toNat
def RRow.aux (r : RRow) : Nat := r.ax.toNat
def RRow.rstate (r : RRow) : Nat := r.rs.toNat

/-- The 96 bits of a row. -/
def RRow.word (r : RRow) : BitVec 96 := r.rs ++ r.ax ++ r.val ++ r.kl ++ r.fp ++ r.pre

/-- The bit that makes a 32-bit word's ones even in number (R532). -/
def parity32 (w : BitVec 32) : Bool :=
  let a := w ^^^ (w >>> 16)
  let b := a ^^^ (a >>> 8)
  let c := b ^^^ (b >>> 4)
  let d := c ^^^ (c >>> 2)
  (d ^^^ (d >>> 1)).getLsbD 0

/-- The parity bits that belong to a row's content, word 0 in bit 0 (R157, R532). -/
def RRow.parity (r : RRow) : BitVec 3 :=
  BitVec.ofNat 3 (b2n (parity32 (r.word.extractLsb' 0 32)) + 2 * b2n (parity32 (r.word.extractLsb' 32 32))
    + 4 * b2n (parity32 (r.word.extractLsb' 64 32)))

/-- Parity is right and RSTATE is not the reserved code, which counts as a parity error (R158). -/
def RRow.sound (r : RRow) : Bool := r.par == r.parity && r.rs != 3

/-- A write to the row writes its parity bits too. -/
def RRow.write (r : RRow) : RRow := { r with par := r.parity }

/-- RSTATE changes, and nothing else. -/
def RRow.setState (r : RRow) (st : Nat) : RRow := { r with rs := BitVec.ofNat 2 st }.write

def emptyRow : RRow := ⟨0, 0, 0, 0, 0, 0, 0⟩

/-- A VALID row for a key's hash and length (R157, R168). -/
def mkRow (h : BitVec 64) (len value aux : Nat) : RRow :=
  RRow.write ⟨h.extractLsb' 0 16, h.extractLsb' 16 40, BitVec.ofNat 8 len, BitVec.ofNat 24 value, BitVec.ofNat 6 aux, 2, 0⟩

/-! ### Keys (R168) -/

/-- What a key hash is taken over: STOP and ECHO keys are tagged with the request handle. -/
def keyMsg (tag : Option Handle) (key : Bytes) : Bytes :=
  match tag with
  | some h => le 4 h ++ key
  | none => key

def keyHash (salt : BitVec 128) (tag : Option Handle) (key : Bytes) : BitVec 64 := sipHash salt (keyMsg tag key)

/-! ### Search issues (R170 to R172) -/

/-- A probe: the key hash, the key length, and the key with its tag for verification. -/
structure Probe where
  hash : BitVec 64
  len  : Nat
  msg  : Bytes
deriving DecidableEq, Repr

def mkProbe (salt : BitVec 128) (tag : Option Handle) (key : Bytes) : Probe :=
  ⟨keyHash salt tag key, key.length, keyMsg tag key⟩

/-- Is the row a candidate of the probe: VALID, of equal length, pre-filter and fingerprint? -/
def Probe.candidate (p : Probe) (r : RRow) : Bool :=
  r.sound && r.rstate = rrVALID && r.keyLen = p.len && r.pre = p.hash.extractLsb' 0 16 && r.fp = p.hash.extractLsb' 16 40

/-- The candidates of an issue by row number, from row `lo` on, each with the key its probe carries. -/
def candidates (rows : List RRow) (lo : Nat) (ps : List Probe) : List (Nat × RRow × Bytes) :=
  ((List.range rows.length).zip rows).filterMap (fun x =>
    if x.1 < lo then none else (ps.find? (fun p => p.candidate x.2)).map (fun p => (x.1, x.2, p.msg)))

/-- What one issue returns: verified matches by row number, the MORE flag, and the candidates whose key differed. -/
structure Found where
  hits : List (Nat × RRow)
  more : Bool
  miss : Nat

/-- Verify candidates in row order, up to `most` matches; `src` reads a row's full key with its tag at its source (R169). A
match whose VALUE was returned before is suppressed. -/
def verify (src : RRow → Option Bytes) (most : Nat) : List (Nat × RRow × Bytes) → List (Nat × RRow) → List (Nat × RRow) → Nat → Found
  | [], _, acc, n => ⟨acc.reverse, false, n⟩
  | (i, r, m) :: rest, seen, acc, n =>
    if src r != some m then verify src most rest seen acc (n + 1)
    else if (seen ++ acc).any (fun x => x.2.value = r.value) then verify src most rest seen acc n
    else if most ≤ acc.length then ⟨acc.reverse, true, n⟩
    else verify src most rest seen ((i, r) :: acc) n

def RWork.add (a b : RWork) : RWork := ⟨a.searches + b.searches, a.probes + b.probes, a.falseHits + b.falseHits⟩

/-- A FIRST-mode issue: the verified match in the lowest-numbered row among all probes, or a miss. -/
def searchFirst (rows : List RRow) (ps : List Probe) (src : RRow → Option Bytes) : Option (Nat × RRow) × RWork :=
  if ps.isEmpty then (none, {})
  else
    let cs := candidates rows 0 ps
    let bad := cs.takeWhile (fun c => src c.2.1 != some c.2.2)
    ((cs[bad.length]?).map (fun c => (c.1, c.2.1)), ⟨1, ps.length, bad.length⟩)

/-- An ALL-mode search: issues of up to 16 matches, continued behind the last row returned while MORE is set; `fuel` bounds
them. -/
def searchAllFrom (rows : List RRow) (ps : List Probe) (src : RRow → Option Bytes) : Nat → Nat → List (Nat × RRow) →
    List (Nat × RRow) × RWork
  | 0, _, seen => (seen, {})
  | fuel + 1, lo, seen =>
    let f := verify src 16 (candidates rows lo ps) seen [] 0
    let w : RWork := ⟨1, ps.length, f.miss⟩
    if f.more then
      let x := searchAllFrom rows ps src fuel (((f.hits.getLast?).map (·.1)).getD lo + 1) (seen ++ f.hits)
      (x.1, w.add x.2)
    else (seen ++ f.hits, w)

def searchAll (rows : List RRow) (ps : List Probe) (src : RRow → Option Bytes) : List (Nat × RRow) × RWork :=
  if ps.isEmpty then ([], {}) else searchAllFrom rows ps src (rows.length + 1) 0 []

/-- Probes in issues of at most 16 (R170). -/
def issues {α : Type} : Nat → List α → List (List α)
  | 0, _ => []
  | _ + 1, [] => []
  | n + 1, l => l.take 16 :: issues n (l.drop 16)

/-- Count searches at a bank group's quad. An issue waits at most one cycle for an update step; which of them do is a free
value (R176, R185; DESIGN CHOICE, log entry 142). -/
def State.searched (s : State) (t loc : Nat) (w : RWork) : State :=
  let s' := { s with fresh := s.fresh + 1 }
  (((s'.count cRIDDLE_SEARCH t loc w.searches).count cRIDDLE_PROBE t loc w.probes).count cRIDDLE_FALSE_HIT t loc
    w.falseHits).count cRIDDLE_UPDATE_WAIT t loc (min w.searches (Config.updateWait s.fresh))

/-! ### Updates (R174 to R181) -/

/-- One update step: a row number and what the row holds after it, in every replica (R164). -/
abbrev RStepU := Nat × RRow

/-- The steps that change a row to `new`: invalidate unless it is EMPTY, write, validate (R174). -/
def updateSteps (i : Nat) (old new : RRow) : List RStepU :=
  (if old.rstate = rrEMPTY then [] else [(i, old.setState rrPENDING)]) ++
    [(i, new.setState rrPENDING), (i, new.setState rrVALID)]

/-- Removal: RSTATE becomes EMPTY, in one step. -/
def removeSteps (i : Nat) (old : RRow) : List RStepU := [(i, old.setState rrEMPTY)]

def applySteps (rows : List RRow) (us : List RStepU) : List RRow := us.foldl (fun rs u => setAt u.1 (fun _ => u.2) rs) rows

/-- A move copies a row by write and validate, and then takes it out of its old place (R181). -/
def moveSteps (src dst : Nat) (r : RRow) : List RStepU :=
  [(dst, r.setState rrPENDING), (dst, r.setState rrVALID), (src, r.setState rrPENDING)]

/-- Does a row stand before a new entry of this length and AUX in the order of a STOP region (R161)? -/
def stopBefore (r : RRow) (len aux : Nat) : Bool := len < r.keyLen || (r.keyLen = len && r.aux ≤ aux)

/-- Rows with their numbers. -/
def numbered (rows : List RRow) : List (Nat × RRow) := (List.range rows.length).zip rows

/-- Rows in use, with their numbers. -/
def inUse (rows : List RRow) : List (Nat × RRow) := (numbered rows).filter (fun r => r.2.rstate ≠ rrEMPTY)

/-- The insertion point: behind the last row that stands before the entry (R181; DEDUCED, log entry 15). -/
def insertPoint (rows : List RRow) (len aux : Nat) : Nat :=
  (inUse rows).foldl (fun p r => if stopBefore r.2 len aux then r.1 + 1 else p) 0

/-- First EMPTY row at or after a position. -/
def firstEmpty (rows : List RRow) (p : Nat) : Option Nat :=
  ((List.range rows.length).filter (fun i => p ≤ i)).find? (fun i => (rows.getD i emptyRow).rstate = rrEMPTY)

/-- The update steps of an insertion, nearest the EMPTY row first, and the rows moved; none where no EMPTY row is left
(R181). DEDUCED, log entry 15. -/
def insertSteps (rows : List RRow) (new : RRow) : Option (List RStepU × Nat) :=
  let p := insertPoint rows new.keyLen new.aux
  match firstEmpty rows p with
  | none => none
  | some e =>
    let moves := (List.range (e - p)).flatMap (fun k => moveSteps (e - 1 - k) (e - k) (rows.getD (e - 1 - k) emptyRow))
    some (moves ++ [(p, new.setState rrPENDING), (p, new.setState rrVALID)], e - p)

/-- Is EMPTY row `e` a hole: a used row stands behind it, or H − 1 used rows stand directly before it (R180)? Else it belongs
to the free tail. -/
def isHole (h : Nat) (rows : List RRow) (e : Nat) : Bool :=
  (rows.drop (e + 1)).any (fun x => x.rstate ≠ rrEMPTY) ||
    h - 1 ≤ ((rows.take e).reverse.takeWhile (fun x => x.rstate ≠ rrEMPTY)).length

/-- The row of the `k`-th of `n` entries, with a hole after every H − 1 used rows as far as `size` rows allow (R180). -/
def spreadPos (h size n k : Nat) : Nat := min (k + k / (h - 1)) (size - (n - k))

/-- Rows of a region that is written whole (R180). -/
def spreadRows (h size : Nat) (used : List RRow) : List RRow :=
  applySteps (List.replicate size emptyRow) ((numbered used).flatMap (fun r =>
    updateSteps (spreadPos h size used.length r.1) emptyRow r.2))

def usedRows (rows : List RRow) : List RRow := rows.filter (fun r => r.rstate ≠ rrEMPTY)

/-- Rows that an ordered region of `n` entries takes at spacing `h` (R180). DEDUCED, log entry 115. -/
def orderedSize (h n : Nat) : Nat := n + ceilDiv n (h - 1)

/-- The most entries whose rows with holes fit `rows` rows (R163). -/
def maxEntries (h rows bound : Nat) : Nat :=
  ((List.range (bound + 1)).filter (fun n => orderedSize h n ≤ rows)).getLastD 0

/-- The moves of a compaction: each row with its old and its new place. Rows that move down go first, lowest first; rows that
move up follow, highest first, so that a move finds its place EMPTY (R182). -/
def compactMoves (h : Nat) (rows : List RRow) : List (Nat × Nat × RRow) :=
  let us := inUse rows
  let all := ((List.range us.length).zip us).map (fun x => (x.2.1, spreadPos h rows.length us.length x.1, x.2.2))
  all.filter (fun m => m.2.1 < m.1) ++ (all.filter (fun m => m.1 < m.2.1)).reverse

/-- Compact: holes again every H rows; also the rows moved (R182). -/
def compactRows (h : Nat) (rows : List RRow) : List RRow × Nat :=
  let ms := compactMoves h rows
  (applySteps rows (ms.flatMap (fun m => moveSteps m.1 m.2.1 m.2.2 ++ removeSteps m.1 m.2.2)), ms.length)

/-! ### A terrace's regions -/

/-- A 128-bit salt drawn from the terrace's DRBG (R168): a free value. DESIGN CHOICE, log entry 3. -/
def saltAt (n : Nat) : BitVec 128 := Config.freeNoise n ++ Config.freeNoise (n + 1)

def Region.ordered (r : Region) : Bool := r.kind = rkVOCAB || r.kind = rkCONTROL || r.kind = rkSTOP

def mkRegion (kind obj ver : Nat) (salt : BitVec 128) (rows : List RRow) : Region := ⟨kind, obj, ver, salt, rows, false, false⟩

/-- Rows of quota in use in each home bank group: every region but STARTER (R163, R165). -/
def Terrace.riddleUsed (te : Terrace) : Nat :=
  ((te.regions.filter (fun r => r.kind ≠ rkSTARTER)).map (fun r => r.rows.length)).foldl (· + ·) 0

def Terrace.riddleFree (te : Terrace) : Nat := te.desc.riddle - te.riddleUsed

/-- The hole spacing in force (R180). -/
def Terrace.holes (te : Terrace) : Nat := if te.desc.holeH = 0 then 16 else te.desc.holeH

/-- The first region of a kind (R161). DEDUCED, log entry 121. -/
def Terrace.region (te : Terrace) (kind : Nat) : Option Region := te.regions.find? (fun r => r.kind = kind)

/-- The region of a kind that belongs to a version. -/
def Terrace.verRegion (te : Terrace) (kind obj ver : Nat) : Option Region :=
  te.regions.find? (fun r => r.kind = kind && r.obj = obj && r.ver = ver)

def Terrace.modRegion (te : Terrace) (kind : Nat) (f : Region → Region) : Terrace :=
  { te with regions := te.regions.map (fun r => if r.kind = kind then f r else r) }

/-- Home quads of a core set, rising (R164). -/
def homeQuads (mask : Nat) : List Nat := (List.range 16).filter (fun q => bits mask (4 * q) 4 ≠ 0)

/-- Home bays of a core set, rising. -/
def homeBays (mask : Nat) : List Nat := (List.range 4).filter (fun b => bits mask (16 * b) 16 ≠ 0)

/-- The lowest home quad, where row moves are counted (R185). -/
def Terrace.quadLoc (te : Terrace) : Nat := locQuad ((homeQuads te.desc.coreMask).headD 0)

/-- Rows of a region that are EMPTY. -/
def Region.emptyCount (r : Region) : Nat := (r.rows.filter (fun x => x.rstate = rrEMPTY)).length

/-- Insert into an ordered region of spacing `h`: the region after it and the rows moved, or none where it fails; a consumed
hole makes a compaction due (R181, R182). -/
def Region.insert (r : Region) (h : Nat) (row : RRow) : Option (Region × Nat) :=
  match insertSteps r.rows row with
  | none => none
  | some (us, n) =>
    let hole := match firstEmpty r.rows (insertPoint r.rows row.keyLen row.aux) with
      | some e => isHole h r.rows e
      | none => false
    some ({ r with rows := applySteps r.rows us, compact := r.compact || hole }, n)

/-- Remove every row that `p` selects (R174, R182). -/
def Region.remove (r : Region) (p : RRow → Bool) : Region :=
  let us := (inUse r.rows).flatMap (fun x => if p x.2 then removeSteps x.1 x.2 else [])
  { r with rows := applySteps r.rows us, compact := r.compact || (r.ordered && !us.isEmpty) }

/-- Stop strings of a stop set with their lowest positions; equal strings share one row (R179). -/
def stopKeys (stops : List Bytes) : List (Nat × Bytes) :=
  ((List.range stops.length).zip stops).filter (fun x => findIdx (· == x.2) stops == some x.1)

/-- Insert a request's stop rows; none where the region has too few EMPTY rows (R177, R179). -/
def insertStops (r : Region) (hole : Nat) (h : Handle) (entry : Nat) (stops : List Bytes) : Option (Region × Nat) :=
  (stopKeys stops).foldl (fun a x => match a with
    | none => none
    | some (reg, n) =>
      (reg.insert hole (mkRow (keyHash reg.salt (some h) x.2) x.2.length entry x.1)).map (fun q => (q.1, n + q.2))) (some (r, 0))

/-- 3 bytes per token ID: the key of an ECHO row (R161). -/
def tokKey (ts : List Tok) : Bytes := ts.flatMap (le 3)

/-- Insert or rewrite an ECHO key (R178); the flag says that it was dropped. The look for a row that holds the key already
is part of the insertion and no search issue. DEDUCED, log entry 104. -/
def echoInsert (r : Region) (h : Handle) (ts : List Tok) (pos : Nat) (src : RRow → Option Bytes) : Region × Bool :=
  let p := mkProbe r.salt (some h) (tokKey ts)
  let new := mkRow p.hash p.len pos 0
  match (searchFirst r.rows [p] src).1 with
  | some (i, old) => ({ r with rows := applySteps r.rows (updateSteps i old new) }, false)
  | none => match firstEmpty r.rows 0 with
    | some i => ({ r with rows := applySteps r.rows (updateSteps i emptyRow new) }, false)
    | none => (r, true)

/-- Rows that a search would meet damaged (R158, R183). -/
def Region.damaged (r : Region) : List (Nat × RRow) := (numbered r.rows).filter (fun x => !x.2.sound)

/-- The update steps that rebuild a row from its source, or write it EMPTY where it has none (R174, R183). The row's VALUE
and AUX name the source. DEDUCED, log entry 106. -/
def Region.rebuildSteps (r : Region) (src : RRow → Option (Option Handle × Bytes)) (i : Nat) (x : RRow) : List RStepU :=
  match src x with
  | some (tag, key) => updateSteps i x (mkRow (keyHash r.salt tag key) key.length x.value x.aux)
  | none => [(i, emptyRow)]

/-- Rows that `p` selects are restored (R183). -/
def Region.heal (r : Region) (src : RRow → Option (Option Handle × Bytes)) (p : RRow → Bool) : Region :=
  { r with rows := applySteps r.rows ((numbered r.rows).flatMap (fun x => if p x.2 then r.rebuildSteps src x.1 x.2 else [])) }

end Sys2Proof.Machine
end

