-- ==== Sys2Proof/Machine/Text.lean ====
section
/-! DEFINITION. Text intake, stages 1 to 5 of R186: UTF-8 validation, normalisation, control-spelling detection,
pre-splitting and forced cuts (R189 to R205), as functions on data. -/

namespace Sys2Proof.Machine

/-- A normalised code point with its source offset (R196), its UTF-8 bytes, the events it stands for, as WFLAGS bits of R213:
0x20 a substitution, 0x40 within an escaped span, 0x80 an inserted U+034F; and the searches of the CONTROL region made at it. -/
structure NC where
  cp  : Nat
  src : Nat
  b   : Bytes
  fl  : Nat
  w   : RWork := {}
deriving DecidableEq, Repr

/-! ### Stage 1: UTF-8 (R189 to R192) -/

/-- UTF-8 encoding of a code point. -/
def utf8 (c : Nat) : Bytes :=
  let y := fun n => BitVec.ofNat 8 n
  if c < 0x80 then [y c]
  else if c < 0x800 then [y (0xC0 + c / 64), y (0x80 + c % 64)]
  else if c < 0x10000 then [y (0xE0 + c / 4096), y (0x80 + c / 64 % 64), y (0x80 + c % 64)]
  else [y (0xF0 + c / 262144), y (0x80 + c / 4096 % 64), y (0x80 + c / 64 % 64), y (0x80 + c % 64)]

/-- A lead byte: how many continuation bytes follow, and the range of the first of them (Unicode 15.1, chapter 3). -/
def utf8Lead (b : Nat) : Option (Nat × Nat × Nat) :=
  if b < 0x80 then some (0, 0, 0)
  else if b < 0xC2 then none
  else if b < 0xE0 then some (1, 0x80, 0xBF)
  else if b = 0xE0 then some (2, 0xA0, 0xBF)
  else if b = 0xED then some (2, 0x80, 0x9F)
  else if b < 0xF0 then some (2, 0x80, 0xBF)
  else if b = 0xF0 then some (3, 0x90, 0xBF)
  else if b < 0xF4 then some (3, 0x80, 0xBF)
  else if b = 0xF4 then some (3, 0x80, 0x8F)
  else none

/-- Continuation bytes: how many of the `n` wanted are present and in range, and their value. -/
def utf8Cont : Nat → Nat → Nat → Nat → Bytes → Nat × Nat
  | 0, _, _, v, _ => (0, v)
  | _ + 1, _, _, v, [] => (0, v)
  | n + 1, lo, hi, v, b :: r =>
    if lo ≤ b.toNat && b.toNat ≤ hi then
      let x := utf8Cont n 0x80 0xBF (v * 64 + b.toNat % 64) r
      (x.1 + 1, x.2)
    else (0, v)

/-- What stands at the front: a code point of some length, a maximal ill-formed subpart of some length, or a
well-formed sequence cut off by the end of the bytes. -/
inductive U8 where
  | cp (c len : Nat)
  | bad (len : Nat)
  | cut
deriving DecidableEq, Repr

def utf8Front (b : Bytes) : U8 :=
  match b with
  | [] => .cut
  | x :: r =>
    match utf8Lead x.toNat with
    | none => .bad 1
    | some (n, lo, hi) =>
      let v0 := if n = 0 then x.toNat else if n = 1 then x.toNat % 32 else if n = 2 then x.toNat % 16 else x.toNat % 8
      let k := utf8Cont n lo hi v0 r
      if k.1 = n then .cp k.2 (n + 1)
      else if r.length ≤ k.1 then .cut
      else .bad (k.1 + 1)

/-- Decoded code points with their offsets, the replaced subparts' count, the first malformed byte, and the bytes of a
sequence cut off at the end. -/
structure Decoded where
  cps  : List (Nat × Nat × Nat)
  repl : Nat
  bad  : Option Nat
  tail : Bytes
deriving DecidableEq, Repr

/-- Decode under REPLACE; `hold` keeps a cut-off sequence for the next put instead of replacing it (R190, R192). -/
def utf8Decode (hold : Bool) : Nat → Nat → Bytes → Decoded
  | 0, _, _ => ⟨[], 0, none, []⟩
  | fuel + 1, off, b =>
    if b.isEmpty then ⟨[], 0, none, []⟩
    else match utf8Front b with
      | .cp c n => let d := utf8Decode hold fuel (off + n) (b.drop n); { d with cps := (c, off, 0) :: d.cps }
      | .bad n =>
        let d := utf8Decode hold fuel (off + n) (b.drop n)
        ⟨(0xFFFD, off, 0x20) :: d.cps, d.repl + 1, some off, d.tail⟩
      | .cut => if hold then ⟨[], 0, none, b⟩ else ⟨[(0xFFFD, off, 0x20)], 1, some off, []⟩

/-- Is a byte string well-formed UTF-8? -/
def utf8Ok (b : Bytes) : Bool := (utf8Decode false b.length 0 b).bad.isNone

/-! ### Character data. ASCII stands here; the rest is `Config` (log entry 8). -/

/-- Canonical combining class; 0 for a code point that Unicode 15.1 does not assign (R193). DESIGN CHOICE, log entry 8. -/
def ccc (c : Nat) : Nat := if c < 0x300 || !Config.ucdAssigned c then 0 else Config.ucdCcc c

/-- Hangul syllables decompose by arithmetic (UAX #15). DESIGN CHOICE, log entry 8. -/
def hangulDecomp (c : Nat) : List Nat :=
  let s := c - 0xAC00
  let t := s % 28
  [0x1100 + s / 588, 0x1161 + s % 588 / 28] ++ (if t = 0 then [] else [0x11A7 + t])

def isHangul (c : Nat) : Bool := 0xAC00 ≤ c && c ≤ 0xD7A3

/-- One-step decomposition mapping, empty when there is none; an unassigned code point passes unchanged (R193). -/
def decomp1 (compat : Bool) (c : Nat) : List Nat :=
  if c < 0x80 then [] else if isHangul c then hangulDecomp c
  else if !Config.ucdAssigned c then []
  else if compat then Config.ucdCompatDecomp c else Config.ucdCanonDecomp c

/-- Full decomposition; mappings nest at most a few deep, which `fuel` bounds. -/
def decompFull (compat : Bool) : Nat → Nat → List Nat
  | 0, c => [c]
  | n + 1, c => match decomp1 compat c with
    | [] => [c]
    | l => l.flatMap (decompFull compat n)

/-- Primary composite of two code points. -/
def compose2 (a b : Nat) : Option Nat :=
  if 0x1100 ≤ a && a ≤ 0x1112 && 0x1161 ≤ b && b ≤ 0x1175 then some (0xAC00 + (a - 0x1100) * 588 + (b - 0x1161) * 28)
  else if isHangul a && (a - 0xAC00) % 28 = 0 && 0x11A8 ≤ b && b ≤ 0x11C2 then some (a + (b - 0x11A7))
  else if b < 0x300 || !Config.ucdAssigned a || !Config.ucdAssigned b then none else Config.ucdCompose a b

/-- Fixed class of a code point by its Unicode properties (R191, R200). LINE_BREAK is exactly the list of R200, U+3007 and
U+3021 to U+3029 are IDEOGRAPH, an unassigned code point is OTHER; the rest of the character data stands in `Config`. DESIGN
CHOICE, log entry 8. -/
def fixedClass (c : Nat) : Nat :=
  if (0x0A ≤ c && c ≤ 0x0D) || c = 0x85 || c = 0x2028 || c = 0x2029 then 7
  else if c = 0x09 || c = 0x20 then 6
  else if c < 0x20 || (0x7F ≤ c && c < 0xA0) || c = 0xFEFF then 8
  else if c < 0x7F then
    if (0x41 ≤ c && c ≤ 0x5A) || (0x61 ≤ c && c ≤ 0x7A) then 0
    else if 0x30 ≤ c && c ≤ 0x39 then 2
    else if [0x24, 0x2B, 0x3C, 0x3D, 0x3E, 0x5E, 0x60, 0x7C, 0x7E].contains c then 5
    else 4
  else if c = 0x3007 || (0x3021 ≤ c && c ≤ 0x3029) then 9
  else if !Config.ucdAssigned c || Config.ucdClass c % 10 = 7 then 8
  else Config.ucdClass c % 10

/-- Class under a split table: the map's class where it is one of 10 to 31, else the fixed one (R200). -/
def splitCls (t : SplitTable) (c : Nat) : Nat :=
  match t.classes.find? (fun r => r.lo ≤ c && c ≤ r.hi && 10 ≤ r.cls) with
  | some r => r.cls
  | none => fixedClass c

/-! ### Stage 2: normalisation (R193 to R196) -/

/-- A decomposed code point: code point, source offset and events. -/
abbrev DC := Nat × Nat × Nat

/-- The Stream-Safe Text Process of UAX #15 (R194): non-starters are counted in the compatibility decomposition of each code
point, whatever V_NORM is, and U+034F goes before the code point that would make a run of more than 30. It takes the source offset
of the code point before it (R196). `run` is the run so far and `off` that offset; also how many were inserted. -/
def streamSafe : Nat → Nat → List DC → List DC × Nat
  | _, _, [] => ([], 0)
  | run, off, (c, o, f) :: r =>
    let d := decompFull true 20 c
    let lead := (d.takeWhile (fun x => ccc x ≠ 0)).length
    let full := 30 < run + lead
    let run' := if lead = d.length then (if full then 0 else run) + lead
      else (d.reverse.takeWhile (fun x => ccc x ≠ 0)).length
    let x := streamSafe run' o r
    if full then ((0x34F, off, 0x80) :: (c, o, f) :: x.1, x.2 + 1) else ((c, o, f) :: x.1, x.2)

/-- Insert a non-starter behind those of its own or a lower class. -/
def cccInsert (x : DC) : List DC → List DC
  | [] => [x]
  | y :: r => if ccc y.1 ≤ ccc x.1 then y :: cccInsert x r else x :: y :: r

/-- Canonical ordering: non-starter runs sorted stably by combining class. -/
def canonOrder : List DC → List DC → List DC
  | run, [] => run
  | run, x :: r => if ccc x.1 = 0 then run ++ x :: canonOrder [] r else canonOrder (cccInsert x run) r

/-- The composing pass: finished output (reversed), the last starter, and the non-starters kept behind it (reversed). -/
structure Comp where
  done : List DC
  st   : Option DC
  pend : List DC
deriving DecidableEq, Repr

def Comp.push (k : Comp) (x : DC) : Comp :=
  match k.st with
  | none => if ccc x.1 = 0 then { k with st := some x } else { k with done := x :: k.done }
  | some s =>
    let blocked : Bool := match k.pend with | y :: _ => decide (ccc x.1 ≤ ccc y.1) | [] => false
    match (if blocked then none else compose2 s.1 x.1) with
    | some p => { k with st := some (p, min s.2.1 x.2.1, s.2.2 ||| x.2.2) }
    | none => if ccc x.1 = 0 then ⟨k.pend ++ s :: k.done, some x, []⟩ else { k with pend := x :: k.pend }

def Comp.out (k : Comp) : List DC :=
  match k.st with
  | none => k.done.reverse
  | some s => (k.pend ++ s :: k.done).reverse

/-- Normalise under V_NORM; the second part is the number of U+034F inserted. -/
def normalise (vnorm : Nat) (cps : List DC) : List DC × Nat :=
  if vnorm = 0 then (cps, 0)
  else
    let ss := streamSafe 0 0 cps
    let d := ss.1.flatMap (fun x => (decompFull (vnorm = 2) 20 x.1).map (fun c => (c, x.2)))
    ((((canonOrder [] d).foldl Comp.push ⟨[], none, []⟩).out), ss.2)

def toNC (x : DC) : NC := { cp := x.1, src := x.2.1, b := utf8 x.1, fl := x.2.2 }

def ncBytes (l : List NC) : Bytes := l.flatMap (·.b)

/-! ### Stage 3: control spellings (R197 to R199) -/

/-- A version's region of one kind as the Sifter searches it: salt, rows, the tokens that are the sources of its keys (R169), and
whether the region is FULLY_HELD (R222). -/
structure VTab where
  obj  : Nat
  ver  : Nat
  uid  : Nat
  salt : BitVec 128
  rows : List RRow
  toks : List TokRow
  full : Bool
deriving DecidableEq, Repr

/-- The full key of a row: the bytes of token VALUE. -/
def VTab.src (t : VTab) (r : RRow) : Option Bytes := (t.toks.find? (fun x => x.id = r.value)).map (·.bytes)

/-- Probes for the first `k` bytes of a text, for each length `k`. -/
def VTab.probes (t : VTab) (b : Bytes) (lens : List Nat) : List Probe := lens.map (fun k => mkProbe t.salt none (b.take k))

/-- Key lengths from the longest, each once. -/
def descending (l : List Nat) : List Nat := (List.range 129).reverse.filter l.contains

/-- A stretch of text: plain, or a matched control spelling with its token. -/
structure Span where
  ctrl : Option Tok
  text : List NC
deriving DecidableEq, Repr

/-- Drop whole code points covering `n` bytes. -/
def takeBytes : Nat → List NC → List NC × List NC
  | 0, l => ([], l)
  | _, [] => ([], [])
  | n + 1, x :: r =>
    if n + 1 ≤ x.b.length then ([x], r) else let p := takeBytes (n + 1 - x.b.length) r; (x :: p.1, p.2)

/-- FIRST-mode issues over the spellings' lengths, longest first, until one hits: token and length, and the work. -/
def VTab.first (t : VTab) (b : Bytes) : List (List Nat) → Option (Tok × Nat) × RWork
  | [] => (none, {})
  | l :: r =>
    let x := searchFirst t.rows (t.probes b l) t.src
    match x.1 with
    | some h => (some (h.2.value, h.2.keyLen), x.2)
    | none => let y := t.first b r; (y.1, x.2.add y.2)

/-- The longest control spelling that begins here, by the CONTROL region of the version, or of base and overlay: its token
and length, and the searches made (R197). DEDUCED, log entry 143. -/
def ctrlAt (ctl : List VTab) (b : Bytes) : Option (Tok × Nat) × RWork :=
  ctl.foldl (fun a t =>
    let lens := (descending (t.toks.map (·.bytes.length))).filter (fun k => 1 ≤ k && k ≤ b.length)
    let x := t.first b (issues 9 lens)
    (match a.1, x.1 with
      | some y, some z => some (if y.2 < z.2 then z else y)
      | some y, none => some y
      | none, z => z, a.2.add x.2)) (none, {})

/-- The searches made at a code point are noted at it. -/
def NC.noted (x : NC) (w : RWork) : NC := { x with w := w }

/-- Scan left to right; a match becomes a span of its own, and the scan goes on behind it. `acc` is reversed. -/
def ctrlSpans (ctl : List VTab) : Nat → List NC → List NC → List Span
  | 0, acc, _ => if acc.isEmpty then [] else [⟨none, acc.reverse⟩]
  | _, acc, [] => if acc.isEmpty then [] else [⟨none, acc.reverse⟩]
  | fuel + 1, acc, x :: r =>
    let f := ctrlAt ctl (ncBytes ((x :: r).take 128))
    let x := x.noted f.2
    match f.1 with
    | none => ctrlSpans ctl fuel (x :: acc) r
    | some (t, n) =>
      let p := takeBytes n (x :: r)
      (if acc.isEmpty then [] else [⟨none, acc.reverse⟩]) ++ ⟨some t, p.1⟩ :: ctrlSpans ctl fuel [] p.2

/-! ### Stage 4: pre-splitting (R200 to R203) -/

/-- A unit of the matrix: CR LF counts as one LINE_BREAK (R202). -/
structure Unit2 where
  cls : Nat
  ncs : List NC
deriving DecidableEq, Repr

def toUnits (t : SplitTable) : List NC → List Unit2
  | [] => []
  | x :: y :: r => if x.cp = 0x0D && y.cp = 0x0A then ⟨7, [x, y]⟩ :: toUnits t r else ⟨splitCls t x.cp, [x]⟩ :: toUnits t (y :: r)
  | [x] => [⟨splitCls t x.cp, [x]⟩]

def splitCode (t : SplitTable) (a b : Nat) : Nat := t.codes.getD (a * 32 + b) 0
def splitCap (t : SplitTable) (c : Nat) : Nat := t.caps.getD c 0

/-- Units with "a boundary falls before it" flags from the matrix (R201), run lengths carried along; output reversed.
DEDUCED, log entry 118. -/
def matrixFlags (t : SplitTable) : List (Bool × Unit2) → Nat → List Unit2 → List (Bool × Unit2)
  | acc, _, [] => acc
  | acc, run, u :: r =>
    match acc with
    | [] => matrixFlags t [(false, u)] 1 r
    | (pf, p) :: rest =>
      let run' := if u.cls = p.cls then run + 1 else 1
      match splitCode t p.cls u.cls with
      | 1 => matrixFlags t ((u.cls != 1, u) :: acc) run' r
      | 2 => if 2 ≤ run && u.cls ≠ p.cls then matrixFlags t ((false, u) :: (pf || p.cls != 1, p) :: rest) run' r
             else matrixFlags t ((false, u) :: acc) run' r
      | _ => matrixFlags t ((false, u) :: acc) run' r

/-- Break runs of capped classes within a piece every C code points (R202). DEDUCED, log entry 28. -/
def capFlags (t : SplitTable) : Nat → Option Nat → List (Bool × Unit2) → List (Bool × Unit2)
  | _, _, [] => []
  | run, prev, (f, u) :: r =>
    let cont := !f && prev = some u.cls
    let hit := cont && splitCap t u.cls != 0 && run = splitCap t u.cls && u.cls != 1
    let run' := if cont && !hit then run + 1 else 1
    (f || hit, u) :: capFlags t run' (some u.cls) r

/-- Group units into pieces at their flags. -/
def groupPieces : List NC → List (Bool × Unit2) → List (List NC)
  | acc, [] => if acc.isEmpty then [] else [acc]
  | acc, (f, u) :: r => if f && !acc.isEmpty then acc :: groupPieces u.ncs r else groupPieces (acc ++ u.ncs) r

/-- The pieces of a stretch that holds no span end (R203). DEDUCED, log entry 118. -/
def splitPieces (t : SplitTable) (l : List NC) : List (List NC) :=
  groupPieces [] (capFlags t 0 none (matrixFlags t [] 0 (toUnits t l)).reverse)

/-! ### Stage 5: forced cuts (R204, R205) -/

/-- Candidate cut positions of a piece: code points kept, bytes kept, classes differ, next is MARK. -/
def cutPoints (t : SplitTable) : Nat → Nat → List NC → List (Nat × Nat × Bool × Bool)
  | _, _, [] => []
  | _, _, [_] => []
  | k, n, x :: y :: r =>
    let n' := n + x.b.length
    if 4096 < n' then [] else
    (k + 1, n', splitCls t x.cp != splitCls t y.cp, splitCls t y.cp == 1) :: cutPoints t (k + 1) n' (y :: r)

/-- How many code points the first piece of a long piece keeps. -/
def cutAt (t : SplitTable) (p : List NC) : Nat :=
  let cs := (cutPoints t 0 0 p).reverse
  match cs.find? (fun c => 2048 < c.2.1 && c.2.2.1 && !c.2.2.2) with
  | some c => c.1
  | none => match cs.find? (fun c => !c.2.2.2) with
    | some c => c.1
    | none => ((cs.head?).map (·.1)).getD 1

/-- The pieces of at most 4,096 bytes that a piece is cut into, and the cuts made. -/
def forcedCuts (t : SplitTable) : Nat → List NC → List (List NC)
  | 0, p => [p]
  | fuel + 1, p => if (ncBytes p).length ≤ 4096 then [p] else p.take (cutAt t p) :: forcedCuts t fuel (p.drop (cutAt t p))

end Sys2Proof.Machine
end

