-- ==== Sys2Proof/Machine/Lattice.lean ====
section
/-! DEFINITION. Segmentation in the Sifter (R220 to R237): the most probable path, longest match and merge-rank, and the
whole of stages 1 to 6 of R186 for one text. -/

namespace Sys2Proof.Machine

/-- A vocabulary as segmentation sees it: a base version, or a base and an overlay together (R223, R234). -/
structure Vocab where
  norm     : Nat
  mode     : Nat
  maxBytes : Nat
  size     : Nat
  /-- Ordinary tokens (R220) and control tokens. -/
  rows     : List TokRow
  ctrls    : List TokRow
  /-- Every token row, for turning IDs into bytes (R422). -/
  all      : List TokRow
  fallback : Fallback
  merges   : List MergeRow
  merges2  : List MergeRow
  split    : SplitTable
  /-- The VOCAB regions and spelling tables, and the CONTROL regions: of the base, then of the overlay (R161, R223). -/
  regs     : List VTab
  ctl      : List VTab
deriving DecidableEq, Repr

/-- A token of the output: token, source offset, whether it is a fallback token, the position of its first byte in the
normalised text, its length in bytes, and its events as WFLAGS bits. -/
structure OTok where
  tok   : Tok
  src   : Nat
  fb    : Bool
  start : Nat
  len   : Nat
  fl    : Nat
deriving DecidableEq, Repr

def SiftStats.add (a b : SiftStats) : SiftStats where
  repl := a.repl + b.repl
  safe := a.safe + b.safe
  escaped := a.escaped + b.escaped
  cuts := a.cuts + b.cuts
  bytes := a.bytes + b.bytes
  toks := a.toks + b.toks
  fallback := a.fallback + b.fallback
  cold := a.cold + b.cold
  merges := a.merges + b.merges
  work := a.work.add b.work

/-- What `a` counts beyond `b`. -/
def SiftStats.beyond (a b : SiftStats) : SiftStats where
  repl := a.repl - b.repl
  safe := a.safe - b.safe
  escaped := a.escaped - b.escaped
  cuts := a.cuts - b.cuts
  bytes := a.bytes - b.bytes
  toks := a.toks - b.toks
  fallback := a.fallback - b.fallback
  cold := a.cold - b.cold
  merges := a.merges - b.merges
  work := ⟨a.work.searches - b.work.searches, a.work.probes - b.work.probes, a.work.falseHits - b.work.falseHits⟩

/-- A segmented token of a piece: token, its length in bytes, and whether it is a fallback token. -/
abbrev Seg := Tok × Nat × Bool

/-! ### The edges of a node (R224 to R226) -/

/-- Candidate lengths at a node: the set bits of the length masks (R225 step 1). -/
def candLens (v : Vocab) (b : Bytes) : List Nat :=
  ((List.range (min v.maxBytes b.length)).map (· + 1)).filter (fun k =>
    v.rows.any (fun t => t.bytes.length = k && t.bytes.take (min k 2) == b.take (min k 2)))

/-- The spelling tables' answer for a key: the ordinary token that is spelled so (R220). -/
def spelled (v : Vocab) (k : Bytes) : Option TokRow := v.rows.find? (fun t => t.bytes == k)

/-- What a node's search gives: its edges, the lengths looked up in the spelling tables, the lookups made, and the searches. -/
structure NodeWork where
  edges : List TokRow := []
  cold  : List Nat := []
  looks : Nat := 0
  work  : RWork := {}

/-- One issue to every VOCAB region: the tokens found by length, and the searches. -/
def vocabIssue (v : Vocab) (b : Bytes) (lens : List Nat) : List (Nat × TokRow) × RWork :=
  v.regs.foldl (fun a t =>
    let x := searchAll t.rows (t.probes b lens) t.src
    (a.1 ++ x.1.filterMap (fun h => (t.toks.find? (fun k => k.id = h.2.value)).map (fun k => (h.2.keyLen, k))), a.2.add x.2))
    ([], {})

/-- Is a probe that missed left open: some region is not FULLY_HELD (R222)? It then goes to every spelling table (R223). -/
def Vocab.open_ (v : Vocab) : Bool := v.regs.any (fun t => !t.full)

/-- The edges from a node: ALL-mode issues of at most 16 probes, longest first, then the spelling tables for the lengths that
missed (R225). -/
def nodeWork (v : Vocab) (b : Bytes) : NodeWork :=
  let lens := (candLens v b).reverse
  let f := (issues 9 lens).foldl (fun (a : List (Nat × TokRow) × RWork) l => let x := vocabIssue v b l; (a.1 ++ x.1, a.2.add x.2))
    ([], {})
  let miss := if v.open_ then lens.filter (fun k => !f.1.any (fun x => x.1 = k)) else []
  { edges := f.1.map (·.2) ++ miss.filterMap (fun k => spelled v (b.take k)), cold := miss
    looks := miss.length * v.regs.length, work := f.2 }

/-- Lookups of missed lengths, longest first, until one finds a token. -/
def coldWalk (v : Vocab) (b : Bytes) : List Nat → Option TokRow × List Nat
  | [] => (none, [])
  | k :: r => match spelled v (b.take k) with
    | some t => (some t, [k])
    | none => let x := coldWalk v b r; (x.1, k :: x.2)

/-- The longest edge from a node: issues longest first; a missed length is looked up only where no longer one has hit, and the
walk stops at the first hit (R232). -/
def longestWork (v : Vocab) (b : Bytes) : List (List Nat) → NodeWork
  | [] => {}
  | l :: r =>
    let f := vocabIssue v b l
    let best := (f.1.map (·.1)).foldl max 0
    let c := coldWalk v b (if v.open_ then l.filter (fun k => best < k && !f.1.any (fun x => x.1 = k)) else [])
    let here : NodeWork := { cold := c.2, looks := c.2.length * v.regs.length, work := f.2 }
    match c.1, f.1.find? (fun x => x.1 = best) with
    | some t, _ => { here with edges := [t] }
    | none, some x => { here with edges := [x.2] }
    | none, none =>
      let x := longestWork v b r
      ⟨x.edges, here.cold ++ x.cold, here.looks + x.looks, here.work.add x.work⟩

/-- The search at a node, by V_MODE. -/
def nodeSearch (v : Vocab) (b : Bytes) : NodeWork :=
  if v.mode = 1 then longestWork v b (issues 9 (candLens v b).reverse) else nodeWork v b

def rowScore (v : Vocab) (t : Tok) : Int := ((v.all.find? (fun r => r.id = t)).map (·.score)).getD 0

/-- Length of the code point that begins at the front of `b`. -/
def cpLen (b : Bytes) : Nat := match utf8Front b with | .cp _ n => n | _ => 1

/-- The fallback edge of a node (R226): its token and length. -/
def fallbackAt (v : Vocab) (b : Bytes) : Tok × Nat :=
  match v.fallback with
  | .byte ids => (ids.getD (b.headD 0).toNat 0, 1)
  | .unk id => (id, cpLen b)

/-- A node's edges with the fallback edge where there is no other: token, length, score, fallback (R226). -/
def withFallback (v : Vocab) (b : Bytes) (l : List TokRow) : List (Tok × Nat × Int × Bool) :=
  match l with
  | [] => let f := fallbackAt v b; [(f.1, f.2, rowScore v f.1, true)]
  | l => l.map (fun t => (t.id, t.bytes.length, t.score, false))

/-- Record of a node: score, tokens, first token's length, predecessor, token, fallback (R229). -/
structure LRec where
  score : Int
  count : Nat
  first : Nat
  pred  : Nat
  tok   : Tok
  fb    : Bool
deriving DecidableEq, Repr

/-- The order of R229. -/
def lbetter (x y : LRec) : Bool :=
  if x.score ≠ y.score then y.score < x.score
  else if x.count ≠ y.count then x.count < y.count
  else if x.first ≠ y.first then y.first < x.first
  else x.pred < y.pred

/-- Offer an edge's record to its end node. -/
def relax (c : LRec) : Option LRec → Option LRec
  | none => some c
  | some r => if lbetter c r then some c else some r

/-- The forward search over the nodes' edges, node `s` first (R229); the edges of a node that no path reaches are left. -/
def latticeFwd : Nat → List (List (Tok × Nat × Int × Bool)) → List (Option LRec) → List (Option LRec)
  | _, [], recs => recs
  | s, es :: r, recs =>
    let from_ : Option LRec := if s = 0 then some ⟨0, 0, 0, 0, 0, false⟩ else recs.getD s none
    let recs' := match from_ with
      | none => recs
      | some p => es.foldl (fun rs e =>
          setAt (s + e.2.1) (relax ⟨p.score + e.2.2.1, p.count + 1, if s = 0 then e.2.1 else p.first, s, e.1, e.2.2.2⟩) rs) recs
    latticeFwd (s + 1) r recs'

/-- Follow predecessors back from node `e`; the output comes out in path order. -/
def backtrack (recs : List (Option LRec)) : Nat → Nat → List Seg → List Seg
  | 0, _, acc => acc
  | fuel + 1, e, acc =>
    if e = 0 then acc
    else match recs.getD e none with
      | none => acc
      | some r => backtrack recs fuel r.pred ((r.tok, e - r.pred, r.fb) :: acc)

/-- The nodes of a piece below its end: the text from each on, and its search (R225). -/
def nodesOf (v : Vocab) : Bytes → List (Bytes × NodeWork)
  | [] => []
  | x :: r => (x :: r, nodeWork v (x :: r)) :: nodesOf v r

/-- The most probable segmentation (R228, R229), from the searches of the nodes. -/
def segLattice (v : Vocab) (n : Nat) (nodes : List (Bytes × NodeWork)) : List Seg :=
  backtrack (latticeFwd 0 (nodes.map (fun x => withFallback v x.1 x.2.edges)) (List.replicate (n + 1) none)) (n + 1) n []

/-- Longest match first (R232): the tokens, and the searches of the nodes walked. -/
def segLongest (v : Vocab) : Nat → Bytes → List (Seg × Bytes × NodeWork)
  | 0, _ => []
  | fuel + 1, b =>
    if b.isEmpty then []
    else
      let w := nodeSearch v b
      match withFallback v b w.edges with
      | [] => []
      | e :: _ => ((e.1, e.2.1, e.2.2.2), b, w) :: segLongest v fuel (b.drop e.2.1)

/-- The merge of a pair: base entries before the overlay's, whose ranks are all greater (R233, R234). -/
def mergeOf (v : Vocab) (a b : Tok) : Option (Nat × Nat × Tok) :=
  match v.merges.find? (fun m => m.left = a && m.right = b) with
  | some m => some (0, m.rank, m.result)
  | none => (v.merges2.find? (fun m => m.left = a && m.right = b)).map (fun m => (1, m.rank, m.result))

/-- Leftmost pair of the lowest rank: its position, order and result. -/
def bestMerge (v : Vocab) : Nat → List Seg → Option (Nat × (Nat × Nat) × Tok)
  | i, x :: y :: r =>
    let rest := bestMerge v (i + 1) (y :: r)
    match mergeOf v x.1 y.1 with
    | none => rest
    | some (o, k, t) => match rest with
      | some (j, (o', k'), t') => if o' < o || (o' = o && k' < k) then some (j, (o', k'), t') else some (i, (o, k), t)
      | none => some (i, (o, k), t)
  | _, _ => none

def applyMerge (i : Nat) (t : Tok) : List Seg → List Seg
  | x :: y :: r => match i with
    | 0 => (t, x.2.1 + y.2.1, false) :: r
    | j + 1 => x :: applyMerge j t (y :: r)
  | l => l

/-- Merge until no pair is in the table; also how many merges were applied (R233). -/
def mergeLoop (v : Vocab) : Nat → List Seg → List Seg × Nat
  | 0, q => (q, 0)
  | fuel + 1, q => match bestMerge v 0 q with
    | none => (q, 0)
    | some (i, _, t) => let x := mergeLoop v fuel (applyMerge i t q); (x.1, x.2 + 1)

def fallbackIds (v : Vocab) : List Tok := match v.fallback with | .byte ids => ids | .unk id => [id]

/-- Merge-rank (R233). -/
def segMerge (v : Vocab) (b : Bytes) : List Seg × Nat :=
  let x := mergeLoop v b.length (b.map (fun y => ((fallbackIds v).getD y.toNat 0, 1, true)))
  (x.1.map (fun e => (e.1, e.2.1, (fallbackIds v).contains e.1)), x.2)

/-- Work of the nodes searched. -/
def nodesStats (l : List NodeWork) : SiftStats :=
  { cold := (l.map (·.looks)).foldl (· + ·) 0, work := (l.map (·.work)).foldl RWork.add {} }

/-- Segment one piece: tokens, the work counted, and the nodes searched, each with the text from it on. -/
def segment (v : Vocab) (b : Bytes) : List Seg × SiftStats × List (Bytes × NodeWork) :=
  let x : List Seg × SiftStats × List (Bytes × NodeWork) :=
    if v.mode = 2 then let m := segMerge v b; (m.1, { merges := m.2 }, [])
    else if v.mode = 1 then
      let l := segLongest v b.length b
      (l.map (·.1), nodesStats (l.map (·.2.2)), l.map (·.2))
    else
      let ns := nodesOf v b
      (segLattice v b.length ns, nodesStats (ns.map (·.2)), ns)
  (x.1, { x.2.1 with bytes := b.length, toks := x.1.length, fallback := (x.1.filter (·.2.2)).length }, x.2.2)

/-- The code point that contains byte `n` of a piece (R231). -/
def ncAt : Nat → List NC → Option NC
  | _, [] => none
  | n, x :: r => if n < x.b.length then some x else ncAt (n - x.b.length) r

/-- Union of the events of the code points a token touches. -/
def flagsOver (p : List NC) : Nat → Nat → Nat
  | 0, _ => 0
  | n + 1, i => ((ncAt i p).map (·.fl)).getD 0 ||| flagsOver p n (i + 1)

/-- Output tokens of a piece; `pos` is its place in the normalised text, `i` the byte reached within it. -/
def placeSegs (p : List NC) (pos : Nat) : Nat → List Seg → List OTok
  | _, [] => []
  | i, e :: r =>
    ⟨e.1, ((ncAt i p).map (·.src)).getD 0, e.2.2, pos + i, e.2.1, flagsOver p e.2.1 i⟩ :: placeSegs p pos (i + e.2.1) r

/-- Mark the last token of a piece that ends at a forced cut (R213 WFLAGS [4]). -/
def markLast (f : Nat) : List OTok → List OTok
  | [] => []
  | [x] => [{ x with fl := x.fl ||| f }]
  | x :: r => x :: markLast f r

/-- A piece as it leaves the Sifter: where it ends in the normalised text, its tokens, the work it took, and the nodes searched
(R231), and the control token whose spelling begins it. A control token of a template is a piece of its own (R235). -/
structure PieceOut where
  stop  : Nat
  toks  : List OTok
  stats : SiftStats
  nodes : List (Bytes × NodeWork)
  text  : Bytes
  ctrl  : Option Tok := none

/-- Events and CONTROL searches of a stretch of code points (R190, R194, R197). -/
def eventStats (p : List NC) : SiftStats :=
  { repl := (p.filter (fun x => bit x.fl 5)).length, safe := (p.filter (fun x => bit x.fl 7)).length
    work := (p.map (·.w)).foldl RWork.add {} }

/-- One piece, at `pos` in the normalised text; `cut` says that a forced cut ends it. -/
def siftPiece (v : Vocab) (pos : Nat) (p : List NC) (cut : Bool) : PieceOut :=
  let b := ncBytes p
  let s := segment v b
  let o := placeSegs p pos 0 s.1
  ⟨pos + b.length, if cut then markLast 0x10 o else o, (s.2.1.add (eventStats p)).add { cuts := b2n cut }, s.2.2, b, none⟩

/-- Segment pieces in text order; each carries whether a forced cut ends it. -/
def siftPieces (v : Vocab) : Nat → List (List NC × Bool) → List PieceOut
  | _, [] => []
  | pos, (p, cut) :: r => let x := siftPiece v pos p cut; x :: siftPieces v x.stop r

/-- All but the last of a list of pieces end at a cut. -/
def tagCuts : List (List NC) → List (List NC × Bool)
  | [] => []
  | [x] => [(x, false)]
  | x :: r => (x, true) :: tagCuts r

/-- Pieces of a stretch after forced cuts. -/
def cutPieces (v : Vocab) (l : List NC) : List (List NC × Bool) :=
  (splitPieces v.split l).flatMap (fun p => tagCuts (forcedCuts v.split p.length p))

/-- The last piece of an escaped span counts the span (R198). -/
def countSpan : List PieceOut → List PieceOut
  | [] => []
  | [x] => [{ x with stats := x.stats.add { escaped := 1 } }]
  | x :: r => x :: countSpan r

/-- The first piece of an escaped span carries the control token it spells. -/
def leadCtrl (t : Tok) : List PieceOut → List PieceOut
  | [] => []
  | x :: r => { x with ctrl := some t } :: r

/-- Pieces of the spans of a text: in the template role a matched spelling is its control token (R199, R235); in user
text it is escaped (R198). `pos` is the place in the normalised text. -/
def siftSpans (v : Vocab) (template : Bool) : Nat → List Span → List PieceOut
  | _, [] => []
  | pos, sp :: r =>
    let n := (ncBytes sp.text).length
    (match sp.ctrl, template with
    | some t, true => [⟨pos + n, [⟨t, ((sp.text.head?).map (·.src)).getD 0, false, pos, n, 0⟩], eventStats sp.text, [], [], some t⟩]
    | some t, false =>
      leadCtrl t (countSpan (siftPieces v pos (cutPieces v (sp.text.map (fun x => { x with fl := x.fl ||| 0x40 })))))
    | none, _ => siftPieces v pos (cutPieces v sp.text)) ++ siftSpans v template (pos + n) r

/-- What stages 1 to 6 make of a text: pieces and normalised text. -/
structure Sifted where
  pieces : List PieceOut
  norm   : List NC

def Sifted.toks (x : Sifted) : List OTok := x.pieces.flatMap (·.toks)

def Sifted.stats (x : Sifted) : SiftStats := (x.pieces.map (·.stats)).foldl SiftStats.add {}

/-- Stages 2 to 6 on decoded code points. -/
def siftCps (v : Vocab) (template : Bool) (cps : List DC) : Sifted :=
  let ncs := (normalise v.norm cps).1.map toNC
  let sps := ctrlSpans v.ctl (ncs.length + 1) [] ncs
  ⟨siftSpans v template 0 sps, sps.flatMap (·.text)⟩

/-- Stages 1 to 6 on a whole text under REPLACE; the second part is the first malformed byte (R190). -/
def sift (v : Vocab) (template : Bool) (text : Bytes) : Sifted × Option Nat :=
  let d := utf8Decode false text.length 0 text
  (siftCps v template d.cps, d.bad)

/-- INTAKE_FLAGS of R208 from the work counted. -/
def intakeFlags (st : SiftStats) : Nat :=
  b2n (st.repl != 0) + 2 * b2n (st.escaped != 0) + 4 * b2n (st.cuts != 0) + 8 * b2n (st.safe != 0)

/-- Bytes of a token row. -/
def tokBytes (v : Vocab) (t : Tok) : Bytes := ((v.all.find? (fun r => r.id = t)).map (·.bytes)).getD []

/-- Is a token a control token? -/
def isCtrl (v : Vocab) (t : Tok) : Bool := ((v.all.find? (fun r => r.id = t)).map (·.control)).getD false

end Sys2Proof.Machine
end

