-- ==== Sys2Proof/Machine/Kneader.lean ====
section
/-! DEFINITION. Assembly in the Kneader (R248 to R264): template, slot and passage tokens in order, and truncation. -/

namespace Sys2Proof.Machine

/-- A part of a sequence. A unit (SLOT or passage body) can be cut; a passage carries its wrapper tokens around it. DEDUCED,
log entry 34. -/
structure KUnit where
  cuttable : Bool
  passage  : Bool
  prio     : Nat
  keepTail : Bool
  minKeep  : Nat
  pre      : List Tok
  toks     : List Tok
  post     : List Tok
  dropped  : Bool
deriving DecidableEq, Repr

def KUnit.out (u : KUnit) : List Tok := if u.dropped then [] else u.pre ++ u.toks ++ u.post

def KUnit.wrap (u : KUnit) : Nat := u.pre.length + u.post.length

/-- Tokens that no truncation cuts (R260). DEDUCED, log entry 34. -/
def fixedUnit (ts : List Tok) : KUnit := ⟨false, false, 0, false, 0, [], ts, [], false⟩

/-- Tokens of a TEXT or CONTROL segment (R249); `v` is the base vocabulary. -/
def segTokens (v : Vocab) : SegKind → List Tok
  | .text b => ((sift v true b).1.toks).map (·.tok)
  | .control t => [t]
  | _ => []

/-- Units of the segments of a part without a group; `slots` gives each slot's tokens (R259). -/
def unitsOf (v : Vocab) (slots : List (List Tok)) : List Segment → List KUnit
  | [] => []
  | g :: r =>
    match g.kind with
    | .slot n => ⟨true, false, g.prio, g.keepTail, g.minKeep, [], slots.getD n [], [], false⟩ :: unitsOf v slots r
    | k => fixedUnit (segTokens v k) :: unitsOf v slots r

/-- Segments outside the group. -/
def outerSegs (l : List Segment) : List Segment :=
  l.takeWhile (fun x => x.kind != .groupOpen) ++ ((l.dropWhile (fun x => x.kind != .groupOpen)).dropWhile (fun x => x.kind != .groupClose)).drop 1

/-- Segments inside the group. DEDUCED, log entry 34. -/
def innerSegs (l : List Segment) : List Segment :=
  ((l.dropWhile (fun x => x.kind != .groupOpen)).drop 1).takeWhile (fun x => x.kind != .groupClose)

def hasGroup (l : List Segment) : Bool := l.any (fun x => x.kind == .groupOpen)

/-- Units of a sequence: before the group, the passages, behind it. -/
def sequenceUnits (v : Vocab) (segs : List Segment) (slots passages : List (List Tok)) : List KUnit :=
  let before := segs.takeWhile (fun x => x.kind != .groupOpen)
  let behind := ((segs.dropWhile (fun x => x.kind != .groupOpen)).dropWhile (fun x => x.kind != .groupClose)).drop 1
  let inner := innerSegs segs
  let pre := (inner.takeWhile (fun x => x.kind != .passage)).flatMap (fun x => segTokens v x.kind)
  let post := ((inner.dropWhile (fun x => x.kind != .passage)).drop 1).flatMap (fun x => segTokens v x.kind)
  let group := match inner.find? (fun x => x.kind == .passage) with
    | some p => passages.map (fun ts => (⟨true, true, p.prio, p.keepTail, p.minKeep, pre, ts, post, false⟩ : KUnit))
    | none => []
  unitsOf v slots before ++ group ++ unitsOf v slots behind

def unitsLen (us : List KUnit) : Nat := (us.map (fun u => u.out.length)).foldl (· + ·) 0

/-- Remove `n` tokens on the unit's SIDE. -/
def cutUnit (n : Nat) (u : KUnit) : KUnit :=
  { u with toks := if u.keepTail then u.toks.drop n else u.toks.take (u.toks.length - n) }

/-- Truncation of R260: the excess left (at or below 0 when met) and the units. -/
def truncStep (st : Int × List KUnit) (i : Nat) : Int × List KUnit :=
  if st.1 ≤ 0 then st
  else match st.2[i]? with
    | none => st
    | some u =>
      let cut := min st.1.toNat (u.toks.length - u.minKeep)
      let u' := cutUnit cut u
      let e := st.1 - cut
      if u.passage && u'.toks.isEmpty then (e - u.wrap, setAt i (fun _ => { u' with dropped := true }) st.2)
      else (e, setAt i (fun _ => u') st.2)

/-- Units in cutting order: TRUNC_PRIO rising, later in the sequence first. -/
def cutOrder (us : List KUnit) : List Nat :=
  let ix := ((List.range us.length).zip us).reverse
  (List.range 8).flatMap (fun p => (ix.filter (fun x => x.2.cuttable && x.2.prio = p)).map (·.1))

def truncate (budget : Nat) (us : List KUnit) : Int × List KUnit :=
  if budget = 0 || unitsLen us ≤ budget then (0, us)
  else (cutOrder us).foldl truncStep ((unitsLen us : Int) - budget, us)

/-- What one assembled sequence holds (R257). -/
structure KSeq where
  toks  : List Tok
  cut   : Nat
  fixed : Nat
  kept  : Nat
  dropped : Nat
  /-- Of each passage in order: the first token kept, and how many (R259 step 5). -/
  parts : List (Nat × Nat)
  /-- The budget could not be met (R261). -/
  isOver : Bool
deriving DecidableEq, Repr

def assemble (v : Vocab) (segs : List Segment) (slots passages : List (List Tok)) (budget : Nat) : KSeq :=
  let us := sequenceUnits v segs slots passages
  let t := truncate budget us
  let out := t.2.flatMap KUnit.out
  let kept := t.2.filter (fun u => u.passage && !u.dropped)
  { toks := out, cut := unitsLen us - out.length
    fixed := ((t.2.filter (fun u => !u.cuttable)).map (fun u => u.toks.length)).foldl (· + ·) 0
      + (kept.map KUnit.wrap).foldl (· + ·) 0
    parts := ((us.zip t.2).filter (fun x => x.1.passage)).map (fun x =>
      (if x.2.keepTail then x.1.toks.length - x.2.toks.length else 0, if x.2.dropped then 0 else x.2.toks.length))
    kept := kept.length, dropped := (t.2.filter (·.dropped)).length, isOver := 0 < t.1 }

/-- RECORD_BYTES (R256). DEDUCED, log entry 42. -/
def recordBytes (budget : Nat) : Nat := ceilDiv (32 + 4 * budget) 64 * 64

/-- AFLAGS [5:2] from the slots' intake work (R257). -/
def kneadFlags (st : SiftStats) : Nat :=
  4 * b2n (st.repl != 0) + 8 * b2n (st.escaped != 0) + 16 * b2n (st.cuts != 0) + 32 * b2n (st.safe != 0)

/-- A record's bytes (R257); the record of a pair whose budget cannot be met holds no token and no passage (R261). -/
def kneadRecord (template : Handle) (seq : Nat) (flags : Nat) (k : KSeq) (empty : Bool) : Bytes :=
  let n := if empty then 0 else k.toks.length
  le 4 template ++ le 4 seq ++ le 4 n
    ++ le 1 (flags + b2n (k.cut != 0 && !empty) + 2 * b2n (k.dropped != 0 && !empty)) ++ zeros 3
    ++ le 4 (if empty then 0 else k.cut) ++ le 4 (if empty then 0 else k.fixed) ++ le 2 (if empty then 0 else k.kept) ++ zeros 6
    ++ (if empty then [] else k.toks.flatMap (fun t => le 4 t))

end Sys2Proof.Machine
end

