-- ==== Sys2Proof/Machine/Images.lean ====
section
/-! DEFINITION. Object images: the header of R126 and R127, the header checks of OBJ_CREATE, and the structural
validation of each kind's body at seal (R200, R220, R221, R248 to R250, R367 to R371, R391, R392). -/

namespace Sys2Proof.Machine

/-! ### Header fields -/

def hdKind (h : Bytes) : Nat := rd h 6 1
def hdFlags (h : Bytes) : Nat := rd h 7 1
def hdOverlay (h : Bytes) : Bool := bit (hdFlags h) 0
def hdCrust (h : Bytes) : Bool := bit (hdFlags h) 1
def hdSize (h : Bytes) : Nat := rd h 16 8
def hdT0 (h : Bytes) : Nat := rd h 24 4
def hdT1 (h : Bytes) : Nat := rd h 28 4
def hdUid (h : Bytes) : Nat := rd h 32 8
def hdDep (h : Bytes) : Nat := rd h 40 8
def hdCrc (h : Bytes) : Nat := rd h 92 4
def hdDigest (h : Bytes) : Bytes := slice h 96 32
def vSize (h : Bytes) : Nat := rd h 48 4
def vMode (h : Bytes) : Nat := rd h 52 1
def vNorm (h : Bytes) : Nat := rd h 53 1
def vMax (h : Bytes) : Nat := rd h 54 1
def vEnd (h : Bytes) : Nat := rd h 56 3
def vControl (h : Bytes) : Nat := rd h 60 4
def gStates (h : Bytes) : Nat := rd h 48 4
def gStart (h : Bytes) : Nat := rd h 52 4
def gDead (h : Bytes) : Nat := rd h 56 1
def gSource (h : Bytes) : Nat := rd h 57 1
def tFixed (h : Bytes) : Nat := rd h 48 4
def tSegs (h : Bytes) : Nat := rd h 52 2
def pPassages (h : Bytes) : Nat := rd h 48 8
def pTokens (h : Bytes) : Nat := rd h 56 8
def bEntries (h : Bytes) : Nat := rd h 48 4
def bBans (h : Bytes) : Nat := rd h 52 4
def sTemp (h : Bytes) : Nat := rd h 48 4

/-- Reserved bytes of KIND_PARAMS are zero (R126, R127). -/
def hdParamsOk (h : Bytes) : Bool :=
  match hdKind h with
  | 1 => rd h 55 1 == 0 && rd h 59 1 == 0
  | 2 => rd h 58 6 == 0
  | 3 => rd h 54 10 == 0
  | 4 => true
  | 5 => rd h 56 8 == 0
  | 6 => rd h 52 12 == 0
  | _ => false

/-- Step 2 of R132: identity, revision (R17), kind, flags, size, reserved fields and DEP_UID against KIND. -/
def headerOk (h : Bytes) : Bool :=
  h.length == 128 && rd h 0 4 == 0x4F515745 && rd h 5 1 == 2 && rd h 4 1 == 0
    && 1 ≤ hdKind h && hdKind h ≤ 6 && hdFlags h < 4 && (!hdOverlay h || hdKind h == 1)
    && rd h 8 2 == 128 && rd h 10 2 == 0 && 192 ≤ hdSize h && hdSize h ≤ 2 ^ 36 && rd h 64 28 == 0 && hdParamsOk h
    && hdCrc h == crc32c (h.take 92)
    && (if hdKind h == 6 || (hdKind h == 1 && !hdOverlay h) then hdDep h == 0 else hdDep h != 0)

/-- TEMP_SCALE of R61: 0 or at least 0x0001_0000. -/
def tempOk (t : Nat) : Bool := t == 0 || 0x10000 ≤ t

/-! ### Bodies -/

def noDup {α : Type} [DecidableEq α] : List α → Bool
  | [] => true
  | a :: r => !r.contains a && noDup r

def rising : List Nat → Bool
  | a :: b :: r => a < b && rising (b :: r)
  | _ => true

/-- The lowest and highest legal stored score, in crumbs: −256 bits + 2^-31 to 0 (R221). -/
def scoreOk (x : Int) : Bool := -(256 * 2 ^ 31 : Int) < x && x ≤ 0

def ordinary (t : TokRow) : Bool := !t.control && !t.fallback

/-- The split table's structure (R200, R201). -/
def splitOk (t : SplitTable) : Bool :=
  t.codes.length == 1024 && t.codes.all (· < 3) && t.caps.length == 32 && t.caps.all (· < 256)
    && t.classes.all (fun r => r.lo ≤ r.hi && r.cls < 32)

/-- A vocabulary or overlay body under R221; `base` is the base version's header and body for an overlay, whose fallback
section is the overlay's too (R223). An unknown-token ID that is a CONTROL token is refused, since none may appear in user
text (R199; DEDUCED, log entry 144). -/
def vocabOk (h : Bytes) (b : VocabBody) (base : Option (Bytes × VocabBody)) : Bool :=
  let baseToks := (base.map (fun x => x.2.tokens)).getD []
  let lo := (base.map (fun x => vSize x.1)).getD 0
  let ord := (baseToks ++ b.tokens).filter ordinary
  let all := baseToks ++ b.tokens
  let row := fun (t : Tok) => all.find? (fun r => r.id = t)
  1 ≤ vSize h && vSize h ≤ 2 ^ 21 && vMode h < 3 && vNorm h < 3 && 1 ≤ vMax h && vMax h ≤ 128 && vEnd h < vSize h
    && (base.isNone || (lo < vSize h && (match base with
        | some x => vMode h == vMode x.1 && vNorm h == vNorm x.1 && vMax h == vMax x.1
        | none => true)))
    && (b.tokens.map (·.id)) == (List.range (vSize h - lo)).map (· + lo)
    && b.tokens.all (fun t => scoreOk t.score && 1 ≤ t.bytes.length && t.bytes.length ≤ vMax h)
    && (b.tokens.filter (·.control)).length == vControl h
    && noDup (ord.map (·.bytes))
    && splitOk b.split
    && (base.isSome || (match b.fallback with
      | .byte ids => ids.length == 256 && noDup ids
          && ((List.range 256).zip ids).all (fun p => match row p.2 with
            | some r => !r.control && r.bytes == [BitVec.ofNat 8 p.1]
            | none => false)
      | .unk id => ((row id).map (fun r => !r.control)).getD false && vMode h != 2))
    && (match (base.map (fun x => x.2.fallback)).getD b.fallback with
      | .unk _ => ord.all (fun t => utf8Ok t.bytes)
      | .byte _ => true)
    && (vMode h != 2 || b.merges.all (fun m => match row m.result with
      | some r => ordinary r
      | none => false))
    && noDup (b.merges.map (fun m => (m.left, m.right))) && noDup (b.merges.map (·.rank))

/-- May a grammar allow this token (R367)? -/
def grammarToken (vh : Bytes) (v : VocabBody) (t : Tok) : Bool :=
  t = vEnd vh || match v.tokens.find? (fun r => r.id = t) with
    | some r => ordinary r || (match v.fallback with | .byte ids => ids.contains t | .unk _ => false)
    | none => false

/-- One state of a grammar body (R367, R368, R370, R371). -/
def gstateOk (vh : Bytes) (v : VocabBody) (n : Nat) (deadEos : Bool) (g : GState) : Bool :=
  g.allowed.all (fun t => t < vSize vh && grammarToken vh v t) && rising g.allowed
    && g.accept == g.allowed.contains (vEnd vh)
    && g.terminal == (g.accept && g.allowed == [vEnd vh])
    && (!g.eosPermit || (deadEos && g.allowed.isEmpty))
    && 1 ≤ g.enc && g.enc ≤ 3 && (!g.allowed.isEmpty || g.enc == 1)
    && g.tiles == ((List.range (ceilDiv (vSize vh) 256)).filter (fun j => g.allowed.any (fun t => t / 256 = j)))
    && g.trans.all (fun p => 1 ≤ p.2 && p.2 ≤ n)
    && (g.trans.map (·.1)) == g.allowed.filter (fun t => t != vEnd vh)

def grammarOk (h : Bytes) (b : GrammarBody) (vh : Bytes) (v : VocabBody) : Bool :=
  1 ≤ gStates h && gStates h ≤ 16777215 && b.states.length == gStates h && 1 ≤ gStart h && gStart h ≤ gStates h
    && gDead h < 2 && gSource h < 3 && b.states.all (gstateOk vh v (gStates h) (gDead h == 1))

/-- A version's region as the Sifter searches it; where there is none, every probe goes on to the spelling table. -/
def Terrace.vtab (te : Terrace) (kind key ver uid : Nat) (toks : List TokRow) : VTab :=
  match te.verRegion kind key ver with
  | some r => ⟨key, ver, uid, r.salt, r.rows, toks, r.full⟩
  | none => ⟨key, ver, uid, 0, [], toks, false⟩

/-- A vocabulary version's two regions: VOCAB and CONTROL. -/
def Terrace.vtabs (te : Terrace) (key ver uid : Nat) (b : VocabBody) : VTab × VTab :=
  (te.vtab rkVOCAB key ver uid (b.tokens.filter ordinary), te.vtab rkCONTROL key ver uid (b.tokens.filter (·.control)))

/-- The vocabulary view of a version with its regions, VOCAB and CONTROL. -/
def vocabView (vh : Bytes) (b : VocabBody) (regs : List (VTab × VTab)) : Vocab :=
  { norm := vNorm vh, mode := vMode vh, maxBytes := vMax vh, size := vSize vh, rows := b.tokens.filter ordinary
    ctrls := b.tokens.filter (·.control), all := b.tokens, fallback := b.fallback, merges := b.merges, merges2 := []
    split := b.split, regs := regs.map (·.1), ctl := regs.map (·.2) }

/-- A template body (R248, R249); `v` is the base vocabulary its text is prepared against. -/
def templateOk (h : Bytes) (b : TemplateBody) (v : Vocab) : Bool :=
  let opens := (b.segs.filter (fun g => g.kind == .groupOpen)).length
  let closes := (b.segs.filter (fun g => g.kind == .groupClose)).length
  let inner := innerSegs b.segs
  let len := fun (l : List Segment) => ((l.map (fun g => (segTokens v g.kind).length)).foldl (· + ·) 0)
  b.segs.length == tSegs h && 1 ≤ b.segs.length && b.segs.length ≤ 256
    && opens ≤ 1 && opens == closes
    && (opens == 0 || ((inner.filter (fun g => g.kind == .passage)).length == 1
        && b.segs.any (fun g => g.kind == .groupClose)
        && inner.all (fun g => match g.kind with | .slot _ => false | .groupOpen => false | _ => true)))
    && (b.segs.filter (fun g => g.kind == .passage)).length == opens
    && ((b.segs.takeWhile (fun g => g.kind != .groupOpen)).all (fun g => g.kind != .groupClose))
    && b.segs.all (fun g => (match g.kind with
        | .reserved _ => false
        | .slot n => n < 8
        | .control t => isCtrl v t
        | _ => true) && g.prio < 8 && g.minKeep < 65536)
    && len (outerSegs b.segs) == tFixed h && tFixed h ≤ 65535
    && len (inner.filter (fun g => match g.kind with | .text _ => true | _ => false)) ≤ 4096

/-- A passage store body (R250). -/
def storeOk (h : Bytes) (b : StoreBody) (vb : VocabBody) : Bool :=
  b.passages.length == pPassages h
    && ((b.passages.map (fun p => p.tokens.length)).foldl (· + ·) 0) == pTokens h
    && b.passages.all (fun p => 1 ≤ p.ident.length && p.ident.length ≤ 64 && 1 ≤ p.tokens.length && p.tokens.length ≤ 2 ^ 22
        && p.tokens.all (fun t => match vb.tokens.find? (fun r => r.id = t) with
          | some r => !r.control
          | none => false))
    && noDup (b.passages.map (·.ident))

/-- A bias set body (R392). -/
def biasOk (h : Bytes) (b : BiasBody) (size : Nat) : Bool :=
  b.biases.length == bEntries h && b.bans.length == bBans h
    && b.biases.all (fun p => p.1 < size && -(2 ^ 31 : Int) ≤ p.2 && p.2 < (2 ^ 31 : Int)) && b.bans.all (· < size)
    && noDup (b.biases.map (·.1)) && noDup b.bans

/-- A sampling profile body (R391). -/
def profileOk (h : Bytes) (b : ProfileBody) : Bool :=
  b.tempScale == sTemp h && tempOk b.tempScale && b.tempScale < 2 ^ 32 && b.topK ≤ 4096 && b.topP < 2 ^ 32
    && (b.minP == -(2 ^ 39 : Int) || scoreOk b.minP)
    && 0 ≤ b.presence && b.presence < (2 ^ 31 : Int) && 0 ≤ b.frequency && b.frequency < (2 ^ 31 : Int)
    && 1 ≤ b.rpPos && b.rpPos ≤ 0x01000000 && 0x01000000 ≤ b.rpNeg && b.rpNeg < 2 ^ 32 && b.countScope < 2

/-! ### Looking an object's versions up -/

/-- The current or a pinned version of an object. -/
def Obj.ver (o : Obj) (n : Nat) : Option Version := o.versions.find? (fun v => v.num = n)

def Obj.curVer (o : Obj) : Option Version := o.ver o.cur

/-- OSTATE (R130): READY splits by what became of the current version. -/
def Obj.ostate (o : Obj) : Nat :=
  if o.state ≠ osREADY then o.state
  else match o.curVer with
    | some v => if v.lost then osLOST else if v.quarantine then osQUARANTINED else osREADY
    | none => osREADY

def Terrace.obj (te : Terrace) (h : Handle) : Option Obj := te.objs.get (hKey h)

def Terrace.modObj (te : Terrace) (k : Nat) (f : Obj → Obj) : Terrace := { te with objs := te.objs.mod k f }

/-- Version `n` of the object of a handle. -/
def Terrace.objVer (te : Terrace) (h : Handle) (n : Nat) : Option Version := (te.obj h).bind (fun o => o.ver n)

/-- The object's own header: the current version's, or the one read at OBJ_CREATE. -/
def Obj.hdr (o : Obj) : Bytes := match o.curVer with | some v => v.header | none => o.header

/-- Header and body of a sealed vocabulary object's current version. -/
def Obj.vocabBody (o : Obj) : Option (Bytes × VocabBody) :=
  match o.curVer with
  | some v => match v.body with | some (.vocab x) => some (v.header, x) | _ => none
  | none => none

/-- Header and body of the vocabulary an object's DEP_UID names; a base vocabulary is never replaced (R124), and an
overlay stands for its base and itself together (R223). -/
def Terrace.baseOf (te : Terrace) (o : Obj) : Option (Bytes × VocabBody) :=
  match te.obj o.base with
  | none => none
  | some b =>
    match b.vocabBody with
    | none => none
    | some (h, x) =>
      if b.overlay then
        match (te.obj b.base).bind Obj.vocabBody with
        | some (_, y) => some (h, { x with tokens := y.tokens ++ x.tokens, fallback := y.fallback, split := y.split })
        | none => none
      else some (h, x)

/-- The body of a vocabulary version and its regions. -/
def Terrace.vocabVer (te : Terrace) (h : Handle) (ver : Nat) : Option (Version × VocabBody × (VTab × VTab)) :=
  match te.objVer h ver with
  | some v => match v.body with
    | some (.vocab b) => some (v, b, te.vtabs (hKey h) ver (hdUid v.header) b)
    | _ => none
  | none => none

/-- A vocabulary version as segmentation sees it (R222, R223, R234); under an overlay the base's one version with it (R124). -/
def Terrace.vocab (te : Terrace) (h : Handle) (ver : Nat) : Option Vocab :=
  match te.obj h, te.vocabVer h ver with
  | some o, some (v, b, own) =>
    if o.overlay then
      match te.vocabVer o.base 1 with
      | some (_, bb, base) =>
        some { vocabView v.header { bb with tokens := bb.tokens ++ b.tokens } [base, own] with merges2 := b.merges }
      | none => none
    else some (vocabView v.header b [own])
  | _, _ => none

/-- The vocabulary an object's DEP_UID names, as segmentation sees it. -/
def Terrace.baseVocab (te : Terrace) (o : Obj) : Option Vocab :=
  match te.obj o.base with
  | some b => te.vocab o.base b.cur
  | none => none

/-- A vocabulary's own OBJ_UID and, for an overlay, its base's: what a DEP_UID may name (R256, R273 check 3). -/
def Terrace.vocabUids (te : Terrace) (h : Handle) : List Nat :=
  match te.obj h with
  | none => []
  | some o => hdUid o.hdr :: (if o.overlay then [hdDep o.hdr] else [])

/-- The base vocabulary of a vocabulary handle: itself, or what it extends. -/
def Terrace.rootVocab (te : Terrace) (h : Handle) : Handle :=
  match te.obj h with
  | some o => if o.overlay then o.base else h
  | none => h

/-- Structural validation of a sealed image's body by kind. -/
def Terrace.bodyOk (te : Terrace) (o : Obj) (h : Bytes) (b : ObjBody) : Bool :=
  match b with
  | .vocab x => hdKind h == 1 && (if hdOverlay h then (te.baseOf o).isSome && vocabOk h x (te.baseOf o) else vocabOk h x none)
  | .grammar x => hdKind h == 2 && (match te.baseOf o with | some (vh, vb) => grammarOk h x vh vb | none => false)
  | .template x => hdKind h == 3 && (match te.baseVocab o with | some v => templateOk h x v | none => false)
  | .store x => hdKind h == 4 && (match te.baseOf o with | some (_, vb) => storeOk h x vb | none => false)
  | .bias x => hdKind h == 5 && (match te.baseOf o with | some (vh, _) => biasOk h x (vSize vh) | none => false)
  | .profile x => hdKind h == 6 && profileOk h x

end Sys2Proof.Machine
end

