-- ==== Sys2Proof/Machine/SyncOps.lean ====
section
/-! DEFINITION. Operations on sync objects (R117 to R123) and pins on objects (R135 to R140): every change of a value
with its mirror write and the waits it satisfies, and what the end of a user releases. -/

namespace Sys2Proof.Machine

/-! ### Sync objects -/

/-- The sync object a handle names. -/
def State.sync (s : State) (h : Handle) : Option SyncObj :=
  ((s.terrace (hTerr h)).bind (fun te => te.syncs.get (hIndex h))).bind (fun x => if x.gen = hGen h then some x else none)

def State.modSync (s : State) (h : Handle) (f : SyncObj → SyncObj) : State :=
  s.modT (hTerr h) (fun te => { te with syncs := te.syncs.mod (hIndex h) f })

/-- Memory port of a terrace's accelerator-shared region (R144). -/
def State.sharedPort (s : State) (t : Nat) : Nat := ((s.terrace t).map (fun te => te.desc.shPort)).getD 0

/-- Write the value to the mirror (R119). -/
def State.mirrorWrite (s : State) (h : Handle) (kind val : Nat) : State :=
  if kind = 1 then s.hfpIssue (hTerr h) (.mirror (hTerr h) h val)
  else if kind = 2 then s.mpIssue (s.sharedPort (hTerr h)) (.mirror (hTerr h) h val)
  else s

/-- A value changes to `v`: its mirror is written, then satisfied waits complete with the value observed (R119, R122). -/
def State.syncSet (s : State) (h : Handle) (v : Nat) : State :=
  match s.sync h with
  | none => s
  | some x =>
    let s := (s.modSync h (fun y => { y with value := v, waiters := y.waiters.filter (fun w => v < w.target) })).mirrorWrite
      h x.kind v
    s.forEach (x.waiters.filter (fun w => w.target ≤ v)) (fun s w => s.final w.ticket stOK h 0 noField v 0)

/-- Advance by `n` (R215, R258). DESIGN CHOICE, log entry 136. -/
def State.syncAdd (s : State) (h : Handle) (n : Nat) : State :=
  match s.sync h with
  | some x => s.syncSet h (min max64 (x.value + n))
  | none => s

/-- The effect of ADVANCE_TO (R442). -/
def State.syncTo (s : State) (h : Handle) (v : Nat) : State :=
  match s.sync h with
  | some x => if x.value < v then s.syncSet h v else s
  | none => s

/-- The object enters error: pending waits complete with DATA_ERROR (R119). Commands on it complete with DATA_ERROR; the
block's own changes still move its value, and other commands may still name it (DESIGN CHOICE, log entry 136). -/
def State.syncFail (s : State) (h : Handle) : State :=
  match s.sync h with
  | none => s
  | some x =>
    (s.modSync h (fun y => { y with err := true, waiters := [] })).forEach x.waiters (fun s w =>
      s.final w.ticket stDATA_ERROR h 0 noField 0 0)

/-- Every pending wait completes with CANCELLED, RESULT0 being the counter (R123, R467; DESIGN CHOICE, log entry 136). -/
def State.syncCancel (s : State) (h : Handle) : State :=
  match s.sync h with
  | none => s
  | some x =>
    (s.modSync h (fun y => { y with waiters := [] })).forEach x.waiters (fun s w =>
      s.final w.ticket stCANCELLED h 0 noField x.value 0)

/-- Does the area lie inside the terrace's accelerator-shared region (R144)? -/
def Terrace.inShared (te : Terrace) (addr len : Nat) : Bool :=
  te.desc.shSize ≠ 0 && te.desc.shBase ≤ addr && addr + len ≤ te.desc.shBase + 65536 * te.desc.shSize

/-! ### T1 quota (R143), in 64-byte data lines -/

/-- Data lines of a quota of `u` units of 64 KiB. DEDUCED, log entry 30. -/
def dataLines (u : Nat) : Nat := 16 * (1024 * u / 17)

/-- T1 bytes that hold `n` data lines, tags included (R132). DEDUCED, log entry 30. -/
def t1Bytes (n : Nat) : Nat := 64 * (n + ceilDiv n 16)

/-- T1_NEED of a header in data lines. -/
def hdLines (h : Bytes) : Nat := 1024 * rd h 28 4

/-- Lines an object holds: its versions', or what OBJ_CREATE reserved, and those of a version being made. -/
def Obj.lines (o : Obj) : Nat :=
  ((o.making.map (·.t1Lines)).getD 0) +
    if o.t1Gone then 0
    else if o.versions.isEmpty then hdLines o.header
    else (o.versions.map (·.t1Lines)).foldl (· + ·) 0

/-- Lines a Starter's tokens take (R312). -/
def tokLines (n : Nat) : Nat := ceilDiv (4 * n) 64

/-- T1 data lines a terrace holds: objects, Starters, the spill area and the journal area (R129, R143). DEDUCED, log entry
30. DESIGN CHOICE, log entry 127. -/
def Terrace.t1Used (te : Terrace) : Nat :=
  Config.journalLines te.desc.reqQuota te.desc.starterQuota
    + (te.objs.map (fun o => o.2.lines)).foldl (· + ·) 0 + (te.starters.map (fun x => tokLines x.2.toks.length)).foldl (· + ·) 0
    + (te.reqs.map (fun r => r.2.spillT1)).foldl (· + ·) 0

def Terrace.t1Free (te : Terrace) : Nat := dataLines te.desc.t1mp0 + dataLines te.desc.t1mp1 - te.t1Used

/-- A memory port that holds the terrace's quota (R143); where both do, which one is the block's own choice. DESIGN CHOICE,
log entry 127. -/
def Terrace.port (te : Terrace) (k : Nat) : Nat :=
  if te.desc.t1mp1 = 0 then 0 else if te.desc.t1mp0 = 0 then 1 else Config.t1Port k % 2

/-- Put an operation on a port of the terrace's quota. -/
def State.mpOwn (s : State) (t : Nat) (k : MpKind) : State :=
  s.mpIssue (((s.terrace t).map (fun te => te.port s.nextId)).getD 0) k

/-! ### Core time (R456) -/

/-- eclk cycles per tick, in tenths, at a level (R478). PRESUMED, log entry 125. -/
def eclk10 (level : Nat) : Nat := [160, 140, 120, 100, 85, 70, 55, 40].getD level 100

/-- A window of 65,536 eclk cycles in ticks at the level in force (R456). DEDUCED, log entry 44. PRESUMED, log entry 125. -/
def State.windowTicks (s : State) : Nat := ceilDiv 655360 (eclk10 s.pwr.level)

/-- The window of a terrace that holds the present tick: its core time starts again with each window. DEDUCED, log entry 44. -/
def Terrace.rollUse (te : Terrace) (tick win : Nat) : Terrace :=
  if tick < te.usedAt + win then te
  else { te with used := [0, 0, 0, 0], usedAt := te.usedAt + (tick - te.usedAt) / win * win }

/-- A task's core time in the present window, at its end. DEDUCED, log entry 44. -/
def State.chargeTask (s : State) (k : Task) : State :=
  if k.core.isNone then s
  else s.modT k.terr (fun te =>
    let te := te.rollUse s.tick s.windowTicks
    { te with used := setAt k.cls (· + (s.tick - max k.began te.usedAt)) te.used })

/-- A search of a core in quad 0 stalls while bank group 0 is not powered (R184). -/
def State.rbStalls (s : State) (core : Nat) : Bool := core / 4 = 0 && !s.sleep.rbOn

/-- Bank group 0 wakes on demand (R184, R502). -/
def State.wantRb (s : State) : State := { s with sleep := { s.sleep with rbWait := some (s.sleep.rbWait.getD s.tick) } }

/-- Bytes of a core's private scratch (R27). -/
def scratchBytes : Nat := 512 * 1024

/-- A task begins on a core: its data takes up scratch, and its program uses the lanes. DESIGN CHOICE, log entry 149. -/
def State.useCore (s : State) (c bytes : Nat) : State :=
  { s with fresh := s.fresh + 1
           cores := setAt c (fun _ => ⟨(List.range 16).map (Config.laneValue s.fresh), min bytes scratchBytes⟩) s.cores }

/-- A core is free: it is awake work's to take, its quad's programs are loaded, and no task runs on it (R28, R29). -/
def State.coreFree (s : State) (c : Nat) : Bool :=
  decide (c < s.cfg.cores) && s.programs.contains (c / 4) && !s.tasks.any (fun k => k.core == some c)

/-! ### The end of a task's fetches (R239) -/

/-- A task ends: its unanswered run-ahead fills are dropped, and the lines they brought that it never read are counted
(R239). -/
def State.endFetch (s : State) (k : Task) : State :=
  match s.terrace k.terr, k.core with
  | some te, some core =>
    let idle := (te.pantry.filter (fun p => p.unread = k.id)).length
    let s := { s with mp := s.mp.filter (fun o => match o.kind with | .line _ _ _ id a => !(a && id = k.id) | _ => true) }
    (s.count cPREFETCH_WASTE k.terr (locQuad (core / 4)) idle).modT k.terr (fun te =>
      { te with pantry := te.pantry.map (fun p => if p.unread = k.id then { p with unread := 0 } else p) })
  | _, _ => s

/-- The task is gone. -/
def State.dropTask (s : State) (id : Nat) : State :=
  let s := match s.task id with
    | some k => s.endFetch k
    | none => s
  { s with tasks := s.tasks.filter (fun k => k.id != id) }

/-- Is the task the intake of the request? -/
def Task.isIntake (h : Handle) (k : Task) : Bool := match k.kind with | .intake q => q = h | _ => false

/-- The intake tasks of a request end. -/
def State.stopIntake (s : State) (h : Handle) : State :=
  s.forEach (s.tasks.filter (Task.isIntake h)) (fun s k => (s.chargeTask k).dropTask k.id)

/-! ### Pins (R136, R137, R140) -/

def State.obj (s : State) (h : Handle) : Option Obj :=
  ((s.terrace (hTerr h)).bind (fun te => te.objs.get (hKey h))).bind (fun o => if o.gen = hGen h then some o else none)

def State.modObj (s : State) (h : Handle) (f : Obj → Obj) : State :=
  s.modT (hTerr h) (fun te => { te with objs := te.objs.mod (hKey h) (fun o => if o.gen = hGen h then f o else o) })

/-- The version a new user of the object pins. -/
def State.curVer (s : State) (h : Handle) : Nat := ((s.obj h).map (·.cur)).getD 0

def Obj.users (o : Obj) : Nat := (o.versions.map (·.users)).foldl (· + ·) 0

/-- What keeps a version from retiring: its users, and the Starters that hold it (R140, R312). -/
def Version.held (v : Version) : Bool := v.users ≠ 0 || v.starters ≠ 0

def Obj.held (o : Obj) : Bool := o.versions.any Version.held

def Obj.modVer (o : Obj) (n : Nat) (f : Version → Version) : Obj :=
  { o with versions := o.versions.map (fun v => if v.num = n then f v else v) }

/-- One more user of version `v`. -/
def State.pin (s : State) (h : Handle) (v : Nat) : State :=
  s.modObj h (fun o => o.modVer v (fun x => { x with users := x.users + 1 }))

/-- A Starter holds version `v` of its vocabulary (R312). -/
def State.pinStarter (s : State) (h : Handle) (v : Nat) : State :=
  s.modObj h (fun o => o.modVer v (fun x => { x with starters := x.starters + 1 }))

/-- Regions of a version are freed when it retires (R163). -/
def Terrace.dropRegions (te : Terrace) (key : Nat) (keep : Nat → Bool) : Terrace :=
  { te with regions := te.regions.filter (fun r =>
      !((r.kind = 1 || r.kind = 2 || r.kind = 5) && r.obj = key && !keep r.ver)) }

/-- Mask lines of a terrace are invalidated; those that no row has read were wasted fills (R383, R388). -/
def State.dropMaskLines (s : State) (t : Nat) (gone : MaskLine → Bool) : State :=
  let ms := ((s.terrace t).map (·.masks)).getD []
  (s.forEach (ms.filter (fun m => gone m && m.unread)) (fun s m => s.count cPREFETCH_WASTE t (locBay m.bay) 1)).modT t (fun te =>
    { te with masks := te.masks.filter (fun m => !gone m) })

/-- The slot of an object is freed: regions, resident lines and the slot itself go; its next use has the next
generation (R94, R135). -/
def State.freeObj (s : State) (h : Handle) : State :=
  ((s.dropMaskLines (hTerr h) (fun m => m.obj == hKey h)).modT (hTerr h) (fun te =>
    let te := te.dropRegions (hKey h) (fun _ => false)
    { te with objs := te.objs.del (hKey h)
              pantry := te.pantry.filter (fun p => p.line.obj != hKey h) })).bumpGen
      (hTerr h) (hType h) (hIndex h)

/-- Is version `n` still to be moved to at the next boundary (R141)? It lives until then. DEDUCED, log entry 129. -/
def Terrace.switching (te : Terrace) (h : Handle) (n : Nat) : Bool := te.switches.any (fun x => x.1 = h && x.2 = n)

/-- Versions that are not current and have no user retire; a COLD home releases its T1 copy; an OBJ_DESTROY whose last
user has ended writes its FINAL (R135, R140, R146). -/
def State.settleObj (s : State) (h : Handle) : State :=
  match s.obj h, s.terrace (hTerr h) with
  | some o, some te =>
    let vs := o.versions.filter (fun v => v.num = o.cur || v.held || te.switching h v.num)
    let s := (s.dropMaskLines (hTerr h) (fun m => m.obj == hKey h && !vs.any (fun v => v.num = m.ver))).modT (hTerr h) (fun te =>
      let te := te.dropRegions (hKey h) (fun n => vs.any (fun v => v.num = n) || (o.making.map (·.num)) == some n)
      { te with
        objs := te.objs.mod (hKey h) (fun o => { o with
          versions := vs, t1Gone := o.t1Gone || (o.cold && o.users = 0 && !o.versions.isEmpty)
          t0Kib := if o.cold && o.users = 0 then 0 else o.t0Kib })
        pantry := te.pantry.filter (fun p => p.line.obj != hKey h || vs.any (fun v => v.num = p.line.ver)) })
    match o.ticket with
    | some tk =>
      if o.state = osDESTROYING && !o.held then (s.freeObj h).final tk stOK h 0 noField 0 0 else s
    | none => s
  | _, _ => s

/-- A user of version `v` ends. -/
def State.unpin (s : State) (h : Handle) (v : Nat) : State :=
  if h = 0 then s else (s.modObj h (fun o => o.modVer v (fun x => { x with users := x.users - 1 }))).settleObj h

/-- A Starter gives up the version it holds. -/
def State.unpinStarter (s : State) (h : Handle) (v : Nat) : State :=
  (s.modObj h (fun o => o.modVer v (fun x => { x with starters := x.starters - 1 }))).settleObj h

/-- Status of a new user in the object's state (R131), with RESULT0 of RETRY_AFTER. DEDUCED, log entry 41. -/
def Obj.userStatus (o : Obj) : Option (Nat × Nat) :=
  if o.state = osLOADING || o.state = osSEALING then some (stNOT_PERMITTED, 0)
  else if o.state = osDESTROYING then some (stNOT_ACTIVE, 0)
  else if o.state ≠ osREADY then some (stINTERNAL, 0)
  else match o.versions.find? (fun v => v.num = o.cur) with
    | none => some (stNOT_PERMITTED, 0)
    | some v =>
      if v.lost then some (stOBJECT_LOST, 0)
      else if v.quarantine then
        some (stRETRY_AFTER, v.quarAt + 100 * (if v.limit = 0 then 100000 else v.limit))
      else none

/-- Lines that bringing the object back to T1 takes (R146). -/
def Obj.coldLines (o : Obj) : Nat :=
  if o.t1Gone then (o.versions.map (·.t1Lines)).foldl (· + ·) 0 else 0

/-- Why the objects named cannot take a new user: the first one's status under R131, or RETRY_AFTER where the T1 quota is
short for those that are cold (R146). A handle of 0 names none. DEDUCED, log entry 41. -/
def State.usable (s : State) (hs : List Handle) : Option (Nat × Nat) :=
  let os := (hs.eraseDups.filter (· ≠ 0)).map s.obj
  match (os.filterMap (fun o => match o with | some o => o.userStatus | none => some (stSTALE_HANDLE, 0))).head? with
  | some e => some e
  | none =>
    let need := (os.map (fun o => (o.map Obj.coldLines).getD 0)).foldl (· + ·) 0
    let free := ((hs.find? (· ≠ 0)).bind (fun h => s.terrace (hTerr h))).map Terrace.t1Free |>.getD 0
    if need ≠ 0 && s.boot.t2Failed then some (stDATA_ERROR, 0)
    else if need ≠ 0 && free < need then some (stRETRY_AFTER, s.tick) else none

/-- A new user pins the current version; the first user of a cold object has it copied back to T1 (R137, R146). DEDUCED, log
entry 39. -/
def State.engage (s : State) (h : Handle) : State :=
  match s.obj h with
  | none => s
  | some o =>
    let s := s.pin h o.cur
    if o.t1Gone then
      let s := s.modObj h (fun o => { o with t1Gone := false, promoting := true })
      s.flashAsk (.promote h)
    else s

/-- Is a pinned version at hand: neither quarantined nor on its way back from T2 (R146, R155)? DEDUCED, log entry 39. -/
def State.atHand (s : State) (h : Handle) (v : Nat) : Bool :=
  match s.obj h with
  | some o => !o.promoting && o.versions.all (fun x => x.num ≠ v || !x.quarantine)
  | none => true

/-- Location of the core a counter is kept at for work without a dispatched task: the lowest core of the set. -/
def Terrace.firstCore (te : Terrace) : Nat := ((List.range 64).find? (fun c => bit te.desc.coreMask c)).getD 0

end Sys2Proof.Machine
end

