-- ==== Sys2Proof/Machine/TokStream.lean ====
section
/-! DEFINITION. Token streams (R210 to R218, R236): puts, settled tokens, windows, their slots and announcements, and the
meanings of TOK_STREAM_OPEN, TOK_STREAM_PUT and TOK_STREAM_CLOSE. -/

namespace Sys2Proof.Machine

/-! ### Segmentation of an open document -/

/-- Work of the Sifter counted for a terrace at a core (R185, R219, R247); searches and probes at the core's quad. -/
def State.siftCount (s : State) (t core : Nat) (st : SiftStats) : State :=
  let l := locCore core
  (((((((((s.count cUTF8_REPLACED t l st.repl).count cSTREAMSAFE_INSERT t l st.safe).count cCONTROL_ESCAPED t l
    st.escaped).count cFORCED_CUT t l st.cuts).count cSIFT_BYTES t l st.bytes).count cSIFT_TOKENS t l st.toks).count
    cSIFT_FALLBACK t l st.fallback).count cSIFT_COLD_LOOKUP t l st.cold).count cSIFT_MERGES t l st.merges).searched t
    (locQuad (core / 4)) st.work

/-- Code points before the last starter: those that later text cannot change under normalisation (R195). -/
def stableNorm (vnorm : Nat) (l : List NC) : List NC :=
  if vnorm = 0 then l else ((l.reverse.dropWhile (fun x => ccc x.cp ≠ 0)).drop 1).reverse

/-- Is a stretch of bytes a proper prefix of a control spelling, so that later text could complete one (R197)? -/
def openSpelling (v : Vocab) (b : Bytes) : Bool :=
  v.ctrls.any (fun t => b.length < t.bytes.length && b.isPrefixOf t.bytes)

/-- Plain code points up to the first at which an unfinished spelling begins; `rest` is the text behind them. -/
def cutOpenText (v : Vocab) (rest : Bytes) : List NC → List NC × Bool
  | [] => ([], false)
  | x :: r =>
    if openSpelling v (ncBytes (x :: r) ++ rest) then ([], true)
    else let q := cutOpenText v rest r; (x :: q.1, q.2)

/-- Spans up to the first unfinished spelling. -/
def cutOpen (v : Vocab) : List Span → List Span
  | [] => []
  | sp :: r =>
    let rest := r.flatMap (fun x => ncBytes x.text)
    match sp.ctrl with
    | some _ => if openSpelling v (ncBytes sp.text ++ rest) then [] else sp :: cutOpen v r
    | none =>
      let q := cutOpenText v rest sp.text
      if q.2 then [{ sp with text := q.1 }] else sp :: cutOpen v r

/-- Bytes at the end of a piece that later text may draw into the next piece: the last unit of a run of two or more of a class
that some class follows under BREAK_LAST (R201). -/
def leaving (t : SplitTable) (p : List NC) : Nat :=
  match (toUnits t p).reverse with
  | u :: w :: _ =>
    if u.cls = w.cls && u.cls ≠ 1 && (List.range 32).any (fun d => d ≠ u.cls && splitCode t u.cls d = 2) then (ncBytes u.ncs).length
    else 0
  | _ => 0

/-- Bytes of the last piece's forced cuts that later text cannot move: each is made where more than 4,096 bytes are sure to stand
from its start on (R204, R236). -/
def settledCuts (v : Vocab) (p : List NC) : Nat :=
  let subs := (forcedCuts v.split p.length p).map (fun x => (ncBytes x).length)
  let tot := subs.foldl (· + ·) 0
  (subs.foldl (fun (a : Nat × Bool) n => if a.2 && 4096 + leaving v.split p < tot - a.1 then (a.1 + n, true) else (a.1, false))
    (0, true)).1

/-- Bytes of normalised text whose tokens are settled: all but the last piece (R236). DEDUCED, log entry 35. -/
def settledEnd (v : Vocab) (sps : List Span) : Nat :=
  let total := (sps.map (fun x => (ncBytes x.text).length)).foldl (· + ·) 0
  match sps.getLast? with
  | none => 0
  | some sp => match (splitPieces v.split sp.text).getLast? with
    | none => total
    | some p => total - (ncBytes p).length + settledCuts v p

/-- A document's text so far: its settled pieces, the normalised text they lie in, and the first malformed byte. With `final`
every piece is settled. -/
def siftOpen (v : Vocab) (final : Bool) (text : Bytes) : Sifted × Option Nat :=
  if final then sift v false text
  else
    let d := utf8Decode true text.length 0 text
    let ncs := stableNorm v.norm ((normalise v.norm d.cps).1.map toNC)
    let sps := cutOpen v (ctrlSpans v.ctl (ncs.length + 1) [] ncs)
    let e := settledEnd v sps
    (⟨(siftSpans v false 0 sps).filter (fun x => x.stop ≤ e), ncs⟩, d.bad)

/-! ### Boundaries (R217) -/

def isBlank (c : Nat) : Bool := fixedClass c = 6 || fixedClass c = 7

/-- LINE_BREAK code points at the end of a text given last first, CR LF counting as one; SPACE between them only. -/
def breaksBack : Bool → List Nat → Nat
  | _, [] => 0
  | _, 0x0A :: 0x0D :: r => 1 + breaksBack false r
  | first, c :: r =>
    if fixedClass c = 7 then 1 + breaksBack false r
    else if !first && fixedClass c = 6 then breaksBack false r else 0

/-- Paragraph boundary of the text before, given last first. -/
def paraBack (l : List Nat) : Bool := 2 ≤ breaksBack true l

/-- Sentence_Terminal (R217): full stop, exclamation and question mark in ASCII. DESIGN CHOICE, log entry 8. -/
def sentTerminal (c : Nat) : Bool := if c < 0x80 then [0x21, 0x2E, 0x3F].contains c else Config.ucdSentenceTerminal c

/-- General Category Pe or Pf, a quotation mark or an apostrophe (R217): in ASCII the closing brackets and the two quotes.
DESIGN CHOICE, log entry 8. -/
def closer (c : Nat) : Bool := if c < 0x80 then [0x22, 0x27, 0x29, 0x5D, 0x7D].contains c else Config.ucdCloser c

/-- Sentence boundary of the text before, given last first. -/
def sentBack (l : List Nat) : Bool :=
  match l with
  | [] => false
  | c :: _ => isBlank c && (match (l.dropWhile isBlank).dropWhile closer with
    | d :: _ => sentTerminal d
    | [] => false)

/-- Text before a token's first code point that is neither SPACE nor LINE_BREAK, last first; none for a blank token. The first
code point of a token is the one that contains its first byte (R231). -/
def textBefore (norm : List NC) (start len : Nat) : Option (List Nat) :=
  go 0 [] norm
where
  go : Nat → List Nat → List NC → Option (List Nat)
    | _, _, [] => none
    | pos, acc, x :: r =>
      if start < pos + x.b.length && !isBlank x.cp then (if pos < start + len then some acc else none)
      else go (pos + x.b.length) (x.cp :: acc) r

/-- Tokens of a document with their boundaries. -/
def mkSToks (norm : List NC) (toks : List OTok) : List STok :=
  ((List.range toks.length).zip toks).map (fun x =>
    let b := textBefore norm x.2.start x.2.len
    { tok := x.2.tok, src := x.2.src, flags := x.2.fl % 256
      para := x.1 = 0 || (b.map paraBack).getD false, sent := x.1 = 0 || (b.map sentBack).getD false })

/-! ### Streams -/

def State.tokStream (s : State) (h : Handle) : Option TokStream :=
  ((s.terrace (hTerr h)).bind (fun te => te.toks.get (hIndex h))).bind (fun x => if x.gen = hGen h then some x else none)

/-- Change the stream a handle names; a stream that has come to its slot since is left alone. -/
def State.modTok (s : State) (h : Handle) (f : TokStream → TokStream) : State :=
  s.modT (hTerr h) (fun te => { te with toks := te.toks.mod (hIndex h) (fun x => if x.gen = hGen h then f x else x) })

/-- SLOT_BYTES (R210). -/
def slotBytes (w : Nat) : Nat := ceilDiv (32 + 4 * w) 64 * 64

/-- Write OPEN's FINAL, then the ONLY of its close, and give up the version; the slot is freed unless the stream waits for its
close (R212, R218). -/
def State.tokEnd (s : State) (h : Handle) (st : Nat) (free : Bool) : State :=
  match s.tokStream h with
  | none => s
  | some x =>
    let s := s.forEach (s.tasks.filter (fun k => match k.kind with | .streamPut g _ => g = h | _ => false)) (fun s k =>
      (s.chargeTask k).dropTask k.id)
    let s := (s.final x.ticket st h 0 noField x.announced x.total).unpin x.vocab x.ver
    let s := match x.closer with
      | some tk => s.finish tk stOK h noField 0 0
      | none => s
    if free then (s.modT (hTerr h) (fun te => { te with toks := te.toks.del (hIndex h) })).bumpGen (hTerr h) tyTok (hIndex h)
    else s.modTok h (fun y => { y with err := some st, puts := [], pend := [], toks := [], textBuf := [] })

/-- The stream ends early (R218): the put concerned with its status, every other open put with `others`, then OPEN. -/
def State.tokFail (s : State) (h : Handle) (put : Option Nat) (putSt r0 others openSt : Nat) : State :=
  match s.tokStream h with
  | none => s
  | some x =>
    if x.err.isSome then s
    else
      let s := s.forEach x.puts (fun s p =>
        if put = some p.id then s.final p.ticket putSt h 0 noField r0 0 else s.final p.ticket others h 0 noField 0 0)
      s.tokEnd h openSt x.closing

/-- May window `k` be written into its slot (R214)? -/
def State.slotReleased (s : State) (x : TokStream) (k : Nat) : Bool :=
  k < x.slots ||
    (if x.release = 0 then k - x.slots + 1 ≤ x.passed
     else match s.sync x.release with
      | some y => k - x.slots + 1 ≤ y.value
      | none => false)

/-- The window at `start`: its tokens' count and the next start, or none while it is not known (R216). -/
def TokStream.nextWindow (x : TokStream) : Option (Nat × Option Nat) :=
  let n := x.toks.length
  if n ≤ x.start then none
  else if x.docDone && n ≤ x.start + x.w then some (n - x.start, none)
  else if n ≤ x.start + x.w then none
  else
    let nom := x.start + x.w - x.o
    let half := x.o / 2
    let cand := fun (p : STok → Bool) => ((List.range (half + 1)).flatMap (fun d => [nom - d, nom + d])).find? (fun i =>
      match x.toks[i]? with | some t => p t | none => false)
    let c := match (if x.prefer = 2 then cand (·.para) else none) with
      | some i => some i
      | none => if x.prefer = 0 then none else cand (·.sent)
    some (x.w, some (c.getD nom))

/-- A window's record (R213). -/
def TokStream.record (x : TokStream) (h : Handle) (count : Nat) (last : Bool) : Bytes × Nat :=
  let ts := (x.toks.drop x.start).take count
  let t0 : STok := x.toks.getD x.start ⟨0, 0, false, false, 0⟩
  let fl := b2n (x.start = 0) + 2 * b2n last + 4 * b2n t0.para + 8 * b2n t0.sent
    + ((ts.map (·.flags)).foldl (· ||| ·) 0 &&& 0xF0)
  (le 4 h ++ le 4 x.win ++ le 4 x.docSeq ++ le 2 count ++ le 1 fl ++ le 1 0 ++ le 8 x.start ++ le 8 (x.docBase + t0.src)
    ++ ts.flatMap (fun t => le 4 t.tok), fl)

/-- Write every window that is known and whose slot is released; `fuel` bounds their number. DEDUCED, log entry 35. -/
def State.formWindows (s : State) (h : Handle) : Nat → State
  | 0 => s
  | n + 1 =>
    match s.tokStream h with
    | none => s
    | some x =>
      if x.err.isSome then s
      else match x.nextWindow with
        | none => s
        | some (count, next) =>
          if !s.slotReleased x x.win then s
          else
            let r := x.record h count next.isNone
            let slot := x.win % x.slots
            let addr := x.dest + slot * slotBytes x.w
            let s := if x.kind = 0 then s.hfpIssue (hTerr h) (.window h x.win addr r.1)
              else s.mpIssue (s.sharedPort (hTerr h)) (.window h x.win addr r.1)
            (s.modTok h (fun y =>
              let y := { y with win := y.win + 1, pend := y.pend ++ [(⟨x.win, slot, x.docSeq, r.2, count, false⟩ : PWin)] }
              match next with
              | some i => { y with start := i }
              | none => { y with start := y.toks.length })).formWindows h n

/-- A finished document whose windows are all formed gives way to the next one (R216). -/
def TokStream.nextDoc (x : TokStream) : TokStream :=
  if x.docDone && x.toks.length ≤ x.start then
    { x with docDone := false, toks := [], start := 0, docSeq := x.docSeq + 1, docBase := x.putBytes, textBuf := [] }
  else x

/-- Where scratch is full while a window waits for its slot: the end of the window beyond the waiting one (R214). DEDUCED,
log entry 35. -/
def State.tokLimit (s : State) (x : TokStream) : Option Nat :=
  match x.nextWindow with
  | some (_, some next) => if s.slotReleased x x.win then none else some (next + x.w)
  | _ => none

/-- Settle the tokens that more text, or the document's end, makes known (R236), and count the work this took at the core of the
task (R219, R247). -/
def State.tokSettle (s : State) (h : Handle) (x : TokStream) (core : Nat) (final : Bool) : State :=
  match (s.terrace (hTerr h)).bind (fun te => te.vocab x.vocab x.ver) with
  | none => s
  | some v =>
    let r := (siftOpen v final x.textBuf).1
    let ts := mkSToks r.norm r.toks
    (s.modTok h (fun y => { y with toks := ts, docDone := final, counted := if final then {} else r.stats
                                   total := y.total + (ts.length - y.toks.length) })).siftCount (hTerr h) core
      (r.stats.beyond x.counted)

/-- Take the first put into the stream once it is read, its task runs and scratch has room; write its FINAL once scratch
holds all of its tokens (R211, R214). DEDUCED, log entry 35. -/
def State.absorbPut (s : State) (h : Handle) : State :=
  match s.tokStream h with
  | none => s
  | some x =>
    if x.err.isSome then s
    else match x.puts with
      | [] => s
      | p :: r =>
        if p.taken then
          if ((s.tokLimit x).map (fun n => decide (n < x.toks.length))).getD false then s
          else (s.modTok h (fun y => { y with puts := r })).final p.ticket stOK h 0 noField 0 0
        else if x.docDone || ((s.tokLimit x).map (fun n => decide (n ≤ x.toks.length))).getD false then s
        else match p.ready, p.text with
        | true, some b =>
          let buf := x.textBuf ++ b
          let d := utf8Decode (!p.docEnd) buf.length 0 buf
          match x.reject, d.bad with
          | true, some off => s.tokFail h (some p.id) stBAD_FORMAT (off - x.textBuf.length) stNOT_ACTIVE stBAD_FORMAT
          | _, _ =>
            let y := { x with textBuf := buf, putBytes := x.putBytes + b.length, core := p.core, puts := { p with taken := true } :: r }
            (s.modTok h (fun _ => y)).tokSettle h y p.core p.docEnd
        | _, _ => s

/-- Announce written windows in order while a credit is free beyond the reserved ones (R83, R215). DEDUCED, log entry 35. -/
def State.announceWindows (s : State) (h : Handle) : Nat → State
  | 0 => s
  | n + 1 =>
    match s.tokStream h with
    | none => s
    | some x =>
      match x.pend with
      | [] => s
      | p :: r =>
        if !p.acked || x.err.isSome || (s.mailbox (srcMb x.ticket.src)).free = 0 then s
        else
          let s := (s.modTok h (fun y => { y with pend := r, announced := y.announced + 1 })).syncAdd x.sync 1
          (s.complete x.ticket kPROGRESS stOK h 0 noField (p.k + 2 ^ 32 * p.slot + 2 ^ 48 * p.count)
            (p.doc + 2 ^ 32 * p.flags)).announceWindows h n

/-- A closing stream whose puts are absorbed ends its document, and once every window is announced writes OPEN's FINAL
(R212). -/
def State.tokClose (s : State) (h : Handle) : State :=
  match s.tokStream h with
  | none => s
  | some x =>
    if !x.closing || x.err.isSome || !x.puts.isEmpty || x.docDone then s
    else if !x.textBuf.isEmpty then
      let d := utf8Decode false x.textBuf.length 0 x.textBuf
      if x.reject && d.bad.isSome then s.tokFail h none 0 0 0 stBAD_FORMAT else s.tokSettle h x x.core true
    else if x.pend.isEmpty then s.tokEnd h stOK true
    else s

/-- Let a stream go on as far as slots, credits and text allow. -/
def State.tokPoke (s : State) (h : Handle) : Nat → State
  | 0 => s
  | n + 1 =>
    match s.tokStream h with
    | none => s
    | some x =>
      let s := s.formWindows h (x.toks.length + 1)
      let s := s.modTok h TokStream.nextDoc
      let s := s.announceWindows h (x.toks.length + x.pend.length + 1)
      (s.absorbPut h).tokClose h |>.tokPoke h n

/-- Rounds that let a stream come to rest: each put, each document's end and the close take at most a few. -/
def TokStream.rounds (x : TokStream) : Nat := 4 * x.puts.length + 6

def State.tokRun (s : State) (h : Handle) : State :=
  match s.tokStream h with
  | some x => s.tokPoke h x.rounds
  | none => s

/-- Every stream of a terrace goes on: a sync object or the completion ring has moved. -/
def State.tokRunAll (s : State) (t : Nat) : State :=
  s.forEach (((s.terrace t).map (fun te => te.toks)).getD []) (fun s x => s.tokRun (mkHandle t tyTok x.1 x.2.gen))

/-- A window write was acknowledged (R42). -/
def State.tokAck (s : State) (h : Handle) (k : Nat) : State :=
  (s.modTok h (fun x => { x with pend := x.pend.map (fun p => if p.k = k then { p with acked := true } else p) })).tokRun h

/-- A window write failed (R218). -/
def State.tokWriteFail (s : State) (h : Handle) : State :=
  match s.tokStream h with
  | none => s
  | some x => (s.tokFail h none stDATA_ERROR 0 stDATA_ERROR stDATA_ERROR).syncFail x.sync

/-! ### TOK_STREAM_OPEN -/

def shTOK_STREAM_OPEN : Shape where
  op := 0x21
  body := fun c => [rc c 40 1, rc c 41 2, rm c 42 1 0xFE, rz c 43 5]
  handles := fun _ => [⟨8, [tyVocab], false, false⟩, ⟨24, [tySync], true, false⟩, ⟨28, [tySync], true, false⟩]
  addrs := [16]

def State.chkTokStreamOpen (s : State) (c : Bytes) : Chk :=
  let te := s.terrace (hTerr (cHandle c))
  let w := rd c 32 2
  Chk.first [field (rd c 16 8 % 64 == 0) 16, field (decide (16 ≤ w ∧ w ≤ 8192)) 32, field (decide (rd c 34 2 ≤ w / 2)) 34,
    field (decide (2 ≤ rd c 36 4 ∧ rd c 36 4 ≤ 65536)) 36,
    field (rd c 40 1 == 0 || (te.map (fun te => te.inShared (rd c 16 8) (rd c 36 4 * slotBytes w))).getD false) 16]

/-- R210. -/
def State.tokStreamOpen (s : State) (src : Src) (c : Bytes) : State :=
  let tk := ticketOf src c
  let v := cHandle c
  let t := hTerr v
  match s.usable [v] with
  | some (st, r0) => s.complete tk kONLY st tk.handle 0 noField r0 0
  | none =>
    let open_ := ((s.terrace t).map (fun te => te.toks)).getD []
    if 64 ≤ open_.length then s.refuse tk stNO_RESOURCE noField
    else
      let i := Tbl.fresh open_
      let h := s.handleOf t tyTok i
      let ver := s.curVer v
      let x : TokStream := { gen := hGen h, ticket := { tk with handle := h }, vocab := v, ver := ver, dest := rd c 16 8
                             kind := rd c 40 1, sync := rd c 24 4, release := rd c 28 4, w := rd c 32 2, o := rd c 34 2
                             slots := rd c 36 4, prefer := rd c 41 1, reject := bit (rd c 42 1) 0
                             core := ((s.terrace t).map Terrace.firstCore).getD 0 }
      ((s.modT t (fun te => { te with toks := te.toks.put i x })).engage v).first tk h

def execTokStreamOpen (src : Src) (c : Bytes) (s : State) : Host.Outcome State Fault Refusal :=
  .next (s.command shTOK_STREAM_OPEN (shTOK_STREAM_OPEN.row c) src c (fun s => s.chkTokStreamOpen c)
    (fun s => s.tokStreamOpen src c))

/-! ### TOK_STREAM_PUT -/

def shTOK_STREAM_PUT : Shape where
  op := 0x22
  body := fun c => [rm c 27 1 0xFE, rz c 28 20]
  handles := fun _ => [⟨8, [tyTok], false, false⟩]
  addrs := [16]

/-- R211. -/
def State.tokStreamPut (s : State) (src : Src) (c : Bytes) : State :=
  let tk := ticketOf src c
  let h := cHandle c
  let t := hTerr h
  match s.tokStream h with
  | none => s.refuse tk stSTALE_HANDLE noField
  | some x =>
    if 64 ≤ x.puts.length then s.refuse tk stNO_RESOURCE noField
    else
      let id := s.nextId
      let len := rd c 24 3
      let s := s.newId
      let s := s.modTok h (fun y => { y with puts := y.puts ++
        [{ id := id, ticket := tk, text := if len = 0 then some [] else none, docEnd := bit (rd c 27 1) 0, ready := false }] })
      let s := s.first tk h
      if len = 0 then s.addTask t 1 4 (hIndex h) tk (.streamPut h id) (some [])
      else s.hfpIssue t (.putRead h id (rd c 16 8) len)

def execTokStreamPut (src : Src) (c : Bytes) (s : State) : Host.Outcome State Fault Refusal :=
  .next (s.command shTOK_STREAM_PUT (shTOK_STREAM_PUT.row c) src c
    (fun _ => field (rd c 24 3 != 0 || bit (rd c 27 1) 0) 24) (fun s => s.tokStreamPut src c))

/-- The text of a put has been read: its tokenization task becomes ready; an error ends the stream (R218). -/
def State.putRead (s : State) (h : Handle) (id : Nat) (d : HostData) : State :=
  match d with
  | .parts [b] =>
    match (s.tokStream h).bind (fun x => x.puts.find? (fun p => p.id = id)) with
    | some p => (s.modTok h (fun x => { x with puts := x.puts.map (fun p => if p.id = id then { p with text := some b } else p) })).addTask
        (hTerr h) 1 4 (hIndex h) p.ticket (.streamPut h id) (some [b])
    | none => s
  | _ => s.tokFail h (some id) stDATA_ERROR 0 stNOT_ACTIVE stDATA_ERROR

/-- The put's task runs on a core (R29). -/
def State.putTask (s : State) (h : Handle) (id core : Nat) : State :=
  (s.modTok h (fun x => { x with puts := x.puts.map (fun p => if p.id = id then { p with ready := true, core := core } else p) })).tokRun
    h

/-! ### TOK_STREAM_CLOSE -/

def shTOK_STREAM_CLOSE : Shape where
  op := 0x23
  body := fun c => [rm c 16 1 0xFE, rz c 17 31]
  handles := fun _ => [⟨8, [tyTok], false, true⟩]

/-- A stream already closing answers NOT_ACTIVE. -/
def State.chkTokStreamClose (s : State) (c : Bytes) : Chk :=
  match s.tokStream (cHandle c) with
  | some x => cond (!x.closing) stNOT_ACTIVE
  | none => some (stSTALE_HANDLE, noField)

/-- R212: the close's own ONLY comes after OPEN's FINAL; later commands are taken meanwhile (R102). A stream that an error has
ended has written its FINAL, and is freed by its close. -/
def State.tokStreamClose (s : State) (src : Src) (c : Bytes) : State :=
  let tk := ticketOf src c
  let h := cHandle c
  match s.tokStream h with
  | none => s.refuse tk stSTALE_HANDLE noField
  | some x =>
    if x.err.isSome then
      ((s.only tk stOK h 0 0).modT (hTerr h) (fun te => { te with toks := te.toks.del (hIndex h) })).bumpGen (hTerr h) tyTok
        (hIndex h)
    else
      let s := (s.defer tk).modTok h (fun y => { y with closing := true, abandon := bit (rd c 16 1) 0, closer := some tk })
      if bit (rd c 16 1) 0 then s.tokFail h none stCANCELLED 0 stCANCELLED stCANCELLED
      else s.tokRun h

def execTokStreamClose (src : Src) (c : Bytes) (s : State) : Host.Outcome State Fault Refusal :=
  .next (s.command shTOK_STREAM_CLOSE (shTOK_STREAM_CLOSE.row c) src c (fun s => s.chkTokStreamClose c)
    (fun s => s.tokStreamClose src c))

end Sys2Proof.Machine
end

