-- ==== Sys2Proof/Machine/ObjOps.lean ====
section
/-! DEFINITION. Operations on objects (R130 to R156): Riddle placement of a version, loaded images, versions made
current, quarantine, refetch and loss. -/

namespace Sys2Proof.Machine

/-! ### Placement in the Riddle (R163) -/

def tokRow (salt : BitVec 128) (t : TokRow) : RRow := mkRow (keyHash salt none t.bytes) t.bytes.length t.id 0

/-- KEY_LEN descending, then token ID ascending (R161). -/
def rowBefore (a b : RRow) : Bool := b.keyLen < a.keyLen || (a.keyLen = b.keyLen && a.value ≤ b.value)

def sortRows (l : List RRow) : List RRow := sortBy rowBefore l

/-- The vocabulary's own ordinary tokens, which alone enter the VOCAB region (R220), most frequent first (R163). -/
def freqOrder (b : VocabBody) : List TokRow :=
  let own := b.tokens.filter ordinary
  b.freq.filterMap (fun i => own.find? (fun t => t.id = i)) ++ own.filter (fun t => !b.freq.contains t.id)

/-- CONTROL and VOCAB regions of a vocabulary version; none where they do not fit (R163). The region is FULLY_HELD where it
holds every ordinary token (R222). The tokens it may hold are the ordinary ones, though R163 says "other than control
tokens": R220 keeps FALLBACK tokens out too (DEDUCED, log entry 145). -/
def Terrace.placeVocab (te : Terrace) (salt1 salt2 : BitVec 128) (key ver : Nat) (b : VocabBody) : Option Terrace :=
  let h := te.holes
  let ctrl := b.tokens.filter (·.control)
  let own := freqOrder b
  let csz := orderedSize h ctrl.length
  if te.riddleFree < csz then none
  else
    let n := maxEntries h (te.riddleFree - csz) own.length
    if n < min 4096 own.length then none
    else
      let c := mkRegion rkCONTROL key ver salt1 (spreadRows h csz (sortRows (ctrl.map (tokRow salt1))))
      let v := mkRegion rkVOCAB key ver salt2 (spreadRows h (orderedSize h n) (sortRows ((own.take n).map (tokRow salt2))))
      some { te with regions := te.regions ++ [c, { v with full := n = own.length }] }

/-- PASSAGE region of a store version: a cache of its first identifiers (DEDUCED, log entry 16). -/
def Terrace.placeStore (te : Terrace) (salt : BitVec 128) (key ver : Nat) (b : StoreBody) : Terrace :=
  let n := min b.passages.length (te.desc.riddle / 8)
  let rows := applySteps (List.replicate n emptyRow) (((List.range n).zip b.passages).flatMap (fun p =>
    updateSteps p.1 emptyRow (mkRow (keyHash salt none p.2.ident) p.2.ident.length p.1 0)))
  { te with regions := te.regions ++ [mkRegion rkPASSAGE key ver salt rows] }

/-- Kind-specific placement of a version (step 3 of R134); none means NO_RESOURCE. -/
def State.place (s : State) (h : Handle) (ver : Nat) (b : ObjBody) : Option State :=
  let t := hTerr h
  match s.terrace t with
  | none => none
  | some te =>
    match b with
    | .vocab x => (te.placeVocab (saltAt s.fresh) (saltAt (s.fresh + 2)) (hKey h) ver x).map (fun te' =>
        { s.modT t (fun _ => te') with fresh := s.fresh + 4 })
    | .store x => some { s.modT t (fun _ => te.placeStore (saltAt s.fresh) (hKey h) ver x) with fresh := s.fresh + 2 }
    | _ => some s

/-- A version that creates Riddle regions needs bits for their salts (R417). -/
def Terrace.saltReady (te : Terrace) (body : Option ObjBody) : Bool :=
  te.drbg.live || match body with
    | some (.vocab _) => false
    | some (.store _) => false
    | _ => true

/-! ### T2 quota (R148) -/

/-- Image bytes of an object's versions that T2 holds. -/
def Obj.t2Bytes (o : Obj) : Nat :=
  (((o.versions ++ o.making.toList).filter (fun v => o.cold || v.backing = 2)).map (fun v => hdSize v.header)).foldl (· + ·) 0

def Terrace.t2Fits (te : Terrace) (bytes : Nat) : Bool :=
  (te.objs.map (fun o => o.2.t2Bytes)).foldl (· + ·) 0 + bytes ≤ te.desc.t2Quota * 2 ^ 30

/-! ### Loaded images (R133, R134) -/

/-- Byte `i` of the loaded image: the latest chunk's. -/
def chunkByte (chunks : List (Nat × Bytes)) (i : Nat) : Option Byte :=
  (chunks.find? (fun c => c.1 ≤ i && i < c.1 + c.2.length)).bind (fun c => c.2[i - c.1]?)

/-- Every granule of 4 KiB has been loaded. -/
def allLoaded (chunks : List (Nat × Bytes)) (size : Nat) : Bool :=
  (List.range (ceilDiv size 4096)).all (fun g => chunks.any (fun c => c.1 ≤ 4096 * g && min size (4096 * g + 4096) ≤ c.1 + c.2.length))

def loadedImage (chunks : List (Nat × Bytes)) (size : Nat) : Bytes :=
  (List.range size).map (fun i => (chunkByte chunks i).getD 0)

/-- `n` undefined bytes. DESIGN CHOICE, log entry 4. DESIGN CHOICE, log entry 37. -/
def freeBytes (k n : Nat) : Bytes := (List.range n).map (fun i => Config.freeByte (k + i))

/-- Does the image match its header's digest and have sections that pass validation? -/
def Terrace.imageOk (te : Terrace) (o : Obj) (hdr img : Bytes) (body : Option ObjBody) : Bool :=
  img.length == hdSize hdr && sha256 (img.drop 128) == hdDigest hdr &&
    match body with | some b => te.bodyOk o hdr b | none => false

/-! ### Versions -/

/-- Version numbers wrap from 65,535 to 1 (R138). -/
def nextVersion (n : Nat) : Nat := if 65535 ≤ n then 1 else n + 1

def mkVersion (num : Nat) (hdr : Bytes) (body : Option ObjBody) (backing addr limit : Nat) : Version :=
  { num := num, header := hdr, body := body, backing := backing, backAddr := addr, limit := limit, users := 0
    quarantine := false, lost := false, quarAt := 0, attempts := 0, t1Lines := hdLines hdr }

/-- Was the reload of a quarantined version too late: it is lost (R155 step 6)? -/
def Obj.curLost (o : Obj) : Bool := (o.curVer.map (·.lost)).getD false

/-- OBJ_SEAL fails: the object returns to LOADING and gives back what placement took, or stays as it was (R134). DEDUCED,
log entry 36. -/
def State.sealFail (s : State) (h : Handle) (st : Nat) : State :=
  match s.obj h with
  | none => s
  | some o =>
    match o.ticket with
    | some tk =>
      let s := if o.versions.isEmpty then s.modT (hTerr h) (fun te => te.dropRegions (hKey h) (fun _ => false)) else s
      (s.modObj h (fun o => { o with state := if o.versions.isEmpty then osLOADING else osREADY, ticket := none
                                     sealing := none, sealBody := none })).finish tk st tk.handle noField 0 0
    | none => s

/-- OBJ_SEAL succeeds: version 1 becomes READY, or the reload lifts the quarantine (R134, R155); a reload answers the
version's own number and takes BACKING, BACKING_ADDR and RELOAD_LIMIT anew (DESIGN CHOICE, log entry 130). -/
def State.sealDone (s : State) (h : Handle) : State :=
  match s.obj h with
  | none => s
  | some o =>
    match o.ticket, o.sealing with
    | some tk, some (backing, addr, limit) =>
      if o.curLost then s.sealFail h stOBJECT_LOST
      else
      let s :=
        if o.versions.isEmpty then
          s.modObj h (fun o => { o with state := osREADY, cur := 1, nextVer := 2, ticket := none, sealing := none
                                        sealBody := none, chunks := [], pinned := o.hint = 1
                                        t0Kib := if o.hint = 1 then hdT0 o.header else 0
                                        versions := [mkVersion 1 o.header o.sealBody backing addr limit] })
        else
          s.modObj h (fun o => { o with ticket := none, sealing := none, sealBody := none, chunks := [], state := osREADY
                                        versions := o.versions.map (fun v => if v.num = o.cur then
                                          { v with quarantine := false, backing := backing, backAddr := addr, limit := limit }
                                        else v) })
      let s := if o.versions.isEmpty then s else s.fault fcOBJECT (hTerr h) locBlock noCause 0 h 0
      (s.settleObj h).finish tk stOK h noField (if o.versions.isEmpty then 1 else o.cur) 0
    | _, _ => s

/-! ### Pins in T0 (R146) -/

/-- T0 KiB an object occupies when pinned: that of every version (R146). -/
def Obj.t0Need (o : Obj) : Nat :=
  ((o.versions ++ o.making.toList).map (fun v => hdT0 v.header)).foldl (· + ·) 0

/-- T0 KiB pinned in the structure that caches an object's kind: mask cache for grammars, Pantry for the others. -/
def Terrace.pinnedKib (te : Terrace) (mask : Bool) : Nat :=
  ((te.objs.filter (fun o => o.2.pinned && (o.2.kind = tyGrammar) == mask)).map (fun o => o.2.t0Need)).foldl (· + ·) 0

/-- T0 KiB of a terrace's ways in the structure that caches an object's kind (R452). DESIGN CHOICE, log entry 38. -/
def Terrace.t0Kib (te : Terrace) (mask : Bool) : Nat :=
  if mask then te.wayKib.2 * te.desc.maskWays * (homeBays te.desc.coreMask).length
  else te.wayKib.1 * te.desc.pantry * (homeQuads te.desc.coreMask).length

/-- Would `more` KiB keep the pinned bytes within half the terrace's ways (R146)? -/
def Terrace.pinFits (te : Terrace) (kind more : Nat) : Bool :=
  let mask := kind = tyGrammar
  2 * (te.pinnedKib mask + more) ≤ te.t0Kib mask

/-- The T2 copy, where one is owed, stands: with a hint of PIN the lines are filled before OK (R146). DEDUCED, log entry
131. -/
def State.sealPin (s : State) (h : Handle) : State :=
  match s.obj h with
  | none => s
  | some o =>
    if o.versions.isEmpty && o.hint = 1 && hdT0 o.header ≠ 0 then s.mpOwn (hTerr h) (.fill h 1) else s.sealDone h

/-- The image of an OBJ_SEAL has been read back from T1 (R134); what follows runs as the response comes, whatever slot runs
(DESIGN CHOICE, log entry 132). DEDUCED, log entry 36. -/
def State.sealRead (s : State) (h : Handle) (ok : Bool) (body : Option ObjBody) : State :=
  match s.obj h, s.terrace (hTerr h) with
  | some o, some te =>
    if o.sealing.isNone then s
    else if !ok then s.sealFail h stDATA_ERROR
    else if o.curLost then s.sealFail h stOBJECT_LOST
    else
      let hdr := o.hdr
      let img := loadedImage o.chunks (hdSize hdr)
      if img.take 128 != hdr || !te.imageOk o hdr img body then s.sealFail h stBAD_FORMAT
      else if o.versions.isEmpty && !te.saltReady body then s.sealFail h stENTROPY_HALT
      else if o.versions.isEmpty && o.hint = 1 && !te.pinFits o.kind (hdT0 hdr) then s.sealFail h stNO_RESOURCE
      else
        let s := s.modObj h (fun o => { o with sealBody := body })
        let placed := if o.versions.isEmpty then (match body with | some b => s.place h 1 b | none => none) else some s
        match placed with
        | none => s.sealFail h stNO_RESOURCE
        | some s =>
          if (o.sealing.map (·.1)) = some 2 || o.cold then
            if s.boot.t2Failed then s.sealFail h stDATA_ERROR
            else if te.t2Fits (hdSize hdr) then s.flashAsk (.sealCopy h)
            else s.sealFail h stNO_RESOURCE
          else s.sealPin h
  | _, _ => s

/-! ### Quarantine (R155, R156) -/

/-- Every user pinned to a version ends with `st`: requests at their next boundary, streams and tasks now. -/
def State.endUsers (s : State) (h : Handle) (ver st : Nat) : State :=
  let t := hTerr h
  let s := s.modT t (fun te => { te with reqs := te.reqs.mapVals (fun _ r =>
    let uses := (r.vocab = h && r.pins.vocab = ver) || (r.grammar = h && r.pins.grammar = ver)
      || (r.bias = h && r.pins.bias = ver) || (r.profile = h && r.pins.profile = ver)
      || (r.template = h && r.pins.template = ver) || (r.store = h && r.pins.store = ver)
    if uses && r.doom.isNone && r.state < rsDRAINING then { r with doom := some st } else r) })
  let s := s.forEach (((s.terrace t).map (fun te => te.toks)).getD []) (fun s x =>
    if x.2.vocab = h && x.2.ver = ver then s.tokFail (mkHandle t tyTok x.1 x.2.gen) none st 0 st st
    else s)
  s.forEach s.tasks (fun s k =>
    let gone := (s.dropTask k.id).final k.ticket st k.ticket.handle 0 noField 0 0
    match k.kind with
    | .tok v vv _ _ _ _ => if v = h && vv = ver && k.result.isNone then gone.unpin v vv else s
    | .detok v vv _ _ _ _ => if v = h && vv = ver && k.result.isNone then gone.unpin v vv else s
    | .pack _ tp v st _ tv vv sv _ _ _ =>
      if ((tp = h && tv = ver) || (v = h && vv = ver) || (st = h && sv = ver)) && k.result.isNone then
        ((gone.unpin tp tv).unpin v vv).unpin st sv
      else s
    | _ => s)

/-- Refetch has failed: the version is lost (R155 step 6). -/
def State.loseVersion (s : State) (h : Handle) (ver : Nat) : State :=
  match (s.obj h).bind (fun o => o.ver ver) with
  | none => s
  | some v =>
    if v.lost then s
    else
      let s := s.modObj h (fun o => o.modVer ver (fun v => { v with quarantine := false, lost := true }))
      let s := s.fault fcOBJECT (hTerr h) locBlock noCause 0 h 0
      (s.endUsers h ver stOBJECT_LOST).settleObj h

/-- Start a refetch from the backing copy (R155 step 3); BACKING 0x00 waits for host software. -/
def State.refetch (s : State) (h : Handle) (ver : Nat) : State :=
  match (s.obj h).bind (fun o => o.ver ver) with
  | none => s
  | some v =>
    if v.backing = 1 then s.hfpIssue (hTerr h) (.refetch h ver v.backAddr)
    else if v.backing = 2 then
      if s.boot.t2Failed then s.loseVersion h ver
      else s.flashAsk (.refetch h ver)
    else s

/-- An uncorrectable error on a version (R155 steps 1 to 3); a second error on a quarantined version adds nothing. -/
def State.quarantine (s : State) (h : Handle) (ver : Nat) (cause : Cause) : State :=
  match s.obj h with
  | none => s
  | some o =>
    match o.ver ver with
    | none => s
    | some v =>
      if v.quarantine || v.lost then s
      else
        let s := s.modObj h (fun o =>
          { o.modVer ver (fun v => { v with quarantine := true, quarAt := s.tick, attempts := 0 }) with
            chunks := if ver = o.cur then [] else o.chunks })
        (s.fault fcOBJECT (hTerr h) locBlock cause 0 h 0).refetch h ver

/-- One refetch attempt has failed; at most 3 are made, and those after the first go to fresh T1 space (R155 step 4). -/
def State.refetchFail (s : State) (h : Handle) (ver : Nat) (rewrite : Bool) : State :=
  match (s.obj h).bind (fun o => o.ver ver), s.terrace (hTerr h) with
  | some v, some te =>
    if !v.quarantine then s
    else if 2 ≤ v.attempts || (rewrite && te.t1Free < v.t1Lines) then s.loseVersion h ver
    else (s.modObj h (fun o => o.modVer ver (fun v => { v with attempts := v.attempts + 1 }))).refetch h ver
  | _, _ => s

/-- The quarantine of a version is lifted (R155 step 5). -/
def State.liftQuarantine (s : State) (h : Handle) (ver : Nat) : State :=
  (s.modObj h (fun o => o.modVer ver (fun v => { v with quarantine := false }))).fault fcOBJECT (hTerr h) locBlock noCause 0 h 0

/-- The refetched image has arrived: it must match the version's header and digest, and is rewritten in T1. -/
def State.refetchRead (s : State) (h : Handle) (ver : Nat) (img : Option Bytes) : State :=
  match (s.obj h).bind (fun o => o.ver ver) with
  | none => s
  | some v =>
    match img with
    | some b =>
      if v.quarantine && b.take 128 == v.header && b.length == hdSize v.header && sha256 (b.drop 128) == hdDigest v.header then
        s.mpOwn (hTerr h) (.rewrite h ver)
      else s.refetchFail h ver false
    | none => s.refetchFail h ver false

end Sys2Proof.Machine
end

