-- ==== Sys2Proof/Machine/Assembly.lean ====
section
/-! DEFINITION. Assembly descriptors (R252 to R254), the work of a Kneader task (R256 to R264), and token-to-bytes
(R422, R423, R446). -/

namespace Sys2Proof.Machine

/-! ### The assembly descriptor; `d` is the descriptor, whose byte i has offset 64 + i (R96) -/

def dOff (i : Nat) : Nat := 64 + i
def dField (ok : Bool) (i : Nat) : Chk := field ok (dOff i)
def asmPassages (d : Bytes) : Nat := rd d 6 2

def slotChk (d : Bytes) (i : Nat) : List Chk :=
  let e := 16 + 16 * i
  let kind := rd d (e + 11) 1
  [dField (kind != 2 || rd d e 8 % 4 == 0) e, dField (kind != 2 || rd d (e + 8) 3 ≤ 4194304) (e + 8),
   dField (kind ≤ 2) (e + 11), dField (rd d (e + 12) 4 == 0) (e + 12)]

def passageChk (d : Bytes) (j : Nat) : List Chk :=
  let e := 144 + 16 * j
  let kind := rd d e 1
  [dField (kind ≤ 1) e, dField (if kind = 1 then 1 ≤ rd d (e + 1) 1 && rd d (e + 1) 1 ≤ 64 else rd d (e + 1) 1 == 0) (e + 1),
   dField (rd d (e + 2) 6 == 0) (e + 2)]

/-- Reserved fields and ranges of R252 to R254. -/
def asmChk (d : Bytes) : Chk :=
  Chk.first ([dField (rd d 0 4 ≤ 2 ^ 22) 0, dField (rd d 4 1 < 2) 4, dField (rd d 5 1 ≤ 1) 5, dField (asmPassages d ≤ 256) 6,
    dField (rd d 8 8 == 0) 8] ++ (List.range 8).flatMap (slotChk d) ++ (List.range (asmPassages d)).flatMap (passageChk d))

/-- Slot numbers that a template's segments name. -/
def slotsNamed (b : TemplateBody) : List Nat :=
  b.segs.filterMap (fun g => match g.kind with | .slot n => some n | _ => none)

/-- The descriptor as parsed: slots that no segment names are empty, contents still to be read are `await`. -/
def parseAsm (d : Bytes) (named : List Nat) : Assembly :=
  { budget := rd d 0 4, reject := bit (rd d 4 1) 0, destKind := rd d 5 1
    slots := (List.range 8).map (fun i =>
      let e := 16 + 16 * i
      let kind := rd d (e + 11) 1
      if kind = 0 || !named.contains i then .empty
      else if rd d (e + 8) 3 = 0 then (if kind = 1 then .text [] else .tokens [])
      else .await (kind = 1))
    passages := (List.range (asmPassages d)).map (fun j =>
      let e := 144 + 16 * j
      if rd d e 1 = 1 then (true, 0, []) else (false, rd d (e + 8) 8, [])) }

/-- What must be read, in order: the awaited slots, then identifiers where `idents`. -/
def asmReads (d : Bytes) (named : List Nat) (idents : Bool) : List (Nat × Nat) :=
  (List.range 8).flatMap (fun i =>
    let e := 16 + 16 * i
    let kind := rd d (e + 11) 1
    let len := rd d (e + 8) 3
    if kind = 0 || !named.contains i || len = 0 then [] else [(rd d e 8, if kind = 1 then len else 4 * len)]) ++
  (if idents then (List.range (asmPassages d)).flatMap (fun j =>
    let e := 144 + 16 * j
    if rd d e 1 = 1 then [(rd d (e + 8) 8, rd d (e + 1) 1)] else []) else [])

/-- Token IDs of 4 bytes each (R207). -/
def tokenList : Nat → Bytes → List Tok
  | 0, _ => []
  | n + 1, b => if b.isEmpty then [] else rd b 0 4 :: tokenList n (b.drop 4)

def toTokens (b : Bytes) : List Tok := tokenList b.length b

/-- Fill awaited slots from the parts read; what is left are identifiers. -/
def fillSlots : List SlotFill → List Bytes → List SlotFill × List Bytes
  | [], ps => ([], ps)
  | .await t :: r, p :: ps =>
    let x := fillSlots r ps
    ((if t then .text p else .tokens (toTokens p)) :: x.1, x.2)
  | f :: r, ps => let x := fillSlots r ps; (f :: x.1, x.2)

def fillIdents : List (Bool × Nat × Bytes) → List Bytes → List (Bool × Nat × Bytes)
  | [], _ => []
  | (true, n, []) :: r, p :: ps => (true, n, p) :: fillIdents r ps
  | e :: r, ps => e :: fillIdents r ps

def Assembly.fill (a : Assembly) (parts : List Bytes) : Assembly :=
  let x := fillSlots a.slots parts
  { a with slots := x.1, passages := fillIdents a.passages x.2 }

/-! ### Assembly (R259) -/

/-- A failure: status, FIELD_OFFSET, RESULT0. -/
abbrev Failure := Nat × Nat × Nat

/-- Position of the first token of a list that is a CONTROL token or out of range (R262). -/
def badToken (v : Vocab) (ts : List Tok) : Option Nat := findIdx (fun t => v.size ≤ t || isCtrl v t) ts

/-- Tokens of the slots in order with the intake work counted, up to the first that fails; `n` is the number of the first slot. A
text that REJECT refuses counts nothing (R190). -/
def slotTokens (v : Vocab) (reject : Bool) : Nat → List SlotFill → Option Failure × List (List Tok) × SiftStats
  | _, [] => (none, [], {})
  | n, f :: r =>
    let here : Option Failure × List Tok × SiftStats := match f with
      | .text b =>
        let x := sift v false b
        match reject, x.2 with
        | true, some off => (some (stBAD_FORMAT, noField, off), [], {})
        | _, _ => (none, x.1.toks.map (·.tok), x.1.stats)
      | .tokens ts => ((badToken v ts).map (fun i => (stBAD_FIELD, 80 + 16 * n, i)), ts, {})
      | _ => (none, [], {})
    if here.1.isSome then (here.1, [], here.2.2)
    else
      let x := slotTokens v reject (n + 1) r
      (x.1, here.2.1 :: x.2.1, here.2.2.add x.2.2)

/-- Stage 3 of an assembled prompt: its texts become tokens (R37), up to the first that REJECT refuses. -/
def siftSlots (v : Vocab) (reject : Bool) : List SlotFill → Option Failure × List SlotFill × SiftStats
  | [] => (none, [], {})
  | .text b :: r =>
    let x := sift v false b
    match reject, x.2 with
    | true, some off => (some (stBAD_FORMAT, noField, off), [], {})
    | _, _ =>
      let y := siftSlots v reject r
      (y.1, .tokens (x.1.toks.map (·.tok)) :: y.2.1, x.1.stats.add y.2.2)
  | f :: r => let y := siftSlots v reject r; (y.1, f :: y.2.1, y.2.2)

/-- Does an assembly hold text that the Sifter takes first? -/
def Assembly.hasText (a : Assembly) : Bool := a.slots.any (fun f => match f with
  | .text _ => true
  | .await t => t
  | _ => false)

/-- Find a passage by identifier: a FIRST-mode search of the PASSAGE region, then the directory (R251): its number, the search,
and the directory lookups. -/
def findPassage (b : StoreBody) (reg : Option Region) (idt : Bytes) : Option Nat × RWork × Nat :=
  let x := match reg with
    | some r => searchFirst r.rows [mkProbe r.salt none idt] (fun row => (b.passages[row.value]?).map Passage.ident)
    | none => (none, {})
  match x.1 with
  | some h => (some h.2.value, x.2, 0)
  | none => (findIdx (fun (y : Passage) => y.ident == idt) b.passages, x.2, 1)

/-- What resolving the passages gives: their numbers, the searches, and the directory lookups (R251, R264). -/
structure PassWork where
  nums : List Nat := []
  work : RWork := {}
  cold : Nat := 0

/-- Resolve passage entries in order, up to the first that does not exist; `k` is the number of the first entry. -/
def resolvePassages (b : StoreBody) (reg : Option Region) : Nat → List (Bool × Nat × Bytes) → Option Failure × PassWork
  | _, [] => (none, {})
  | k, (byId, n, idt) :: r =>
    let p : Option Nat × RWork × Nat := if byId then findPassage b reg idt else (some n, {}, 0)
    match p.1.filter (fun i => i < b.passages.length) with
    | none => (some (stBAD_FIELD, 208 + 16 * k, 0), ⟨[], p.2.1, p.2.2⟩)
    | some i =>
      let x := resolvePassages b reg (k + 1) r
      (x.1, ⟨i :: x.2.nums, p.2.1.add x.2.work, p.2.2 + x.2.cold⟩)

/-- Segments of a pinned template version and the base vocabulary its text was prepared against (R249). -/
def Terrace.template (te : Terrace) (h : Handle) (ver : Nat) : Option (List Segment × Vocab) :=
  match te.obj h with
  | none => none
  | some o => match (o.ver ver).bind (·.body), te.baseVocab o with
    | some (.template b), some v => some (b.segs, v)
    | _, _ => none

def Terrace.storeBody (te : Terrace) (h : Handle) (ver : Nat) : StoreBody :=
  match (te.objVer h ver).bind (·.body) with
  | some (.store b) => b
  | _ => ⟨[]⟩

/-- What an assembly works with once read: base vocabulary, segments, slot tokens, passages, the work counted, and the failure
that ends it. -/
structure AsmWork where
  base  : Vocab
  segs  : List Segment
  slots : List (List Tok)
  store : StoreBody
  pass  : PassWork := {}
  stats : SiftStats := {}
  fail  : Option Failure := none

/-- Tokens of the passages in entry order. -/
def AsmWork.passages (w : AsmWork) : List (List Tok) := w.pass.nums.map (fun i => ((w.store.passages[i]?).map (·.tokens)).getD [])

/-- Steps 1 and 2 of R259; none where the template or the vocabulary is gone. -/
def Terrace.asmWork (te : Terrace) (template vocab store : Handle) (tv vv sv : Nat) (a : Assembly) : Option AsmWork :=
  match te.template template tv, te.vocab vocab vv with
  | some (segs, base), some v =>
    let b := te.storeBody store sv
    let x := slotTokens v a.reject 0 a.slots
    let w : AsmWork := { base := base, segs := segs, slots := x.2.1, store := b, stats := x.2.2, fail := x.1 }
    if x.1.isSome then some w
    else
      let y := resolvePassages b (te.verRegion rkPASSAGE (hKey store) sv) 0 a.passages
      some { w with pass := y.2, fail := y.1 }
  | _, _ => none

/-! ### Tokens to bytes (R422, R423) -/

/-- Designated end token of a vocabulary version. -/
def Terrace.endTok (te : Terrace) (h : Handle) (ver : Nat) : Tok := ((te.objVer h ver).map (fun v => vEnd v.header)).getD 0

/-- Bytes a token contributes (R422). -/
def tokOut (v : Vocab) (endTok : Tok) (spell : Bool) (t : Tok) : Bytes :=
  if t = endTok then []
  else if isCtrl v t then (if spell then tokBytes v t else [])
  else match v.fallback with
    | .unk id => if t = id then [0xEF, 0xBF, 0xBD] else tokBytes v t
    | .byte _ => tokBytes v t

/-- The assembler over a byte string (R423): output, replacements, and the prefix still held. -/
def assembleUtf8 (hold : Bool) (b : Bytes) : Bytes × Nat × Bytes :=
  let d := utf8Decode hold b.length 0 b
  (d.cps.flatMap (fun x => utf8 x.1), d.repl, d.tail)

/-- Tokens, from the last backward, that supplied the last `n` bytes. DEDUCED, log entry 43. -/
def suppliers : Nat → List Bytes → Nat
  | 0, _ => 0
  | _, [] => 0
  | n + 1, b :: r => if b.isEmpty then suppliers (n + 1) r else 1 + suppliers (n + 1 - b.length) r

end Sys2Proof.Machine
end

