-- ==== Sys2Proof/Machine/Objects.lean ====
section
/-! DEFINITION. The meanings of the object commands (R131 to R146), and what their tasks and writes do. -/

namespace Sys2Proof.Machine

/-! ### OBJ_CREATE (R132) -/

def shOBJ_CREATE : Shape where
  op := 0x10
  body := fun c => [rc c 28 4, rz c 29 19]
  handles := fun _ => [⟨8, [tyTerrace], false, false⟩, ⟨24, [tyVocab], true, false⟩]
  addrs := [16]

def objKinds : List Nat := [tyVocab, tyGrammar, tyTemplate, tyStore, tyBias, tyProfile]

/-- HEADER_ADDR is 64-byte aligned; COLD exists in Kidevon L alone (R146). -/
def State.chkObjCreate (s : State) (c : Bytes) : Chk :=
  Chk.first [field (rd c 16 8 % 64 == 0) 16, field (rd c 28 1 != 3 || s.cfg.hasFlash) 28]

/-- Step 4 of R132: the vocabulary that DEP_UID names. -/
def Terrace.depOk (te : Terrace) (hdr : Bytes) (base : Handle) : Bool :=
  match te.obj base with
  | some o => o.ostate = osREADY && o.kind = tyVocab && hdUid o.hdr = hdDep hdr && !(hdOverlay hdr && o.overlay)
  | none => false

/-- Steps 2 to 6 of R132: status and FIELD_OFFSET. -/
def State.headerChk (s : State) (te : Terrace) (hdr : Bytes) (base : Handle) : Chk :=
  Chk.first [cond (headerOk hdr) stBAD_FORMAT,
    field (hdKind hdr != tyProfile || tempOk (sTemp hdr)) 112,
    (if hdDep hdr = 0 then field (base == 0) 24 else cond (te.depOk hdr base) stBAD_FORMAT),
    cond (!s.cfg.crustRequired || 2 < hdKind hdr || hdCrust hdr) stBAD_FORMAT,
    cond (te.objs.length < te.desc.objQuota && hdLines hdr ≤ te.t1Free) stNO_RESOURCE]

/-- The lowest index of the kind that no object slot holds. -/
def Terrace.freshObj (te : Terrace) (t kind : Nat) : Nat :=
  ((List.range (te.objs.length + 1)).find? (fun i => (te.objs.get (hKey (mkHandle t kind i 0))).isNone)).getD 0

/-- OBJ_CREATE (R132): the header is checked and an object slot in LOADING is made with its T1 space reserved. -/
def State.objCreate (s : State) (src : Src) (c : Bytes) (hdr : HostRead) : State :=
  let tk := ticketOf src c
  let t := hTerr (cHandle c)
  match s.terrace t, hdr with
  | none, _ => s.refuse tk stSTALE_HANDLE noField
  | _, .error => s.refuse tk stDATA_ERROR noField
  | some te, .okay b =>
    match s.headerChk te b (rd c 24 4) with
    | some (st, off) => s.refuse tk st off
    | none =>
      let kind := hdKind b
      let h := s.handleOf t kind (te.freshObj t kind)
      let hint := rd c 28 1
      let o : Obj := { kind := kind, gen := hGen h, state := osLOADING, overlay := hdOverlay b, uid := hdUid b, dep := hdDep b
                       base := rd c 24 4, hint := hint, cur := 0, nextVer := 1, versions := [], header := b, chunks := []
                       t0Kib := 0, pinned := false, cold := hint = 3, t1Gone := false, ticket := none, sealing := none }
      (s.modT t (fun te => { te with objs := te.objs.put (hKey h) o })).only tk stOK h (t1Bytes (hdLines b)) 0

def execObjCreate (src : Src) (c : Bytes) (hdr : HostRead) (s : State) : Host.Outcome State Fault Refusal :=
  .next (s.command shOBJ_CREATE (shOBJ_CREATE.row c) src c (fun s => s.chkObjCreate c) (fun s => s.objCreate src c hdr))

/-! ### Commands of one object wait for each other (R103, R131) -/

/-- An OBJ_SEAL, OBJ_LOAD, OBJ_REPLACE or OBJ_HINT of the object, sent by the same mailbox, is under way (R103). -/
def State.objBusy (s : State) (src : Src) (h : Handle) : Bool :=
  ((s.obj h).map (fun o => o.state ≠ osDESTROYING && ((o.ticket.map (·.src)) == some src))).getD false ||
    s.tasks.any (fun k => k.ticket.src = src && match k.kind with
      | .objLoad o _ _ => o = h
      | .objReplace o _ _ _ _ => o = h
      | _ => false)

/-- A command acts on its object, unless a firmware check finds the object outside the states of R130: INTERNAL (R131). -/
def State.onObj (s : State) (tk : Ticket) (h : Handle) (f : Obj → State) : State :=
  match s.obj h with
  | none => s.refuse tk stSTALE_HANDLE noField
  | some o => if o.state ≤ osDESTROYING then f o else s.refuse tk stINTERNAL noField

/-! ### OBJ_LOAD (R133) -/

def shOBJ_LOAD : Shape where
  op := 0x11
  body := fun c => [rz c 36 12]
  handles := fun _ => [⟨8, objKinds, false, false⟩]
  addrs := [16]

def State.chkObjLoad (s : State) (c : Bytes) : Chk :=
  match s.obj (cHandle c) with
  | none => some (stSTALE_HANDLE, noField)
  | some o =>
    let size := hdSize o.hdr
    let off := rd c 24 8
    let len := rd c 32 4
    Chk.first [field (off % 4096 == 0 && off < size) 24,
      field (1 ≤ len && len ≤ 2 ^ 31 && off + len ≤ size && (len % 4096 == 0 || off + len == size)) 32]

/-- May chunks be loaded: LOADING, or a reload of a quarantined version with BACKING 0x00 (R131)? -/
def Obj.loadable (o : Obj) : Bool :=
  o.state = osLOADING || (o.ostate = osQUARANTINED && ((o.curVer.map (·.backing)).getD 1) = 0)

def State.objLoad (s : State) (src : Src) (c : Bytes) : State :=
  let tk := ticketOf src c
  let h := cHandle c
  s.onObj tk h (fun o =>
    if !o.loadable then s.refuse tk stNOT_PERMITTED noField
    else
      let s := s.first tk h
      let id := s.nextId
      (s.addTask (hTerr h) 3 4 (hIndex h) tk (.objLoad h (rd c 24 8) (rd c 32 4)) none).hfpIssue (hTerr h)
        (.taskRead id [(rd c 16 8, rd c 32 4)]))

def execObjLoad (src : Src) (c : Bytes) (s : State) : Host.Outcome State Fault Refusal :=
  .next (s.command shOBJ_LOAD (shOBJ_LOAD.row c && !s.objBusy src (cHandle c)) src c (fun s => s.chkObjLoad c)
    (fun s => s.objLoad src c))

/-- The chunk stands; the command ends (R133). On an error the chunk's bytes are undefined until loaded again. DESIGN
CHOICE, log entry 37. -/
def State.loadEnd (s : State) (k : Task) (h : Handle) (off len : Nat) (ok : Bool) : State :=
  let b := if ok then (k.input.getD []).flatten else freeBytes s.fresh len
  let s := { s with fresh := s.fresh + (if ok then 0 else len) }
  let s := (s.dropTask k.id).modObj h (fun o => { o with chunks := (off, b) :: o.chunks })
  s.final k.ticket (if ok then stOK else stDATA_ERROR) h 0 noField (if ok then len else 0) 0

/-! ### OBJ_SEAL (R134) -/

def chkBacking (cfg : Cfg) (c : Bytes) (bOff aOff : Nat) : Chk :=
  let b := rd c bOff 1
  let a := rd c aOff 8
  Chk.first [field (b != 2 || cfg.hasFlash) bOff, field (if b = 1 then a != 0 else a == 0) aOff]

def shOBJ_SEAL : Shape where
  op := 0x12
  body := fun c => [rc c 16 2, rz c 17 7, rz c 36 12]
  handles := fun _ => [⟨8, objKinds, false, false⟩]
  addrs := [24]

/-- The command's ONLY comes when the image has been read back, checked and placed. -/
def State.objSeal (s : State) (src : Src) (c : Bytes) : State :=
  let tk := ticketOf src c
  let h := cHandle c
  s.onObj tk h (fun o =>
    if !o.loadable || !allLoaded o.chunks (hdSize o.hdr) then s.refuse tk stNOT_PERMITTED noField
    else
      let s := s.modObj h (fun o => { o with state := if o.state = osLOADING then osSEALING else o.state, ticket := some tk
                                             sealing := some (rd c 16 1, rd c 24 8, rd c 32 4) })
      (s.defer tk).mpOwn (hTerr h) (.sealRead h))

def execObjSeal (src : Src) (c : Bytes) (s : State) : Host.Outcome State Fault Refusal :=
  .next (s.command shOBJ_SEAL (shOBJ_SEAL.row c && !s.objBusy src (cHandle c)) src c (fun s => chkBacking s.cfg c 16 24)
    (fun s => s.objSeal src c))

/-! ### OBJ_REPLACE (R138 to R141) -/

def shOBJ_REPLACE : Shape where
  op := 0x13
  body := fun c => [rc c 24 2, rz c 25 3, rz c 40 8]
  xbody := fun c => [rm c 48 4 0xFFFFFFFE, rz c 52 12]
  handles := fun _ => [⟨8, objKinds, false, false⟩]
  addrs := [16, 32]

def State.objReplace (s : State) (src : Src) (c : Bytes) : State :=
  let tk := ticketOf src c
  let h := cHandle c
  s.onObj tk h (fun o =>
    if o.state ≠ osREADY || (o.kind = tyVocab && !o.overlay) then s.refuse tk stNOT_PERMITTED noField
    else
      let s := s.first tk h
      let id := s.nextId
      (s.addTask (hTerr h) 3 4 (hIndex h) tk
        (.objReplace h (rd c 24 1) (rd c 28 4) (rd c 32 8) (cExp c && bit (rd c 48 4) 0)) none).hfpIssue (hTerr h)
        (.taskRead id [(rd c 16 8, 0)]))

def execObjReplace (src : Src) (c : Bytes) (s : State) : Host.Outcome State Fault Refusal :=
  .next (s.command shOBJ_REPLACE (shOBJ_REPLACE.row c && !s.objBusy src (cHandle c)) src c (fun s => chkBacking s.cfg c 24 32)
    (fun s => s.objReplace src c))

/-- Does a new overlay version hold every token of the old one with the same bytes (R141)? -/
def keepsTokens (old new : Option ObjBody) : Bool :=
  match old, new with
  | some (.vocab a), some (.vocab b) => a.tokens.all (fun t => b.tokens.any (fun u => u.id = t.id && u.bytes == t.bytes))
  | _, _ => false

/-- The whole new image against the current version and the limits: the FINAL status of a failure and its offset. A profile's
S_TEMP_SCALE fails as at OBJ_CREATE (R61). -/
def Terrace.replaceChk (te : Terrace) (cfg : Cfg) (o : Obj) (img : Bytes) (body : Option ObjBody) (backing : Nat) (switch : Bool) : Chk :=
  let hdr := img.take 128
  Chk.first [field (!switch || o.kind = tyBias || o.kind = tyProfile || (o.kind = tyVocab && o.overlay)) 48,
    cond (headerOk hdr) stBAD_FORMAT,
    field (hdKind hdr != tyProfile || tempOk (sTemp hdr)) 112,
    cond (hdKind hdr = o.kind && hdOverlay hdr == o.overlay && hdDep hdr = hdDep o.hdr
      && (!cfg.crustRequired || 2 < hdKind hdr || hdCrust hdr) && te.imageOk o hdr img body
      && (!switch || o.kind ≠ tyVocab || keepsTokens (o.curVer.bind (·.body)) body)) stBAD_FORMAT,
    cond (o.versions.length < 4 && hdLines hdr ≤ te.t1Free && ((backing ≠ 2 && !o.cold) || te.t2Fits (hdSize hdr))
      && (!o.pinned || te.pinFits o.kind (hdT0 hdr))) stNO_RESOURCE]

/-- A failed replacement leaves the current version as it was. -/
def State.replaceFail (s : State) (k : Task) (h : Handle) (st off : Nat) : State :=
  (s.dropTask k.id).final k.ticket st h 0 off 0 0

/-- The task runs: validate, place, and write the version to T1. DEDUCED, log entry 116. -/
def State.replaceRun (s : State) (k : Task) (h : Handle) (backing limit backAddr : Nat) (switch : Bool) : State :=
  match s.obj h, s.terrace (hTerr h) with
  | some o, some te =>
    let img := (k.input.getD []).flatten
    match te.replaceChk s.cfg o img k.image backing switch with
    | some (st, off) => s.replaceFail k h st off
    | none =>
      let num := o.nextVer
      if !te.saltReady k.image then s.replaceFail k h stENTROPY_HALT noField
      else match (match k.image with | some b => s.place h num b | none => none) with
      | none => s.replaceFail k h stNO_RESOURCE noField
      | some s =>
        let s := s.modObj h (fun o => { o with making := some (mkVersion num (img.take 128) k.image backing backAddr limit) })
        (s.modTask k.id (fun k => { k with result := some (stOK, num, b2n switch, noField) })).mpOwn (hTerr h) (.objWrite k.id)
  | _, _ => s.replaceFail k h stINTERNAL noField

/-- The new version becomes current as FINAL is written (R139); SWITCH_AT_BOUNDARY posts its moves (R141). -/
def State.replaceDone (s : State) (k : Task) (h : Handle) : State :=
  match k.result with
  | some (_, num, sw, _) =>
    let s := s.modObj h (fun o => { o with
      versions := o.versions ++ o.making.toList, making := none, cur := num, nextVer := nextVersion num, chunks := []
      state := if o.state = osLOST then osREADY else o.state
      t0Kib := if o.pinned then o.t0Need else o.t0Kib })
    let s := if sw = 1 then s.modT (hTerr h) (fun te => { te with switches := te.switches ++ [(h, num)] }) else s
    ((s.dropTask k.id).final k.ticket stOK h 0 noField num 0).settleObj h
  | none => s

/-- The new version could not be written or copied: it is dropped with its regions, its number is not used up, and the
status is DATA_ERROR (DESIGN CHOICE, log entry 133). -/
def State.replaceUndo (s : State) (k : Task) (h : Handle) : State :=
  ((s.modObj h (fun o => { o with making := none })).settleObj h).replaceFail k h stDATA_ERROR noField

/-- The new version's copies stand: under PIN its lines are filled before FINAL (R146). -/
def State.replacePin (s : State) (k : Task) (h : Handle) : State :=
  match s.obj h with
  | none => s
  | some o =>
    match o.making with
    | none => s.replaceDone k h
    | some v => if o.pinned && hdT0 v.header ≠ 0 then s.mpOwn (hTerr h) (.objFill k.id) else s.replaceDone k h

/-- T1 has the new version: with BACKING 0x02, and where the home is T2, it is copied to T2 first (R138, R146). -/
def State.replaceWritten (s : State) (k : Task) (ok : Bool) : State :=
  match k.kind with
  | .objReplace h backing _ _ _ =>
    if !ok then s.replaceUndo k h
    else if backing = 2 || ((s.obj h).map (·.cold)).getD false then
      if s.boot.t2Failed then s.replaceUndo k h
      else s.flashAsk (.backCopy k.id)
    else s.replacePin k h
  | _ => s

/-- The pinned lines of the new version have arrived, or could not be read. -/
def State.objFilled (s : State) (k : Task) (ok : Bool) : State :=
  match k.kind with
  | .objReplace h _ _ _ _ => if ok then s.replaceDone k h else s.replaceUndo k h
  | _ => s

/-! ### OBJ_DESTROY (R135) -/

def shOBJ_DESTROY : Shape where
  op := 0x14
  body := fun c => [rz c 16 32]
  handles := fun _ => [⟨8, objKinds, false, false⟩]

/-- Is the vocabulary the base of a live object? -/
def Terrace.isBase (te : Terrace) (h : Handle) : Bool := te.objs.any (fun o => o.2.base = h)

def State.objDestroy (s : State) (src : Src) (c : Bytes) : State :=
  let tk := ticketOf src c
  let h := cHandle c
  match s.terrace (hTerr h) with
  | none => s.refuse tk stSTALE_HANDLE noField
  | some te => s.onObj tk h (fun o =>
    if te.isBase h then s.refuse tk stNOT_PERMITTED noField
    else
      let s := s.first tk h
      if o.ostate = osLOADING then (s.freeObj h).final tk stOK h 0 noField 0 0
      else if o.ostate = osLOST then
        ((s.forEach o.versions (fun s v => s.endUsers h v.num stOBJECT_LOST)).freeObj h).final tk stOK h 0 noField 0 0
      else (s.modObj h (fun o => { o with state := osDESTROYING, ticket := some tk })).settleObj h)

def execObjDestroy (src : Src) (c : Bytes) (s : State) : Host.Outcome State Fault Refusal :=
  .next (s.command shOBJ_DESTROY (shOBJ_DESTROY.row c && !s.objBusy src (cHandle c)) src c (fun _ => none)
    (fun s => s.objDestroy src c))

/-! ### OBJ_HINT (R146) -/

def shOBJ_HINT : Shape where
  op := 0x15
  body := fun c => [rc c 16 4, rz c 17 31]
  handles := fun _ => [⟨8, objKinds, false, false⟩]

/-- A hint takes effect: pins are dropped by any other hint, COLD marks the home. -/
def applyHint (hint : Nat) (o : Obj) : Obj :=
  { o with hint := hint, pinned := hint = 1, t0Kib := if hint = 1 then o.t0Need else 0, cold := hint = 3 }

/-- PIN: every live version's lines are filled, then OK is written (R146). -/
def State.pinFill (s : State) (h : Handle) (o : Obj) : State :=
  s.forEach (o.versions.filter (fun v => hdT0 v.header ≠ 0)) (fun s v => s.mpOwn (hTerr h) (.fill h v.num))

/-- The home is in T1 again, or never left it: a hint other than COLD takes effect. -/
def State.hintNow (s : State) (h : Handle) (o : Obj) (tk : Ticket) (hint : Nat) : State :=
  if hint = 1 && !o.pinned && o.t0Need ≠ 0 then
    (s.modObj h (fun o => { o with ticket := some tk, hint := 1, cold := false })).pinFill h o
  else (s.modObj h (fun o => { applyHint hint o with ticket := none })).finish tk stOK h noField 0 0

def State.objHint (s : State) (src : Src) (c : Bytes) : State :=
  let tk := ticketOf src c
  let h := cHandle c
  let hint := rd c 16 1
  match s.terrace (hTerr h) with
  | none => s.refuse tk stSTALE_HANDLE noField
  | some te => s.onObj tk h (fun o =>
    if o.state = osLOADING then (s.modObj h (fun o => { o with hint := hint, cold := hint = 3 })).only tk stOK h 0 0
    else if hint = 1 && !o.pinned && !te.pinFits o.kind o.t0Need then s.refuse tk stNO_RESOURCE noField
    else if hint ≠ 3 && o.t1Gone then
      if s.boot.t2Failed then s.refuse tk stDATA_ERROR noField
      else if te.t1Free < o.coldLines then s.refuse tk stNO_RESOURCE noField
      else
        let s := (s.modObj h (fun o => { o with ticket := some tk, t1Gone := false, promoting := true })).defer tk
        s.flashAsk (.warmHint h tk hint)
    else if hint ≠ 3 then (s.defer tk).hintNow h o tk hint
    else if !o.cold then
      if s.boot.t2Failed then s.refuse tk stDATA_ERROR noField
      else if te.t2Fits (hdSize o.hdr) then
        ((s.modObj h (fun o => { o with ticket := some tk })).defer tk).flashAsk (.coldHint h tk)
      else s.refuse tk stNO_RESOURCE noField
    else (s.modObj h (applyHint hint)).only tk stOK h 0 0)

def execObjHint (src : Src) (c : Bytes) (s : State) : Host.Outcome State Fault Refusal :=
  .next (s.command shOBJ_HINT (shOBJ_HINT.row c && !s.objBusy src (cHandle c)) src c
    (fun s => field (rd c 16 1 != 3 || s.cfg.hasFlash) 16) (fun s => s.objHint src c))

/-- Is another fill of the object's pinned lines outstanding? -/
def State.filling (s : State) (h : Handle) : Bool :=
  s.mp.any (fun o => match o.kind with | .fill g _ => g = h | _ => false)

/-- The fills of a PIN have completed, or one of them failed: the version is quarantined, or its OBJ_SEAL fails. Without a command
they are those after a wake (R503). -/
def State.pinDone (s : State) (h : Handle) (ver : Nat) (ok : Bool) (cause : Cause) : State :=
  match s.obj h with
  | none => s
  | some o =>
    match o.ticket with
    | none =>
      let s := if s.filling h then s else s.modObj h (fun o => { o with refill := false })
      if ok then s else s.quarantine h ver cause
    | some tk =>
      if o.versions.isEmpty then (if ok then s.sealDone h else s.sealFail h stDATA_ERROR)
      else if ok then
        if s.filling h then s else (s.modObj h (fun o => { applyHint 1 o with ticket := none })).finish tk stOK h noField 0 0
      else ((s.modObj h (fun o => { o with ticket := none })).quarantine h ver cause).finish tk stDATA_ERROR tk.handle noField 0 0

/-! ### OBJ_QUERY (R136) -/

def shOBJ_QUERY : Shape where
  op := 0x16
  body := fun c => [rz c 16 32]
  handles := fun _ => [⟨8, objKinds, false, true⟩]

/-- T0_RESIDENT: a pinned object is resident whole; what else the cache holds is a free value. DESIGN CHOICE, log entry 38. -/
def State.t0Resident (s : State) (o : Obj) : Nat :=
  if o.pinned then o.t0Kib else if o.versions.isEmpty then 0 else Config.t0Resident s.fresh % (hdT0 o.hdr + 1)

def State.objQuery (s : State) (src : Src) (c : Bytes) : State :=
  let tk := ticketOf src c
  let h := cHandle c
  match s.obj h with
  | none => s.refuse tk stSTALE_HANDLE noField
  | some o =>
    let home := if o.cold then 2 else if o.pinned then 1 else 0
    { s with fresh := s.fresh + 1 }.only tk stOK h (o.ostate + 256 * home + 2 ^ 16 * o.cur + 2 ^ 32 * o.users)
      (s.t0Resident o + 2 ^ 32 * o.versions.length + 2 ^ 40 * o.hint)

def execObjQuery (src : Src) (c : Bytes) (s : State) : Host.Outcome State Fault Refusal :=
  .next (s.command shOBJ_QUERY (shOBJ_QUERY.row c) src c (fun _ => none) (fun s => s.objQuery src c))

/-! ### RELOAD_LIMIT_EXPIRY (R155) -/

/-- The host reload of a quarantined version has missed its limit; `obj` is TYPE × 2^18 + INDEX. -/
def State.reloadExpiry (s : State) (t obj ver : Nat) : State :=
  match (s.terrace t).bind (fun te => te.objs.get obj) with
  | none => s
  | some o =>
    let h := mkHandle t (obj / 2 ^ 18) (obj % 2 ^ 18) o.gen
    match o.ver ver with
    | some v =>
      if v.quarantine && v.backing = 0 && v.quarAt + 100 * (if v.limit = 0 then 100000 else v.limit) ≤ s.tick then
        s.loseVersion h ver
      else s
    | none => s

def execReloadLimitExpiry (t obj ver : Nat) (s : State) : Host.Outcome State Fault Refusal := .next (s.reloadExpiry t obj ver)

end Sys2Proof.Machine
end

