-- ==== Sys2Proof/Machine/Tasks.lean ====
section
/-! DEFINITION. The tokenization and packing commands (R206 to R209, R255 to R264, R445 to R447): the meanings of TOK,
TOK_DONE, DETOK, PACK and PAIR, what their tasks do when they run, and how a task ends. -/

namespace Sys2Proof.Machine

/-! ### The end of a task -/

/-- Versions a task's command has pinned. -/
def TaskKind.pins : TaskKind → List (Handle × Nat)
  | .tok v vv _ _ _ _ => [(v, vv)]
  | .detok v vv _ _ _ _ => [(v, vv)]
  | .pack _ tp v st _ tv vv sv _ _ _ => [(tp, tv), (v, vv), (st, sv)]
  | _ => []

/-- The command of a task ends with its FINAL. -/
def State.endTask (s : State) (k : Task) (st off r0 r1 : Nat) : State :=
  let s := (s.chargeTask k).dropTask k.id
  (s.forEach k.kind.pins (fun s p => s.unpin p.1 p.2)).final k.ticket st k.ticket.handle 0 off r0 r1

/-- A host fabric or memory error ends the command; the sync object a PACK or PAIR names enters error (R209, R264, R447). -/
def State.taskError (s : State) (k : Task) : State :=
  match k.kind with
  | .pack _ _ _ _ sync _ _ _ _ _ _ => (s.endTask k stDATA_ERROR noField 0 0).syncFail sync
  | .objLoad h off len => (s.chargeTask k).loadEnd k h off len false
  | .objReplace h _ _ _ _ => s.replaceFail k h stDATA_ERROR noField
  | .tok .. | .detok .. => s.endTask k stDATA_ERROR noField 0 0
  | .streamPut .. | .intake _ => s

/-! ### TOK (R206 to R209) -/

def shTOK : Shape where
  op := 0x20
  body := fun c => [rm c 43 1 0xFE]
  handles := fun _ => [⟨8, [tyVocab], false, false⟩]
  addrs := [16, 24, 32]

def chkTok (c : Bytes) : Chk :=
  Chk.first [field (rd c 24 8 % 4 == 0) 24, field (rd c 32 8 % 4 == 0) 32, field (rd c 40 3 != 0) 40,
    field (decide (1 ≤ rd c 44 4 ∧ rd c 44 4 ≤ 16777216)) 44]

/-- FIRST is written, the version pinned, and the text read for a task. -/
def State.tokStart (s : State) (src : Src) (c : Bytes) (k : Nat → TaskKind) (addrs : List (Nat × Nat)) : State :=
  let tk := ticketOf src c
  let v := cHandle c
  match s.usable [v] with
  | some (st, r0) => s.complete tk kONLY st tk.handle 0 noField r0 0
  | none =>
    let ver := s.curVer v
    let s := (s.engage v).first tk v
    let id := s.nextId
    (s.addTask (hTerr v) 1 4 (hIndex v) tk (k ver) none).hfpIssue (hTerr v) (.taskRead id addrs)

def execTok (src : Src) (c : Bytes) (s : State) : Host.Outcome State Fault Refusal :=
  .next (s.command shTOK (shTOK.row c) src c (fun _ => chkTok c) (fun s =>
    s.tokStart src c (fun ver => .tok (cHandle c) ver (rd c 24 8) (rd c 32 8) (rd c 44 4) (bit (rd c 43 1) 0))
      [(rd c 16 8, rd c 40 3)]))

def sat16 (n : Nat) : Nat := min n 0xFFFF

/-- RESULT1 of a TOK's FINAL (R208). -/
def tokResult1 (st : SiftStats) : Nat :=
  sat16 st.escaped + 2 ^ 16 * sat16 st.cuts + 2 ^ 32 * sat16 st.repl + 2 ^ 56 * intakeFlags st

/-- The result of a running task is known: status, RESULT0, RESULT1, FIELD_OFFSET. -/
def State.setResult (s : State) (k : Task) (r : Nat × Nat × Nat × Nat) (outs : Nat) : State :=
  s.modTask k.id (fun k => { k with result := some r, outs := outs })

/-- The task of a TOK runs on core `core`. A text that REJECT refuses counts nothing (R190; DEDUCED, log entry 146). -/
def State.runTok (s : State) (k : Task) (core : Nat) (vocab : Handle) (ver outAddr offsAddr cap : Nat) (reject : Bool) : State :=
  match (s.terrace k.terr).bind (fun te => te.vocab vocab ver) with
  | none => s.setResult k (stINTERNAL, 0, 0, noField) 0
  | some v =>
    let r := sift v false ((k.input.getD []).flatten)
    let n := r.1.toks.length
    match reject, r.2 with
    | true, some off => s.setResult k (stBAD_FORMAT, off, 0, noField) 0
    | _, _ =>
      let s := s.siftCount k.terr core r.1.stats
      if cap < n then s.setResult k (stNO_RESOURCE, n, 0, noField) 0
      else
        let res := (stOK, n + 2 ^ 32 * (ncBytes r.1.norm).length, tokResult1 r.1.stats, noField)
        let s := (s.setResult k res (if offsAddr = 0 then 1 else 2)).hfpIssue k.terr
          (.taskWrite k.id outAddr (r.1.toks.flatMap (fun t => le 4 t.tok)) 0)
        if offsAddr = 0 then s
        else s.hfpIssue k.terr (.taskWrite k.id offsAddr (r.1.toks.flatMap (fun t => le 4 t.src)) 0)

/-! ### TOK_DONE -/

/-- The task has its result and every output write is visible: FINAL is written (R207, R208). -/
def State.tokDone (s : State) (id : Nat) : State :=
  match s.task id with
  | some k => match k.kind, k.result with
    | .tok .., some (st, r0, r1, off) => if k.outs = 0 then s.endTask k st off r0 r1 else s
    | _, _ => s
  | none => s

def execTokDone (task : Nat) (s : State) : Host.Outcome State Fault Refusal := .next (s.tokDone task)

/-! ### DETOK (R445 to R447) -/

/-- Shape of DETOK (R446). DEDUCED, log entry 40. -/
def shDETOK : Shape where
  op := 0x24
  body := fun c => [rm c 40 1 0xFC, rz c 41 7]
  handles := fun _ => [⟨8, [tyVocab], false, false⟩]
  addrs := [16, 24]

def chkDetok (c : Bytes) : Chk :=
  Chk.first [field (rd c 16 8 % 4 == 0) 16, field (decide (1 ≤ rd c 32 4 ∧ rd c 32 4 ≤ 4194304)) 32, field (rd c 36 4 != 0) 36]

/-- DETOK (R446, R447). DEDUCED, log entry 40. -/
def execDetok (src : Src) (c : Bytes) (s : State) : Host.Outcome State Fault Refusal :=
  .next (s.command shDETOK (shDETOK.row c) src c (fun _ => chkDetok c) (fun s =>
    s.tokStart src c (fun ver => .detok (cHandle c) ver (rd c 24 8) (rd c 36 4) (bit (rd c 40 1) 0) (bit (rd c 40 1) 1))
      [(rd c 16 8, 4 * rd c 32 4)]))

/-- Bytes of a token list, the replacements made, and RESULT1: the bytes held back and the tokens that supplied them.
DEDUCED, log entry 43. -/
def detok (v : Vocab) (endTok : Tok) (ctrl hold : Bool) (ts : List Tok) : Bytes × Nat × Nat :=
  let bs := ts.map (tokOut v endTok ctrl)
  let r := assembleUtf8 hold bs.flatten
  (r.1, r.2.1, r.2.2.length + 256 * suppliers r.2.2.length bs.reverse)

/-- The task of a DETOK runs. -/
def State.runDetok (s : State) (k : Task) (vocab : Handle) (ver outAddr cap : Nat) (ctrl hold : Bool) : State :=
  match s.terrace k.terr with
  | none => s
  | some te => match te.vocab vocab ver with
    | none => s.endTask k stINTERNAL noField 0 0
    | some v =>
      let ts := toTokens ((k.input.getD []).flatten)
      match findIdx (fun t => v.size ≤ t) ts with
      | some i => s.endTask k stBAD_FIELD 16 i 0
      | none =>
        let r := detok v (te.endTok vocab ver) ctrl hold ts
        if cap < r.1.length then s.endTask k stNO_RESOURCE noField r.1.length 0
        else
          let s := (s.count cSLICE_BYTES k.terr locBlock r.1.length).count cSLICE_REPLACED k.terr locBlock r.2.1
          if r.1.isEmpty then s.endTask k stOK noField (2 ^ 32 * r.2.1) r.2.2
          else (s.setResult k (stOK, r.1.length + 2 ^ 32 * r.2.1, r.2.2, noField) 1).hfpIssue k.terr
            (.taskWrite k.id outAddr r.1 0)

/-! ### PACK and PAIR (R255 to R264) -/

def packShape (op : Nat) : Shape where
  op := op
  handles := fun _ => [⟨8, [tyTemplate], false, false⟩, ⟨32, [tyVocab], false, false⟩, ⟨36, [tyStore], true, false⟩,
    ⟨44, [tySync], true, false⟩]
  addrs := [16, 24]

def shPACK : Shape := packShape 0x25
def shPAIR : Shape := packShape 0x26

/-- Alignments and range of the BODY. -/
def chkPackBody (c : Bytes) : Chk :=
  Chk.first [field (rd c 16 8 % 8 == 0) 16, field (rd c 24 8 % 64 == 0) 24, field (decide (64 ≤ rd c 40 4)) 40]

/-- OBJ_UID of a vocabulary, or of the base it extends. -/
def Obj.rootUid (o : Obj) : Nat := if o.overlay then hdDep o.hdr else hdUid o.hdr

/-- The object's DEP_UID is the vocabulary's (R256, R273). -/
def Terrace.depMatches (te : Terrace) (h vocab : Handle) : Bool :=
  match te.obj h, te.obj vocab with
  | some o, some v => hdDep o.hdr == v.rootUid
  | _, _ => false

/-- Does the template have a passage group? -/
def Terrace.groups (te : Terrace) (h : Handle) : Bool :=
  match (te.obj h).bind (fun o => o.curVer.bind (·.body)) with
  | some (.template b) => hasGroup b.segs
  | _ => false

/-- Slot numbers that the current version of a template names. -/
def Terrace.slotNames (te : Terrace) (h : Handle) : List Nat :=
  match (te.obj h).bind (fun o => o.curVer.bind (·.body)) with
  | some (.template b) => slotsNamed b
  | _ => []

/-- The checks of R256 on the handles. -/
def Terrace.packHandles (te : Terrace) (c : Bytes) : Chk :=
  Chk.first [field (te.depMatches (cHandle c) (rd c 32 4)) 8,
    field (rd c 36 4 == 0 || te.depMatches (rd c 36 4) (rd c 32 4)) 36]

/-- The checks of R256 on the descriptor. -/
def Terrace.packDesc (te : Terrace) (pair : Bool) (c d : Bytes) : Chk :=
  let n := asmPassages d
  let budget := rd d 0 4
  Chk.first [asmChk d, field (n == 0 || (rd c 36 4 != 0 && te.groups (cHandle c))) 70, field (!pair || n != 0) 70,
    field (!pair || budget != 0) 64, field (rd d 5 1 != 1 || te.inShared (rd c 24 8) (rd c 40 4)) 24,
    field (if pair then decide (n * recordBytes budget ≤ rd c 40 4)
      else budget == 0 || decide (recordBytes budget ≤ rd c 40 4)) 40]

def State.packStart (s : State) (pair : Bool) (src : Src) (c : Bytes) (desc : HostRead) : State :=
  let tk := ticketOf src c
  let tp := cHandle c
  let v := rd c 32 4
  let st := rd c 36 4
  match s.terrace (hTerr tp), s.usable [tp, v, st], desc with
  | none, _, _ => s.refuse tk stSTALE_HANDLE noField
  | _, some (e, r0), _ => s.complete tk kONLY e tk.handle 0 noField r0 0
  | some te, none, desc =>
    match te.packHandles c, desc with
    | some (e, off), _ => s.refuse tk e off
    | none, .error => s.refuse tk stDATA_ERROR noField
    | none, .okay d => match te.packDesc pair c d with
      | some (e, off) => s.refuse tk e off
      | none =>
        let named := te.slotNames tp
        let reads := asmReads d named true
        let k : TaskKind := .pack pair tp v st (rd c 44 4) (s.curVer tp) (s.curVer v) (s.curVer st) (rd c 24 8) (rd c 40 4)
          (parseAsm d named)
        let s := ((([tp, v, st].filter (· ≠ 0)).foldl State.engage s)).first tk tp
        let id := s.nextId
        if reads.isEmpty then s.addTask (hTerr tp) 2 4 (hIndex tp) tk k (some [])
        else (s.addTask (hTerr tp) 2 4 (hIndex tp) tk k none).hfpIssue (hTerr tp) (.taskRead id reads)

def execPack (src : Src) (c : Bytes) (desc : HostRead) (s : State) : Host.Outcome State Fault Refusal :=
  .next (s.command shPACK (shPACK.row c) src c (fun _ => chkPackBody c) (fun s => s.packStart false src c desc))

def execPair (src : Src) (c : Bytes) (desc : HostRead) (s : State) : Host.Outcome State Fault Refusal :=
  .next (s.command shPAIR (shPAIR.row c) src c (fun _ => chkPackBody c) (fun s => s.packStart true src c desc))

/-- A record to write: its address, its bytes, and the sequence it holds. -/
structure PackRec where
  addr : Nat
  data : Bytes
  seq  : KSeq

/-- The records of a command over its assembled sequences (R257, R258, R261). -/
def packRecords (pair : Bool) (template : Handle) (outAddr budget flags : Nat) (l : List KSeq) : List PackRec :=
  ((List.range l.length).zip l).map (fun x =>
    ⟨outAddr + x.1 * recordBytes budget,
     kneadRecord template (if pair then x.1 else 0) flags x.2 (pair && x.2.isOver), x.2⟩)

/-- The sequences of a PACK or a PAIR (R258, R259). -/
def AsmWork.seqs (w : AsmWork) (pair : Bool) (budget : Nat) : List KSeq :=
  if pair then w.passages.map (fun p => assemble w.base w.segs w.slots [p] budget)
  else [assemble w.base w.segs w.slots w.passages budget]

/-- Work of the Kneader counted at the core that ran the task: tokens where they go into records, tokens cut and passages
dropped (R265). DEDUCED, log entry 45. -/
def State.kneadCount (s : State) (t core : Nat) (recs : Bool) (seqs : List KSeq) : State :=
  let l := locCore core
  let w := seqs.filter (fun q => !q.isOver)
  ((s.count cKNEAD_TOKENS t l (if recs then sumBy (·.toks.length) w else 0)).count cKNEAD_CUT t l (sumBy (·.cut) w)).count cKNEAD_DROP t l
    (sumBy (·.dropped) w)

/-- The lookups of an assembly, counted whether or not it ends well: text intake of its slots, passage searches at the core's
quad, directory lookups (R219, R247, R251, R265). -/
def State.asmCount (s : State) (t core : Nat) (w : AsmWork) : State :=
  ((s.siftCount t core w.stats).searched t (locQuad (core / 4)) w.pass.work).count cPASSAGE_COLD_LOOKUP t (locCore core) w.pass.cold

/-- FINAL of a command whose records are all written. DEDUCED, log entry 42. -/
def packResult (pair : Bool) (l : List KSeq) : Nat × Nat × Nat × Nat :=
  if pair then
    if l.any (·.isOver) then (stBAD_FIELD, 0, 0, 64) else (stOK, l.length, sumBy (·.toks.length) l, noField)
  else (stOK, sumBy (·.toks.length) l + 2 ^ 32 * sumBy (·.cut) l, 0, noField)

/-- Write the records of a task, in order. -/
def State.writeRecords (s : State) (k : Task) (shared : Bool) (sync : Handle) (l : List PackRec) : State :=
  (s.modTask k.id (fun k => { k with recs := l.map (fun r => (r.addr, false)) })).forEach l (fun s r =>
    if shared then s.mpIssue (s.sharedPort k.terr) (.taskWrite k.id r.addr r.data sync)
    else s.hfpIssue k.terr (.taskWrite k.id r.addr r.data sync))

/-- The task of a PACK or PAIR runs on core `core`. DEDUCED, log entry 45. -/
def State.runPack (s : State) (k : Task) (core : Nat) (pair : Bool) (tp v st sync : Handle) (tv vv sv outAddr cap : Nat)
    (a : Assembly) : State :=
  let a := a.fill (k.input.getD [])
  match s.terrace k.terr with
  | none => s
  | some te => match te.asmWork tp v st tv vv sv a with
    | none => s.endTask k stINTERNAL noField 0 0
    | some w =>
      let seqs := w.seqs pair a.budget
      let s := s.asmCount k.terr core w
      match w.fail with
      | some (e, off, r0) => s.endTask k e off r0 0
      | none =>
      if !pair && seqs.any (·.isOver) then s.endTask k stBAD_FIELD 64 0 0
      else
        let recs := packRecords pair tp outAddr a.budget (kneadFlags w.stats) seqs
        let need := sumBy (fun r => r.data.length) recs
        if !pair && a.budget = 0 && cap < need then s.endTask k stNO_RESOURCE noField need 0
        else
          ((s.kneadCount k.terr core true seqs).setResult k (packResult pair seqs) recs.length).writeRecords k
            (a.destKind = 1) sync recs

/-! ### Reads and writes of a task -/

/-- What a task was waiting to read has arrived. -/
def State.taskRead (s : State) (id : Nat) (d : HostData) : State :=
  match s.task id with
  | none => s
  | some k => match d with
    | .parts ps => s.modTask id (fun k => { k with input := some ps })
    | .image b body => s.modTask id (fun k => { k with input := some [b], image := body })
    | .error => s.taskError k

/-- An output write of a task was acknowledged: its record is visible, and the sync object advances by one for each record
whose turn in ascending k has come (R42, R258); the last one ends the command, except a TOK, whose end is a row of its own. -/
def State.taskWritten (s : State) (id addr : Nat) (sync : Handle) (ok : Bool) : State :=
  match s.task id with
  | none => s
  | some k =>
    if !ok then s.taskError k
    else match k.kind with
      | .objLoad h off len => (s.chargeTask k).loadEnd k h off len true
      | _ =>
        let recs := k.recs.map (fun r => if r.1 = addr then (addr, true) else r)
        let s := (s.modTask id (fun k => { k with outs := k.outs - 1, recs := recs.dropWhile (·.2) })).forEach
          (recs.takeWhile (·.2)) (fun s _ => s.syncAdd sync 1)
        match k.kind, k.result with
        | .tok .., _ => s
        | _, some (st, r0, r1, off) => if k.outs ≤ 1 then s.endTask k st off r0 r1 else s
        | _, none => s

end Sys2Proof.Machine
end

