-- ==== Sys2Proof/Machine/ReqOps.lean ====
section
/-! DEFINITION. Operations on requests and pages: the entry (R266 to R270), service order (R281), page lists (R298 to
R308), the step-interval model (R276 to R278), and egress messages (R340). -/

namespace Sys2Proof.Machine

/-! ### Requests by handle -/

def State.req (s : State) (h : Handle) : Option Req :=
  ((s.terrace (hTerr h)).bind (fun te => te.reqs.get (hIndex h))).bind (fun r => if r.gen = hGen h then some r else none)

def Terrace.modReq (te : Terrace) (i : Nat) (f : Req → Req) : Terrace := { te with reqs := te.reqs.mod i f }

def State.modReq (s : State) (h : Handle) (f : Req → Req) : State := s.modT (hTerr h) (fun te => te.modReq (hIndex h) f)

/-- Admitted and not ended (R275): ADMIT_WAIT to SPILLED. -/
def Req.admitted (r : Req) : Bool := 1 ≤ r.state && r.state ≤ 6

/-- Holds live state on the block (R286). -/
def Req.joined (r : Req) : Bool := 3 ≤ r.state && r.state ≤ 5

/-- END_REASON codes (R280). -/
def erEND_TOKEN : Nat := 1
def erSTOP_STRING : Nat := 2
def erMAX_TOKENS : Nat := 3
def erGRAMMAR_ACCEPT : Nat := 4
def erCANCELLED : Nat := 5
def erDROPPED_LATE : Nat := 6
def erERROR : Nat := 7

/-- STALL_CAUSE codes (R287). -/
def scPOOL_SHORT : Nat := 1
def scOBJ_QUARANTINE : Nat := 2
def scENTROPY_HALT : Nat := 3
def scSTREAM_FULL : Nat := 4
def scFILL_LATE : Nat := 5

/-- The request ends with a reason and status; it leaves its state at part 4. -/
def Req.endWith (r : Req) (reason status : Nat) : Req :=
  if r.endReason = 0 then { r with endReason := reason, endStatus := status } else r

/-- The transitions of R269; a state that stays as it is makes none. -/
def legalMove (a b : Nat) : Bool :=
  a = b || (match a with
    | 0 => b = rsADMIT_WAIT
    | 1 => b = rsQUEUED || b = rsDRAINING
    | 2 => b = rsPREFILL || b = rsDRAINING
    | 3 => b = rsDECODE || b = rsSTALLED || b = rsSPILLED || b = rsDRAINING
    | 4 => b = rsSTALLED || b = rsSPILLED || b = rsDRAINING
    | 5 | 6 => b = rsPREFILL || b = rsDECODE || (a = 5 && b = rsSPILLED) || b = rsDRAINING
    | 7 => b = rsDONE
    | 8 => b = 0
    | _ => false)

/-- Handle that names an owner on the step port: the request, or the Starter being built (R345). -/
def Terrace.ownerHandle (te : Terrace) (t i : Nat) (r : Req) : Handle :=
  match r.build with
  | some x => mkHandle t tyStarter x (((te.starters.get x).map (·.gen)).getD 0)
  | none => mkHandle t tyReq i r.gen

/-! ### Service order (R281) -/

def Req.effDeadline (r : Req) : Nat :=
  let d := if r.firstAt = 0 then r.dlFirst else r.dlEnd
  if d = 0 then 2 ^ 64 else d

def served (x y : Nat × Req) : Bool :=
  y.2.priority < x.2.priority || (x.2.priority = y.2.priority &&
    (x.2.effDeadline < y.2.effDeadline || (x.2.effDeadline = y.2.effDeadline && x.1 ≤ y.1)))

/-- Entry numbers in service order. -/
def Terrace.service (te : Terrace) : List Nat := (sortBy served te.reqs).map (·.1)

/-! ### Starters and positions (R302, R312) -/

def pageTokens (p : Pool) : Nat := 16 * 2 ^ p.psize

def Terrace.pageSize (te : Terrace) : Nat := ((te.pool.map pageTokens).getD 16)

/-- The entry a Starter index names: its own, or the Starter it was matched with (R316). -/
def Terrace.starterIx (te : Terrace) (i : Nat) : Nat := ((te.starters.get i).bind (·.other)).getD i

/-- The handle of the Starter that a handle names, 0 for none. -/
def Terrace.starterRef (te : Terrace) (h : Handle) : Handle :=
  if h = 0 then 0
  else
    let i := te.starterIx (hIndex h)
    mkHandle (hTerr h) tyStarter i (((te.starters.get i).map (·.gen)).getD (hGen h))

def Terrace.starter (te : Terrace) (h : Handle) : Option Starter :=
  if h = 0 then none else te.starters.get (te.starterIx (hIndex h))

/-- L of a Starter handle, 0 for none. -/
def Terrace.starterLen (te : Terrace) (h : Handle) : Nat := ((te.starter h).map (fun x => x.toks.length)).getD 0

/-- Shared full pages K of a Starter handle. -/
def Terrace.sharedPages (te : Terrace) (h : Handle) : Nat := te.starterLen h / te.pageSize

def Terrace.sharedPos (te : Terrace) (h : Handle) : Nat := te.sharedPages h * te.pageSize

/-- Full pages of the chain before Starter `x`. DEDUCED, log entry 74. -/
def Terrace.linkPages (te : Terrace) (x : Starter) : Nat :=
  match x.link with
  | some j => ((te.starters.get j).map (fun y => y.toks.length)).getD 0 / te.pageSize
  | none => 0

/-- Starters in a chain, the named one included (R312); a chain holds at most 8. -/
def Terrace.chainLen (te : Terrace) (i : Nat) : Nat := go te 16 i
where
  go (te : Terrace) : Nat → Nat → Nat
    | 0, _ => 0
    | n + 1, i => match te.starters.get i with
      | none => 0
      | some x => match x.link with
        | none => 1
        | some j => 1 + go te n j

def runsCount (l : List Run) : Nat := sumBy (·.count) l

/-- Page number `n` of a list of runs. -/
def runPage : List Run → Nat → Option Nat
  | [], _ => none
  | r :: rs, n => if n < r.count then some (r.first + n) else runPage rs (n - r.count)

/-- Page `n` of a Starter chain. -/
def Terrace.chainPage (te : Terrace) : Nat → Nat → Nat → Option Nat
  | 0, _, _ => none
  | f + 1, i, n =>
    match te.starters.get i with
    | none => none
    | some x =>
      let k := te.linkPages x
      if n < k then (match x.link with | some j => te.chainPage f j n | none => none) else runPage x.runs (n - k)

/-- Page that holds a position of a request. -/
def Terrace.pageAt (te : Terrace) (r : Req) (p : Nat) : Nat :=
  let n := p / te.pageSize
  let k := te.sharedPages r.starter
  (if n < k then te.chainPage 16 (hIndex r.starter) n else runPage r.runs (n - k)).getD 0

/-- Token at a position: the Starter's, a committed one, or the prompt's. -/
def Terrace.tokAt (te : Terrace) (r : Req) (p : Nat) : Tok :=
  let l := te.starterLen r.starter
  if p < l then ((te.starter r.starter).map (fun x => x.toks.getD p 0)).getD 0
  else (r.history[p - l]?).getD (r.prompt.getD (p - l) 0)

/-- Positions that prefill has to reach: the prompt, or the whole history of a re-prefill (R289). -/
def Req.target (r : Req) : Nat := max r.promptLen r.committed

/-! ### Page need and budget (R274, R275) -/

def Terrace.needOf (te : Terrace) (r : Req) (positions : Nat) : Nat :=
  ceilDiv (positions - te.sharedPos r.starter + min r.maxNew te.desc.reserve) te.pageSize

def Terrace.committedNeed (te : Terrace) : Nat := sumBy (fun r => if r.2.admitted then r.2.pageNeed else 0) te.reqs

/-! ### The pool (R299, R303, R304) -/

def Run.has (r : Run) (p : Nat) : Bool := r.first ≤ p && p < r.first + r.count

def Terrace.heldRuns (te : Terrace) : List Run := te.reqs.flatMap (fun r => r.2.runs) ++ te.starters.flatMap (fun x => x.2.runs)

def Terrace.poolRanges (te : Terrace) : List Run := (te.pool.map (·.ranges)).getD []

def Terrace.pageFree (te : Terrace) (p : Nat) : Bool := te.poolRanges.any (·.has p) && !te.heldRuns.any (·.has p)

def Terrace.freePages (te : Terrace) : Nat := runsCount te.poolRanges - runsCount te.heldRuns

/-- The lowest-numbered free page: the first of a range, or the page behind a held run. -/
def Terrace.lowestFree (te : Terrace) : Option Nat :=
  let cs := (te.poolRanges.map (·.first) ++ te.heldRuns.map (fun r => r.first + r.count)).filter te.pageFree
  cs.foldl (fun a p => match a with | some q => some (min p q) | none => some p) none

/-- May one more run be stored within the run quota? -/
def Terrace.runFree (te : Terrace) : Bool := te.heldRuns.length < ((te.pool.map (·.runs)).getD 0)

/-- One more page for a list of own runs (R304). -/
def Terrace.onePage (te : Terrace) (runs : List Run) : Option (List Run) :=
  let fresh := if te.runFree then te.lowestFree.map (fun p => runs ++ [(⟨p, 1⟩ : Run)]) else none
  match runs.getLast? with
  | none => fresh
  | some l =>
    let p := l.first + l.count
    if te.pageFree p then
      if l.count < 256 then some (runs.dropLast ++ [(⟨l.first, l.count + 1⟩ : Run)])
      else if te.runFree then some (runs ++ [(⟨p, 1⟩ : Run)]) else none
    else fresh

/-- `n` more pages for request `i`, or none where the pool or the run quota is short. -/
def Terrace.alloc (te : Terrace) (i : Nat) : Nat → Option Terrace
  | 0 => some te
  | n + 1 =>
    match (te.reqs.get i).bind (fun r => te.onePage r.runs) with
    | none => none
    | some runs => (te.modReq i (fun r => { r with runs := runs, hasList := true })).alloc i n

/-- A page notice (R309, R352): OP, N, OWNER, PAGE_A, PAGE_B. -/
abbrev Notice := Nat × Nat × Nat × Nat × Nat

def freeNotice (owner : Handle) (r : Run) : Notice := (1, r.count, owner, r.first, 0)

/-- The first `n` pages of a list of runs, and the runs behind them. -/
def splitRuns : Nat → List Run → List Run × List Run
  | _, [] => ([], [])
  | 0, l => ([], l)
  | n + 1, r :: rs =>
    if r.count ≤ n + 1 then let x := splitRuns (n + 1 - r.count) rs; (r :: x.1, x.2)
    else ([⟨r.first, n + 1⟩], ⟨r.first + (n + 1), r.count - (n + 1)⟩ :: rs)

/-- Release own pages of request `i` beyond the first `keep` (R307, R308). -/
def Terrace.release (te : Terrace) (t i keep : Nat) : Terrace × List Notice :=
  match te.reqs.get i with
  | none => (te, [])
  | some r =>
    let x := splitRuns keep r.runs
    (te.modReq i (fun r => { r with runs := x.1, hasList := r.hasList && !x.1.isEmpty }),
     x.2.map (freeNotice (te.ownerHandle t i r)))

/-! ### The step-interval model (R276) -/

/-- d(r, p) as a fraction; `p` is a fraction itself. -/
def Model.d (m : Model) (r : Nat) (p : Nat × Nat) : Int × Nat :=
  (m.a.1 * (m.b.2 * m.c.2 * p.2 : Nat) + m.b.1 * (r * (m.a.2 * m.c.2 * p.2) : Nat) + m.c.1 * (p.1 * (m.a.2 * m.b.2) : Nat),
   m.a.2 * m.b.2 * m.c.2 * p.2)

def clamp0 (q : Int × Nat) : Int × Nat := if q.1 < 0 then (0, 1) else q

/-- A fraction with a positive denominator. -/
def mkFrac (n d : Int) : Int × Nat := if d < 0 then (-n, (-d).toNat) else (n, d.toNat)

def det3 (a b c d e f g h i : Int) : Int := a * (e * i - f * h) - b * (d * i - f * g) + c * (d * h - e * g)

/-- Refit by least squares over the window; singular windows refit A alone. -/
def Model.refit (m : Model) : Model :=
  if m.win.length < 16 then m
  else
    let s := fun (f : Nat × Nat × Nat → Nat) => ((sumBy f m.win : Nat) : Int)
    let n := s (fun _ => 1)
    let sr := s (fun x => x.2.1)
    let sp := s (fun x => x.2.2)
    let sd := s (fun x => x.1)
    let rr := s (fun x => x.2.1 * x.2.1)
    let rp := s (fun x => x.2.1 * x.2.2)
    let pp := s (fun x => x.2.2 * x.2.2)
    let rd := s (fun x => x.1 * x.2.1)
    let pd := s (fun x => x.1 * x.2.2)
    let det := det3 n sr sp sr rr rp sp rp pp
    if det = 0 then
      let den := m.b.2 * m.c.2
      let num := sd * (den : Nat) - m.b.1 * sr * (m.c.2 : Nat) - m.c.1 * sp * (m.b.2 : Nat)
      { m with a := clamp0 (mkFrac num (n * (den : Nat))), b := clamp0 m.b, c := clamp0 m.c }
    else
      { m with a := clamp0 (mkFrac (det3 sd sr sp rd rr rp pd rp pp) det)
               b := clamp0 (mkFrac (det3 n sd sp sr rd rp sp pd pp) det)
               c := clamp0 (mkFrac (det3 n sr sd sr rr rd sp rp pd) det) }

/-- Mean prompt tokens per step over the window; k while it is empty (R277). -/
def Terrace.pbar (te : Terrace) : Nat × Nat :=
  if te.model.win.isEmpty then (te.sp.k, 1) else (sumBy (fun x => x.2.2) te.model.win, te.model.win.length)

/-- A fraction rounded up (R277). DEDUCED, log entry 46. -/
def ceilFrac (q : Int × Nat) : Nat := ceilDiv q.1.toNat q.2

/-- Tick of the terrace's next boundary: now, or the predicted close of the step in flight (R277). DEDUCED, log entry 46. -/
def Terrace.nextBoundary (te : Terrace) (tick : Tick) : Tick :=
  match te.sp.flight with
  | none => tick
  | some f => max tick (f.openAt + ceilFrac (te.model.d f.rows.length ((f.rows.filter (fun r => r.kind = 0)).length, 1)))

/-- Prompt positions a request has still to send: none in DECODE, and the whole of a re-prefill where its pages were
released. DEDUCED, log entry 46. -/
def Terrace.unsent (te : Terrace) (r : Req) : Nat :=
  if r.pagesRel then r.target - te.starterLen r.starter
  else if r.state = rsDECODE || ((r.state = rsSTALLED || r.state = rsSPILLED) && r.back = rsDECODE) then 0
  else r.target - r.prefilled

/-- Unsent prompt tokens of the requests ahead of `(i, r)`. -/
def Terrace.ahead (te : Terrace) (i : Nat) (r : Req) : Nat :=
  sumBy (fun x => if x.1 ≠ i && x.2.admitted && served x (i, r) then te.unsent x.2 else 0) te.reqs

/-- Predicted first-token and end times from tick `t` as ticks, rounded up (R277). DEDUCED, log entry 46. -/
def Terrace.predict (te : Terrace) (now t : Tick) (q p more : Nat) : Nat × Nat :=
  let w := te.nextBoundary now - now
  let rows := te.sp.lastRows + 1
  let k := max 1 te.sp.k
  let d1 := te.model.d rows (te.sp.k, 1)
  let d2 := te.model.d rows te.pbar
  let n : Nat := ceilDiv (q + p) k
  let first := t + w + ceilFrac (d1.1 * n, d1.2)
  (first, t + w + ceilFrac (d1.1 * n * (d2.2 : Nat) + d2.1 * more * (d1.2 : Nat), d1.2 * d2.2))

/-- Is a request with these deadlines feasible at tick `t`? -/
def Terrace.feasible (te : Terrace) (now t : Tick) (i : Nat) (r : Req) (p : Nat) : Bool :=
  let x := te.predict now t (te.ahead i r) p (r.maxNew - 1)
  (r.dlFirst = 0 || x.1 ≤ r.dlFirst) && (r.dlEnd = 0 || x.2 ≤ r.dlEnd)

/-- Predicted ends of the admitted requests and Starter builds with the need each releases, earliest first (R278). DEDUCED,
log entry 46. -/
def Terrace.predictedEnds (te : Terrace) (now : Tick) : List (Nat × Nat) :=
  sortBy (fun x y => x.1 ≤ y.1) ((te.reqs.filter (fun x => x.2.admitted)).map (fun x =>
    let unsent := te.unsent x.2
    let left := x.2.maxNew - x.2.generated
    ((te.predict now now (if unsent = 0 then 0 else te.ahead x.1 x.2) unsent (if unsent = 0 then left else left - 1)).2,
     x.2.pageNeed)))

/-- RESULT0 of an admission RETRY_AFTER for lack of `short` pages (R278). DEDUCED, log entry 46. -/
def retryTick (next : Tick) : List (Nat × Nat) → Nat → Nat
  | [], _ => next
  | [x], _ => x.1
  | x :: y :: r, short => if short ≤ x.2 then x.1 else retryTick next (y :: r) (short - x.2)

/-! ### The entry's bytes (R266) -/

/-- The request-table entry as it stands (R266). DESIGN CHOICE, log entry 117. -/
def Req.bytes (r : Req) (h : Handle) : Bytes :=
  le 4 h ++ le 1 r.state ++ le 1 r.priority ++ le 1 r.rflags ++ le 1 r.endReason ++ le 1 r.endStatus ++ le 1 r.stall
    ++ le 1 r.draftSrc ++ le 1 r.draftMax ++ le 4 r.tag ++ le 4 r.committed ++ le 4 r.specLen ++ le 4 r.promptLen
    ++ le 4 r.prefilled ++ le 4 r.generated ++ le 4 r.maxNew ++ le 4 (r.root.getD 0xFFFFFFFF)
    ++ le 4 (runsCount r.runs) ++ le 4 r.pageNeed ++ le 4 r.gstate ++ le 8 r.arrival ++ le 8 r.dlFirst ++ le 8 r.dlEnd
    ++ le 8 r.firstAt ++ le 8 r.endAt ++ le 4 r.vocab ++ le 4 r.grammar ++ le 4 r.bias ++ le 4 r.profile ++ le 4 r.stream
    ++ le 4 r.starter ++ le 4 r.lastStep ++ le 4 r.endOffset ++ le 4 r.counts.length ++ le 4 r.preempts
    ++ le 8 r.stallTicks ++ zeros 112

/-- The entry as REQ_QUERY shows it: as it stands in ADMIT_WAIT and QUEUED, else as the last completed boundary left it,
with the changes that take effect when received or written (R32, R268, R269). DEDUCED, log entry 29. -/
def Req.entry (r : Req) (h : Handle) : Bytes :=
  if r.state = rsADMIT_WAIT || r.state = rsQUEUED then r.bytes h else r.shown.getD (r.bytes h)

/-- RESULT0 and RESULT1 of REQ_QUERY, from the entry's bytes (R295). -/
def entryResult0 (b : Bytes) : Nat := rd b 4 1 + 256 * rd b 6 1 + 2 ^ 16 * rd b 7 1 + 2 ^ 32 * rd b 32 4
def entryResult1 (b : Bytes) : Nat := rd b 16 4 + 2 ^ 32 * rd b 44 4

/-- The end of a boundary: a request that holds a page list has its root in the run store, and every entry is shown from now
on as it stands (R32, R302). The root's value is the block's own. DESIGN CHOICE, log entry 117. -/
def State.showReq (t : Nat) (s : State) (x : Nat × Req) : State :=
  let r := x.2
  let root := if !r.hasList then none
    else some (r.root.getD (Config.pageRoot s.fresh % s.cfg.runStore))
  let r := { r with root := root }
  { s with fresh := s.fresh + 1 }.modT t (fun te => te.modReq x.1 (fun q =>
    { q with root := root, shown := some (r.bytes (mkHandle t tyReq x.1 r.gen)) }))

def State.showReqs (s : State) (t : Nat) : State :=
  s.forEach (((s.terrace t).map (·.reqs)).getD []) (State.showReq t)

/-! ### Egress (R340) -/

/-- Is the terrace's turn running? -/
def State.holdsTurn (s : State) (t : Nat) : Bool := s.sched.turn == some t && s.slotOpen

/-- Beats of a message (R344, R347, R351, R352). -/
def EMsg.beats : EMsg → Nat
  | .stepOpen _ _ _ _ _ _ _ _ _ _ _ rows => 1 + ceilDiv rows.length 2
  | .tileReq _ _ _ _ full tiles => if full then 1 else 1 + ceilDiv (tiles.length - 16) 32
  | .stepCommit _ _ _ _ _ recs => 1 + ceilDiv recs.length 4
  | .pageOp _ _ _ notices => 1 + ceilDiv (notices.length - 2) 4

/-- How many messages of a queue, in order, end by cycle `limit` when the first begins at cycle `now`, and the cycle behind the last. -/
def fitBeats (limit now : Nat) : List EMsg → Nat × Nat
  | [] => (0, now)
  | m :: r =>
    if now + m.beats ≤ limit then
      let x := fitBeats limit (now + m.beats) r
      (x.1 + 1, x.2)
    else (0, now)

/-- How many of its waiting messages the terrace may present now: under sealed turns those whose beats end before the slot
does (R461). DESIGN CHOICE, log entry 151. -/
def State.fitting (s : State) (te : Terrace) : Nat × Nat :=
  let c := max 1 Config.sclkCycles
  if s.sched.sealed then fitBeats (c * s.sched.len) (max s.sched.busy (c * (s.tick - s.sched.start))) te.egressQ
  else (te.egressQ.length, s.sched.busy)

/-- Present the messages a terrace has waiting; a STEP_OPEN starts its step, a STEP_COMMIT ends the one it closes. -/
def State.present (s : State) (t : Nat) : State :=
  match s.terrace t with
  | none => s
  | some te =>
    let n := s.fitting te
    if n.1 = 0 then s
    else
      let q := te.egressQ.take n.1
      let opens := q.any (fun m => match m with | .stepOpen .. => true | _ => false)
      let commits := q.any (fun m => match m with | .stepCommit .. => true | _ => false)
      let s := { s with egress := s.egress ++ q, sched := { s.sched with busy := n.2 } }
      s.modT t (fun te => { te with
        egressQ := te.egressQ.drop n.1
        sp := { te.sp with
          closing := if commits then none else te.sp.closing
          flight := te.sp.flight.map (fun f => if opens then { f with sent := true, openAt := s.tick } else f) } })

/-- Queue an egress message of a terrace; it is presented in the terrace's turn. -/
def State.send (s : State) (t : Nat) (m : EMsg) : State :=
  let s := s.modT t (fun te => { te with egressQ := te.egressQ ++ [m] })
  if s.holdsTurn t then s.present t else s

end Sys2Proof.Machine
end

