-- ==== Sys2Proof/Machine/Counters.lean ====
section
/-! DEFINITION. Counters and fault logs as host software reads and clears them (R542 to R554, R574 to R577): the meanings of
COUNTERS_READ, COUNTERS_CLEAR, CNT_SELECT_WRITE and CNT_SNAPSHOT_DONE. -/

namespace Sys2Proof.Machine

/-! ### Reading counters (R547 to R550) -/

/-- Units of a level (R34); 0 for a reserved LEVEL. -/
def levelCount (cfg : Cfg) (l : Nat) : Nat :=
  match l with
  | 1 => 16 * cfg.cores
  | 2 => cfg.cores
  | 3 => cfg.quads
  | 4 => cfg.bays
  | 5 => 1
  | _ => 0

/-- A location word with a LEVEL that is not reserved and an INDEX within the configuration (R35). -/
def locOk (cfg : Cfg) (w : Nat) : Bool := locIndex w < levelCount cfg (locLevel w)

/-- Units of level `l` in one unit of the level above. -/
def fanout (l : Nat) : Nat := match l with | 1 => 16 | 2 => 4 | 3 => 4 | _ => 8192

/-- The unit of level `up` that holds unit `i` of level `l`, level by level. -/
def ancestor (up l i : Nat) : Nat := ((List.range 5).filter (fun k => l ≤ k && k < up)).foldl (fun i k => i / fanout k) i

/-- Is location `a` the unit `w` or a unit below it? -/
def locWithin (a w : Nat) : Bool :=
  locLevel a ≤ locLevel w && ancestor (locLevel w) (locLevel a) (locIndex a) == locIndex w

def assignedGroup (g : Nat) : Bool := 1 ≤ g && g ≤ 0x10

/-- A terrace field of a counter: within the configuration, or 0x1F. -/
def State.terrOk (s : State) (t : Nat) : Bool := t < s.cfg.terraces || t == noTerr

/-- The value of a counter at a location: the sum over the units below it (R550). A word in parity error reads all ones
(R549); the gauges of R548 read their current value. -/
def State.counter (s : State) (k : CntKey) : Nat :=
  if k.group = 0x01 && k.index = 11 then (if k.terr = noTerr && k.loc = locBlock then s.flash.usable else 0)
  else if k.group = 0x01 && k.index = 12 then (if k.terr = noTerr && k.loc = locBlock then s.flash.reserve else 0)
  else
    let covers := fun (x : CntKey) => x.group == k.group && x.index == k.index && x.terr == k.terr && locWithin x.loc k.loc
    if s.cnt.bad.any covers then max64
    else (s.cnt.vals.filter (fun e => covers e.1)).foldl (fun a e => satAdd a e.2) 0

/-- CLEAR_TICK of a terrace and group (R552). -/
def State.clearTick (s : State) (t g : Nat) : Tick :=
  ((s.cnt.clears.find? (fun e => e.1 == t && e.2.1 == g)).map (·.2.2)).getD 0

/-! ### The logs (R542, R545) -/

def FaultRec.bytes (r : FaultRec) : Bytes :=
  le 4 r.seq ++ le 1 r.cls ++ le 1 r.terr ++ le 2 r.location ++ le 2 r.cause ++ le 1 r.detail ++ le 1 0 ++ le 4 r.handle
    ++ le 8 r.tick ++ le 4 r.step ++ le 4 r.info

/-- The log a mailbox reads, newest first, and the tick it was last emptied. -/
def State.logOf (s : State) : Src → List FaultRec × Tick
  | .terrace n => ((s.faults.terrLogs.get n).getD [], (s.faults.terrClear.get n).getD 0)
  | _ => (s.faults.blockLog, s.faults.blockClear)

def newestSeq (l : List FaultRec) : Nat := (l.head?.map (·.seq)).getD 0

/-! ### COUNTERS_READ (R551, R552) -/

def crMode (c : Bytes) : Nat := rd c 24 1
def crTerr (c : Bytes) : Nat := rd c 25 1 % 32

def shCOUNTERS_READ : Shape where
  op := 0x09
  noHandle := true
  body := fun c => [rc c 24 1, rm c 25 1 0xE0] ++
    (if crMode c = 1 then [rz c 26 2, rz c 28 2] else [rz c 32 4]) ++ [rz c 36 12]
  addrs := [16]

def State.chkCountersRead (s : State) (c : Bytes) : Chk :=
  let n := rd c 30 2
  let idx := rd c 28 1
  Chk.first ([field (rd c 16 8 % 64 == 0) 16, field (s.terrOk (crTerr c)) 25] ++
    (if crMode c = 1 then [field (1 ≤ n && n ≤ 1024) 30]
     else [field (locOk s.cfg (rd c 26 2)) 26, field (assignedGroup (rd c 29 1) && idx != 0) 28,
       field (1 ≤ n && n ≤ 255 && idx + n ≤ 256) 30]) ++
    [field (rd c 16 8 != 0 || n == 1) 30])

/-- The output header of R552. -/
def outHeader (tick clear count newest : Nat) : Bytes := le 8 tick ++ le 8 clear ++ le 4 count ++ le 4 newest ++ zeros 8

def State.readCounters (s : State) (src : Src) (c : Bytes) : State :=
  let tk := ticketOf src c
  let n := rd c 30 2
  let key := fun i => (⟨rd c 29 1, rd c 28 1 + i, crTerr c, rd c 26 2⟩ : CntKey)
  if rd c 16 8 = 0 then s.only tk stOK 0 (s.counter (key 0)) s.tick
  else
    let b := outHeader s.tick (s.clearTick (crTerr c) (rd c 29 1)) n (newestSeq (s.logOf src).1)
      ++ (List.range n).flatMap (fun i => le 8 (s.counter (key i)))
    (s.defer tk).hfpIssue (srcTerr (srcMb src)) (.queryWrite tk (rd c 16 8) b s.tick n)

/-- COUNTERS mode, and the reserved MODE values, which check 3 rejects. -/
def execCountersReadCounters (src : Src) (c : Bytes) (s : State) : Host.Outcome State Fault Refusal :=
  .next (s.command shCOUNTERS_READ (shCOUNTERS_READ.row c && crMode c != 1) src c (fun s => s.chkCountersRead c)
    (fun s => s.readCounters src c))

def State.readFaults (s : State) (src : Src) (c : Bytes) : State :=
  let tk := ticketOf src c
  let log := s.logOf src
  if rd c 16 8 = 0 then
    match log.1 with
    | [] => s.only tk stOK 0 0 0
    | r :: _ => s.only tk stOK 0 (r.seq + 2 ^ 32 * r.cls + 2 ^ 40 * r.cause) r.tick
  else
    let recs := ((log.1.reverse).filter (fun r => rd c 32 4 ≤ r.seq)).take (rd c 30 2)
    let b := outHeader s.tick log.2 recs.length (newestSeq log.1) ++ recs.flatMap FaultRec.bytes
    (s.defer tk).hfpIssue (srcTerr (srcMb src)) (.queryWrite tk (rd c 16 8) b s.tick recs.length)

def execCountersReadFaults (src : Src) (c : Bytes) (s : State) : Host.Outcome State Fault Refusal :=
  .next (s.command shCOUNTERS_READ (shCOUNTERS_READ.row c && crMode c == 1) src c (fun s => s.chkCountersRead c)
    (fun s => s.readFaults src c))

/-! ### COUNTERS_CLEAR (R553) -/

def shCOUNTERS_CLEAR : Shape where
  op := 0x0A
  noHandle := true
  body := fun c => [rm c 16 1 0xE0, rc c 17 0x10, rm c 18 1 0xFE, rz c 19 29]

/-- Is a terrace number, 0x1F for the block's causes included, in the selection? -/
def clearsTerr (sel t : Nat) : Bool := sel == 0x1E || sel == t
def clearsGroup (sel g : Nat) : Bool := sel == 0 || sel == g

/-- Terrace numbers and groups a clear tick is kept for. -/
def clearMarks (sel grp : Nat) : List (Nat × Nat) :=
  (((List.range 16) ++ [noTerr]).filter (clearsTerr sel)).flatMap (fun t =>
    (((List.range 0x11).drop 1).filter (clearsGroup grp)).map (fun g => (t, g)))

/-- The clear comes before the events of its tick (R554). -/
def Counters.clear (c : Counters) (sel grp : Nat) (tick : Tick) : Counters :=
  let hit := fun (k : CntKey) => clearsTerr sel k.terr && clearsGroup grp k.group
  { vals := c.vals.filter (fun e => !hit e.1) ++ c.recent.filter (fun e => hit e.1)
    recent := c.recent
    bad := c.bad.filter (fun k => !hit k)
    clears := (clearMarks sel grp).map (fun m => (m.1, m.2, tick)) ++
      c.clears.filter (fun e => !(clearMarks sel grp).contains (e.1, e.2.1)) }

/-- CLR_LOG: the block log, and the log of each terrace selected. -/
def Faults.clearLogs (f : Faults) (sel : Nat) (tick : Tick) : Faults :=
  { f with
    blockLog := [], blockClear := tick
    terrLogs := f.terrLogs.filter (fun e => !clearsTerr sel e.1)
    terrClear := ((List.range 16).filter (clearsTerr sel)).foldl (fun m t => m.put t tick) f.terrClear }

def execCountersClear (src : Src) (c : Bytes) (s : State) : Host.Outcome State Fault Refusal :=
  .next (s.command shCOUNTERS_CLEAR (shCOUNTERS_CLEAR.row c) src c
    (fun s => field (rd c 16 1 == 0x1E || s.terrOk (rd c 16 1)) 16) (fun s =>
      { s with
        cnt := s.cnt.clear (rd c 16 1) (rd c 17 1) s.tick
        faults := if bit (rd c 18 1) 0 then s.faults.clearLogs (rd c 16 1) s.tick else s.faults }.only
          (ticketOf src c) stOK 0 s.tick 0))

/-! ### The counter window (R574 to R577) -/

/-- A write of CNT_SELECT; ignored while a snapshot is under way. -/
def State.cntSelect (s : State) (v : Word) : State :=
  if s.cntWin.busy then s
  else
    let w := v &&& 0xFFFF1FFF
    let ok := assignedGroup (bits v.toNat 0 8) && s.terrOk (bits v.toNat 8 5) && locOk s.cfg (bits v.toNat 16 16)
    { s with cntWin := { s.cntWin with select := w, err := !ok, busy := ok, since := s.tick } }

/-- The snapshot: indices 1 to 255 of the group at one tick; none is taken while the block sleeps (R577). -/
def State.snapshot (s : State) : State :=
  let w := s.cntWin
  if !w.busy || (s.sleep.phase ≠ .awake && s.sleep.phase ≠ .quiesce) then s
  else
    let g := bits w.select.toNat 0 8
    let t := bits w.select.toNat 8 5
    let l := bits w.select.toNat 16 16
    { s with cntWin := { w with
        busy := false, valid := true, sample := s.tick, clear := s.clearTick t g, newest := newestSeq s.faults.blockLog
        vals := (List.range 255).map (fun i => s.counter ⟨g, i + 1, t, l⟩) } }

def execCntSnapshotDone (s : State) : Host.Outcome State Fault Refusal := .next s.snapshot

end Sys2Proof.Machine
end

