-- ==== Sys2Proof/Machine/Pantry.lean ====
section
/-! DEFINITION. The Pantry (R142, R145, R146, R151, R238 to R242, R263): the lines resident in a terrace's ways, their eviction,
demand and run-ahead fills, and a task's way through the lines it reads. -/

namespace Sys2Proof.Machine

/-! ### Lines in T0 (R145, R146) -/

def Terrace.lineObj (te : Terrace) (l : VLine) : Option Obj := te.objs.get l.obj

/-- Lines of a STREAM object, by default of a passage store, pass through core scratch; a directory is read through the Pantry
(R146, R251). -/
def Terrace.streamed (te : Terrace) (l : VLine) : Bool :=
  match l.key, te.lineObj l with
  | .dir _, _ => false
  | _, some o => o.hint = 4 || (o.kind = tyStore && o.hint = 0)
  | _, none => false

/-- A line of an object whose hint is PREFER_T1 is evicted first. -/
def Terrace.evictFirst (te : Terrace) (l : VLine) : Bool := ((te.lineObj l).map (fun o => o.hint == 2)).getD false

def Terrace.lineAt (te : Terrace) (quad : Nat) (l : VLine) : Bool := te.pantry.any (fun p => p.quad = quad && p.line = l)

/-- A pinned object's lines are all held. -/
def Terrace.lineIn (te : Terrace) (quad : Nat) (l : VLine) : Bool :=
  ((te.lineObj l).map (fun o => o.pinned && !o.refill)).getD false || te.lineAt quad l

/-- Lines that a row of the step in flight locks: its request's bias set and profile. -/
def Terrace.lineLocked (te : Terrace) (l : VLine) : Bool :=
  match te.sp.flight with
  | none => false
  | some f => f.rows.any (fun x => x.st ≠ .done && x.st ≠ .withdrawn && match te.reqs.get x.idx with
    | some r => (l.key = .bias && l.obj = hKey r.bias && l.ver = r.pins.bias)
        || (l.key = .profile && l.obj = hKey r.profile && l.ver = r.pins.profile)
    | none => false)

/-- 64-byte lines of a terrace's ways in one Pantry slice, less its pinned objects' share (R145, R146). DESIGN CHOICE, log
entry 38. -/
def Terrace.pantryLines (te : Terrace) : Nat :=
  16 * (te.wayKib.1 * te.desc.pantry - ceilDiv (te.pinnedKib false) (homeQuads te.desc.coreMask).length)

/-- A read makes a line the most recently used one, unless it is to be evicted first. -/
def Terrace.touchLine (te : Terrace) (quad : Nat) (l : VLine) : Terrace :=
  let here := fun (p : PLine) => p.quad = quad && p.line = l
  if !te.lineAt quad l then te
  else if te.evictFirst l then { te with pantry := te.pantry.map (fun p => if here p then { p with unread := 0 } else p) }
  else { te with pantry := te.pantry.filter (fun p => !here p) ++ [⟨quad, l, 0⟩] }

/-- The line that makes room in a full slice: the least recently used that is not locked. -/
def Terrace.victim (te : Terrace) (quad : Nat) : Option PLine :=
  te.pantry.find? (fun p => p.quad = quad && !te.lineLocked p.line)

/-- A fill enters the slice, where it finds a free or an evictable line; an evicted line that was never read is a wasted fill
(R145, R151). -/
def State.putLine (s : State) (t quad : Nat) (l : VLine) (unread : Nat) : State :=
  match s.terrace t with
  | none => s
  | some te =>
    let new : PLine := ⟨quad, l, unread⟩
    let put := fun (s : State) => s.modT t (fun te =>
      { te with pantry := if te.evictFirst l then new :: te.pantry else te.pantry ++ [new] })
    if te.lineIn quad l then s
    else if (te.pantry.filter (fun p => p.quad = quad)).length < te.pantryLines then put s
    else match te.victim quad with
      | none => s
      | some v => put ((s.count cPREFETCH_WASTE t (locQuad quad) (b2n (v.unread ≠ 0))).modT t (fun te =>
          { te with pantry := te.pantry.filter (fun p => p ≠ v) }))

/-! ### Fills (R151, R239, R240) -/

def MpOp.isAhead (o : MpOp) : Bool := match o.kind with
  | .line _ _ _ _ a => a
  | .maskFill _ _ _ _ q => q ≠ 0
  | _ => false

/-- An operation goes to its port before the run-ahead fills of its terrace that have not been issued (R151). -/
def State.mpAhead (s : State) (o : MpOp) : State :=
  let front := s.mp.takeWhile (fun x => x.issued || !x.isAhead)
  { s with mp := front ++ o :: s.mp.drop front.length }

/-- A demand fill is issued. -/
def State.mpDemand (s : State) (t : Nat) (k : MpKind) : State :=
  let port := ((s.terrace t).map (fun te => te.port s.nextId)).getD 0
  { s with nextId := s.nextId + 1 }.mpAhead ⟨s.nextId, port, s.mpReady.getD port false, s.tick, k⟩

/-- The operation that brings a line to a slice, or into the window of one task where the line is streamed. -/
def State.lineOp (s : State) (t quad : Nat) (l : VLine) (only : Option Nat) : Option MpOp :=
  s.mp.find? (fun o => match o.kind with
    | .line h m q k _ => hTerr h = t && m = l && q = quad && (match only with | some id => k = id | none => true)
    | _ => false)

/-- Fills of lines on their way that `p` selects by slice, task and class. -/
def State.linesOut (s : State) (p : Nat → Nat → Bool → Bool) : Nat :=
  (s.mp.filter (fun o => match o.kind with | .line _ _ q k a => p q k a | _ => false)).length

/-- Will a fill find a line that is free or evictable? -/
def State.lineRoom (s : State) (t quad : Nat) : Bool :=
  match s.terrace t with
  | none => false
  | some te =>
    let here := te.pantry.filter (fun p => p.quad = quad)
    let out := (s.mp.filter (fun o => match o.kind with | .line h _ q _ _ => hTerr h = t && q = quad | _ => false)).length
    out < te.pantryLines - here.length + (here.filter (fun p => !te.lineLocked p.line)).length

/-- The version of a line can be read: neither quarantined nor on its way from T2. -/
def State.lineReadable (s : State) (t : Nat) (l : VLine) : Bool :=
  match (s.terrace t).bind (fun te => te.lineObj l) with
  | some o => !o.promoting && o.versions.all (fun v => v.num ≠ l.ver || !v.quarantine)
  | none => true

/-- A handle of the line's object. -/
def State.lineHandle (s : State) (t : Nat) (l : VLine) : Handle :=
  match (s.terrace t).bind (fun te => te.lineObj l) with
  | some o => mkHandle t (l.obj / 2 ^ 18) (l.obj % 2 ^ 18) o.gen
  | none => 0

/-- Does the line go to a task's window? A row of a step (`task` 0) reads every line through the Pantry. DESIGN CHOICE, log
entry 147. -/
def Terrace.windowed (te : Terrace) (task : Nat) (l : VLine) : Bool := task != 0 && te.streamed l

/-- A demand fill: it merges with a fill under way, which then goes to the ports as a demand fill does (R240). -/
def State.lineDemand (s : State) (t quad task : Nat) (l : VLine) : State :=
  match s.terrace t with
  | none => s
  | some te =>
    if !s.lineReadable t l then s
    else match s.lineOp t quad l (if te.windowed task l then some task else none) with
      | some o =>
        if o.isAhead then
          { s with mp := s.mp.filter (fun x => x.id ≠ o.id) }.mpAhead { o with kind := match o.kind with
            | .line h m q k _ => .line h m q k false
            | k => k }
        else s
      | none =>
        if te.windowed task l || s.lineRoom t quad then s.mpDemand t (.line (s.lineHandle t l) l quad task false) else s

/-! ### A task's reads (R239, R240, R263) -/

/-- A task finds a line in its window or in its quad's slice. -/
def State.lineFound (s : State) (k : Task) (quad : Nat) (l : VLine) : Bool :=
  s.lineReadable k.terr l && match s.terrace k.terr with
    | some te => if te.streamed l then k.window.contains l else te.lineIn quad l
    | none => true

/-- The task reads on until a line is not resident; entries it passes are no longer fetched ahead. -/
def State.readOn (s : State) (k : Task) (quad : Nat) : List Need → State × List Need
  | [] => (s, [])
  | n :: r =>
    if !n.read then s.readOn k quad r
    else if s.lineFound k quad n.line then (s.modT k.terr (fun te => te.touchLine quad n.line)).readOn k quad r
    else (s, n :: r)

/-- May the fetch engine ask for `n` while the search stands at `cur`: at most 4,096 bytes ahead, 32 fills of a task and 96 of a
slice, or 4 passages and 256 KiB (R239, R263)? -/
def State.mayAhead (s : State) (k : Task) (quad : Nat) (cur n : Need) : Bool :=
  n.ahead && n.part = cur.part && n.pos ≤ cur.pos + 4096 && n.grp ≤ cur.grp + 4 &&
    (n.grp ≠ 0 || (s.linesOut (fun _ id _ => id = k.id) < 32 && s.linesOut (fun q _ _ => q = quad) < 96))

/-- One run-ahead fill, where the line is neither resident nor under way. -/
def State.fetchAhead (s : State) (k : Task) (quad : Nat) (cur n : Need) : State :=
  match s.terrace k.terr with
  | none => s
  | some te =>
    let st := te.streamed n.line
    if !s.mayAhead k quad cur n || !s.lineReadable k.terr n.line || s.lineFound k quad n.line
        || (s.lineOp k.terr quad n.line (if st then some k.id else none)).isSome || (!st && !s.lineRoom k.terr quad) then s
    else s.mpOwn k.terr (.line (s.lineHandle k.terr n.line) n.line quad k.id true)

/-- The task goes on with its reads: it passes what is resident, issues a demand fill for what it waits for, and its fetch engine
runs ahead. The flag says that nothing is left to read. -/
def State.readTask (s : State) (id : Nat) : State × Bool :=
  match s.task id with
  | none => (s, false)
  | some k => match k.core, k.todo with
    | some core, some l =>
      if k.ran then (s, false)
      else
        let quad := core / 4
        let x := s.readOn k quad l
        match x.2 with
        | [] => (x.1.modTask id (fun k => { k with todo := some [], ran := true }), true)
        | n :: r =>
          let s := (x.1.modTask id (fun k => { k with todo := some (n :: r) })).lineDemand k.terr quad id n.line
          (r.foldl (fun s m => s.fetchAhead k quad n m) s, false)
    | _, _ => (s, false)

/-- Lines that a task's window of 64 KiB holds (R146). -/
def windowLines : Nat := 1024

/-- A line has arrived: into the window of its task, or into the slice (R146, R151). -/
def State.lineArrived (s : State) (t : Nat) (l : VLine) (quad task : Nat) (ahead : Bool) : State :=
  match s.terrace t with
  | none => s
  | some te =>
    if te.windowed task l then s.modTask task (fun k => { k with window := (k.window ++ [l]).drop (k.window.length + 1 - windowLines) })
    else s.putLine t quad l (if ahead then task else 0)

/-! ### What segmentation reads (R225, R238) -/

/-- The table that holds an ordinary or control token, base first. -/
def ownerOf (ts : List VTab) (t : Tok) : Option VTab := ts.find? (fun x => x.toks.any (fun y => y.id = t))

/-- A reading place: part and position. -/
structure At where
  part : Nat
  pos  : Nat

def need (a : At) (read ahead : Bool) (obj ver : Nat) (k : LineKey) : Need := ⟨⟨obj, ver, k⟩, a.part, a.pos, 0, read, ahead⟩

/-- The row of a token: of a region's table, else of the base version. -/
def rowNeed (a : At) (read : Bool) (ts : List VTab) (t : Tok) : List Need :=
  match ownerOf ts t, ts.head? with
  | some x, _ => [need a read true x.obj x.ver (.row t)]
  | none, some x => [need a read true x.obj x.ver (.row t)]
  | none, none => []

/-- The two bucket lines of a key in every spelling table. -/
def bucketNeeds (a : At) (read ahead : Bool) (ts : List VTab) (key : Bytes) : List Need :=
  ts.flatMap (fun x => [need a read ahead x.obj x.ver (.bucket (Config.bucketLine x.uid 0 key)),
    need a read ahead x.obj x.ver (.bucket (Config.bucketLine x.uid 1 key))])

/-- Length-mask lines at a node. -/
def maskNeeds (a : At) (read : Bool) (ts : List VTab) (b : Bytes) : List Need :=
  ts.flatMap (fun x => match b with
    | [] => []
    | [c] => [need a read true x.obj x.ver (.mask1 c.toNat)]
    | c :: d :: _ => [need a read true x.obj x.ver (.mask1 c.toNat), need a read true x.obj x.ver (.mask2 c.toNat d.toNat)])

/-- What the fetch engine asks for at a node: masks, and for each candidate length the bucket lines and the row they name (R238). -/
def nodeAhead (v : Vocab) (a : At) (b : Bytes) : List Need :=
  maskNeeds a false v.regs b ++ (if v.open_ then (candLens v b).flatMap (fun k =>
    bucketNeeds a false true v.regs (b.take k) ++ (match spelled v (b.take k) with
      | some t => rowNeed a false v.regs t.id
      | none => [])) else [])

/-- What the search reads at a node: masks, the rows that verify its hits, the bucket lines of lengths it looks up, and the
fallback token's row where it has no edge (R225, R226, R242). -/
def nodeReads (v : Vocab) (a : At) (b : Bytes) (w : NodeWork) : List Need :=
  maskNeeds a true v.regs b ++ w.cold.flatMap (fun k => bucketNeeds a true false v.regs (b.take k)) ++
    (if w.edges.isEmpty then rowNeed a true v.regs (fallbackAt v b).1 else w.edges.flatMap (fun t => rowNeed a true v.regs t.id))

/-- The nodes of a piece from its front: what the engine asks for at each, and what the search reads at those it visits. -/
def nodeNeeds (v : Vocab) (part : Nat) : Nat → Bytes → List (Bytes × NodeWork) → List Need
  | _, [], _ => []
  | pos, x :: r, ns =>
    let a : At := ⟨part, pos⟩
    match ns with
    | (b, w) :: ms =>
      if b.length = r.length + 1 then nodeAhead v a (x :: r) ++ nodeReads v a b w ++ nodeNeeds v part (pos + 1) r ms
      else nodeAhead v a (x :: r) ++ nodeNeeds v part (pos + 1) r ns
    | [] => nodeAhead v a (x :: r) ++ nodeNeeds v part (pos + 1) r []

/-- The merge-table line of a pair, in the base's table and in the overlay's. -/
def mergeNeed (v : Vocab) (a : At) (ahead : Bool) (x y : Tok) : List Need :=
  v.regs.map (fun t => need a true ahead t.obj t.ver (.merge x y))

/-- Pairs looked up as merges go on: those of the adjacent bytes, then those each merge makes (R233). -/
def mergePairs (v : Vocab) : Nat → List Seg → List (Tok × Tok)
  | 0, _ => []
  | fuel + 1, q => match bestMerge v 0 q with
    | none => []
    | some (i, _, t) =>
      let q' := applyMerge i t q
      let left := if i = 0 then [] else [((q.getD (i - 1) (0, 0, false)).1, t)]
      let right := match q'[i + 1]? with | some y => [(t, y.1)] | none => []
      left ++ right ++ mergePairs v fuel q'

/-- Lines of a piece in merge-rank mode. -/
def mergeNeeds (v : Vocab) (part pos : Nat) (b : Bytes) : List Need :=
  let q : List Seg := b.map (fun y => ((fallbackIds v).getD y.toNat 0, 1, true))
  let first := ((List.range q.length).zip (q.zip q.tail)).flatMap (fun x => mergeNeed v ⟨part, pos + x.1⟩ true x.2.1.1 x.2.2.1)
  first ++ (mergePairs v b.length q).flatMap (fun p => mergeNeed v ⟨part, pos + b.length⟩ false p.1 p.2)

/-- Lines of a piece: the row that verifies a control spelling at its front, then those of its segmentation (R169, R238). -/
def PieceOut.needs (v : Vocab) (part : Nat) (x : PieceOut) : List Need :=
  let pos := x.stop - x.text.length
  (match x.ctrl with | some t => rowNeed ⟨part, pos⟩ true v.ctl t | none => []) ++
    (if v.mode = 2 then mergeNeeds v part pos x.text else nodeNeeds v part pos x.text x.nodes)

/-- Lines of a whole text. -/
def textNeeds (v : Vocab) (part : Nat) (b : Bytes) : List Need := (sift v false b).1.pieces.flatMap (fun x => x.needs v part)

/-! ### What assembly and detokenisation read (R251, R259, R422) -/

/-- Token rows of a list, for the bytes they spell. -/
def detokNeeds (v : Vocab) (ts : List Tok) : List Need :=
  (ts.eraseDups).flatMap (fun t => (rowNeed ⟨0, 0⟩ true (v.regs ++ v.ctl) t).map (fun n => { n with ahead := false }))

/-- Texts of an assembly's slots, each a part of its own. -/
def slotNeeds (v : Vocab) : Nat → List SlotFill → List Need
  | _, [] => []
  | n, .text b :: r => textNeeds v n b ++ slotNeeds v (n + 1) r
  | n, _ :: r => slotNeeds v (n + 1) r

/-- Directory and token-count lines of passage entries: a hit in the region is verified in the directory, a miss looked up
there; both read the bucket lines of the identifier (R169, R251). -/
def entryNeeds (key ver uid : Nat) (a : List (Bool × Nat × Bytes)) (nums : List Nat) : List Need :=
  let at_ : At := ⟨16, 0⟩
  (a.filter (·.1)).flatMap (fun e => [need at_ true false key ver (.dir (Config.bucketLine uid 0 e.2.2)),
    need at_ true false key ver (.dir (Config.bucketLine uid 1 e.2.2))]) ++
  nums.map (fun n => need at_ true false key ver (.count n))

/-- Lines of the kept tokens of a sequence's passages, 16 tokens to a line (R259 step 5, R263); `grp` and `pos` go on from the
sequence before. -/
def keptNeeds (key ver : Nat) : Nat → Nat → List (Nat × Nat × Nat) → List Need
  | _, _, [] => []
  | grp, pos, (num, from_, n) :: r =>
    let ls := (List.range (ceilDiv (from_ + n) 16)).drop (from_ / 16)
    let here := ((List.range ls.length).zip ls).map (fun x =>
      (⟨⟨key, ver, .passage num x.2⟩, 17, pos + x.1, grp, true, true⟩ : Need))
    (if n = 0 then [] else here) ++ keptNeeds key ver (grp + 1) (pos + ls.length) r

end Sys2Proof.Machine
end

