-- ==== Sys2Proof/Machine/Mould.lean ====
section
/-! DEFINITION. The Mould (R365 to R389): automaton states, masks and their fills, chain walks and dead states. -/

namespace Sys2Proof.Machine

/-- The automaton of a pinned grammar version. -/
def Terrace.automaton (te : Terrace) (h : Handle) (ver : Nat) : Option (Version × List GState) :=
  match te.objVer h ver with
  | some v => match v.body with
    | some (.grammar b) => some (v, b.states)
    | _ => none
  | none => none

/-- State number `n` (R367). -/
def gstateAt (l : List GState) (n : Nat) : Option GState := if n = 0 then none else l[n - 1]?

/-- The automaton state of a request's grammar, none where it names no grammar. -/
def Terrace.gstate (te : Terrace) (r : Req) (n : Nat) : Option GState :=
  if r.grammar = 0 then none else (te.automaton r.grammar r.pins.grammar).bind (fun a => gstateAt a.2 n)

/-- δ(s, t), 0 where it is not defined. DEDUCED, log entry 64. -/
def gdelta (g : GState) (t : Tok) : Nat := ((g.trans.find? (fun x => x.1 = t)).map (·.2)).getD 0

/-- A dead state allows no token (R368). -/
def deadState (g : GState) : Bool := g.allowed.isEmpty

/-- Does state `n` end the request with GRAMMAR_ACCEPT (R384)? -/
def Terrace.terminal (te : Terrace) (r : Req) (n : Nat) : Bool := ((te.gstate r n).map (·.terminal)).getD false

/-- State after a token; the end token and a request without a grammar look nothing up (R376). -/
def Terrace.nextState (te : Terrace) (r : Req) (endTok : Tok) (n : Nat) (t : Tok) : Nat :=
  if t = endTok then n else ((te.gstate r n).map (fun g => gdelta g t)).getD n

/-- The chain walk (R335, R377): drafts kept and the states after them. -/
def Terrace.chainWalk (te : Terrace) (r : Req) (endTok : Tok) : Nat → List Tok → List Tok × List Nat
  | _, [] => ([], [])
  | n, t :: ts =>
    if r.grammar = 0 then let x := te.chainWalk r endTok n ts; (t :: x.1, n :: x.2)
    else match te.gstate r n with
      | none => ([], [])
      | some g =>
        if t = endTok || !g.allowed.contains t then ([], [])
        else
          let m := gdelta g t
          if te.terminal r m then ([t], [m]) else let x := te.chainWalk r endTok m ts; (t :: x.1, m :: x.2)

/-! ### Fills (R379 to R381) -/

/-- Core that a terrace's step work is given: the lowest free one of its set, where one is free (R29, R456). DEDUCED, log
entry 77. DEDUCED, log entry 111. -/
def State.stepCore? (s : State) (t : Nat) : Option Nat :=
  ((s.terrace t).map (fun te => (List.range 64).filter (fun c => bit te.desc.coreMask c))).bind (fun set =>
    set.find? (fun c => s.coreFree c))

/-- That core, or, while none is free, the lowest of the set: the unit at which what waits is counted. DEDUCED, log entry
111. -/
def State.stepCore (s : State) (t : Nat) : Nat :=
  (s.stepCore? t).getD (((s.terrace t).map (·.firstCore)).getD 0)

def State.stepBay (s : State) (t : Nat) : Nat := s.stepCore t / 16

/-- The slice that a request's run-ahead fills go to: of the bay that ran its previous output row (R380). -/
def State.aheadBay (s : State) (t : Nat) (r : Req) : Nat := r.lastBay.getD (s.stepBay t)

/-- The fill of this mask on its way to a bay's slice. -/
def State.maskOp (s : State) (h : Handle) (ver n bay : Nat) : Option MpOp :=
  s.mp.find? (fun o => match o.kind with
    | .maskFill g v m b _ => g = h && v = ver && m = n && b = bay
    | _ => false)

/-- Run-ahead fills on their way: of one request, or to one bay. -/
def State.runAhead (s : State) (p : Handle → Nat → Bool) : Nat :=
  (s.mp.filter (fun o => match o.kind with
    | .maskFill _ _ _ b q => q ≠ 0 && p q b
    | _ => false)).length

/-- Is the mask of state `n` resident in a bay's slice? A pinned grammar's all are. DEDUCED, log entry 53. -/
def Terrace.maskIn (te : Terrace) (h : Handle) (ver n bay : Nat) : Bool :=
  ((te.obj h).map (fun o => o.pinned && !o.refill)).getD false || te.masks.any (fun m => m.obj = hKey h && m.ver = ver && m.state = n && m.bay = bay)

/-- Runs of consecutive IDs. -/
def runsOf (l : List Tok) : Nat := (l.filter (fun x => x = 0 || !l.contains (x - 1))).length

/-- Bytes of a stored mask (R371); transition lists, whose size is not stated, count none. DEDUCED, log entry 53. -/
def maskSize (vsize : Nat) (g : GState) : Nat :=
  let body := if g.enc = 1 then 3 * g.allowed.length else if g.enc = 2 then 6 * runsOf g.allowed else 32 * g.tiles.length
  ceilDiv (16 + ceilDiv (ceilDiv vsize 256) 8 + body) 64 * 64

/-- Bytes that the mask of state `n` takes in a slice. -/
def Terrace.maskBytes (te : Terrace) (key ver n : Nat) : Nat :=
  match te.objs.get key with
  | none => 0
  | some o => match (o.ver ver).bind (·.body), te.baseOf o with
    | some (.grammar b), some (vh, _) => ((gstateAt b.states n).map (maskSize (vSize vh))).getD 0
    | _, _ => 0

/-- Bytes of a terrace's ways in one mask-cache slice, less its pinned grammars' share (R145). -/
def Terrace.sliceBytes (te : Terrace) : Nat :=
  1024 * (te.wayKib.2 * te.desc.maskWays - ceilDiv (te.pinnedKib true) (homeBays te.desc.coreMask).length)

def Terrace.masksUse (te : Terrace) (bay : Nat) : Nat :=
  sumBy (fun m => if m.bay = bay then te.maskBytes m.obj m.ver m.state else 0) te.masks

/-- Does a row of the step in flight lock the mask? -/
def Terrace.maskLocked (te : Terrace) (m : MaskLine) : Bool :=
  match te.sp.flight with
  | none => false
  | some f => f.rows.any (fun x => x.kind ≠ 0 && x.st ≠ .done && x.st ≠ .withdrawn && x.gstate = m.state &&
      match te.reqs.get x.idx with
      | some r => hKey r.grammar = m.obj && r.pins.grammar = m.ver
      | none => false)

/-- A slice gives up its least recently used masks that no row locks until `need` bytes are free: the terrace, and how many of
them no row had read; none where it cannot (R145). -/
def Terrace.maskRoom (bay need : Nat) : Nat → Terrace → Option (Terrace × Nat)
  | 0, te => if te.masksUse bay + need ≤ te.sliceBytes then some (te, 0) else none
  | n + 1, te =>
    if te.masksUse bay + need ≤ te.sliceBytes then some (te, 0)
    else match te.masks.find? (fun m => m.bay = bay && !te.maskLocked m) with
      | none => none
      | some m => (Terrace.maskRoom bay need n { te with masks := te.masks.filter (fun x => x ≠ m) }).map (fun x =>
          (x.1, x.2 + b2n m.unread))

/-- A mask enters a bay's slice where it finds room; masks evicted unread are wasted fills (R145, R383). -/
def State.putMask (s : State) (h : Handle) (ver n bay : Nat) (unread : Bool) : State :=
  match s.terrace (hTerr h) with
  | none => s
  | some te =>
    if te.maskIn h ver n bay || (te.objVer h ver).isNone then s
    else match Terrace.maskRoom bay (te.maskBytes (hKey h) ver n) te.masks.length te with
      | none => s
      | some (te', w) => (s.count cPREFETCH_WASTE (hTerr h) (locBay bay) w).modT (hTerr h) (fun _ =>
          { te' with masks := te'.masks ++ [⟨hKey h, ver, n, bay, unread⟩] })

/-- Issue a fill of a mask to a slice: a demand fill where `owner` is 0, else a run-ahead fill within its limits (R379). A
fill under way is not issued twice, and one that finds no room waits (R145). DEDUCED, log entry 53. DEDUCED, log entry 64. -/
def State.maskFill (s : State) (h : Handle) (ver n bay : Nat) (owner : Handle) : State :=
  match s.terrace (hTerr h) with
  | none => s
  | some te =>
    if n = 0 || te.maskIn h ver n bay then s
    else match s.maskOp h ver n bay with
      | some o =>
        if owner = 0 && o.isAhead then
          { s with mp := s.mp.filter (fun x => x.id ≠ o.id) }.mpAhead { o with kind := .maskFill h ver n bay 0 }
        else s
      | none =>
        if (Terrace.maskRoom bay (te.maskBytes (hKey h) ver n) te.masks.length te).isNone then s
        else if owner ≠ 0 && (8 ≤ s.runAhead (fun q _ => q = owner) || 256 ≤ s.runAhead (fun _ b => b = bay)) then s
        else
          let k : MpKind := .maskFill h ver n bay owner
          (if owner = 0 then s.mpDemand (hTerr h) k else s.mpOwn (hTerr h) k).count cMASK_FILL (hTerr h) (locBay bay) 1

/-- A row reads a mask: it becomes the most recently used one of its slice. -/
def State.readMask (s : State) (h : Handle) (ver n bay : Nat) : State :=
  s.modT (hTerr h) (fun te =>
    let here := fun (m : MaskLine) => m.obj = hKey h && m.ver = ver && m.state = n && m.bay = bay
    if !te.masks.any here then te
    else { te with masks := te.masks.filter (fun m => !here m) ++ [⟨hKey h, ver, n, bay, false⟩] })

/-- The mask of state `n` at a bay's slice: there already, copied from another slice (R380), or filled on demand. -/
def State.wantMask (s : State) (h : Handle) (ver n bay : Nat) : State × Bool :=
  match s.terrace (hTerr h) with
  | none => (s, true)
  | some te =>
    if te.maskIn h ver n bay then (s.readMask h ver n bay, true)
    else if (List.range 4).any (fun b => te.maskIn h ver n b) then
      let s := s.putMask h ver n bay false
      if ((s.terrace (hTerr h)).map (fun te => te.maskIn h ver n bay)).getD false then
        (s.count cMASK_SLICE_COPY (hTerr h) (locBay bay) 1, true)
      else (s, false)
    else (s.maskFill h ver n bay 0, false)

end Sys2Proof.Machine
end

