-- ==== Sys2Proof/Machine/Score.lean ====
section
/-! DEFINITION. Score arithmetic (R44 to R71): exact decoding of every logit and bound format, rounding to the block's
words, the exponential and logarithm units within their bounds, the row shift and the draw. -/

namespace Sys2Proof.Machine

/-! ### Exact dyadic values -/

def i2 (n : Nat) : Int := ((2 ^ n : Nat) : Int)

/-- m × 2^k rounded to the nearest integer, ties to even (RNE). -/
def rne (m k : Int) : Int :=
  if 0 ≤ k then m * i2 k.toNat
  else
    let d := i2 (-k).toNat
    let q := m / d
    let r := m % d
    if d < 2 * r || (d = 2 * r && q % 2 = 1) then q + 1 else q

/-- m × 2^k rounded towards +∞ (RU). -/
def ru (m k : Int) : Int := if 0 ≤ k then m * i2 k.toNat else -((-m) / i2 (-k).toNat)

/-- Is a × 2^e greater than b × 2^f? -/
def dyGt (a e b f : Int) : Bool :=
  let l := min e f
  decide (b * i2 (f - l).toNat < a * i2 (e - l).toNat)

/-! ### Formats (R52 to R56) -/

def fmtFP32 : Nat := 0
def fmtQ16R : Nat := 9
def fmtL40 : Nat := 10

/-- Formats 5 to 8 carry E8M0 scales. -/
def isMX (f : Nat) : Bool := 5 ≤ f && f ≤ 8

def elemBits (f : Nat) : Nat := [32, 16, 16, 8, 8, 8, 6, 4, 8, 16, 40].getD f 0

/-- Bytes of a tile and of NT bounds (R350). -/
def tileBytes (f : Nat) : Nat := 32 * elemBits f + if isMX f then 8 else 0

def boundBytes (f nt : Nat) : Nat := (if isMX f then ceilDiv (ceilDiv nt 32) 32 * 32 else 0) + ceilDiv (elemBits f * nt) 8

def maxTiles (f : Nat) : Nat := 65536 / tileBytes f

/-- A binary floating-point code of `e` exponent and `m` mantissa bits; `special` is 0 IEEE, 1 a single NaN, 2 none. -/
def floatVal (e m special code : Nat) : XVal :=
  let bias : Int := i2 (e - 1) - 1
  let ex := bits code m e
  let mant := bits code 0 m
  let neg := bit code (e + m)
  let sgnd := fun (n : Nat) => if neg then -(n : Int) else (n : Int)
  if ex = 2 ^ e - 1 && special = 0 then (if mant = 0 then (if neg then .ninf else .pinf) else .nan)
  else if ex = 2 ^ e - 1 && special = 1 && mant = 2 ^ m - 1 then .nan
  else if ex = 0 then .fin (sgnd mant) (1 - bias - m)
  else .fin (sgnd (2 ^ m + mant)) (ex - bias - m)

/-- One element, its scale aside. -/
def elemVal (f code : Nat) : XVal :=
  match f with
  | 0 => floatVal 8 23 0 code
  | 1 => floatVal 8 7 0 code
  | 2 => floatVal 5 10 0 code
  | 3 => floatVal 4 3 1 code
  | 4 => floatVal 5 2 0 code
  | 5 => floatVal 4 3 1 code
  | 6 => floatVal 3 2 2 code
  | 7 => floatVal 2 1 2 code
  | 8 => .fin (sgn 8 code) (-6)
  | 9 => .fin (sgn 16 code) 0
  | _ => if sgn 40 code = -(i2 39) then .ninf else .fin (sgn 40 code) (-31)

/-- An element times m × 2^e. -/
def XVal.times (x : XVal) (m e : Int) : XVal :=
  match x with
  | .fin a b => .fin (a * m) (b + e)
  | y => y

/-- Under an E8M0 scale code (R53). -/
def mxScaled (x : XVal) (sc : Nat) : XVal := if sc = 255 then .nan else x.times 1 ((sc : Int) - 127)

/-- Under an FP32 row scale (R55). -/
def rowScaled (x : XVal) (sc : Nat) : XVal :=
  let ex := bits sc 23 8
  if bit sc 31 || ex = 0 || ex = 255 then .nan else x.times (2 ^ 23 + bits sc 0 23 : Nat) ((ex : Int) - 150)

/-- Element `i` of a packed bit string (R54). -/
def packed (b : Bytes) (w i : Nat) : Nat := bits (rd b (w * i / 8) 6) (w * i % 8) w

/-- `n` values with MX scales `scales` and row scale `sc`. -/
def decodeVals (f sc n : Nat) (scales elems : Bytes) : List XVal :=
  (List.range n).map (fun i =>
    let x := elemVal f (packed elems (elemBits f) i)
    if isMX f then mxScaled x (rd scales (i / 32) 1) else if f = fmtQ16R then rowScaled x sc else x)

/-- The 256 values of a tile (R349). -/
def tileVals (f sc : Nat) (b : Bytes) : List XVal := decodeVals f sc 256 b (if isMX f then b.drop 8 else b)

/-- The bounds of a row. -/
def boundVals (f sc nt : Nat) (b : Bytes) : List XVal :=
  decodeVals f sc nt b (if isMX f then b.drop (ceilDiv (ceilDiv nt 32) 32 * 32) else b)

/-! ### Words (R44, R57 to R62) -/

def n72Max : Int := i2 71 - 1
def n72Min : Int := -(i2 71)

/-- A value in N72, with RANGE_CLAMP where it saturates. -/
def n72 (v : Int) : Int × Nat :=
  if n72Max < v then (n72Max, afCLAMP) else if v < n72Min then (n72Min, afCLAMP) else (v, 0)
where afCLAMP : Nat := 2

/-- A logit in N72, `none` for ZERO_MASS, and the flags it sets (R57, R59). -/
def XVal.logit (x : XVal) : Option Int × Nat :=
  match x with
  | .nan => (none, 1)
  | .pinf => (some n72Max, 2)
  | .ninf => (none, 0)
  | .fin m e =>
    if !dyGt 1 23 m e then (some n72Max, 2)
    else if dyGt (-1) 23 m e then (some n72Min, 2)
    else let r := n72 (rne m (e + 48)); (some r.1, r.2)

/-- A crumb value of an L40 code; `none` for ZERO_MASS. -/
def XVal.crumbs (x : XVal) : Option Int :=
  match x with
  | .fin m e => some (rne m (e + 31))
  | _ => none

/-- A converted bound: no mass, no limit, or a value. -/
inductive Bnd where
  | dead
  | inf
  | val (x : Int)
deriving DecidableEq, Repr

/-- `Bnd` at or above a value, and above it. -/
def Bnd.ge (b : Bnd) (v : Int) : Bool :=
  match b with
  | .dead => false
  | .inf => true
  | .val x => decide (v ≤ x)

def Bnd.gt (b : Bnd) (v : Int) : Bool :=
  match b with
  | .dead => false
  | .inf => true
  | .val x => decide (v < x)

/-- Bound order: descending (R404). -/
def Bnd.before (a b : Bnd) : Bool :=
  match a, b with
  | .inf, _ => true
  | .val x, .val y => decide (y ≤ x)
  | .val _, .dead => true
  | .dead, .dead => true
  | _, _ => false

/-- A bound in N72, rounded RU (R57, R59). -/
def XVal.bound (x : XVal) : Bnd :=
  match x with
  | .nan => .inf
  | .pinf => .inf
  | .ninf => .dead
  | .fin m e => if !dyGt 1 23 m e then .inf else if dyGt (-1) 23 m e then .val n72Min else .val (min n72Max (ru m (e + 48)))

/-- log2(e) × 2^24, the factor of a greedy row (R395). -/
def greedyF : Nat := 0x01715476

/-- The converted bound of a tile (R400); `bm` is BIASMAX, `f` the row's F, `wide` that the row compares crumbs. A bound
whose sum saturates sets no flag. DESIGN CHOICE, log entry 138. -/
def convBound (l40b wide : Bool) (f : Nat) (bm : Int) (x : XVal) : Bnd :=
  if l40b then
    match x.crumbs with
    | none => .dead
    | some c =>
      if wide then .val (c + ru (bm * f) (-17))
      else .val (n72 (-((-(c * i2 41)) / (greedyF : Int)) + bm * i2 24)).1
  else
    match x.bound with
    | .val b =>
      let y := (n72 (b + bm * i2 24)).1
      .val (if wide then ru (y * f) (-41) else y)
    | b => b

/-- Does a logit breach its bound (R64)? `f` is the row's conversion factor. -/
def breaches (l40l l40b : Bool) (f : Nat) (bound logit : XVal) : Bool :=
  let nats := fun (x : XVal) => if l40l = l40b then x else x.times f (-24)
  let b := if l40b then bound else nats bound
  let l := if l40l then logit else nats logit
  let noLimit := match bound with
    | .nan => true
    | .pinf => true
    | .ninf => false
    | .fin m e => !l40b && !dyGt 1 23 m e
  !noLimit && match l, b with
    | .nan, _ => false
    | .ninf, _ => false
    | .pinf, _ => true
    | .fin _ _, .ninf => true
    | .fin m e, .fin m2 e2 => dyGt m e m2 e2
    | .fin _ _, _ => false

/-- The adjustments of one candidate (R390 to R393): its count, its bias and the profile's penalties. -/
structure Adjust where
  n    : Nat
  bias : Int
  presence  : Int
  frequency : Int
  rpPos : Nat
  rpNeg : Nat

def Adjust.sub (a : Adjust) : Int := if a.n = 0 then 0 else a.presence + a.n * a.frequency

/-- The adjusted logit in N72 (R394). -/
def adjusted (a : Adjust) (y : Int) : Int × Nat :=
  if a.n = 0 then n72 (y + a.bias * i2 24)
  else
    let p := n72 (if 0 < y then rne (y * a.rpPos) (-24) else y)
    let q := n72 (if p.1 < 0 then rne (p.1 * a.rpNeg) (-24) else p.1)
    let r := n72 (q.1 - a.sub * i2 24)
    let u := n72 (r.1 + a.bias * i2 24)
    (u.1, p.2 ||| q.2 ||| r.2 ||| u.2)

/-- A value in W64 with its flag (R44). DEDUCED, log entry 55. -/
def w64 (v : Int) : Int × Nat := if i2 63 ≤ v then (i2 63 - 1, 2) else if v < -(i2 63) then (-(i2 63), 2) else (v, 0)

/-- The value a candidate is compared by (R394 to R396): crumbs in W64 where `wide`, else N72; `none` is ZERO_MASS. DEDUCED,
log entry 55. -/
def scoreOf (l40 wide : Bool) (f : Nat) (a : Adjust) (x : XVal) : Option Int × Nat :=
  if l40 then
    match x.crumbs with
    | none => (none, 0)
    | some d =>
      let k : Nat := if a.n = 0 || d = 0 then 2 ^ 24 else if 0 < d then a.rpPos else a.rpNeg
      let r := w64 (rne (d * k + (a.bias - a.sub) * f * i2 7) (-24))
      (some r.1, r.2)
  else
    match x.logit with
    | (none, fl) => (none, fl)
    | (some y, fl) =>
      let r := adjusted a y
      (some (if wide then rne (r.1 * f) (-41) else r.1), fl ||| r.2)

/-! ### The exponential and logarithm units (R65, R66) -/

/-- Binary places kept by the exact evaluation behind the units' bounds. -/
def expP : Nat := 128

def isqrt (n : Nat) : Nat := go (n.log2 / 2 + 1) 0
where
  go : Nat → Nat → Nat
    | 0, r => if (r + 1) * (r + 1) ≤ n then r + 1 else r
    | b + 1, r => if (r + 2 ^ (b + 1)) * (r + 2 ^ (b + 1)) ≤ n then go b (r + 2 ^ (b + 1)) else go b r

/-- 2^(2^-k) for k = 1 to 31, rounded down. -/
def rootTable : List Nat := go 31 (2 * 2 ^ expP)
where
  go : Nat → Nat → List Nat
    | 0, _ => []
    | n + 1, x => let y := isqrt (x * 2 ^ expP); y :: go n y

/-- 2^(f × 2^-31) for a fraction f below 2^31, rounded down, in units of 2^-expP. -/
def exp2frac (f : Nat) : Nat :=
  ((List.range 31).zip rootTable).foldl (fun a r => if bit f (30 - r.1) then a * r.2 / 2 ^ expP else a) (2 ^ expP)

/-- Numerator and power of two of 2^(62 + sh + s crumbs): E / 2^n, from below. -/
def expExact (s sh : Int) : Nat × Int :=
  let q := s / i2 31
  (exp2frac (s % i2 31).toNat, 62 + sh + q - expP)

/-- Twice the numerator and twice the denominator of E × 2^a × (p / 2^k) + half / 2. -/
def mulRat (e : Nat) (a : Int) (p : Nat) (k : Nat) (half : Int) : Int × Int :=
  let sh := a - k
  let num : Int := 2 * (e : Int) * p
  if 0 ≤ sh then (num * i2 sh.toNat + half, 2) else (num + half * i2 (-sh).toNat, 2 * i2 (-sh).toNat)

/-- floor and ceiling of E × 2^a × (p / 2^k) + half / 2. -/
def floorMul (e : Nat) (a : Int) (p : Nat) (k : Nat) (half : Int) : Int := let x := mulRat e a p k half; x.1 / x.2
def ceilMul (e : Nat) (a : Int) (p : Nat) (k : Nat) (half : Int) : Int := let x := mulRat e a p k half; -(-x.1 / x.2)

/-- What the exact value can exceed E by: nothing for a whole power of two. -/
def expErr (s : Int) : Nat := if s % i2 31 = 0 then 0 else 256

def clampI (lo hi x : Int) : Int := max lo (min hi x)

/-- Nearest mode: the unit's rounding, held to the bound of R65. `s` is `none` for ZERO_MASS. DESIGN CHOICE, log entry 5. -/
def massNear (s : Int) (g : Nat) : Nat :=
  let x := expExact s (-(g : Int))
  let lo := ceilMul x.1 x.2 (2 ^ 34 - 1) 34 (-1)
  let hi := floorMul (x.1 + expErr s) x.2 (2 ^ 34 + 1) 34 1
  (clampI (max 0 lo) (max 0 hi) (Config.expNearest s g)).toNat

/-- Upward mode at an exponent shift, held to the bound of R65 and to 2^64 − 1. DESIGN CHOICE, log entry 5. -/
def massUp (s : Int) (sh : Nat) : Nat :=
  if -((35 : Int) * i2 31) ≤ s then max64
  else
    let x := expExact s sh
    let lo := ceilMul x.1 x.2 1 0 0
    let hi := floorMul (x.1 + expErr s) x.2 (2 ^ 33 + 1) 33 2
    (clampI lo hi (Config.expUpward s sh)).toNat

/-- floor of log2(m × 2^-62) in crumbs. -/
def logFloor (m : Nat) : Int :=
  let l := m.log2
  let x := m * 2 ^ expP / 2 ^ l
  (((l : Int) - 62) * i2 31) + go 31 x 0
where
  go : Nat → Nat → Nat → Nat
    | 0, _, acc => acc
    | n + 1, x, acc =>
      let y := x * x / 2 ^ expP
      if 2 ^ (expP + 1) ≤ y then go n (y / 2) (2 * acc + 1) else go n y (2 * acc)

/-- ZERO_MASS as a signed L40 code (R46). -/
def zeroMass : Int := -(i2 39)

/-- The logarithm unit, held to 2 crumbs (R66). DESIGN CHOICE, log entry 5. -/
def logUnit (m : Nat) : Int :=
  if m = 0 then zeroMass
  else
    let c := logFloor m
    clampI (if m = 2 ^ m.log2 then c - 2 else c - 1) (c + 2) (Config.logUnit m)

/-- An L40 value that reports a log-probability (R47, R48). -/
def reportL40 (v : Int) : Int := clampI (zeroMass + 1) (i2 39 - 1) v

/-- s = w − A in L40: `none` is ZERO_MASS (R47, R63). -/
def l40Score (w a : Int) : Option Int := if w - a ≤ zeroMass then none else some (w - a)

/-- ceil(log2 n). -/
def clog2 (n : Nat) : Nat := if n ≤ 1 then 0 else (n - 1).log2 + 1

/-- A relative score's power of two in units of 2^-384, from below: whole for every L40 score. -/
def relUnits (s : Int) : Nat := let x := expExact s 0; if -384 ≤ x.2 - 62 then x.1 * 2 ^ (x.2 - 62 + 384).toNat else 0

/-- ceil(log2 S) of the exact relative sum S of the scores (R50). -/
def rowLog (ss : List Int) : Int :=
  let sum := (ss.map relUnits).foldl (· + ·) 0 + (if ss.any (fun s => s % i2 31 ≠ 0) then 1 else 0)
  (clog2 sum : Int) - 384

/-- The row shift G (R50): an estimate within a factor of 2 of the exact sum S leaves ceil(log2 S) and the two values above
it. DESIGN CHOICE, log entry 5. -/
def rowShift (ss : List Int) : Nat :=
  (clampI 1 24 (rowLog ss + (Config.rowSumEstimate ss % 3 : Nat))).toNat

/-! ### The draw (R67) -/

/-- Is the position decided, and where: token i with lo < C_i, and no boundary strictly inside (lo, lo + S). -/
def drawAt (s lo scale : Nat) (cums : List Nat) : Nat × Bool :=
  ((findIdx (fun c => lo < c * scale) cums).getD (cums.length - 1), cums.all (fun c => c * scale ≤ lo || lo + s ≤ c * scale))

/-- Draw over cumulative masses with the next variates `vs` of the DRBG: the token and the variates used, or none where
the variates run out. -/
def drawOver (cums : List Nat) (vs : List Nat) : Option (Nat × Nat) :=
  let s := cums.getLastD 0
  match vs with
  | [] => none
  | v1 :: r1 =>
    let d1 := drawAt s (v1 * s) (2 ^ 40) cums
    if d1.2 then some (d1.1, 1)
    else match r1 with
      | [] => none
      | v2 :: r2 =>
        let lo2 := (v1 * 2 ^ 40 + v2) * s
        let d2 := drawAt s lo2 (2 ^ 80) cums
        if d2.2 then some (d2.1, 2)
        else match r2 with
          | [] => none
          | v3 :: _ => some ((drawAt s ((v1 * 2 ^ 80 + v2 * 2 ^ 40 + v3) * s) (2 ^ 120) cums).1, 3)

/-- Running sums. -/
def cumul : Nat → List Nat → List Nat
  | _, [] => []
  | a, x :: r => (a + x) :: cumul (a + x) r

end Sys2Proof.Machine
end

