-- ==== Sys2Proof/Machine/Sampler.lean ====
section
/-! DEFINITION. The Sampler on one output row (R390 to R409): what the row uses, its converted bounds, tile selection,
ranking and truncation, and the distribution it draws from. -/

namespace Sys2Proof.Machine

/-- What a row is sampled under (R390): profile, bias set, mask, counts with the drafts before it, and the formats. -/
structure RowCtx where
  prof    : ProfileBody
  bias    : BiasBody
  allowed : Option (List Tok)
  vsize   : Nat
  counts  : Tbl Nat
  drafts  : List Tok
  lfmt    : Nat
  bfmt    : Nat

namespace RowCtx

def greedy (c : RowCtx) : Bool := c.prof.tempScale = 0

/-- Values are compared in crumbs: every row but a greedy one whose logits are not L40 (R396, R400). -/
def wide (c : RowCtx) : Bool := !c.greedy || c.lfmt = fmtL40

/-- The conversion factor F (R61, R395). -/
def f (c : RowCtx) : Nat := if c.greedy then greedyF else c.prof.tempScale

/-- BIASMAX of a tile (R392): the largest bias over its 256 IDs, 0 for an ID without an entry. -/
def biasMax (c : RowCtx) (j : Nat) : Int :=
  let l := (c.bias.biases.filter (fun b => b.1 / 256 = j)).map (·.2)
  l.foldl max (if l.length < 256 then 0 else l.headD 0)

/-- Summary bit of a tile (R373). -/
def live (c : RowCtx) (j : Nat) : Bool :=
  match c.allowed with
  | none => true
  | some l => l.any (fun t => t / 256 = j)

def bound (c : RowCtx) (r : Row) (j : Nat) : Bnd :=
  if r.hasBounds then convBound (c.bfmt = fmtL40) c.wide c.f (c.biasMax j) (r.bounds.getD j .nan) else .inf

/-- Live tiles in bound order (R401, R404). -/
def order (c : RowCtx) (r : Row) : List Nat :=
  let js := ((List.range r.nt).filter c.live).map (fun j => (j, c.bound r j))
  (sortBy (fun a b => if a.2 = b.2 then a.1 ≤ b.1 else a.2.before b.2) (js.filter (fun x => x.2 ≠ .dead))).map (·.1)

/-- Is a token a candidate: allowed and not banned (R394)? -/
def cand (c : RowCtx) (t : Tok) : Bool :=
  !c.bias.bans.contains t && match c.allowed with | none => true | some l => l.contains t

def adjust (c : RowCtx) (t : Tok) : Adjust where
  n := (c.counts.get t).getD 0 + (c.drafts.filter (· = t)).length
  bias := ((c.bias.biases.find? (fun b => b.1 = t)).map (·.2)).getD 0
  presence := c.prof.presence
  frequency := c.prof.frequency
  rpPos := c.prof.rpPos
  rpNeg := c.prof.rpNeg

/-- The candidates of a tile with their values, and the flags their conversion sets (R394). -/
def tileCands (c : RowCtx) (j : Nat) (vals : List XVal) : List (Tok × Option Int) × Nat :=
  if !c.live j then ([], 0)
  else
    (((List.range vals.length).zip vals).filter (fun x => 256 * j + x.1 < c.vsize && c.cand (256 * j + x.1))).foldl
      (fun a x =>
        let t := 256 * j + x.1
        let w := scoreOf (c.lfmt = fmtL40) c.wide c.f (c.adjust t) x.2
        (a.1 ++ [(t, w.1)], a.2 ||| w.2)) ([], 0)

/-- Every candidate fetched, in ascending ID, and the flags. -/
def cands (c : RowCtx) (r : Row) : List (Tok × Option Int) × Nat :=
  r.fetched.foldl (fun a x => let y := c.tileCands x.1 x.2; (a.1 ++ y.1, a.2 ||| y.2)) ([], 0)

/-- Candidates other than ZERO_MASS in rank order (R397). -/
def ranked (l : List (Tok × Option Int)) : List (Tok × Int) :=
  sortBy (fun a b => decide (b.2 < a.2) || (a.2 = b.2 && a.1 ≤ b.1))
    (l.filterMap (fun x => x.2.map (fun w => (x.1, w))))

/-! ### Selecting tiles (R400 to R408) -/

/-- D of R404 in bits over `n` unfetched live tiles. -/
def dBits (n : Nat) : Nat := 33 + clog2 (256 * max 1 n)

/-- Is a bound at or above another plus `d`? -/
def near (b top : Bnd) (d : Int) : Bool :=
  match top with
  | .inf => b = .inf
  | .val x => b.ge (x + d)
  | .dead => false

/-- MIN_P is off (R391). -/
def noMinP (c : RowCtx) : Bool := c.prof.minP = zeroMass

/-- Tiles of round 0 (R404, R407), ascending; empty where no tile is live. -/
def first (c : RowCtx) (r : Row) : List Nat :=
  let o := c.order r
  match o with
  | [] => []
  | t0 :: _ =>
    let top := c.bound r t0
    let kt := ceilDiv c.prof.topK 256
    let sel := (List.range o.length).zip o |>.filter (fun x =>
      let b := c.bound r x.2
      if c.greedy then b = top
      else x.1 = 0 || (!c.noMinP && near b top c.prof.minP) || (c.prof.topK ≠ 0 && x.1 < kt)
        || (c.noMinP && c.prof.topK = 0 && near b top (-((dBits o.length : Nat) * i2 31))))
    sortBy (fun a b => decide (a ≤ b)) (sel.map (·.2))

/-- What follows an answered round: another list, the FULL round, or the end of selection with RES and the tiles skipped
that contribute to it. -/
inductive Next where
  | ask (tiles : List Nat)
  | full
  | finish (res skipped : Nat)
deriving DecidableEq, Repr

/-- RES over the tiles left (R403). -/
def residual (c : RowCtx) (r : Row) (a : Int) (js : List Nat) : Nat :=
  min max64 (sumBy (fun j => match c.bound r j with
    | .val b => massUp (b - a) 37
    | .inf => max64
    | .dead => 0) js)

/-- The selection test and the next list (R402 to R404, R407), before the limit on rounds. DEDUCED, log entry 56. -/
def next (c : RowCtx) (r : Row) : Next :=
  let left := (c.order r).filter (fun j => (r.fetched.get j).isNone)
  let items := ranked (c.cands r).1
  let asc := fun (l : List Nat) => if l.isEmpty then Next.full else Next.ask (sortBy (fun a b => decide (a ≤ b)) l)
  match items with
  | [] => if left.isEmpty then .finish 0 0 else asc left
  | best :: _ =>
    if c.greedy then
      let l := left.filter (fun j => (c.bound r j).ge best.2)
      if l.isEmpty then .finish 0 0 else asc l
    else
      let a := best.2
      let k := c.prof.topK
      let nz := items.filter (fun x => (l40Score x.2 a).isSome)
      let floors := (if k ≠ 0 && k ≤ nz.length then ((nz[k - 1]?).map (·.2)).toList else [])
        ++ (if c.noMinP then [] else [a + c.prof.minP])
      let theta : Option Int := floors.foldl (fun o x => match o with | some y => some (max y x) | none => some x) none
      let incl := left.filter (fun j => match theta with | some th => (c.bound r j).ge th | none => true)
      let res := c.residual r a incl
      if incl.all (fun j => !(c.bound r j).gt a) && decide (res ≤ 2 ^ 60) then .finish res incl.length
      else
        let lam := theta.getD (a - (dBits left.length : Nat) * i2 31)
        let l := left.filter (fun j => (c.bound r j).ge lam)
        let more := if nz.length < k then (left.filter (fun j => !l.contains j)).take (ceilDiv k 256) else []
        asc (l ++ more)

/-- Selection after an answered round of a row: round 3, or a breach, makes the next round FULL (R356, R404). DEDUCED, log
entry 56. -/
def afterRound (c : RowCtx) (r : Row) : Next :=
  match r.req with
  | some q =>
    if q.full then .finish 0 0
    else if r.breach then .full
    else match c.next r with
      | .ask l => if 2 ≤ q.round then .full else .ask l
      | x => x
  | none => c.next r

/-- RES of a row whose selection is complete. -/
def resOf (c : RowCtx) (r : Row) : Nat × Nat :=
  match c.afterRound r with
  | .finish a b => (a, b)
  | _ => (0, 0)

/-! ### The distribution (R396 to R399, R409) -/

/-- The row's result before the draw: the greedy choice, or the kept tokens in rank order with their masses. -/
structure Dist where
  greedy : Bool
  best   : Option Tok
  toks   : List (Tok × Nat)
  g      : Nat
  res    : Nat
  skipped : Nat
  flags  : Nat
  tiles  : Nat
deriving DecidableEq, Repr

def Dist.total (d : Dist) : Nat := sumBy (·.2) d.toks

def Dist.massOf (d : Dist) (t : Tok) : Nat := ((d.toks.find? (fun x => x.1 = t)).map (·.2)).getD 0

/-- No candidate with non-zero mass (R399). -/
def Dist.none (d : Dist) : Bool := if d.greedy then d.best.isNone else d.toks.isEmpty

/-- The shortest prefix that reaches the share of top-p (R398). -/
def topP (p s r : Nat) : Nat → List (Tok × Nat) → List (Tok × Nat)
  | _, [] => []
  | acc, x :: l => if p * (s + r) ≤ (acc + x.2) * 2 ^ 32 then [x] else x :: topP p s r (acc + x.2) l

def dist (c : RowCtx) (r : Row) : Dist :=
  let cs := c.cands r
  let rk := ranked cs.1
  let res := c.resOf r
  let tiles := match r.req with
    | some q => if q.full then r.nt else r.fetched.length
    | none => r.fetched.length
  let br := if r.breached.isEmpty then 0 else afBREACH
  if c.greedy then ⟨true, (rk.head?).map (·.1), [], 1, 0, 0, cs.2 ||| br, tiles⟩
  else
    let a := ((rk.head?).map (·.2)).getD 0
    let scored := rk.filterMap (fun x => (l40Score x.2 a).map (fun s => (x.1, s)))
    let under := if scored.length < rk.length then afUNDER else 0
    let k1 := if c.prof.topK = 0 then scored else scored.take c.prof.topK
    let k2 := if c.noMinP then k1 else k1.filter (fun x => decide (c.prof.minP ≤ x.2))
    let g := rowShift (k2.map (·.2))
    let ms := k2.map (fun x => (x.1, massNear x.2 g))
    let kept := if c.prof.topP = 0 then ms else topP c.prof.topP (sumBy (·.2) ms) (ceilDiv res.1 (2 ^ (29 + g))) 0 ms
    ⟨false, none, kept, g, res.1, res.2, cs.2 ||| br ||| under, tiles⟩

/-! ### Draw records (R418) -/

/-- LOGPROB of a mass in the drawn set. -/
def logProb (m s : Nat) : Int := reportL40 (logUnit m - logUnit s)

/-- RESIDUAL of a row: log2(R / drawn mass). -/
def Dist.residual (d : Dist) : Int :=
  if d.greedy || d.res = 0 then zeroMass
  else max zeroMass (min (i2 39 - 1) (logUnit d.res - logUnit d.total - ((29 + d.g : Nat) : Int) * i2 31))

end RowCtx

/-- DKIND codes. -/
def dkSAMPLED : Nat := 0
def dkGREEDY : Nat := 1
def dkACCEPTED : Nat := 2
def dkREDRAWN : Nat := 3
def dkFORCED : Nat := 4

end Sys2Proof.Machine
end

