-- ==== Sys2Proof/Machine/Streams.lean ====
section
/-! DEFINITION. Result streams (R432 to R444): records, credit, announcements, errors, the end of a request (R280), and the
meanings of STREAM_OPEN, STREAM_CLOSE, STREAM_CREDIT and STREAM_COAL_TIMER. -/

namespace Sys2Proof.Machine

/-! ### Records (R434, R435) -/

/-- A draw record (R418). -/
def DrawRec.bytes (d : DrawRec) : Bytes :=
  le 4 d.tok ++ le 4 (d.pos % 2 ^ 22) ++ le 5 (unsgn 40 d.logprob) ++ le 1 d.aflags ++ le 1 d.dkind ++ le 1 d.variates
    ++ le 5 d.variate ++ le 5 (unsgn 40 d.residual) ++ le 2 d.tiles ++ le 4 d.step

def Rec.hasDraws (r : Rec) : Bool := bit r.flags 5

/-- Slots a record occupies (R435). -/
def Rec.slots (r : Rec) : Nat :=
  ceilDiv (64 + 8 * r.toks.length + (if r.hasDraws then 32 * r.toks.length else 0) + r.bytes.length) 64

/-- The bytes of an OUT record, padded to whole slots. -/
def Rec.image (r : Rec) (phase : Bool) : Bytes :=
  let b := le 1 1 ++ le 1 (r.flags + b2n phase) ++ le 2 r.slots ++ le 4 r.req ++ le 4 r.tag ++ le 4 r.step ++ le 8 r.tick
    ++ le 4 r.firstGen ++ le 1 r.toks.length ++ le 1 r.endReason ++ le 1 r.endStatus ++ le 1 r.stopIndex ++ le 4 r.outOff
    ++ le 2 r.bytes.length ++ le 1 r.aflags ++ le 1 0 ++ le 4 r.endOff ++ le 4 r.generated ++ zeros 16
    ++ r.toks.flatMap (fun x => le 3 x.1 ++ le 1 x.2.1 ++ le 1 x.2.2.1 ++ le 1 x.2.2.2 ++ le 2 0)
    ++ (if r.hasDraws then r.draws.flatMap DrawRec.bytes else []) ++ r.bytes
  b ++ zeros (64 * r.slots - b.length)

/-- The bytes of a PAD record. -/
def padImage (slots : Nat) (phase : Bool) : Bytes := le 1 2 ++ le 1 (b2n phase) ++ le 2 slots ++ zeros (64 * slots - 4)

/-! ### Streams -/

def State.rstream (s : State) (h : Handle) : Option RStream :=
  ((s.terrace (hTerr h)).bind (fun te => te.streams.get (hIndex h))).bind (fun x => if x.gen = hGen h then some x else none)

def State.modStream (s : State) (h : Handle) (f : RStream → RStream) : State :=
  s.modT (hTerr h) (fun te => { te with streams := te.streams.mod (hIndex h) f })

def RStream.size (x : RStream) : Nat := 2 ^ x.log2

/-- Free slots (R439). -/
def RStream.free (x : RStream) : Nat := x.size - (x.produced - x.consumed)

/-- PHASE of the slot with this count (R433). -/
def RStream.phaseAt (x : RStream) (n : Nat) : Bool := n / x.size % 2 == 0

/-- Slots to pad before a record of `n` slots. -/
def RStream.padFor (x : RStream) (n : Nat) : Nat :=
  let p := x.produced % x.size
  if x.size < p + n then x.size - p else 0

/-- Write waiting records while they fit the free slots (R433, R439, R440). -/
def State.drainStream (s : State) (h : Handle) : Nat → State
  | 0 => s
  | f + 1 =>
    match s.rstream h with
    | none => s
    | some x =>
      match x.waiting with
      | [] => s
      | r :: rest =>
        let n := r.slots
        let pad := x.padFor n
        if x.err || x.free < n + pad then s
        else
          let t := hTerr h
          let s := if pad = 0 then s else (s.hfpIssue t (.record h x.produced pad (x.phaseAt x.produced) none)).tally cSTREAM_PAD t
          let at_ := x.produced + pad
          let s := (s.hfpIssue t (.record h at_ n (x.phaseAt at_) (some r))).tally cSTREAM_RECORDS t
          (s.modStream h (fun y => { y with waiting := rest, produced := at_ + n, out := y.out + (if pad = 0 then 1 else 2)
                                            creditAt := s.tick })).drainStream h f

def State.runStream (s : State) (h : Handle) : State :=
  match s.rstream h with
  | some x => s.drainStream h (x.waiting.length + 1)
  | none => s

/-- A record joins its stream; one that has to wait is counted (R440). A stream in ERROR takes none. DESIGN CHOICE, log
entry 141. -/
def State.pushRecord (s : State) (h : Handle) (r : Rec) : State :=
  match s.rstream h with
  | none => s
  | some x =>
    if x.err then s
    else
      let s := (s.modStream h (fun y => { y with waiting := y.waiting ++ [r]
                                                 creditAt := if y.waiting.isEmpty then s.tick else y.creditAt })).runStream h
      match s.rstream h with
      | some y => if y.waiting.isEmpty then s else s.tally cSTREAM_FULL (hTerr h)
      | none => s

/-! ### The end of a request and of a stream -/

/-- Does a request that has not written its FINAL name the stream? -/
def Terrace.namesStream (te : Terrace) (h : Handle) : Bool := te.reqs.any (fun r => r.2.stream = h && r.2.state ≠ rsDONE)

/-- A closing stream whose requests have all ended writes its FINAL and frees its slot (R443). -/
def State.settleStream (s : State) (h : Handle) : State :=
  match s.rstream h, s.terrace (hTerr h) with
  | some x, some te =>
    match x.closing with
    | none => s
    | some tk =>
      if te.namesStream h || !x.waiting.isEmpty || x.out ≠ 0 then s
      else
        ((s.modT (hTerr h) (fun te => { te with streams := te.streams.del (hIndex h) })).bumpGen (hTerr h) tyStream
          (hIndex h)).final tk (if x.discarded then stCANCELLED else stOK) h 0 noField 0 0
  | _, _ => s

/-- The FINAL of R280: DRAINING passes to DONE (R269). -/
def State.reqFinal (s : State) (h : Handle) : State :=
  match s.req h with
  | none => s
  | some r =>
    if r.state ≠ rsDRAINING then s
    else
      ((s.modReq h (fun r => { r with state := rsDONE, shown := none })).final r.ticket r.endStatus h r.cpflags
        (if r.endStatus = stBAD_FIELD then r.fieldOff else noField) (r.generated + 2 ^ 32 * r.endReason)
        (r.endOffset + 2 ^ 32 * r.promptLen)).settleStream r.stream

/-- A draining request whose stream is in ERROR ends with DATA_ERROR and no ENDED record (R444). DEDUCED, log entry 51. -/
def State.reqFinalError (s : State) (h : Handle) : State :=
  (s.modReq h (fun r => if r.state = rsDRAINING then { r with endReason := erERROR, endStatus := stDATA_ERROR, endOffset := 0 } else r)).reqFinal h

/-! ### Announcing (R438, R441, R442) -/

/-- Test the two conditions of R441 and raise the terrace's source; COAL_COUNT 0 and 1 mean every burst (R432). -/
def State.testStreamIrq (s : State) (h : Handle) : State :=
  match s.rstream h with
  | none => s
  | some x =>
    let due := (if x.coalCount ≤ 1 then x.out = 0 else x.coalCount ≤ x.unann)
      || (x.coalTime ≠ 0 && x.firstAt + 16 * x.coalTime ≤ s.tick)
    if x.irqEn && 0 < x.unann && due then (s.modStream h (fun y => { y with unann := 0 })).raise (hTerr h) else s

/-- The burst is visible: the sync object advances to PRODUCED, then the FINALs of its ENDED records are written. DEDUCED,
log entry 50. -/
def State.burstEnd (s : State) (h : Handle) : State :=
  match s.rstream h with
  | none => s
  | some x =>
    if x.out ≠ 0 then s
    else
      let s := s.modStream h (fun y => { y with ended := [] })
      let s := if x.err then s else s.syncTo x.sync x.produced
      (s.forEach x.ended State.reqFinal).settleStream h

/-- A record write was acknowledged. -/
def State.recordAck (s : State) (h : Handle) (r : Option Rec) : State :=
  match s.rstream h with
  | none => s
  | some _ =>
    match r with
    | none => ((s.modStream h (fun y => { y with out := y.out - 1 })).testStreamIrq h).burstEnd h
    | some r =>
      let s := s.modStream h (fun y => { y with
        out := y.out - 1, unann := y.unann + 1, firstAt := if y.unann = 0 then s.tick else y.firstAt
        ended := if bit r.flags 2 then y.ended ++ [r.req] else y.ended })
      ((s.testStreamIrq h).burstEnd h).tokRunAll (hTerr h)

/-- A record write failed: the stream enters ERROR (R444). -/
def State.recordFail (s : State) (h : Handle) : State :=
  match s.rstream h, s.terrace (hTerr h) with
  | some x, some te =>
    let s := (s.modStream h (fun y => { y with out := y.out - 1 })).testStreamIrq h
    if x.err then s.burstEnd h
    else
      let s := s.modStream h (fun y => { y with err := true, waiting := [] })
      let s := s.modT (hTerr h) (fun te => { te with reqs := te.reqs.mapVals (fun _ r =>
        if r.stream = h && r.admitted && r.doom.isNone then { r with doom := some stDATA_ERROR } else r) })
      let drain := (te.reqs.filter (fun r => r.2.stream = h && r.2.state = rsDRAINING)).map (fun r =>
        mkHandle (hTerr h) tyReq r.1 r.2.gen)
      let s := s.forEach (drain.filter (fun q => !x.ended.contains q)) State.reqFinalError
      (s.syncFail x.sync).burstEnd h
  | _, _ => s

/-! ### STREAM_OPEN (R432) -/

def shSTREAM_OPEN : Shape where
  op := 0x40
  body := fun c => [rm c 25 1 0xFC, rz c 30 2, rz c 36 12]
  handles := fun _ => [⟨8, [tyTerrace], false, false⟩, ⟨32, [tySync], true, false⟩]
  addrs := [16]

def chkStreamOpen (c : Bytes) : Chk :=
  Chk.first [field (rd c 16 8 % 64 == 0) 16, field (decide (7 ≤ rd c 24 1 ∧ rd c 24 1 ≤ 20)) 24]

def State.streamOpen (s : State) (src : Src) (c : Bytes) : State :=
  let tk := ticketOf src c
  let t := hTerr (cHandle c)
  match s.terrace t with
  | none => s.refuse tk stSTALE_HANDLE noField
  | some te =>
    if 256 ≤ te.streams.length then s.refuse tk stNO_RESOURCE noField
    else
      let i := Tbl.fresh te.streams
      let h := s.handleOf t tyStream i
      let x : RStream := { gen := hGen h, ring := rd c 16 8, log2 := rd c 24 1, irqEn := bit (rd c 25 1) 0
                           ctrl := bit (rd c 25 1) 1, coalCount := rd c 26 2, coalTime := rd c 28 2, sync := rd c 32 4 }
      (s.modT t (fun te => { te with streams := te.streams.put i x })).only tk stOK h 0 0

def execStreamOpen (src : Src) (c : Bytes) (s : State) : Host.Outcome State Fault Refusal :=
  .next (s.command shSTREAM_OPEN (shSTREAM_OPEN.row c) src c (fun _ => chkStreamOpen c) (fun s => s.streamOpen src c))

/-! ### STREAM_CLOSE (R443) -/

def shSTREAM_CLOSE : Shape where
  op := 0x41
  body := fun c => [rz c 16 32]
  handles := fun _ => [⟨8, [tyStream], false, false⟩]

def execStreamClose (src : Src) (c : Bytes) (s : State) : Host.Outcome State Fault Refusal :=
  .next (s.command shSTREAM_CLOSE (shSTREAM_CLOSE.row c) src c (fun _ => none) (fun s =>
    let tk := ticketOf src c
    let h := cHandle c
    ((s.first tk h).modStream h (fun x => { x with closing := some tk })).settleStream h))

/-! ### STREAM_CREDIT (R439) -/

def shSTREAM_CREDIT : Shape where
  op := 0x42
  body := fun c => [rz c 24 24]
  handles := fun _ => [⟨8, [tyStream], false, true⟩]

def State.chkStreamCredit (s : State) (c : Bytes) : Chk :=
  match s.rstream (cHandle c) with
  | none => some (stSTALE_HANDLE, noField)
  | some x => Chk.first [field (decide (x.consumed ≤ rd c 16 8 ∧ rd c 16 8 ≤ x.produced)) 16, cond (!x.err) stDATA_ERROR]

def State.streamCredit (s : State) (src : Src) (c : Bytes) : State :=
  let h := cHandle c
  let s := s.modStream h (fun x => { x with consumed := rd c 16 8, creditAt := s.tick })
  match s.rstream h with
  | none => s
  | some x => (s.only (ticketOf src c) stOK h x.produced x.free).runStream h

def execStreamCredit (src : Src) (c : Bytes) (s : State) : Host.Outcome State Fault Refusal :=
  .next (s.command shSTREAM_CREDIT (shSTREAM_CREDIT.row c) src c (fun s => s.chkStreamCredit c)
    (fun s => s.streamCredit src c))

/-! ### STREAM_COAL_TIMER (R441) -/

/-- COAL_TIME × 16 ticks have passed since the first unannounced record; `idx` numbers the stream. -/
def State.streamTimer (s : State) (t idx : Nat) : State :=
  match (s.terrace t).bind (fun te => te.streams.get idx) with
  | none => s
  | some x => if x.coalTime = 0 then s else s.testStreamIrq (mkHandle t tyStream idx x.gen)

def execStreamCoalTimer (t idx : Nat) (s : State) : Host.Outcome State Fault Refusal := .next (s.streamTimer t idx)

end Sys2Proof.Machine
end

