-- ==== Sys2Proof/Machine/Slicer.lean ====
section
/-! DEFINITION. The Slicer (R422 to R431): the assembler, shift-and matching, hold-back, the stop that ends a request and
its confirmation in the Riddle, and the flush at any other end. -/

namespace Sys2Proof.Machine

/-- Positions of a stop string that hold byte `c`, as a mask (R425). -/
def stopMask (stop : Bytes) (c : Byte) : BitVec 64 :=
  BitVec.ofNat 64 (((List.range stop.length).zip stop).foldl (fun a x => if x.2 = c then a + 2 ^ x.1 else a) 0)

/-- One byte through a shift-and state: bit i says that the first i + 1 bytes end here. -/
def shiftStep (stop : Bytes) (d : BitVec 64) (c : Byte) : BitVec 64 := ((d <<< 1) ||| 1) &&& stopMask stop c

def completed (stop : Bytes) (d : BitVec 64) : Bool := stop.length ≠ 0 && d.getLsbD (stop.length - 1)

/-- Longest proper prefix of a stop string that ends here. -/
def openPrefix (stop : Bytes) (d : BitVec 64) : Nat :=
  ((List.range (stop.length - 1)).filter (fun i => d.getLsbD i)).foldl (fun a i => max a (i + 1)) 0

/-- What feeding bytes gives: the bytes released, the stop string completed with the bytes discarded, the Riddle searches made,
the completions they did not confirm, and the state. -/
structure Fed where
  out  : Bytes := []
  stop : Option Nat := none
  cut  : Nat := 0
  work : RWork := {}
  refuted : Nat := 0
  st   : Slicer

/-- The stop strings that end here, one for each length: those of one length are equal. -/
def stopsHere (stops : List Bytes) (shift : List (BitVec 64)) : List Bytes :=
  (((stops.zip shift).filter (fun x => completed x.1 x.2)).map (·.1)).eraseDups

/-- A Riddle search for stop strings that end at one byte: the position in the stop set that it confirms, and its work. -/
abbrev StopAsk := List Bytes → Option Nat × RWork

/-- Feed assembled bytes (R426, R427). `ask` is the Riddle search for the strings completed (R425). DEDUCED, log entry 57. -/
def feedBytes (stops : List Bytes) (atEnd : Bool) (ask : StopAsk) : Fed → Bytes → Fed
  | f, [] => f
  | f, c :: r =>
    let s := f.st
    let shift := (stops.zip s.shift).map (fun x => shiftStep x.1 x.2 c)
    let pend := s.hold ++ [c]
    let keys := stopsHere stops shift
    let a := if keys.isEmpty then (none, {}) else ask keys
    let f := { f with work := f.work.add a.2 }
    match a.1 with
    | some k =>
      let n := (stops.getD k []).length
      let rel := if atEnd then pend else pend.take (pend.length - n)
      { f with out := f.out ++ rel, stop := some k, cut := (if atEnd then 0 else n) + r.length + s.asm.length
               st := { shift := shift, asm := [], hold := [], offset := s.offset + rel.length } }
    | none =>
      let h := ((stops.zip shift).map (fun x => openPrefix x.1 x.2)).foldl max 0
      let rel := pend.take (pend.length - h)
      feedBytes stops atEnd ask
        { f with out := f.out ++ rel, refuted := f.refuted + (if keys.isEmpty then 0 else 1)
                 st := { s with shift := shift, hold := pend.drop (pend.length - h), offset := s.offset + rel.length } } r

/-- Every shift-and state at its start. -/
def Slicer.ready (s : Slicer) (stops : List Bytes) : Slicer :=
  if s.shift.length = stops.length then s else { s with shift := stops.map (fun _ => 0) }

/-- One token's bytes through the assembler and the matcher; also the replacements made (R423). -/
def feedToken (stops : List Bytes) (atEnd : Bool) (ask : StopAsk) (s : Slicer) (b : Bytes) : Fed × Nat :=
  let s := s.ready stops
  let a := assembleUtf8 true (s.asm ++ b)
  (feedBytes stops atEnd ask { st := { s with asm := a.2.2 } } a.1, a.2.1)

/-- The flush at an end other than a stop string: the bytes and whether a prefix was replaced (R430). -/
def Slicer.flush (s : Slicer) : Bytes × Nat :=
  (s.hold ++ (if s.asm.isEmpty then [] else [0xEF, 0xBF, 0xBD]), if s.asm.isEmpty then 0 else 1)

/-! ### Tokens of a request -/

/-- Does the request's stream spell control tokens (R422)? -/
def Terrace.spells (te : Terrace) (r : Req) : Bool := ((te.streams.get (hIndex r.stream)).map (·.ctrl)).getD false

/-- Bytes a token of a request contributes. -/
def Terrace.outBytes (te : Terrace) (r : Req) (t : Tok) : Bytes :=
  match te.vocab r.vocab r.pins.vocab with
  | some v => tokOut v (te.endTok r.vocab r.pins.vocab) (te.spells r) t
  | none => []

/-- The full key of a STOP row at its source, with its tag (R169). -/
def Terrace.stopSrc (te : Terrace) (t : Nat) (row : RRow) : Option (Handle × Bytes) :=
  (te.reqs.get row.value).bind (fun r => (r.stops[row.aux]?).map (fun k => (mkHandle t tyReq row.value r.gen, k)))

/-- Where a row's full key is read again: the tag and the key (R169). An ECHO row has no source (R183). -/
def Terrace.rowSource (te : Terrace) (t : Nat) (g : Region) (row : RRow) : Option (Option Handle × Bytes) :=
  let body := ((te.objs.get g.obj).bind (fun o => o.ver g.ver)).bind (·.body)
  if g.kind = rkSTOP then (te.stopSrc t row).map (fun x => (some x.1, x.2))
  else if g.kind = rkSTARTER then (te.starters.get row.value).map (fun x => (none, x.digest))
  else match body with
    | some (.vocab b) => (b.tokens.find? (fun x => x.id = row.value)).map (fun x => (none, x.bytes))
    | some (.store b) => (b.passages[row.value]?).map (fun x => (none, x.ident))
    | _ => none

/-- FIRST-mode search of the STOP region with one probe for each completed length: the position in the stop set (R425). -/
def Terrace.stopSearch (te : Terrace) (h : Handle) : StopAsk := fun keys =>
  match te.region rkSTOP with
  | none => (none, {})
  | some reg =>
    let x := searchFirst reg.rows (keys.map (mkProbe reg.salt (some h)))
      (fun row => (te.stopSrc (hTerr h) row).map (fun y => keyMsg (some y.1) y.2))
    (x.1.map (fun y => y.2.aux), x.2)

/-- A token of a request through its Slicer. -/
def Terrace.feed (te : Terrace) (h : Handle) (r : Req) (s : Slicer) (t : Tok) : Fed × Nat :=
  feedToken r.stops r.stopAtEnd (te.stopSearch h) s (te.outBytes r t)

/-- Tentative evaluation (R429): the first tentative token in which a confirmed stop completes, and its position in the
stop set; the searches made, and completions that were not confirmed. -/
structure StopEval where
  hit     : Option (Nat × Nat) := none
  work    : RWork := {}
  refuted : Nat := 0

def Terrace.evalStops (te : Terrace) (h : Handle) (r : Req) : Nat → Slicer → List Tok → StopEval → StopEval
  | _, _, [], e => e
  | n, s, t :: ts, e =>
    let f := (te.feed h r s t).1
    let e := { e with work := e.work.add f.work, refuted := e.refuted + f.refuted }
    match f.stop with
    | none => te.evalStops h r (n + 1) f.st ts e
    | some k => { e with hit := some (n, k) }

/-! ### Damaged Riddle rows (R158, R183) -/

/-- The quads that hold a region: quad 0 for a STARTER region, the home quads for every other (R164, R165). -/
def Terrace.regionQuads (te : Terrace) (g : Region) : List Nat := if g.kind = rkSTARTER then [0] else homeQuads te.desc.coreMask

/-- Rows that a search would meet with a parity error or with RSTATE 0b11 are restored before it is issued again, and counted at each
bank group that holds them (R158, R183, R185). -/
def State.heal (s : State) (t : Nat) : State :=
  match s.terrace t with
  | none => s
  | some te =>
    if te.regions.all (fun g => g.damaged.isEmpty) then s
    else
      let s := s.forEach te.regions (fun s g => s.forEach (te.regionQuads g) (fun s q =>
        s.count cRIDDLE_REBUILD t (locQuad q) g.damaged.length))
      s.modT t (fun te => { te with regions := te.regions.map (fun g => g.heal (te.rowSource t g) (fun x => !x.sound)) })

end Sys2Proof.Machine
end

