-- ==== Sys2Proof/Machine/Chain.lean ====
section
/-! DEFINITION. The rows of a step (R338, R354 to R357, R376 to R387, R404 to R417): waiting, tile requests, the decision of
a chain, and what an owner's last row sets off: stop evaluation (R429) and the echo drafter (R334). -/

namespace Sys2Proof.Machine

/-! ### Steps and rows by number -/

def State.modSp (s : State) (t : Nat) (f : StepPort → StepPort) : State := s.modT t (fun te => { te with sp := f te.sp })

/-- Change the step in flight, or the one being closed. -/
def State.modStep (s : State) (t : Nat) (old : Bool) (f : Step → Step) : State :=
  s.modSp t (fun p => if old then { p with closing := p.closing.map f } else { p with flight := p.flight.map f })

def State.modRow (s : State) (t : Nat) (old : Bool) (i : Nat) (f : Row → Row) : State :=
  s.modStep t old (fun x => { x with rows := setAt i f x.rows })

def Terrace.flightRow (te : Terrace) (i : Nat) : Option (Step × Row) :=
  te.sp.flight.bind (fun f => (f.rows[i]?).map (fun r => (f, r)))

/-- Output rows of an owner with their indices, in chain order. -/
def Step.chain (f : Step) (idx : Nat) : List (Nat × Row) :=
  ((List.range f.rows.length).zip f.rows).filter (fun x => x.2.idx = idx && x.2.kind ≠ 0)

/-- Drafts in the chain at or before a position. -/
def Step.draftsTo (f : Step) (idx pos : Nat) : List Tok :=
  (f.rows.filter (fun r => r.idx = idx && r.kind = 2 && r.pos ≤ pos)).map (·.tok)

def Row.isOver (r : Row) : Bool := r.st = .done || r.st = .withdrawn

/-- The step has completed (R322). -/
def Step.complete (f : Step) : Bool := f.failed || (f.done && f.rows.all Row.isOver)

/-! ### What a row is sampled under -/

def offProfile : ProfileBody := ⟨0, 0, 0, zeroMass, 0, 0, 2 ^ 24, 2 ^ 24, 0⟩

def Terrace.profile (te : Terrace) (r : Req) : ProfileBody :=
  match (te.objVer r.profile r.pins.profile).bind (·.body) with
  | some (.profile b) => b
  | _ => offProfile

def Terrace.biasSet (te : Terrace) (r : Req) : BiasBody :=
  match (te.objVer r.bias r.pins.bias).bind (·.body) with
  | some (.bias b) => if r.bias = 0 then ⟨[], []⟩ else b
  | _ => ⟨[], []⟩

def Terrace.vocabSize (te : Terrace) (r : Req) : Nat := ((te.objVer r.vocab r.pins.vocab).map (fun v => vSize v.header)).getD 0

def Terrace.rowCtx (te : Terrace) (f : Step) (r : Req) (row : Row) : RowCtx where
  prof := te.profile r
  bias := te.biasSet r
  allowed := if r.grammar = 0 then none else some (((te.gstate r row.gstate).map (·.allowed)).getD [])
  vsize := te.vocabSize r
  counts := r.counts
  drafts := f.draftsTo row.idx row.pos
  lfmt := f.lfmt
  bfmt := f.bfmt

/-! ### Waiting (R338, R381, R393) -/

/-- Has a request more distinct counted tokens than are held on-block? -/
def Req.overflows (r : Req) : Bool := 4096 < r.counts.length

/-- Lines that a row's Sampler task reads: all at hand, or a demand fill for each that is not. -/
def State.wantLines (s : State) (t quad : Nat) : List VLine → State × Bool
  | [] => (s, true)
  | l :: r =>
    let x := s.wantLines t quad r
    if ((x.1.terrace t).map (fun te => te.lineIn quad l)).getD true then (x.1.modT t (fun te => te.touchLine quad l), x.2)
    else (x.1.lineDemand t quad 0 l, false)

/-- Why a row cannot be evaluated now; demand fills and slice copies are made on the way. -/
def State.rowBlock (s : State) (t : Nat) (te : Terrace) (r : Req) (row : Row) : State × Option Nat :=
  let objs := [(r.vocab, r.pins.vocab), (r.grammar, r.pins.grammar), (r.bias, r.pins.bias), (r.profile, r.pins.profile)].filter
    (fun x => x.1 ≠ 0)
  if objs.any (fun x => ((te.objVer x.1 x.2).map (·.quarantine)).getD false) then (s, some scOBJ_QUARANTINE)
  else if objs.any (fun x => ((te.obj x.1).map (·.promoting)).getD false) then (s, some 6)
  else if r.spillWait || r.slotAfter.isSome then (s, some scFILL_LATE)
  else if r.overflows && !row.filled then
    let h := mkHandle t tyReq row.idx r.gen
    let out := s.mp.any (fun o => match o.kind with | .reqFill q => q = h | _ => false)
    (if out then s else s.mpOwn (hTerr h) (.reqFill h), some scFILL_LATE)
  else
    let x := if r.grammar = 0 then (s, true) else s.wantMask r.grammar r.pins.grammar row.gstate (s.stepBay t)
    if !x.2 then (x.1, some 0)
    else
      let y := x.1.wantLines t (s.stepCore t / 4) ((if r.bias = 0 then [] else [⟨hKey r.bias, r.pins.bias, .bias⟩]) ++
        [⟨hKey r.profile, r.pins.profile, .profile⟩])
      (y.1, if y.2 then none else some 7)

/-- The row waits; one that waits for a mask is counted once and marks its step (R332, R381, R484). -/
def State.rowWait (s : State) (t i : Nat) (row : Row) (code : Nat) : State :=
  if (row.waitAt.map (·.2)) = some code then s
  else
    let s := s.modRow t false i (fun r => { r with waitAt := some (s.tick, code) })
    if code ≠ 0 then s
    else
      let late := ((s.terrace t).bind (fun te => te.sp.flight)).map (·.maskLate) |>.getD false
      let s := (s.count cMASK_LATE_ROWS t (locBay (s.stepBay t)) 1).modT t (fun te => { te with
        lateAuto := true, sp := { te.sp with lateSteps := te.sp.lateSteps + (if late then 0 else 1) } })
      s.modStep t false (fun f => { f with maskLate := true })

/-! ### Tile requests (R347, R354) -/

def State.askTiles (s : State) (t : Nat) (id i : Nat) (row : Row) (full : Bool) (tiles : List Nat) : State :=
  let s := s.modRow t false i (fun r => { r with
    st := .waitTiles, round := r.round + 1, fetched := if full then [] else r.fetched
    req := some ⟨r.round, if full then List.range r.nt else tiles, full, 0⟩ })
  let s := if full then s else s.tally cSAMPLE_ROUNDS t
  s.send t (.tileReq t id i row.round full (if full then [] else tiles))

/-- Count the arithmetic flags of a row (R71, group 0x02). -/
def State.countFlags (s : State) (t flags : Nat) : State :=
  s.forEach ((List.range 4).filter (fun b => bit flags b)) (fun s b => s.tally (2, b + 1) t)

/-- A row's selection is complete, or its outcome is known without values. Its arithmetic flags are counted here, once, with
what the row has met so far; a row decided or withdrawn before counts none (R71). DESIGN CHOICE, log entry 139. -/
def State.rowSelected (s : State) (t i : Nat) (d : Option RowCtx.Dist) : State :=
  let s := (s.modRow t false i (fun r => { r with st := .selected })).tally cSAMPLE_ROWS t
  match d with
  | none => s
  | some d => (if d.greedy then s.tally cSAMPLE_GREEDY t else s.count cSAMPLE_SKIPPED_TILES t locBlock d.skipped).countFlags t
      d.flags

/-! ### Variates (R415, R417) -/

/-- `n` bytes of the noise source from free value `k` on (R4, R414). DESIGN CHOICE, log entry 3. DESIGN CHOICE, log entry
82. -/
def noiseBytes (k n : Nat) : Bytes := (List.range (ceilDiv n 8)).flatMap (fun i => le 8 (Config.freeNoise (k + i)).toNat)

/-- The 25 variates of the 128 bytes that a Generate request returns (R415). -/
def genVariates (b : Bytes) : List (BitVec 40) := (List.range 25).map (fun i => BitVec.ofNat 40 (rd b (5 * i) 5))

/-- Generate requests between two seeds (R415). -/
def reseedLimit : Nat := 2 ^ 20

/-- The DRBG is seeded again from 1,024 fresh raw bits (R415). -/
def Drbg.reseed (d : Drbg) (k : Nat) : Drbg :=
  let x := ctrReseed d.key d.v (noiseBytes k 128)
  { d with key := x.1, v := x.2, gens := 0 }

/-- One Generate request: 25 variates join the buffer, which holds 100. -/
def Drbg.generate (d : Drbg) : Drbg :=
  let x := ctrGenerate d.key d.v 8
  { d with key := x.2.1, v := x.2.2, gens := d.gens + 1, buffer := (d.buffer ++ genVariates x.1).take 100 }

/-- One Generate request of a terrace's DRBG, reseeding first where it is due. DEDUCED, log entry 62. -/
def State.generate (s : State) (t : Nat) : State :=
  { s with fresh := s.fresh + 16 }.modT t (fun te => { te with
    drbg := (if reseedLimit ≤ te.drbg.gens then te.drbg.reseed s.fresh else te.drbg).generate })

/-- Six variates, the most that one row's draws can use, stand ready where the DRBG holds state; none otherwise. DEDUCED,
log entry 62. -/
def State.variates (s : State) (t : Nat) : State × Option (List Nat) :=
  match s.terrace t with
  | none => (s, none)
  | some te =>
    if !te.drbg.live then (s, none)
    else
      let s := if te.drbg.buffer.length < 6 then s.generate t else s
      (s, (s.terrace t).map (fun te => (te.drbg.buffer.take 6).map (·.toNat)))

/-- `n` variates are taken from the buffer (R413, R415). DEDUCED, log entry 58. -/
def State.useVariates (s : State) (t n : Nat) : State :=
  (s.modT t (fun te => { te with drbg := { te.drbg with buffer := te.drbg.buffer.drop n } })).count cVARIATES_USED t locBlock n

/-! ### Withdrawal (R338, R417) -/

/-- Every row of an owner is withdrawn. -/
def State.withdrawOwner (s : State) (t idx code : Nat) : State :=
  (s.modStep t false (fun f => { f with
    rows := f.rows.map (fun r => if r.idx = idx then { r with st := .withdrawn } else r)
    res := f.res.del idx, drafts := f.drafts.del idx, withdrawn := f.withdrawn.put idx code })).tally cROW_WITHDRAWN t

/-! ### The echo drafter (R334) -/

/-- Token at a position of the tentative sequence. -/
def Terrace.tentTok (te : Terrace) (r : Req) (new : List Tok) (p : Nat) : Tok :=
  if p < r.committed then te.tokAt r p else new.getD (p - r.committed) 0

/-- The `n` tokens that end before position `e`. -/
def Terrace.tentKey (te : Terrace) (r : Req) (new : List Tok) (n e : Nat) : List Tok :=
  (List.range n).map (fun k => te.tentTok r new (e - n + k))

/-- The full key of an ECHO row: the history tokens before its VALUE, under the request's tag (R169). -/
def Terrace.echoSrc (te : Terrace) (h : Handle) (r : Req) (new : List Tok) (len : Nat) (row : RRow) : Option Bytes :=
  let n := row.keyLen / 3
  if n ≤ row.value && row.value ≤ len then some (keyMsg (some h) (tokKey (te.tentKey r new n row.value))) else none

/-- Insert the keys that end at positions `from` to `to - 1` (R178, R334). -/
def State.echoKeys (s : State) (t idx lo hi : Nat) (new : List Tok) : State :=
  match s.terrace t with
  | none => s
  | some te => match te.reqs.get idx, te.region rkECHO with
    | some r, some reg =>
      if te.desc.echoRows = 0 then s else
      let h := mkHandle t tyReq idx r.gen
      let base := te.starterLen r.starter
      let ends := (List.range hi).filter (fun p => lo ≤ p)
      let keys := ends.flatMap (fun p => ((List.range 9).filter (fun n => 2 ≤ n && base + n ≤ p + 1)).map (fun n => (p, n)))
      let res := keys.foldl (fun (a : Region × Nat) x =>
        let k := te.tentKey r new x.2 (x.1 + 1)
        let y := echoInsert a.1 h k (x.1 + 1) (te.echoSrc h r new hi)
        (y.1, a.2 + if y.2 then 1 else 0)) (reg, 0)
      (s.modT t (fun te => te.modRegion rkECHO (fun _ => res.1))).count cECHO_DROP t te.quadLoc res.2
    | _, _ => s

/-- One ALL-mode search for the keys that end the sequence: VALUE of the longest that is held, and the search's work. A region
of no rows disables the drafter (R163). -/
def Terrace.echoFind (te : Terrace) (h : Handle) (r : Req) (new : List Tok) : Option Nat × RWork :=
  let len := r.committed + new.length
  match te.region rkECHO with
  | none => (none, {})
  | some reg =>
    if te.desc.echoRows = 0 then (none, {}) else
    let ns := (List.range 9).filter (fun n => 2 ≤ n && n ≤ len)
    let x := searchAll reg.rows (ns.map (fun n => mkProbe reg.salt (some h) (tokKey (te.tentKey r new n len))))
      (te.echoSrc h r new len)
    (x.1.foldl (fun (b : Option RRow) y => match b with
      | some z => if z.keyLen < y.2.keyLen then some y.2 else b
      | none => some y.2) none |>.map (·.value), x.2)

/-- Drafts for an owner whose rows have all drawn, and the keys of its new tokens. -/
def State.echoDraft (s : State) (t core idx : Nat) (new : List Tok) : State :=
  match s.terrace t with
  | none => s
  | some te => match te.reqs.get idx with
    | none => s
    | some r =>
      let h := mkHandle t tyReq idx r.gen
      let len := r.committed + new.length
      let x := te.echoFind h r new
      let ds := match x.1 with
        | some v => ((List.range (min r.draftMax (len - v))).map (fun k => te.tentTok r new (v + k)))
        | none => []
      ((s.searched t (locQuad (core / 4)) x.2).modStep t false (fun f => { f with drafts := f.drafts.put idx ds })).echoKeys t idx r.committed len new

/-! ### The end of a chain (R336, R429) -/

/-- Would committing these tokens end the request (R327)? -/
def Terrace.endsWith (te : Terrace) (r : Req) (new : List Tok) (stop : Option (Nat × Nat)) : Bool :=
  let endTok := te.endTok r.vocab r.pins.vocab
  let sts := (te.chainWalk r endTok r.gstate new).2
  new.contains endTok || stop.isSome || sts.any (fun n => te.terminal r n) || decide (r.maxNew ≤ r.generated + new.length)

/-- The owner's rows have all drawn or been dropped: its result stands, the Slicer evaluates it, and drafts are formed. -/
def State.chainEnd (s : State) (t idx core : Nat) (res : OwnerRes) (wasted : Nat) : State :=
  match s.terrace t with
  | none => s
  | some te => match te.reqs.get idx with
    | none => s
    | some r =>
      let h := mkHandle t tyReq idx r.gen
      let e := te.evalStops h r 0 r.slicer (res.toks.map (·.tok)) {}
      let s := s.modStep t false (fun f => { f with
        res := f.res.put idx { res with stop := e.hit }
        rows := f.rows.map (fun x => if x.idx = idx && x.kind ≠ 0 then { x with st := .done, waitAt := none } else x) })
      let s := (s.count cSPEC_ROWS_WASTED t locBlock wasted).searched t (locQuad (core / 4)) e.work
      let s := s.forEach (List.range e.refuted) (fun s _ => s.fault fcFIRMWARE t (locCore core) noCause 0 h 0)
      if r.draftSrc = 1 && res.err.isNone && !te.endsWith r (res.toks.map (·.tok)) e.hit then
        s.echoDraft t core idx (res.toks.map (·.tok))
      else s

/-! ### The draws of a chain (R410 to R412) -/

/-- Fills for the state after a drawn token, and ahead for the likeliest others (R376, R379). -/
def State.drawFills (s : State) (t : Nat) (te : Terrace) (r : Req) (row : Row) (y : Tok) (cands : List Tok) : State :=
  match te.gstate r row.gstate with
  | none => s
  | some g =>
    let endTok := te.endTok r.vocab r.pins.vocab
    let bay := s.stepBay t
    let h := mkHandle t tyReq row.idx r.gen
    let s := s.modT t (fun te => { te with reqs := te.reqs.mod row.idx (fun r => { r with lastBay := some bay }) })
    let s := if y = endTok then s else s.maskFill r.grammar r.pins.grammar (gdelta g y) bay 0
    (((cands.filter (fun x => x ≠ y)).take 4).filter (fun x => x ≠ endTok)).foldl (fun s x =>
      s.maskFill r.grammar r.pins.grammar (gdelta g x) bay h) s

/-- A draw record for a row. -/
def mkDraw (id : Nat) (row : Row) (d : RowCtx.Dist) (tok : Tok) (kind : Nat) (lp : Int) (used v1 : Nat) : DrawRec where
  tok := tok
  pos := row.pos + 1
  logprob := lp
  aflags := if kind = dkFORCED then 0 else d.flags
  dkind := kind
  variates := used
  variate := if used = 0 then 0 else v1
  residual := if kind = dkFORCED then zeroMass else d.residual
  tiles := d.tiles
  step := id

/-- What deciding one row does to its owner's result. -/
inductive Verdict where
  /-- A draft is accepted; the chain goes on. -/
  | accept (d : DrawRec)
  /-- The chain ends with a token. -/
  | stop (d : DrawRec)
  | error (status : Nat)
  /-- No variate can be had. -/
  | halt

/-- Variates taken, draws made and drafts rejected on the way to a verdict. -/
structure DrawWork where
  used     : Nat := 0
  accepts  : Nat := 0
  rejects  : Nat := 0

/-- The last draw of a chain over masses. -/
def lastDraw (id : Nat) (row : Row) (d : RowCtx.Dist) (kind : Nat) (ms : List (Tok × Nat)) (vs : Option (List Nat))
    (w : DrawWork) : Verdict × DrawWork :=
  match vs with
  | none => (.halt, w)
  | some vs =>
    match drawOver (cumul 0 (ms.map (·.2))) (vs.drop w.used) with
    | none => (.halt, w)
    | some (i, n) =>
      let y := ((ms[i]?).map (·.1)).getD 0
      (.stop (mkDraw id row d y kind (RowCtx.logProb (d.massOf y) d.total) n ((vs.drop w.used).headD 0)), { w with used := w.used + n })

/-- Decide a row with its distribution, its next draft, and up to six variates (R409 to R412). -/
def decideRow (id : Nat) (row : Row) (d : RowCtx.Dist) (draft : Option Tok) (vs : Option (List Nat)) : Verdict × DrawWork :=
  if d.none then (.error stNO_CANDIDATE, {})
  else if d.greedy then
    let b := d.best.getD 0
    match draft with
    | some x => if x = b then (.accept (mkDraw id row d b dkGREEDY 0 0 0), {}) else (.stop (mkDraw id row d b dkGREEDY 0 0 0), { rejects := 1 })
    | none => (.stop (mkDraw id row d b dkGREEDY 0 0 0), {})
  else
    match draft with
    | none => lastDraw id row d dkSAMPLED d.toks vs {}
    | some x =>
      let m := d.massOf x
      let redraw := fun (w : DrawWork) => lastDraw id row d dkREDRAWN (d.toks.map (fun y => if y.1 = x then (y.1, 0) else y)) vs w
      if m = d.total then (.accept (mkDraw id row d x dkACCEPTED (RowCtx.logProb m d.total) 0 0), {})
      else if m = 0 then redraw { rejects := 1 }
      else match vs with
        | none => (.halt, {})
        | some l => match drawOver [m, d.total] l with
          | none => (.halt, {})
          | some (k, n) =>
            let w : DrawWork := { used := n, accepts := 1 }
            if k = 0 then (.accept (mkDraw id row d x dkACCEPTED (RowCtx.logProb m d.total) n (l.headD 0)), w)
            else redraw { w with rejects := 1 }

/-- The forced end token of a dead state (R385, R386). -/
def forcedDist : RowCtx.Dist := ⟨true, none, [], 1, 0, 0, 0, 0⟩

/-- The verdict of a row whose selection is complete: dead states first (R385, R399). -/
def State.rowVerdict (s : State) (t : Nat) (te : Terrace) (f : Step) (r : Req) (row : Row) :
    State × Verdict × Option RowCtx.Dist :=
  let dead := r.grammar ≠ 0 && ((te.gstate r row.gstate).map deadState).getD true
  if dead then
    let s := s.tally cGRAMMAR_DEAD t
    let eos := ((te.gstate r row.gstate).map (·.eosPermit)).getD false &&
      (((te.objVer r.grammar r.pins.grammar).map (fun v => gDead v.header)).getD 0) = 1
    if eos then (s.tally cGRAMMAR_EOS t, .stop (mkDraw f.id row forcedDist (te.endTok r.vocab r.pins.vocab) dkFORCED 0 0 0), none)
    else (s, .error stGRAMMAR_DEAD, none)
  else
    let d := (te.rowCtx f r row).dist row
    let draft := (f.rows.find? (fun x => x.idx = row.idx && x.kind = 2 && x.pos = row.pos + 1)).map (·.tok)
    let sure := d.none || d.greedy || match draft with
      | some x => d.massOf x = d.total
      | none => false
    let p := if sure then (s, none) else s.variates t
    let v := decideRow f.id row d draft p.2
    let s := (((p.1.useVariates t v.2.used).count cSPEC_ACCEPT_DRAWS t locBlock v.2.accepts).count cSPEC_REJECTED t locBlock
      v.2.rejects)
    (s, v.1, some d)

/-- Draw for a row whose predecessors have drawn. DEDUCED, log entry 58. -/
def State.rowDraw (s : State) (t i : Nat) (te : Terrace) (f : Step) (r : Req) (row : Row) : State :=
  let x := s.rowVerdict t te f r row
  let s := x.1
  let core := s.stepCore t
  let res := (f.res.get row.idx).getD ⟨[], 0, none, none⟩
  let wasted := ((f.chain row.idx).filter (fun y => row.pos < y.2.pos)).length
  let cands := if x.2.2.isNone then [] else (RowCtx.ranked ((te.rowCtx f r row).cands row).1).map (·.1)
  match x.2.1 with
  | .halt => ((s.tally cENTROPY_STALL t).withdrawOwner t row.idx scENTROPY_HALT)
  | .error st => s.chainEnd t row.idx core { res with err := some st } wasted
  | .stop d =>
    (s.drawFills t te r row d.tok cands).chainEnd t row.idx core { res with toks := res.toks ++ [d] } wasted
  | .accept d =>
    let s := s.modStep t false (fun f => { f with
      res := f.res.put row.idx { res with toks := res.toks ++ [d], acc := res.acc + 1 }
      rows := setAt i (fun y => { y with st := .done, waitAt := none }) f.rows })
    s.drawFills t te r row d.tok cands

/-! ### Running the rows -/

/-- Candidates that an answered round brought through the exact pass. -/
def exactCount (c : RowCtx) (row : Row) : Nat :=
  match row.req with
  | some q => sumBy (fun j => match row.fetched.get j with | some v => (c.tileCands j v).1.length | none => 0) q.list
  | none => 0

/-- A row that has what it needs takes its next step. -/
def State.rowStep (s : State) (t i : Nat) (te : Terrace) (f : Step) (r : Req) (row : Row) : State :=
  let s := s.modRow t false i (fun x => { x with waitAt := none })
  let c := te.rowCtx f r row
  let dead := r.grammar ≠ 0 && ((te.gstate r row.gstate).map deadState).getD true
  match row.st with
  | .waitBounds =>
    if dead || (c.order row).isEmpty then s.rowSelected t i none
    else s.askTiles t f.id i row false (c.first row)
  | .waitTiles =>
    if dead then s.rowSelected t i none
    else
      let s := s.count cSAMPLE_CANDIDATES t locBlock (exactCount c row)
      match c.afterRound row with
      | .ask l => s.askTiles t f.id i row false l
      | .full => s.askTiles t f.id i row true []
      | .finish _ _ => s.rowSelected t i (some (c.dist row))
  | .selected =>
    if (f.chain row.idx).all (fun y => row.pos ≤ y.2.pos || y.2.st = .done) then s.rowDraw t i te f r row else s
  | _ => s

/-- May the row take its next step: bounds in hand, or its round answered in full (R408)? -/
def Row.due (row : Row) : Bool :=
  match row.st with
  | .waitBounds => row.hasBounds
  | .waitTiles => match row.req with | some q => q.list.length ≤ q.got | none => false
  | .selected => true
  | _ => false

/-- One row goes as far as it can (R413). DEDUCED, log entry 77. -/
def State.rowTry (s : State) (t i : Nat) : Nat → State
  | 0 => s
  | n + 1 =>
    match s.terrace t with
    | none => s
    | some te => match te.flightRow i with
      | none => s
      | some (f, row) => match te.reqs.get row.idx with
        | none => s
        | some r =>
          if f.failed || !row.due || (s.stepCore? t).isNone then s
          else if s.rbStalls (s.stepCore t) && (!r.stops.isEmpty || r.draftSrc = 1) then s.wantRb
          else
            let b := s.rowBlock t te r row
            match b.2 with
            | some code => b.1.rowWait t i row code
            | none =>
              let s' := b.1.rowStep t i te f r row
              match (s'.terrace t).bind (fun te => te.flightRow i) with
              | some (_, row') => if row'.st = row.st && row'.req = row.req then s' else s'.rowTry t i n
              | none => s'

/-- Every row of a terrace's step goes as far as it can, in row order (R413). DEDUCED, log entry 77. -/
def State.runRows (s : State) (t : Nat) : State :=
  match (s.terrace t).bind (fun te => te.sp.flight) with
  | none => s
  | some f => (s.heal t).forEach (List.range f.rows.length) (fun s i => s.rowTry t i 4)

/-! ### Failed steps (R359, R360) -/

/-- A step that has not completed fails; the third failure in a row halts the port, unless parity failed it (R534). -/
def State.failStep (s : State) (t : Nat) (parity : Bool) : State :=
  match (s.terrace t).bind (fun te => te.sp.flight.map (fun f => (te, f))) with
  | none => s
  | some (te, f) =>
    if f.complete then s
    else
      let n := te.sp.failures + (if parity then 0 else 1)
      let s := (s.modSp t (fun p => { p with
        failures := n, lastFailed := some f.id, halted := p.halted || 3 ≤ n
        flight := p.flight.map (fun f => { f with failed := true, parity := parity }) })).tally cSTEP_FAILED t
      if 3 ≤ n && !te.sp.halted then s.raise 23 else s

end Sys2Proof.Machine
end

