-- ==== Sys2Proof/Machine/Requests.lean ====
section
/-! DEFINITION. The request commands (R266 to R296): REQ_SUBMIT with its checks and admission, the end of intake,
REQ_CANCEL, REQ_AMEND and REQ_QUERY. -/

namespace Sys2Proof.Machine

/-! ### The 64 bytes of REQ_SUBMIT (R271) -/

def shREQ_SUBMIT : Shape where
  op := 0x30
  body := fun c => [rm c 44 1 0xF8, rm c 45 1 0xF8, rz c 46 2]
  xbody := fun c => [rm c 48 4 0xFFFFFFFC, rz c 53 11]
  handles := fun _ => [⟨8, [tyVocab], false, false⟩, ⟨24, [tyProfile], false, false⟩, ⟨28, [tyStream], false, false⟩]
  addrs := [16]

def subEcho (c : Bytes) : Bool := bit (rd c 45 1) 0
def subAccel (c : Bytes) : Bool := bit (rd c 45 1) 1
def maxPos : Nat := 4194304

/-- Largest DRAFT_MAX of the drafter named; 0 where no draft flag is set and the field is ignored. -/
def draftTop (c : Bytes) : Nat := if subAccel c then 15 else if subEcho c then 8 else 0

def chkReqSubmit (c : Bytes) : Chk :=
  Chk.first [field (rd c 16 8 % 8 == 0) 16, field (decide (1 ≤ rd c 32 4 ∧ rd c 32 4 ≤ maxPos)) 32,
    field (!cExp c || draftTop c == 0 || decide (1 ≤ rd c 52 1 ∧ rd c 52 1 ≤ draftTop c)) 52]

/-- DRAFT_MAX in force: 4 unless the expert field gives it. -/
def subDraftMax (c : Bytes) : Nat := if draftTop c = 0 then 0 else if cExp c then rd c 52 1 else 4

def subXflag (c : Bytes) (i : Nat) : Bool := cExp c && bit (rd c 48 4) i

/-! ### The request descriptor (R272); `d` is the descriptor, whose byte i has offset 64 + i -/

def rqGrammar (d : Bytes) : Handle := rd d 0 4
def rqBias (d : Bytes) : Handle := rd d 4 4
def rqTemplate (d : Bytes) : Handle := rd d 8 4
def rqStore (d : Bytes) : Handle := rd d 12 4
def rqStarter (d : Bytes) : Handle := rd d 16 4
def rqLen (d : Bytes) : Nat := rd d 32 4
def rqKind (d : Bytes) : Nat := rd d 36 1
def rqStops (d : Bytes) : Nat := rd d 38 1

/-- Reserved fields and codes of the request descriptor, in order. DEDUCED, log entry 21. -/
def rqReserved (d : Bytes) : List Chk :=
  [dField (rd d 20 4 == 0) 20, dField (rqKind d ≤ 3) 36, dField (rd d 37 1 < 2) 37, dField (rd d 39 1 == 0) 39] ++
  (List.range 16).flatMap (fun i =>
    let e := 40 + 16 * i
    if i < rqStops d then [dField (rd d (e + 9) 7 == 0) (e + 9)] else [dField (rd d e 16 == 0) e])

/-- Reserved fields and codes of the assembly descriptor; DEST_KIND is ignored by REQ_SUBMIT. DEDUCED, log entry 21. -/
def asmReserved (a : Bytes) : List Chk :=
  [dField (rd a 4 1 < 2) 4, dField (rd a 8 8 == 0) 8] ++
  (List.range 8).flatMap (fun i =>
    let e := 16 + 16 * i
    [dField (rd a (e + 11) 1 ≤ 2) (e + 11), dField (rd a (e + 12) 4 == 0) (e + 12)]) ++
  (List.range (asmPassages a)).flatMap (fun j =>
    let e := 144 + 16 * j
    [dField (rd a e 1 ≤ 1) e, dField (rd a (e + 2) 6 == 0) (e + 2)])

/-- Ranges of the assembly descriptor (R252 to R254). -/
def asmRanges (a : Bytes) : List Chk :=
  [dField (rd a 0 4 ≤ 2 ^ 22) 0, dField (asmPassages a ≤ 256) 6] ++
  (List.range 8).flatMap (fun i =>
    let e := 16 + 16 * i
    [dField (rd a (e + 11) 1 != 2 || rd a e 8 % 4 == 0) e, dField (rd a (e + 11) 1 != 2 || rd a (e + 8) 3 ≤ maxPos) (e + 8)]) ++
  (List.range (asmPassages a)).flatMap (fun j =>
    let e := 144 + 16 * j
    let n := rd a (e + 1) 1
    [dField (if rd a e 1 = 1 then 1 ≤ n && n ≤ 64 else n == 0) (e + 1)])

/-- Ranges of the request descriptor (R272). -/
def rqRanges (d : Bytes) : List Chk :=
  let k := rqKind d
  [dField (if k = 2 then rd d 24 8 % 4 == 0 else if k = 3 then rd d 24 8 % 8 == 0 else true) 24,
   dField (if k = 1 then rqLen d ≤ 16777215 else if k = 2 then rqLen d ≤ maxPos else if k = 3 then rqLen d == 0 else true) 32,
   dField ((k == 3) == (rqTemplate d != 0) && (k != 0 || rqStarter d != 0)) 36, dField (rqStops d ≤ 16) 38] ++
  (List.range (min 16 (rqStops d))).map (fun i =>
    let n := rd d (40 + 16 * i + 8) 1
    dField (1 ≤ n && n ≤ 64) (40 + 16 * i + 8))

def rqHandles : List HField :=
  [⟨64, [tyGrammar], true, false⟩, ⟨68, [tyBias], true, false⟩, ⟨72, [tyTemplate], true, false⟩, ⟨76, [tyStore], true, false⟩,
   ⟨80, [tyStarter], true, false⟩]

/-- Bytes of a read, empty where it failed. -/
def readBytes (r : HostRead) : Bytes :=
  match r with
  | .okay b => b
  | .error => []

def readFailed (r : HostRead) : Bool :=
  match r with
  | .okay _ => false
  | .error => true

/-! ### What REQ_SUBMIT has read (R273) -/

structure Sub where
  c     : Bytes
  d     : Bytes
  stops : List Bytes
  /-- The assembly descriptor of IKIND 0x03, else empty. -/
  asm   : Bytes
  /-- The token input of IKIND 0x02, else empty. -/
  toks  : List Tok
  idents : List HostRead

def mkSub (c : Bytes) (rd_ : SubmitReads) : Sub :=
  let d := readBytes rd_.desc
  { c := c, d := d, stops := (rd_.stops.take (min 16 (rqStops d))).map readBytes
    asm := if rqKind d = 3 then readBytes rd_.input else []
    toks := if rqKind d = 2 then (toTokens (readBytes rd_.input)).take (rqLen d) else []
    idents := rd_.idents }

/-- Check 1: a host fabric error on a read that intake makes. -/
def subReadError (rd_ : SubmitReads) : Bool :=
  let d := readBytes rd_.desc
  readFailed rd_.desc || (rd_.stops.take (min 16 (rqStops d))).any readFailed ||
    ((rqKind d = 2 || rqKind d = 3) && readFailed rd_.input)

def Sub.vocab (b : Sub) : Handle := cHandle b.c

/-- A named object must be compiled against VOCAB or its base (check 3). -/
def Terrace.madeFor (te : Terrace) (h vocab : Handle) : Bool :=
  h = 0 || match te.obj h with
    | some o => (te.vocabUids vocab).contains (hdDep o.hdr)
    | none => false

def Terrace.starterFor (te : Terrace) (h vocab : Handle) : Bool :=
  match te.starter h with
  | some x => x.vocab = vocab || x.vocab = te.rootVocab vocab
  | none => true

/-- Prompt length of a REQ_SUBMIT where it is known at intake. -/
def Terrace.knownPrompt (te : Terrace) (b : Sub) : Option Nat :=
  let l := te.starterLen (rqStarter b.d)
  match rqKind b.d with
  | 0 => some l
  | 2 => some (l + b.toks.length)
  | _ => none

/-- Check 2, but for the token input's position, as status and offset. DEDUCED, log entry 47. -/
def State.subChk2 (s : State) (te : Terrace) (src : Src) (b : Sub) : Chk :=
  let d := b.d
  Chk.first (rqReserved d ++ (if rqKind d = 3 then asmReserved b.asm else []) ++ [s.checkHandles (srcOwn src) d 64 rqHandles]
    ++ rqRanges d ++ (if rqKind d = 3 then asmRanges b.asm else [])
    ++ [field (!(subEcho b.c && subAccel b.c)) 45,
        field (rd b.c 36 4 == 0 || rd b.c 40 4 == 0 || rd b.c 36 4 ≤ rd b.c 40 4) 36,
        dField (rqStarter d != 0 || !(rqKind d == 1 || rqKind d == 2) || rqLen d != 0) 32]
    ++ ((List.range b.stops.length).zip b.stops).map (fun x => dField (utf8Ok x.2) (40 + 16 * x.1))
    ++ [dField (te.starterLen (rqStarter d) = 0 || (te.starter (rqStarter d)).isSome) 16])

/-- The last parts of check 2: a bad token, then a known prompt that is too long; status, offset and RESULT0. -/
def Terrace.subTokens (te : Terrace) (ver : Nat) (b : Sub) : Option Failure :=
  let bad := match te.vocab b.vocab ver with
    | some v => badToken v b.toks
    | none => none
  match bad with
  | some i => some (stBAD_FIELD, 88, i)
  | none => match te.knownPrompt b with
    | some p => if maxPos < p + rd b.c 32 4 then some (stBAD_FIELD, 32, 0) else none
    | none => none

/-- Check 3. -/
def Terrace.subChk3 (te : Terrace) (b : Sub) : Chk :=
  let v := b.vocab
  Chk.first [dField (te.madeFor (rqGrammar b.d) v) 0, dField (te.madeFor (rqBias b.d) v) 4, dField (te.madeFor (rqTemplate b.d) v) 8,
    dField (te.madeFor (rqStore b.d) v) 12, dField (te.starterFor (rqStarter b.d) v) 16]

def Sub.objects (b : Sub) : List Handle :=
  [b.vocab, rd b.c 24 4, rqGrammar b.d, rqBias b.d, rqTemplate b.d, rqStore b.d]

/-- Check 4: status and RESULT0. -/
def State.subChk4 (s : State) (te : Terrace) (b : Sub) : Option (Nat × Nat) :=
  match s.usable b.objects with
  | some e => some e
  | none =>
    let st := match te.starter (rqStarter b.d) with
      | some x => if x.state = stBUILDING then some (stRETRY_AFTER, te.nextBoundary s.tick)
        else if x.state = stLOST then some (stOBJECT_LOST, 0) else none
      | none => none
    match st with
    | some e => some e
    | none =>
      if ((s.rstream (rd b.c 28 4)).map (·.err)).getD false then some (stDATA_ERROR, 0)
      else if te.pool.isNone then some (stNOT_PERMITTED, 0) else none

/-! ### The bound of R39 and R274 -/

/-- Tokens a passage entry of an assembly can give; 0 where the passage does not exist. -/
def passageLen (st : StoreBody) (byId : Bool) (n : Nat) (idt : Bytes) : Nat :=
  let p := if byId then findIdx (fun (x : Passage) => x.ident == idt) st.passages else some n
  ((p.bind (fun i => st.passages[i]?)).map (fun x => x.tokens.length)).getD 0

/-- Entries of an assembly with the identifiers read at intake. -/
def identified : List (Bool × Nat × Bytes) → List HostRead → List (Bool × Nat × Bytes)
  | [], _ => []
  | (true, n, _) :: r, i :: is => (true, n, readBytes i) :: identified r is
  | e :: r, is => e :: identified r is

/-- The parsed assembly of a submit. -/
def Terrace.subAsm (te : Terrace) (b : Sub) : Assembly :=
  let a := parseAsm b.asm (te.slotNames (rqTemplate b.d))
  { a with passages := identified a.passages b.idents }

/-- Admission bound on the prompt's own tokens: one a text byte, the template's fixed count, and each passage at its stored
count (R39, R274). DEDUCED, log entry 48. -/
def Terrace.promptBound (te : Terrace) (b : Sub) : Nat :=
  match rqKind b.d with
  | 1 => rqLen b.d
  | 2 => b.toks.length
  | 3 =>
    let o := te.obj (rqTemplate b.d)
    let fixed := (o.map (fun o => tFixed o.hdr)).getD 0
    let slots := sumBy (fun i => if (te.slotNames (rqTemplate b.d)).contains i && rd b.asm (27 + 16 * i) 1 ≠ 0 then
      rd b.asm (24 + 16 * i) 3 else 0) (List.range 8)
    let st := te.storeBody (rqStore b.d) ((te.obj (rqStore b.d)).map (·.cur) |>.getD 0)
    let a := te.subAsm b
    let all := fixed + slots + sumBy (fun p => passageLen st p.1 p.2.1 p.2.2) a.passages
    if a.budget = 0 then all else min a.budget all
  | _ => 0

/-! ### Admission (checks 5 to 8) -/

/-- The entry of a submit (R266). -/
def State.mkReq (s : State) (te : Terrace) (src : Src) (b : Sub) (h : Handle) (arrival : Tick) : Req :=
  let c := b.c
  let d := b.d
  let r : Req :=
    { gen := hGen h, state := rsADMIT_WAIT, priority := rd c 44 1, dropLate := subXflag c 0, stopAtEnd := subXflag c 1
      drawRecs := bit (rd c 45 1) 2, draftSrc := if subEcho c then 1 else if subAccel c then 2 else 0
      draftMax := subDraftMax c, tag := cTag c, promptLen := te.starterLen (rqStarter d) + te.promptBound b
      prefilled := te.starterLen (rqStarter d), committed := te.starterLen (rqStarter d)
      specLen := te.starterLen (rqStarter d), maxNew := rd c 32 4, arrival := arrival
      dlFirst := if rd c 36 4 = 0 then 0 else arrival + rd c 36 4, dlEnd := if rd c 40 4 = 0 then 0 else arrival + rd c 40 4
      vocab := b.vocab, grammar := rqGrammar d, bias := rqBias d, profile := rd c 24 4, stream := rd c 28 4
      starter := te.starterRef (rqStarter d), stops := b.stops, template := rqTemplate d, store := rqStore d
      pins := ⟨s.curVer b.vocab, s.curVer (rqGrammar d), s.curVer (rqBias d), s.curVer (rd c 24 4), s.curVer (rqTemplate d),
        s.curVer (rqStore d)⟩
      intake := if rqKind d = 1 then .text (bit (rd d 37 1) 0) none else if rqKind d = 3 then .assembly (te.subAsm b) false
        else .tokens b.toks
      ticket := { ticketOf src c with handle := h } }
  { r with pageNeed := te.needOf r r.promptLen }

/-- Has the STOP region room for a stop set: enough EMPTY rows, and rows for every entry with its holes (R179, R180)?
DEDUCED, log entry 115. -/
def Terrace.stopRoom (te : Terrace) (reg : Region) (stops : List Bytes) : Bool :=
  let new := (stopKeys stops).length
  new ≤ reg.emptyCount && (new = 0 || orderedSize te.holes ((usedRows reg.rows).length + new) ≤ reg.rows.length)

/-- Count an insertion of stop rows that fails although the region has the room (R181). DEDUCED, log entry 115. -/
def State.stopFull (s : State) (te : Terrace) (i : Nat) (h : Handle) (r : Req) : State :=
  match te.region rkSTOP with
  | some reg =>
    if te.reqs.length < te.desc.reqQuota && te.stopRoom reg r.stops && (insertStops reg te.holes h i r.stops).isNone then
      s.count cRIDDLE_FULL (hTerr h) te.quadLoc 1
    else s
  | none => s

/-- Checks 5 to 8 for an entry: status and RESULT0, or the STOP region with the entry's rows and the rows moved. -/
def State.admission (s : State) (te : Terrace) (i : Nat) (h : Handle) (r : Req) : Except (Nat × Nat) (Region × Nat) :=
  let next := te.nextBoundary s.tick
  if te.desc.reqQuota ≤ te.reqs.length then .error (stRETRY_AFTER, next)
  else match te.region rkSTOP with
    | none => .error (stRETRY_AFTER, next)
    | some reg =>
      match (if te.stopRoom reg r.stops then insertStops reg te.holes h i r.stops else none) with
      | none => .error (stRETRY_AFTER, next)
      | some x =>
        let p := r.promptLen - te.sharedPos r.starter
        let total := te.committedNeed + r.pageNeed
        if te.desc.budget < r.pageNeed then .error (stNO_RESOURCE, 0)
        else if te.desc.budget < total then
          let at_ := retryTick next (te.predictedEnds s.tick) (total - te.desc.budget)
          if te.feasible s.tick at_ i r p then .error (stRETRY_AFTER, at_) else .error (stDEADLINE_INFEASIBLE, 0)
        else if te.feasible s.tick s.tick i r p then .ok x else .error (stDEADLINE_INFEASIBLE, 0)

/-- Count what an admission that fails adds (R297). -/
def State.admitFail (s : State) (t st : Nat) : State :=
  if st = stRETRY_AFTER then s.tally cREQ_RETRY t else if st = stDEADLINE_INFEASIBLE then s.tally cREQ_INFEASIBLE t else s

/-- A failure of intake ends an admitted request at once: it passes to DRAINING, and its record and its pins follow at the
next boundary (R269, R436). DEDUCED, log entry 49. -/
def State.intakeFail (s : State) (h : Handle) (st off : Nat) : State :=
  let s := s.stopIntake h
  s.modReq h (fun r =>
    if r.state = rsADMIT_WAIT then
      { r.endWith erERROR st with state := rsDRAINING, fieldOff := off, endAt := s.tick, intake := .none, shown := none }
    else r)

/-- The reads that intake makes after admission. -/
def Sub.laterReads (b : Sub) (named : List Nat) : List (Nat × Nat) :=
  if rqKind b.d = 1 then (if rqLen b.d = 0 then [] else [(rd b.d 24 8, rqLen b.d)])
  else if rqKind b.d = 3 then asmReads b.asm named false
  else []

/-- A Sifter or Kneader task of a request at intake. -/
def State.intakeTask (s : State) (h : Handle) (i prio : Nat) (tk : Ticket) (cls : Nat) : State :=
  s.addTask (hTerr h) cls prio i tk (.intake h) (some [])

/-- The class of the task of the stage that is due: the Sifter takes text before the Kneader assembles (R37). -/
def Intake.cls (x : Intake) : Nat := match x with
  | .assembly a _ => if a.hasText then 1 else 2
  | _ => 1

/-- Start the intake of an admitted request. -/
def State.startIntake (s : State) (h : Handle) (b : Sub) (named : List Nat) : State :=
  match s.req h with
  | none => s
  | some r =>
    if b.idents.any readFailed then s.intakeFail h stDATA_ERROR noField
    else if rqKind b.d = 0 || rqKind b.d = 2 then s
    else
      let reads := b.laterReads named
      if reads.isEmpty then
        (s.modReq h (fun r => { r with intake := match r.intake with
          | .text rej _ => .text rej (some [])
          | .assembly a _ => .assembly a true
          | x => x })).intakeTask h (hIndex h) r.priority r.ticket r.intake.cls
      else s.hfpIssue (hTerr h) (.intakeRead h reads)

/-- REQ_SUBMIT behind checks 1 to 6 of R95. -/
def State.reqSubmit (s : State) (src : Src) (c : Bytes) (arrival : Tick) (rd_ : SubmitReads) : State :=
  let tk := ticketOf src c
  let t := hTerr (cHandle c)
  match s.terrace t with
  | none => s.refuse tk stSTALE_HANDLE noField
  | some te =>
    if subReadError rd_ then s.refuse tk stDATA_ERROR noField
    else
      let b := mkSub c rd_
      match s.subChk2 te src b with
      | some (st, off) => s.refuse tk st off
      | none => match te.subTokens (s.curVer b.vocab) b with
        | some (st, off, r0) => s.complete tk kONLY st tk.handle 0 off r0 0
        | none => match te.subChk3 b with
          | some (st, off) => s.refuse tk st off
          | none => match s.subChk4 te b with
            | some (st, r0) => (s.admitFail t st).complete tk kONLY st tk.handle 0 noField r0 0
            | none =>
              let i := Tbl.fresh te.reqs
              let h := s.handleOf t tyReq i
              let r := s.mkReq te src b h arrival
              match s.admission te i h r with
              | .error (st, r0) =>
                ((s.stopFull te i h r).admitFail t st).complete tk kONLY st tk.handle 0 noField r0 0
              | .ok (reg, moved) =>
                let s := s.modT t (fun te => { te.modRegion rkSTOP (fun _ => reg) with
                  reqs := te.reqs.put i r
                  starters := if r.starter = 0 then te.starters
                    else te.starters.mod (hIndex r.starter) (fun x => { x with users := x.users + 1 }) })
                let s := (s.count cRIDDLE_MOVE t te.quadLoc moved).tally cREQ_ADMITTED t
                let s := (b.objects.filter (· ≠ 0)).foldl State.engage s
                (s.first tk h).startIntake h b (te.slotNames (rqTemplate b.d))

def execReqSubmit (src : Src) (c : Bytes) (rd_ : SubmitReads) (s : State) : Host.Outcome State Fault Refusal :=
  .next (s.command shREQ_SUBMIT (shREQ_SUBMIT.row c) src c (fun _ => chkReqSubmit c)
    (fun s' => s'.reqSubmit src c (s.arrival src) rd_))

/-- What intake reads after admission has arrived: its task becomes ready (R273). -/
def State.intakeRead (s : State) (h : Handle) (d : HostData) : State :=
  match s.req h with
  | none => s
  | some r =>
    if r.state ≠ rsADMIT_WAIT || r.cancel then s
    else match d with
      | .parts ps =>
        (s.modReq h (fun r => { r with intake := match r.intake with
          | .text rej _ => .text rej (some ps.flatten)
          | .assembly a _ => .assembly { a with slots := (fillSlots a.slots ps).1 } true
          | x => x })).intakeTask h (hIndex h) r.priority r.ticket r.intake.cls
      | _ => s.intakeFail h stDATA_ERROR noField

/-! ### INTAKE_COMPLETE (R375) -/

/-- What the last stage of intake gives: the prompt's own tokens, the failure that ends it, and the work to count. -/
structure PromptOut where
  toks  : List Tok := []
  fail  : Option Failure := none
  stats : SiftStats := {}
  asm   : Option (AsmWork × List KSeq) := none

/-- The prompt's own tokens, or the failing stage's status. -/
def Terrace.promptTokens (te : Terrace) (r : Req) : PromptOut :=
  match r.intake with
  | .tokens ts => { toks := ts }
  | .text rej (some b) => match te.vocab r.vocab r.pins.vocab with
    | none => { fail := some (stINTERNAL, noField, 0) }
    | some v =>
      let x := sift v false b
      match rej, x.2 with
      | true, some off => { fail := some (stBAD_FORMAT, noField, off) }
      | _, _ => { toks := x.1.toks.map (·.tok), stats := x.1.stats }
  | .assembly a true => match te.asmWork r.template r.vocab r.store r.pins.template r.pins.vocab r.pins.store a with
    | none => { fail := some (stINTERNAL, noField, 0) }
    | some w =>
      let k := assemble w.base w.segs w.slots w.passages a.budget
      if w.fail.isSome then { fail := w.fail, asm := some (w, []) }
      else if k.isOver then { fail := some (stBAD_FIELD, 64, 0), asm := some (w, [k]) }
      else { toks := k.toks, asm := some (w, [k]) }
  | _ => { fail := some (stINTERNAL, noField, 0) }

/-- The work of an intake stage is counted at the core that ran it; no token of a prompt enters a record (R219, R247, R265). -/
def State.promptCount (s : State) (t core : Nat) (x : PromptOut) : State :=
  let s := s.siftCount t core x.stats
  match x.asm with
  | some (w, ks) => (s.asmCount t core w).kneadCount t core false ks
  | none => s

/-- Why a finished prompt ends its request: no token, or too many positions (R7, R272). DEDUCED, log entry 48. -/
def Req.promptFail (r : Req) (n : Nat) : Chk :=
  Chk.first [field (n != 0) 96, field (n + r.maxNew ≤ maxPos) 32]

/-- Stage 3 of an assembled prompt runs on its core: the Kneader's task follows, or the request ends (R37). -/
def State.siftStage (s : State) (k : Task) (core : Nat) (h : Handle) : State :=
  match s.req h with
  | none => s
  | some r => match r.intake, (s.terrace k.terr).bind (fun te => te.vocab r.vocab r.pins.vocab) with
    | .assembly a true, some v =>
      let x := siftSlots v a.reject a.slots
      let s := s.siftCount k.terr core x.2.2
      match x.1 with
      | some (st, off, _) => s.intakeFail h st off
      | none => ((((s.chargeTask k).dropTask k.id).modReq h (fun r => { r with intake := .assembly { a with slots := x.2.1 } true })).intakeTask
          h (hIndex h) r.priority r.ticket 2)
    | _, _ => s

/-- The intake task of a request runs on a core and has what it reads in T0. -/
def State.intakeRuns (s : State) (h : Handle) : Bool :=
  s.tasks.any (fun k => k.isIntake h && k.core.isSome && k.ran)

/-- The intake work is done: no task, or one whose lines are all at hand. -/
def State.intakeReady (s : State) (h : Handle) (r : Req) : Bool :=
  match r.intake with
  | .tokens _ => true
  | .none => false
  | .assembly a _ => !a.hasText && s.intakeRuns h
  | .text _ _ => s.intakeRuns h

/-- The entry moves to QUEUED with its grammar start state (R375), or ends with the failing stage's status (R269, R272).
DEDUCED, log entry 48. -/
def State.intakeComplete (s : State) (t idx : Nat) : State :=
  match s.terrace t with
  | none => s
  | some te => match te.reqs.get idx with
    | none => s
    | some r =>
      let h := mkHandle t tyReq idx r.gen
      if r.build.isSome || r.state ≠ rsADMIT_WAIT || r.cancel || !s.intakeReady h r then s
      else
        let core := ((s.tasks.find? (Task.isIntake h)).bind (·.core)).getD te.firstCore
        let x := te.promptTokens r
        let ts := x.toks
        let s := s.promptCount t core x
        match x.fail, r.promptFail (te.starterLen r.starter + ts.length) with
        | some (st, off, _), _ => s.intakeFail h st off
        | none, some (st, off) => s.intakeFail h st off
        | none, none =>
            let s := s.stopIntake h
            let start := match te.automaton r.grammar r.pins.grammar with
              | some (v, _) => if r.grammar = 0 then 0 else gStart v.header
              | none => 0
            let s := s.modReq h (fun r => { r with
              state := rsQUEUED, prompt := ts, promptLen := te.starterLen r.starter + ts.length, gstate := start
              intake := .none })
            if start = 0 then s else s.maskFill r.grammar r.pins.grammar start (s.aheadBay t r) 0

def execIntakeComplete (t idx : Nat) (s : State) : Host.Outcome State Fault Refusal := .next (s.intakeComplete t idx)

/-! ### REQ_CANCEL (R290, R292) -/

def shREQ_CANCEL : Shape where
  op := 0x31
  body := fun c => [rz c 16 32]
  handles := fun _ => [⟨8, [tyReq], false, false⟩]

/-- REQ_CANCEL (R290, R292): the mark is set and intake stops. DEDUCED, log entry 29. -/
def State.reqCancel (s : State) (src : Src) (c : Bytes) : State :=
  let h := cHandle c
  let s := s.stopIntake h
  (s.modReq h (fun r => { r with cancel := true })).only (ticketOf src c) stOK h 0 0

def execReqCancel (src : Src) (c : Bytes) (s : State) : Host.Outcome State Fault Refusal :=
  .next (s.command shREQ_CANCEL (shREQ_CANCEL.row c) src c (fun _ => none) (fun s => s.reqCancel src c))

/-! ### REQ_AMEND (R293) -/

def amask (c : Bytes) (i : Nat) : Bool := bit (rd c 16 1) i

def shREQ_AMEND : Shape where
  op := 0x32
  body := fun c => [rm c 16 1 0xF0, if amask c 0 then rm c 17 1 0xF8 else rz c 17 1, rz c 18 6,
    if amask c 1 then none else rz c 24 8, if amask c 2 then none else rz c 32 8, if amask c 3 then none else rz c 40 4, rz c 44 4]
  xbody := fun c => [rm c 48 4 0xFFFFFFFC, rz c 52 12]
  handles := fun _ => [⟨8, [tyReq], false, false⟩]

def amendDrop (c : Bytes) : Bool := cExp c && bit (rd c 48 4) 0

def chkReqAmend (c : Bytes) : Chk :=
  Chk.first [field (rd c 16 1 % 16 != 0 || amendDrop c) 16,
    field (!amask c 3 || decide (1 ≤ rd c 40 4 ∧ rd c 40 4 ≤ maxPos)) 40]

def State.reqAmend (s : State) (src : Src) (c : Bytes) : State :=
  let tk := ticketOf src c
  let h := cHandle c
  let a : Amend := { ticket := { tk with handle := h }, mask := rd c 16 1 % 16, priority := rd c 17 1, dlFirst := rd c 24 8
                     dlEnd := rd c 32 8, maxNew := rd c 40 4, setDrop := amendDrop c, drop := bit (rd c 48 4) 1 }
  (s.first tk h).modReq h (fun r => { r with amends := r.amends ++ [a] })

def execReqAmend (src : Src) (c : Bytes) (s : State) : Host.Outcome State Fault Refusal :=
  .next (s.command shREQ_AMEND (shREQ_AMEND.row c) src c (fun _ => chkReqAmend c) (fun s => s.reqAmend src c))

/-! ### REQ_QUERY (R295) -/

def shREQ_QUERY : Shape where
  op := 0x33
  body := fun c => [rz c 24 24]
  handles := fun _ => [⟨8, [tyReq], false, true⟩]
  addrs := [16]

/-- REQ_QUERY (R295). DEDUCED, log entry 29. -/
def State.reqQuery (s : State) (src : Src) (c : Bytes) : State :=
  let tk := ticketOf src c
  let h := cHandle c
  match s.req h with
  | none => s.refuse tk stSTALE_HANDLE noField
  | some r =>
    let b := r.entry h
    if rd c 16 8 = 0 then s.only tk stOK h (entryResult0 b) (entryResult1 b)
    else (s.defer tk).hfpIssue (hTerr h) (.queryWrite tk (rd c 16 8) b (entryResult0 b) (entryResult1 b))

def execReqQuery (src : Src) (c : Bytes) (s : State) : Host.Outcome State Fault Refusal :=
  .next (s.command shREQ_QUERY (shREQ_QUERY.row c) src c (fun _ => field (rd c 16 8 % 64 == 0) 16) (fun s => s.reqQuery src c))

end Sys2Proof.Machine
end

