-- ==== Sys2Proof/Machine/Pool.lean ====
section
/-! DEFINITION. The page pool and the Starters (R298 to R321): POOL_CONFIG, STARTER_CREATE and STARTER_RELEASE, and the
Starter directory of R166. -/

namespace Sys2Proof.Machine

/-! ### POOL_CONFIG (R300, R301) -/

def opPOOL : Nat := 0x0C

def shPOOL_CONFIG : Shape where
  op := opPOOL
  body := fun c =>
    let op := rd c 16 1
    [rc c 16 2, if op = 0 then rc c 17 4 else rz c 17 1, rz c 18 2] ++
    (if op = 2 then [rz c 20 4, rz c 24 4, rz c 28 4] else [rm c 20 4 0xFF000000]) ++ [rz c 32 16]
  handles := fun _ => [⟨8, [tyTerrace], false, false⟩]

def chkPoolConfig (c : Bytes) : Chk :=
  field (rd c 16 1 = 2 || (1 ≤ rd c 24 4 && rd c 20 4 + rd c 24 4 ≤ 2 ^ 24)) 24

def cRun (c : Bytes) : Run := ⟨rd c 20 4, rd c 24 4⟩

def Run.meets (a b : Run) : Bool := a.first < b.first + b.count && b.first < a.first + a.count

def Pool.all (p : Pool) : List Run := p.ranges ++ p.newRanges

/-- Does a range overlap any pool's of the block (R299)? -/
def State.rangeTaken (s : State) (r : Run) : Bool :=
  s.terr.any (fun te => match te.2.pool with | some p => p.all.any (·.meets r) | none => false)

/-- Run-store entries assigned to no terrace (R303). -/
def State.runsLeft (s : State) : Nat :=
  s.cfg.runStore - sumBy (fun te => match te.2.pool with | some p => p.runs | none => 0) s.terr

/-- Why a POOL_CONFIG fails (R301); RUNS above the run store asks for more than a fixed limit (R9). -/
def State.poolFail (s : State) (te : Terrace) (c : Bytes) : Chk :=
  if rd c 16 1 ≠ 2 && s.cfg.runStore < rd c 28 4 then some (stBAD_FIELD, 28) else
  match rd c 16 1, te.pool with
  | 1, some p => Chk.first [field (!s.rangeTaken (cRun c)) 20, field (p.all.length < 4) 16, cond (rd c 28 4 ≤ s.runsLeft) stNO_RESOURCE]
  | 2, some _ => cond (te.heldRuns.isEmpty && te.starters.isEmpty) stNOT_PERMITTED
  | 0, none => Chk.first [field (!s.rangeTaken (cRun c)) 20, cond (rd c 28 4 ≤ s.runsLeft) stNO_RESOURCE]
  | 0, some _ => some (stNOT_PERMITTED, noField)
  | _, _ => some (stSTALE_HANDLE, noField)

/-- The effect of a POOL_CONFIG that passed its checks. -/
def State.poolSet (s : State) (t : Nat) (c : Bytes) : State :=
  match rd c 16 1 with
  | 0 => s.modT t (fun te => { te with pool := some ⟨s.genOf t tyPool 0, rd c 17 1, [cRun c], [], rd c 28 4⟩ })
  | 1 => s.modT t (fun te => { te with pool := te.pool.map (fun p =>
      { p with newRanges := p.newRanges ++ [cRun c], runs := p.runs + rd c 28 4 }) })
  | _ => (s.modT t (fun te => { te with pool := none })).bumpGen t tyPool 0

def State.poolConfig (s : State) (src : Src) (c : Bytes) : State :=
  let tk := ticketOf src c
  let t := hTerr (cHandle c)
  match s.terrace t with
  | none => s.refuse tk stSTALE_HANDLE noField
  | some te =>
    match s.poolFail te c with
    | some (st, off) => s.refuse tk st off
    | none =>
      let h := s.handleOf t tyPool 0
      let s := s.poolSet t c
      match s.terrace t with
      | some te => s.only tk stOK h ((te.pool.map (fun p => runsCount p.all)).getD 0) (if te.pool.isSome then te.freePages else 0)
      | none => s

def State.poolCommand (s : State) (row : Bool) (src : Src) (c : Bytes) : State :=
  s.command shPOOL_CONFIG (shPOOL_CONFIG.row c && row) src c (fun _ => chkPoolConfig c) (fun s => s.poolConfig src c)

/-- CREATE, and the reserved OP values, which check 3 rejects. -/
def execPoolConfigCreate (src : Src) (c : Bytes) (s : State) : Host.Outcome State Fault Refusal :=
  .next (s.poolCommand (rd c 16 1 != 1 && rd c 16 1 != 2) src c)

def execPoolConfigAddRange (src : Src) (c : Bytes) (s : State) : Host.Outcome State Fault Refusal :=
  .next (s.poolCommand (rd c 16 1 == 1) src c)

def execPoolConfigDelete (src : Src) (c : Bytes) (s : State) : Host.Outcome State Fault Refusal :=
  .next (s.poolCommand (rd c 16 1 == 2) src c)

/-! ### The Starter directory and region (R165, R166) -/

/-- Content digest (R312). -/
def starterDigest (uid ver psize : Nat) (ts : List Tok) : Bytes := sha256 (le 8 uid ++ le 2 ver ++ le 1 psize ++ tokKey ts)

def Terrace.digestOf (te : Terrace) (vocab : Handle) (ver : Nat) (ts : List Tok) : Bytes :=
  starterDigest (((te.objVer vocab ver).map (fun v => hdUid v.header)).getD 0) ver ((te.pool.map (·.psize)).getD 0) ts

/-- Row position of a Starter in the STARTER region. -/
def Region.starterRow (r : Region) (i : Nat) : Option Nat := findIdx (fun x => x.rstate ≠ rrEMPTY && x.value = i) r.rows

/-- Buckets of a directory with room for the Starter quota. DESIGN CHOICE, log entry 148. -/
def Terrace.dirBuckets (te : Terrace) : Nat := max 1 te.desc.starterQuota

/-- The two buckets a digest may lie in (R166). DESIGN CHOICE, log entry 148. -/
def Terrace.dirChoices (te : Terrace) (d : Bytes) : Nat × Nat :=
  let h := keyHash te.dirSalt none d
  ((h.extractLsb' 0 32).toNat % te.dirBuckets, (h.extractLsb' 32 32).toNat % te.dirBuckets)

def Terrace.bucketLoad (te : Terrace) (b : Nat) : Nat := (te.starterDir.filter (fun e => e.bucket = b)).length

/-- Look a digest up in its two buckets. -/
def Terrace.dirFind (te : Terrace) (d : Bytes) : Option Nat :=
  let b := te.dirChoices d
  (te.starterDir.find? (fun e => (e.bucket = b.1 || e.bucket = b.2) && e.digest == d)).map (·.index)

/-- The entry of a Starter comes to the front, or enters the less loaded of its two buckets. DEDUCED, log entry 126. -/
def Terrace.touchStarter (te : Terrace) (d : Bytes) (i : Nat) : Terrace :=
  let b := te.dirChoices d
  let new : DirEntry := ⟨if te.bucketLoad b.2 < te.bucketLoad b.1 then b.2 else b.1, d, i⟩
  { te with starterDir := (te.starterDir.find? (fun e => e.index = i)).getD new :: te.starterDir.filter (fun e => e.index != i) }

/-- Insert a digest's row; where no row is EMPTY, the one longest without a hit is removed first (R166, R174). DEDUCED, log
entry 126. -/
def Terrace.cacheStarter (te : Terrace) (d : Bytes) (i : Nat) : Terrace :=
  te.modRegion rkSTARTER (fun r =>
    let r := if (firstEmpty r.rows 0).isSome then r
      else match (te.starterDir.reverse.filterMap (fun e => r.starterRow e.index)).head? with
        | some p => { r with rows := applySteps r.rows (removeSteps p (r.rows.getD p emptyRow)) }
        | none => r
    match firstEmpty r.rows 0 with
    | none => r
    | some p => { r with rows := applySteps r.rows (updateSteps p (r.rows.getD p emptyRow) (mkRow (keyHash r.salt none d) 32 i 0)) })

/-- A Starter leaves the directory and the region. -/
def Terrace.forgetStarter (te : Terrace) (i : Nat) : Terrace :=
  { te.modRegion rkSTARTER (fun r => r.remove (fun x => x.value = i)) with
    starterDir := te.starterDir.filter (fun e => e.index != i) }

/-- Find a READY Starter by digest: the region, then the directory (R166). A terrace without a STARTER_QUOTA has neither. -/
def State.findStarter (s : State) (t : Nat) (d : Bytes) : State × Option Nat :=
  match s.terrace t with
  | none => (s, none)
  | some te =>
    match te.region rkSTARTER with
    | none => (s, none)
    | some r =>
      let x := searchFirst r.rows [mkProbe r.salt none d] (fun row => (te.starters.get row.value).map (·.digest))
      let s := s.searched t (locQuad 0) x.2
      match x.1 with
      | some (_, row) => (s.modT t (fun te => te.touchStarter d row.value), some row.value)
      | none =>
        let s := s.count cSTARTER_COLD_LOOKUP t (locQuad 0) 1
        match te.dirFind d with
        | some i => (s.modT t (fun te => (te.cacheStarter d i).touchStarter d i), some i)
        | none => (s, none)

/-- A Starter becomes READY and enters the directory and the region. -/
def State.starterReady (s : State) (t i : Nat) (f : Starter → Starter) : State :=
  s.modT t (fun te =>
    let te := { te with starters := te.starters.mod i (fun x => { f x with state := stREADY }) }
    match te.starters.get i with
    | some x => (te.cacheStarter x.digest i).touchStarter x.digest i
    | none => te)

/-- The slots of a Starter and of the handles matched with it are freed. -/
def State.freeStarter (s : State) (t i : Nat) : State :=
  match s.terrace t with
  | none => s
  | some te =>
    let gone := (te.starters.filter (fun x => x.1 = i || x.2.other = some i)).map (·.1)
    s.forEach gone (fun s j =>
      (s.modT t (fun te => { te.forgetStarter j with starters := te.starters.del j })).bumpGen t tyStarter j)

/-- FINAL of a STARTER_CREATE that made or matched a Starter (R313). -/
def State.starterFinal (s : State) (t i : Nat) (tk : Ticket) (shared : Bool) : State :=
  match s.terrace t with
  | none => s
  | some te =>
    let l := (((te.starters.get (te.starterIx i)).map (fun x => x.toks.length))).getD 0
    s.final tk stOK tk.handle 0 noField (l + 2 ^ 32 * (l / te.pageSize)) (b2n shared)

/-- An existing Starter is matched: one more holder, or none where the count is full (R316). DEDUCED, log entry 54. -/
def State.matchStarter (s : State) (t i : Nat) : Option State :=
  match (s.terrace t).bind (fun te => te.starters.get i) with
  | none => none
  | some x =>
    if 65535 ≤ x.holds then none
    else some ((s.modT t (fun te => { te with starters := te.starters.mod i (fun x => { x with holds := x.holds + 1 }) })).tally
      cSTARTER_MATCH t)

/-! ### STARTER_CREATE (R313 to R316) -/

def isFrom (c : Bytes) : Bool := rd c 16 1 == 1

def shSTARTER_CREATE : Shape where
  op := 0x34
  body := fun c =>
    [rc c 16 1, if isFrom c then rz c 17 1 else rm c 17 1 0xF8, rz c 18 2, if isFrom c then none else rz c 20 4,
     if isFrom c then rz c 24 8 else none, rz c 36 12]
  handles := fun c => ⟨8, [tyVocab], false, false⟩ :: (if isFrom c then [⟨20, [tyReq], false, false⟩] else [])
  addrs := [24]

/-- Fields of STARTER_CREATE SPAN (R314). DEDUCED, log entry 54. -/
def chkSpan (c : Bytes) : Chk :=
  Chk.first [field (rd c 24 8 % 4 == 0) 24, field (decide (1 ≤ rd c 32 4 ∧ rd c 32 4 ≤ maxPos)) 32]

/-- The checks of R314 step 3 on quotas and pages: status and RESULT0. -/
def State.spanFail (s : State) (te : Terrace) (len : Nat) : Option (Nat × Nat) :=
  let need := ceilDiv len te.pageSize
  let next := te.nextBoundary s.tick
  let total := te.committedNeed + need
  if te.desc.starterQuota ≤ te.starters.length || te.t1Free < tokLines len then some (stNO_RESOURCE, 0)
  else if te.desc.reqQuota ≤ te.reqs.length then some (stRETRY_AFTER, next)
  else if te.desc.budget < need then some (stNO_RESOURCE, 0)
  else if te.desc.budget < total then
    some (stRETRY_AFTER, retryTick next (te.predictedEnds s.tick) (total - te.desc.budget))
  else none

/-- The build of a SPAN Starter occupies a request-table entry (R314). -/
def State.spanBuild (s : State) (te : Terrace) (src : Src) (c : Bytes) (ts : List Tok) (digest : Bytes) : State :=
  let t := hTerr (cHandle c)
  let v := cHandle c
  let ver := s.curVer v
  let i := Tbl.fresh te.starters
  let h := s.handleOf t tyStarter i
  let j := Tbl.fresh te.reqs
  let tk := { ticketOf src c with handle := h }
  let x : Starter := { gen := hGen h, state := stBUILDING, holds := 1, users := 0, vocab := v, ver := ver, toks := ts, link := none
                       runs := [], digest := digest, ticket := some tk, fromReq := none, cancel := false }
  let r : Req := { gen := s.genOf t tyReq j, state := rsQUEUED, priority := rd c 17 1, promptLen := ts.length, maxNew := 0
                   arrival := s.tick, vocab := v, pins := { vocab := ver }, prompt := ts, ticket := tk, build := some i
                   pageNeed := ceilDiv ts.length te.pageSize }
  (((s.modT t (fun te => { te with starters := te.starters.put i x, reqs := te.reqs.put j r })).engage v).pinStarter v ver).first tk h

/-- SPAN behind checks 1 to 6 of R95 (R314). DEDUCED, log entry 54. -/
def State.starterSpan (s : State) (src : Src) (c : Bytes) (toks : HostRead) : State :=
  let tk := ticketOf src c
  let t := hTerr (cHandle c)
  let v := cHandle c
  match s.terrace t, s.usable [v], toks with
  | none, _, _ => s.refuse tk stSTALE_HANDLE noField
  | _, some (st, r0), _ => s.complete tk kONLY st tk.handle 0 noField r0 0
  | some te, none, toks =>
    let s := s.heal t
    if te.pool.isNone then s.refuse tk stNOT_PERMITTED noField
    else match toks, te.vocab v (s.curVer v) with
      | .error, _ => s.refuse tk stDATA_ERROR noField
      | _, none => s.refuse tk stINTERNAL noField
      | .okay b, some vb =>
        let ts := (toTokens b).take (rd c 32 4)
        match badToken vb ts with
        | some p => s.complete tk kONLY stBAD_FIELD tk.handle 0 24 p 0
        | none =>
          let d := te.digestOf v (s.curVer v) ts
          let f := s.findStarter t d
          let s := f.1
          match f.2 with
          | some i =>
            match s.matchStarter t i with
            | none => s.refuse tk stNO_RESOURCE noField
            | some s =>
              let h := s.handleOf t tyStarter i
              (s.first tk h).starterFinal t i { tk with handle := h } true
          | none =>
            match s.spanFail te ts.length with
            | some (st, r0) => s.complete tk kONLY st tk.handle 0 noField r0 0
            | none => s.spanBuild te src c ts d

/-- FROM_REQUEST at intake (R315). DEDUCED, log entry 54. -/
def State.starterFrom (s : State) (src : Src) (c : Bytes) : State :=
  let tk := ticketOf src c
  let t := hTerr (cHandle c)
  let q := rd c 20 4
  match s.terrace t, s.req q with
  | some te, some r =>
    if te.pool.isNone then s.refuse tk stNOT_PERMITTED noField
    else if r.vocab ≠ cHandle c then s.refuse tk stBAD_FIELD 20
    else if r.capture.isSome then s.refuse tk stNOT_PERMITTED noField
    else if r.starter ≠ 0 && 8 ≤ te.chainLen (hIndex r.starter) then s.refuse tk stBAD_FIELD 20
    else if te.desc.starterQuota ≤ te.starters.length then s.refuse tk stNO_RESOURCE noField
    else
      let i := Tbl.fresh te.starters
      let h := s.handleOf t tyStarter i
      let tk := { tk with handle := h }
      let x : Starter := { gen := hGen h, state := stBUILDING, holds := 1, users := 0, vocab := r.vocab, ver := r.pins.vocab
                           toks := [], link := none, runs := [], digest := [], ticket := some tk, fromReq := some (hIndex q)
                           cancel := false }
      let s := (s.modT t (fun te => { te with starters := te.starters.put i x })).modReq q (fun r =>
        { r with capture := some (i, rd c 32 4, tk) })
      (s.pinStarter r.vocab r.pins.vocab).first tk h
  | _, _ => s.refuse tk stSTALE_HANDLE noField

/-- SPAN, and the reserved SKIND values, which check 3 rejects. -/
def execStarterCreateSpan (src : Src) (c : Bytes) (toks : HostRead) (s : State) : Host.Outcome State Fault Refusal :=
  .next (s.command shSTARTER_CREATE (shSTARTER_CREATE.row c && !isFrom c) src c (fun _ => chkSpan c)
    (fun s => s.starterSpan src c toks))

def execStarterCreateFromRequest (src : Src) (c : Bytes) (s : State) : Host.Outcome State Fault Refusal :=
  .next (s.command shSTARTER_CREATE (shSTARTER_CREATE.row c && isFrom c) src c (fun _ => field (rd c 32 4 ≤ maxPos) 32)
    (fun s => s.starterFrom src c))

/-! ### STARTER_RELEASE (R318) -/

def shSTARTER_RELEASE : Shape where
  op := 0x35
  body := fun c => [rz c 16 32]
  handles := fun _ => [⟨8, [tyStarter], false, false⟩]

/-- The holder of a Starter gives it back. -/
def State.dropHold (s : State) (t i : Nat) (x : Starter) : State :=
  let n := x.holds - 1
  let s := s.modT t (fun te => { te with starters := te.starters.mod i (fun x =>
    { x with holds := n, state := if x.state = stREADY && n = 0 then stRELEASED else x.state }) })
  if x.state = stREADY && n = 0 then s.modT t (fun te => te.forgetStarter i) else s

/-- A build is cancelled: at the next boundary, or a capture at once. DEDUCED, log entry 54. -/
def State.cancelBuild (s : State) (t i : Nat) (x : Starter) : State :=
  match x.fromReq with
  | none =>
    s.modT t (fun te => { te with
      starters := te.starters.mod i (fun x => { x with cancel := true, holds := 0 })
      reqs := te.reqs.mapVals (fun _ r => if r.build = some i then { r with cancel := true } else r) })
  | some j =>
    let s := s.modT t (fun te => { te with reqs := te.reqs.mod j (fun r =>
      if (r.capture.map (·.1)) = some i then { r with capture := none } else r) })
    let s := (s.freeStarter t i).unpinStarter x.vocab x.ver
    match x.ticket with
    | some tk => s.final tk stCANCELLED tk.handle 0 noField 0 0
    | none => s

def State.starterRelease (s : State) (src : Src) (c : Bytes) : State :=
  let tk := ticketOf src c
  let t := hTerr (cHandle c)
  match s.terrace t with
  | none => s.refuse tk stSTALE_HANDLE noField
  | some te =>
    let i := te.starterIx (hIndex (cHandle c))
    match te.starters.get i with
    | none => s.refuse tk stSTALE_HANDLE noField
    | some x =>
      let s := s.only tk stOK tk.handle (x.holds - 1) x.users
      if x.state = stBUILDING then s.cancelBuild t i x else s.dropHold t i x

def execStarterRelease (src : Src) (c : Bytes) (s : State) : Host.Outcome State Fault Refusal :=
  .next (s.command shSTARTER_RELEASE (shSTARTER_RELEASE.row c) src c (fun _ => none) (fun s => s.starterRelease src c))

end Sys2Proof.Machine
end

