-- ==== Sys2Proof/Machine/Growth.lean ====
section
/-! DEFINITION. Live slots, victims and page growth at a boundary (R286 to R289, R303 to R308, R320). -/

namespace Sys2Proof.Machine

/-! ### What a boundary has done so far -/

/-- Rows planned for an owner, and the prompt positions among them. -/
structure Plan where
  rows  : List Row
  chunk : Nat
deriving DecidableEq, Repr

/-- What part 1 committed of an owner's draws: each with its byte count and TFLAGS, the bytes released, the output offset
before them, replacements, bytes cut, and drafts among the tokens. -/
structure Commit where
  toks  : List (DrawRec × Nat × Nat) := []
  bytes : Bytes := []
  off   : Nat := 0
  repl  : Nat := 0
  cut   : Nat := 0
  acc   : Nat := 0
deriving DecidableEq, Repr

/-- A boundary in progress: the closed step, the requests with records waiting from an earlier boundary, the entries that
were DONE when it began, the page notices made, what was committed, and the rows planned. -/
structure Bd where
  s       : State
  t       : Nat
  closed  : Option Step
  held    : List Handle
  doneOld : List Nat
  notices : List Notice := []
  commits : Tbl Commit := []
  plans   : Tbl Plan := []
  /-- Owners that the run quota left short, each with the state that makes this the boundary's outcome for it (R303). -/
  runsFull : List (Nat × Nat) := []

def Bd.on (b : Bd) (f : State → State) : Bd := { b with s := f b.s }

def Bd.mod (b : Bd) (i : Nat) (f : Req → Req) : Bd := b.on (fun s => s.modT b.t (fun te => te.modReq i f))

def Bd.tally (b : Bd) (c : Cause) : Bd := b.on (fun s => s.tally c b.t)

/-- Run `f` on the terrace. -/
def Bd.withT (b : Bd) (f : Terrace → Bd) : Bd :=
  match b.s.terrace b.t with
  | none => b
  | some te => f te

/-- Run `f` on one owner. -/
def Bd.withReq (b : Bd) (i : Nat) (f : Terrace → Req → Bd) : Bd :=
  match (b.s.terrace b.t).bind (fun te => (te.reqs.get i).map (fun r => (te, r))) with
  | none => b
  | some (te, r) => f te r

/-- Run `f` on the owners as they stand, in service order. -/
def Bd.each (b : Bd) (f : Bd → Nat → Bd) : Bd := ((((b.s.terrace b.t).map Terrace.service).getD []).foldl f b)

/-- The Table engine refuses a change that R269 does not list: the entry stays as it is, a fault report is filed at block level,
and the request ends at the next boundary (R270). -/
def Bd.refuse (b : Bd) (i : Nat) : Bd :=
  b.withReq i (fun _ r => (b.mod i (fun r => { r with illegal := true })).on (fun s =>
    s.fault fcFIRMWARE b.t locBlock noCause 0 (mkHandle b.t tyReq i r.gen) 0))

/-- Go on with a change of owner `i` to state `st` if R269 lists it. -/
def Bd.check (b : Bd) (i st : Nat) (f : Terrace → Req → Bd) : Bd :=
  b.withReq i (fun te r => if legalMove r.state st then f te r else b.refuse i)

/-- Prompt rows still allowed: k less the chunks planned (R329). -/
def Bd.kleft (b : Bd) (te : Terrace) : Nat := te.sp.k - sumBy (fun p => p.2.chunk) b.plans

def Bd.rowCount (b : Bd) : Nat := sumBy (fun p => p.2.rows.length) b.plans

/-- Release own pages of an owner beyond the first `keep` (R307, R308). -/
def Bd.release (b : Bd) (i keep : Nat) : Bd :=
  b.withT (fun te =>
    let x := te.release b.t i keep
    let n := sumBy (fun q : Notice => q.2.1) x.2
    { b.on (fun s => (s.modT b.t (fun _ => x.1)).count cPOOL_FREE b.t locBlock n) with notices := b.notices ++ x.2 })

/-! ### Victims (R286 to R288) -/

/-- A victim set in the making: the terrace with it, the notices it makes, the requests pre-empted, those marked
PAGES_RELEASED, and the first victim, whose slot is taken and whose pages come last. -/
structure Room where
  te      : Terrace
  notices : List Notice := []
  spilled : List Nat := []
  freed   : List Nat := []
  first   : Option Nat := none

def Terrace.liveUsed (te : Terrace) : Nat := (te.reqs.filter (fun r => r.2.liveSlot)).length

def Terrace.slotFree (te : Terrace) : Bool := te.liveUsed < te.desc.liveSlots

/-- Lines that a request's live state takes in T1 (R288). DESIGN CHOICE, log entry 117. -/
def Req.spillSize (r : Req) : Nat := Config.spillLines r.counts.length

/-- The request gives up its live slot; its live state goes to T1. DEDUCED, log entry 75. -/
def Req.spill (r : Req) : Req :=
  { r with state := rsSPILLED, back := if r.state = rsSTALLED then r.back else r.state, stall := 0, liveSlot := false
           specLen := r.committed, drafts := [], hasDrafts := false, spillT1 := r.spillSize }

/-- Requests of strictly lower priority, in reverse service order. -/
def Terrace.lower (te : Terrace) (i prio : Nat) : List (Nat × Req) :=
  (te.service.reverse.filter (fun j => j ≠ i)).filterMap (fun j =>
    (te.reqs.get j).bind (fun r => if r.priority < prio && r.endReason = 0 then some (j, r) else none))

/-- May the request be pre-empted: joined, and its spill fits the T1 quota? -/
def Terrace.eligible (te : Terrace) (r : Req) : Bool := r.joined && r.spillSize ≤ te.t1Free

/-- Pre-empt request `j`. -/
def Room.spill (x : Room) (j : Nat) : Room :=
  { x with te := x.te.modReq j (fun r => { r.spill with preempts := r.preempts + 1 }), spilled := x.spilled ++ [j] }

/-- Release every own page of request `j` and mark it. -/
def Room.free (x : Room) (t j : Nat) : Room :=
  let y := x.te.release t j 0
  { x with te := y.1.modReq j (fun r => { r with pagesRel := true }), notices := x.notices ++ y.2, freed := x.freed ++ [j] }

/-- The next request whose pages can be had: a SPILLED one, then a further victim; the first victim keeps its pages for as
long as another has any (R286). DEDUCED, log entry 68. -/
def Room.next (x : Room) (i prio : Nat) : Option (Nat × Bool) :=
  let l := (x.te.lower i prio).filter (fun p => !p.2.runs.isEmpty)
  match l.find? (fun p => p.2.state = rsSPILLED && x.first ≠ some p.1) with
  | some p => some (p.1, false)
  | none => match l.find? (fun p => x.te.eligible p.2) with
    | some p => some (p.1, true)
    | none => (l.find? (fun p => x.first = some p.1)).map (fun p => (p.1, false))

/-- Release pages until the allocation succeeds; `fuel` bounds the requests asked. DEDUCED, log entry 68. -/
def Room.pages (t i prio : Nat) (want : Terrace → Option Terrace) : Nat → Room → Option Room
  | 0, _ => none
  | n + 1, x =>
    match want x.te with
    | some te => some { x with te := te }
    | none => match x.next i prio with
      | none => none
      | some (j, pre) => Room.pages t i prio want n ((if pre then x.spill j else x).free t j)

/-- Room for owner `i`: a live slot where it needs one, and the whole of an allocation; none where no victim set gives it,
and then nobody is pre-empted. DEDUCED, log entry 68. -/
def Terrace.makeRoom (te : Terrace) (t i prio : Nat) (slot : Bool) (want : Terrace → Option Terrace) : Option Room :=
  let fuel := te.reqs.length + 1
  if slot && !te.slotFree then
    match (te.lower i prio).find? (fun p => te.eligible p.2) with
    | none => none
    | some p => Room.pages t i prio want fuel (Room.spill { te := te, first := some p.1 } p.1)
  else Room.pages t i prio want fuel { te := te }

/-- The pre-empted request whose spill write still holds the live slot that a joining owner takes; none where a slot is idle
(R288). -/
def Bd.slotOwner (b : Bd) (te : Terrace) : Option Handle :=
  let out := b.s.mp.filterMap (fun o => match o.kind with
    | .spillWrite h => if hTerr h = b.t && !te.reqs.any (fun r => r.2.slotAfter = some h) then some h else none
    | _ => none)
  if te.liveUsed + out.length < te.desc.liveSlots then none else out.head?

/-- A victim set is put into force: notices, counters and spill writes; the victims carry no row. -/
def Bd.apply (b : Bd) (x : Room) (pages : Nat) : Bd :=
  let t := b.t
  let freed := sumBy (fun q : Notice => q.2.1) x.notices
  let s := b.s.modT t (fun _ => x.te)
  let s := ((((s.count cPOOL_FREE t locBlock freed).count cPOOL_ALLOC t locBlock pages).count cPREEMPT t locBlock
    x.spilled.length).count cPREEMPT_PAGES t locBlock x.freed.length)
  let s := s.forEach x.spilled (fun s j =>
    s.mpOwn t (.spillWrite (mkHandle t tyReq j (((x.te.reqs.get j).map (·.gen)).getD 0))))
  { b with s := s, notices := b.notices ++ x.notices, plans := b.plans.filter (fun p => !x.spilled.contains p.1) }

/-! ### Shortage (R303, R320) -/

/-- Would an allocation of `n` pages stop at the run quota while a page is free? -/
def Terrace.runsShort (te : Terrace) (i : Nat) : Nat → Bool
  | 0 => false
  | n + 1 =>
    match te.alloc i 1 with
    | some te' => te'.runsShort i n
    | none => te.lowestFree.isSome

/-- An owner deferred or stalled for lack of pages or runs; `out` is the state it stays in. -/
def Bd.short (b : Bd) (i n out : Nat) : Bd :=
  b.withT (fun te =>
    let b := b.tally cPOOL_SHORT
    if te.runsShort i n && !b.runsFull.contains (i, out) then { b with runsFull := b.runsFull ++ [(i, out)] } else b)

/-- RUNS_FULL counts the owners whose final outcome of the boundary is the stall or the deferral (R303). -/
def Bd.countRuns (b : Bd) : Bd :=
  b.withT (fun te => b.on (fun s => s.count cRUNS_FULL b.t locBlock
    (b.runsFull.filter (fun x => (te.reqs.get x.1).map (·.state) = some x.2)).length))

/-! ### Rows (R329, R330, R344) -/

/-- A row of an owner at a position. DEDUCED, log entry 74. -/
def Terrace.mkRowAt (te : Terrace) (t i : Nat) (r : Req) (kind p : Nat) (tok : Tok) (g : Nat) : Row where
  owner := te.ownerHandle t i r
  idx := i
  pos := p
  tok := tok
  page := te.pageAt r p
  link := if te.sharedPages r.starter = 0 then 0 else te.starterRef r.starter
  kind := kind
  nt := if kind = 0 then 0 else ceilDiv (te.vocabSize r) 256
  gstate := if kind = 0 then 0 else g

/-- Positions and kinds of the rows an owner gets, and its chunk (R329 steps 3 and 4). A request that has committed its
whole prompt already, because a Starter covers it, has its one row at PROMPT_LEN − 1. DEDUCED, log entry 76. -/
def Req.rowPlan (r : Req) (kleft : Nat) : List (Nat × Nat) × Nat :=
  if r.state = rsDECODE then ([(r.committed - 1, 1)], 0)
  else if r.state ≠ rsPREFILL then ([], 0)
  else
    let n := min (r.target - r.prefilled) kleft
    if r.target ≤ r.prefilled && r.build.isNone then ([(r.target - 1, 1)], 0)
    else ((List.range n).map (fun k =>
      (r.prefilled + k, if r.prefilled + k + 1 = r.target && r.build.isNone then 1 else 0)), n)

/-- Pages that rows up to position `p` need beyond those held (R306). -/
def Terrace.growthFor (te : Terrace) (r : Req) (p : Nat) : Nat :=
  p / te.pageSize + 1 - te.sharedPages r.starter - runsCount r.runs

/-- Plan the rows of an owner whose pages cover them. -/
def Bd.place (b : Bd) (i : Nat) : Bd :=
  b.withReq i (fun te r =>
    let x := r.rowPlan (b.kleft te)
    { b with plans := b.plans.put i ⟨x.1.map (fun y => te.mkRowAt b.t i r y.2 y.1 (te.tokAt r y.1) r.gstate), x.2⟩ })

/-- Last position that an owner's base rows reach. -/
def Req.lastPos (r : Req) (kleft : Nat) : Option Nat := ((r.rowPlan kleft).1.getLast?).map (·.1)

/-- Pages that an owner's base rows ask for. -/
def Terrace.growth (te : Terrace) (r : Req) (kleft : Nat) : Nat :=
  match r.lastPos kleft with
  | some p => te.growthFor r p
  | none => 0

end Sys2Proof.Machine
end

