-- ==== Sys2Proof/Machine/Commit.lean ====
section
/-! DEFINITION. Parts 1 to 5 of a boundary (R283, R326, R327): what a closed step commits, cancellation, deadlines, the end
of requests and Starter builds, their records (R436, R437), and rollback. -/

namespace Sys2Proof.Machine

/-! ### Part 1: commit -/

/-- TFLAGS of a drawn token, CUT aside (R435). DEDUCED, log entry 65. -/
def Terrace.tokFlags (te : Terrace) (r : Req) (d : DrawRec) : Nat :=
  let v := te.vocab r.vocab r.pins.vocab
  let row := v.bind (fun v => v.all.find? (fun x => x.id = d.tok))
  b2n ((row.map (·.control)).getD false) + 2 * b2n ((row.map (·.fallback)).getD false)
    + 4 * b2n (d.tok = te.endTok r.vocab r.pins.vocab) + 16 * b2n (d.dkind = dkFORCED)

/-- Commit token number `n` of an owner's result, and test the end reasons in the order of R327. -/
def Terrace.commitTok (te : Terrace) (h : Handle) (res : OwnerRes) (x : Req × Commit) (n : Nat) (d : DrawRec) :
    Req × Commit :=
  let r := x.1
  let c := x.2
  let endTok := te.endTok r.vocab r.pins.vocab
  let f := te.feed h r r.slicer d.tok
  let g := te.nextState r endTok r.gstate d.tok
  let stop := if (res.stop.map (·.1)) = some n then res.stop.map (·.2) else none
  let r := { r with
    history := r.history ++ [d.tok], committed := r.committed + 1, generated := r.generated + 1, gstate := g
    counts := r.counts.put d.tok ((r.counts.get d.tok).getD 0 + 1), slicer := f.1.st }
  let c := { c with
    toks := c.toks ++ [(d, (te.outBytes r d.tok).length, te.tokFlags r d + 8 * b2n stop.isSome)]
    bytes := c.bytes ++ f.1.out, repl := c.repl + f.2, cut := c.cut + f.1.cut, acc := c.acc + b2n (n < res.acc) }
  let r :=
    if d.tok = endTok then r.endWith erEND_TOKEN stOK
    else match stop with
      | some k => { r.endWith erSTOP_STRING stOK with stopIndex := k, endOffset := r.slicer.offset }
      | none =>
        if te.terminal r g then r.endWith erGRAMMAR_ACCEPT stOK
        else if r.maxNew ≤ r.generated then r.endWith erMAX_TOKENS stOK
        else r
  (r, c)

/-- Commit tokens until one ends the owner. -/
def Terrace.commitToks (te : Terrace) (h : Handle) (res : OwnerRes) : Nat → List DrawRec → Req × Commit → Req × Commit
  | _, [], x => x
  | n, d :: ds, x => if x.1.endReason ≠ 0 then x else te.commitToks h res (n + 1) ds (te.commitTok h res x n d)

/-- Prompt rows of a step for an owner, the SAMPLE row at the last prompt position included. DEDUCED, log entry 73. -/
def promptRows (f : Step) (i : Nat) (r : Req) : Nat :=
  if r.state ≠ rsPREFILL then 0
  else (f.rows.filter (fun x => x.idx = i && x.pos < r.target && r.prefilled ≤ x.pos)).length

/-- Commit the prompt rows of an owner: lengths and token history. -/
def Req.commitPrompt (r : Req) (start n : Nat) : Req :=
  let p := r.prefilled + n
  if r.committed < p then { r with prefilled := p, committed := p, history := r.prompt.take (p - start) }
  else { r with prefilled := p }

/-- Counters of what was committed. -/
def State.commitCount (s : State) (t : Nat) (c : Commit) (r : Req) : State :=
  let s := (((s.count cSLICE_TOKENS t locBlock c.toks.length).count cSLICE_BYTES t locBlock c.bytes.length).count
    cSLICE_REPLACED t locBlock c.repl).count cSTOP_CUT_BYTES t locBlock c.cut
  let s := s.count cDRAFT_ACCEPTED t locBlock c.acc
  let s := if r.endReason = erSTOP_STRING then s.tally cSTOP_HIT t else s
  if r.endReason = erGRAMMAR_ACCEPT then s.tally cGRAMMAR_ACCEPT t else s

/-- The request of an owner that reported tokens, once those it keeps are committed (R283, R334). -/
def Step.settle (f : Step) (i now : Nat) (res : OwnerRes) (gen : Bool) (r : Req) : Req :=
  let r := if gen then { r with state := rsDECODE, firstAt := if r.firstAt = 0 then now else r.firstAt } else r
  let r := match res.err with
    | some st => r.endWith erERROR st
    | none => r
  let r := { r with specLen := max r.specLen r.committed }
  let ds := (f.drafts.get i).getD []
  if r.draftSrc = 1 then { r with drafts := ds, hasDrafts := !ds.isEmpty, draftBase := r.committed } else r

/-- The tokens an owner's rows reported are committed. DEDUCED, log entry 57. -/
def Bd.commitRes (f : Step) (b : Bd) (i : Nat) (te : Terrace) (h : Handle) (r : Req) (res : OwnerRes) : Bd :=
  let x := te.commitToks h res 0 res.toks (r, { off := r.slicer.offset })
  let gen := !x.2.toks.isEmpty
  let r := f.settle i b.s.tick res gen x.1
  let b := b.mod i (fun q => { r with lastStep := q.lastStep })
  { b.on (fun s => s.commitCount b.t x.2 r) with commits := if gen then b.commits.put i x.2 else b.commits }

/-- The rows of an owner that are not withdrawn: prompt positions, then tokens. -/
def Bd.commitRows (f : Step) (b : Bd) (i : Nat) (te : Terrace) (r : Req) : Bd :=
  let h := mkHandle b.t tyReq i r.gen
  let old := r.committed
  let r := r.commitPrompt (te.starterLen r.starter) (promptRows f i r)
  let b := b.mod i (fun q => { r with lastStep := q.lastStep })
  let b := if r.draftSrc = 1 && old < r.committed then b.on (fun s => s.echoKeys b.t i old r.committed []) else b
  if r.build.isSome then
    if r.promptLen ≤ r.prefilled then b.mod i (fun r => r.endWith erMAX_TOKENS stOK) else b
  else match f.res.get i with
    | none => b.mod i (fun r => { r with specLen := max r.specLen r.committed })
    | some res => b.commitRes f i te h r res

/-- Part 1 for one owner with rows in the closed step; an owner in no state that has rows is refused (R270). DEDUCED, log
entry 71. -/
def Bd.commitOwner (f : Step) (b : Bd) (i : Nat) : Bd :=
  b.withReq i (fun te r =>
    if !f.rows.any (fun x => x.idx = i) then b
    else
      let b := b.mod i (fun r => { r with lastStep := f.id })
      if f.failed || (f.withdrawn.get i).isSome || r.endReason ≠ 0 then b
      else if r.state = rsPREFILL || r.state = rsDECODE then b.commitRows f i te r else b.refuse i)

/-- Errors found since the last boundary end their requests before anything is committed (R269, R270). DEDUCED, log entry
52. -/
def Bd.doom (b : Bd) (i : Nat) : Bd :=
  b.withReq i (fun _ r =>
    if !r.admitted then b
    else if r.illegal then b.mod i (fun r => r.endWith erERROR stINTERNAL)
    else match r.doom with
      | some st => b.mod i (fun r => r.endWith erERROR st)
      | none => b)

def Bd.part1 (b : Bd) : Bd :=
  let b := b.each Bd.doom
  match b.closed with
  | some f => b.each (Bd.commitOwner f)
  | none => b

/-! ### Parts 2 and 3 -/

/-- Cancellation, of every request where the terrace is being destroyed (R283, R291, R467). DEDUCED, log entry 67. -/
def Bd.cancel (b : Bd) (i : Nat) : Bd :=
  b.withReq i (fun te r =>
    if !r.admitted then b
    else if r.endReason ≠ 0 then
      if r.cancel && r.build.isNone then (b.mod i (fun r => { r with cancelLate := true })).tally cREQ_CANCEL_LATE else b
    else if r.cancel || te.destroyStep = 1 then b.mod i (fun r => r.endWith erCANCELLED stCANCELLED)
    else b)

/-- Deadlines (R284, R285). -/
def Bd.deadline (b : Bd) (i : Nat) : Bd :=
  b.withReq i (fun _ r =>
    let now := b.s.tick
    let late := (r.dlFirst ≠ 0 && r.firstAt = 0 && r.dlFirst < now) || (r.dlEnd ≠ 0 && r.dlEnd < now)
    if !r.admitted || r.late || !late then b
    else
      let b := (b.mod i (fun r => { r with late := true })).tally cREQ_LATE
      if r.dropLate && r.endReason = 0 then
        (b.mod i (fun r => r.endWith erDROPPED_LATE stDEADLINE_INFEASIBLE)).tally cREQ_DROPPED_LATE
      else b)

/-! ### Part 4: the end of owners -/

/-- The FINAL of a STARTER_CREATE that makes no Starter: its slot is freed. -/
def State.starterFail (s : State) (t i : Nat) (st off : Nat) : State :=
  match (s.terrace t).bind (fun te => te.starters.get i) with
  | none => s
  | some x =>
    let s := (s.freeStarter t i).unpinStarter x.vocab x.ver
    match x.ticket with
    | some tk => s.final tk st tk.handle 0 off 0 0
    | none => s

/-- A SPAN build ends: its pages pass to the Starter, or are released (R314); with no output to write, DRAINING passes to
DONE as the FINAL is written (R269). DEDUCED, log entry 71. -/
def Bd.endBuild (b : Bd) (i x : Nat) (r : Req) : Bd :=
  let ok := r.endStatus = stOK && r.endReason = erMAX_TOKENS
  let b := if ok then b else b.release i 0
  let b := b.on (fun s => s.unpin r.vocab r.pins.vocab)
  let tk := (b.s.terrace b.t).bind (fun te => (te.starters.get x).bind (·.ticket))
  let b := b.mod i (fun r => { r with runs := [], hasList := false, liveSlot := false, spillT1 := 0, state := rsDRAINING, endAt := b.s.tick
                                      endedRec := true })
  let b := b.on (fun s =>
    if ok then
      let s := s.starterReady b.t x (fun y => { y with runs := r.runs, ticket := none })
      match tk with | some tk => s.starterFinal b.t x tk false | none => s
    else s.starterFail b.t x r.endStatus noField)
  b.mod i (fun r => { r with state := rsDONE })

/-- A FROM_REQUEST capture at the end of its request (R315, R316). DEDUCED, log entry 54. -/
def Bd.capture (b : Bd) (te : Terrace) (i : Nat) (r : Req) (x len : Nat) (tk : Ticket) : Bd :=
  let l := if len = 0 then r.committed else min len r.committed
  if r.endStatus ≠ stOK && r.endStatus ≠ stCANCELLED then b.on (fun s => s.starterFail b.t x r.endStatus noField)
  else if l < te.sharedPos r.starter then b.on (fun s => s.starterFail b.t x stBAD_FIELD 32)
  else
    let toks := (List.range l).map (te.tokAt r)
    let ver := ((te.starters.get x).map (·.ver)).getD 0
    let d := te.digestOf r.vocab ver toks
    let f := b.s.findStarter b.t d
    let b := { b with s := f.1 }
    match f.2 with
    | some j => match b.s.matchStarter b.t j with
      | none => b.on (fun s => s.starterFail b.t x stNO_RESOURCE noField)
      | some s =>
        let s := (s.modT b.t (fun te => { te with starters := te.starters.mod x (fun y =>
          { y with state := stREADY, other := some j, ticket := none, fromReq := none, holds := 0 }) })).unpinStarter r.vocab ver
        { b with s := s.starterFinal b.t x tk true }
    | none =>
      let own := splitRuns (ceilDiv l te.pageSize - te.sharedPages r.starter) r.runs
      let link := if r.starter = 0 then none else some (hIndex r.starter)
      let b := b.mod i (fun r => { r with runs := own.2 })
      let b := b.on (fun s => s.modT b.t (fun te => match link with
        | some j => { te with starters := te.starters.mod j (fun y => { y with users := y.users + 1 }) }
        | none => te))
      b.on (fun s => (s.starterReady b.t x (fun y =>
        { y with toks := toks, link := link, runs := own.1, digest := d, ticket := none, fromReq := none })).starterFinal b.t x tk false)

/-- Versions a request has pinned. -/
def Req.pinned (r : Req) : List (Handle × Nat) :=
  [(r.vocab, r.pins.vocab), (r.grammar, r.pins.grammar), (r.bias, r.pins.bias), (r.profile, r.pins.profile),
   (r.template, r.pins.template), (r.store, r.pins.store)].filter (fun p => p.1 ≠ 0)

/-- Part 4 for one owner that has ended: capture, pages, Starter link, pins; it moves to DRAINING. -/
def Bd.endOwner (b : Bd) (i : Nat) : Bd :=
  b.withReq i (fun te r =>
    if r.endReason = 0 || r.endedRec then b
    else b.check i (max r.state rsDRAINING) (fun _ _ =>
      match r.build with
      | some x => b.endBuild i x r
      | none =>
        let h := mkHandle b.t tyReq i r.gen
        let b := match r.capture with
          | some (x, len, tk) => b.capture te i r x len tk
          | none => b
        let b := b.release i 0
        let b := b.on (fun s => s.stopIntake h)
        let b := b.on (fun s => if r.starter = 0 then s else s.modT b.t (fun te =>
          { te with starters := te.starters.mod (hIndex r.starter) (fun x => { x with users := x.users - 1 }) }))
        let b := b.on (fun s => s.forEach r.pinned (fun s p => s.unpin p.1 p.2))
        b.mod i (fun r => { r with state := max r.state rsDRAINING, endAt := if r.endAt = 0 then b.s.tick else r.endAt, liveSlot := false
                                   spillT1 := 0, spillWait := false, capture := none, drafts := [], hasDrafts := false, stall := 0
                                   intake := .none, slotAfter := none })))

/-- The entries that were DONE are freed with their stop rows (R179, R269). -/
def Bd.freeDone (b : Bd) (i : Nat) : Bd :=
  if !b.doneOld.contains i then b
  else b.on (fun s => (s.modT b.t (fun te =>
    { te.modRegion rkSTOP (fun g => g.remove (fun x => x.value = i)) with reqs := te.reqs.del i })).bumpGen b.t tyReq i)

/-- A Starter without holders or users gives up its pages, its link and its slot (R318). -/
def Bd.freeStarter (b : Bd) (i : Nat) : Bd :=
  b.withT (fun te => match te.starters.get i with
    | none => b
    | some x =>
      if x.state = stBUILDING || x.other.isSome || x.holds ≠ 0 || x.users ≠ 0 then b
      else
        let h := mkHandle b.t tyStarter i x.gen
        let s := b.s.count cPOOL_FREE b.t locBlock (runsCount x.runs)
        let s := s.modT b.t (fun te => match x.link with
          | some j => { te with starters := te.starters.mod j (fun y => { y with users := y.users - 1 }) }
          | none => te)
        { b with s := (s.freeStarter b.t i).unpinStarter x.vocab x.ver, notices := b.notices ++ x.runs.map (freeNotice h) })

/-- Idle Starters are released until none is left: a link dropped may free another. -/
def Bd.idleStarters (b : Bd) : Nat → Bd
  | 0 => b
  | n + 1 =>
    let ids := ((b.s.terrace b.t).map (fun te => te.starters.keys)).getD []
    (ids.foldl Bd.freeStarter b).idleStarters n

/-! ### Records (R436, R437) -/

/-- The record of one owner at a boundary, for those that have one. -/
def Bd.record (b : Bd) (i : Nat) (r : Req) : Rec :=
  let c := (b.commits.get i).getD { off := r.slicer.offset }
  let ended := r.endReason ≠ 0
  let fl := if ended && r.endReason ≠ erSTOP_STRING then r.slicer.flush else ([], 0)
  { req := mkHandle b.t tyReq i r.gen, reqIdx := i, tag := r.tag
    flags := 4 * b2n ended + 8 * b2n r.late + 16 * b2n r.cancelLate + 32 * b2n r.drawRecs + 64 * b2n (c.repl + fl.2 ≠ 0)
      + 128 * b2n (r.endReason = erSTOP_STRING)
    step := if c.toks.isEmpty then 0xFFFFFFFF else ((b.closed.map (·.id)).getD 0xFFFFFFFF)
    tick := b.s.tick, firstGen := r.generated - c.toks.length
    toks := c.toks.map (fun x => (x.1.tok, x.1.aflags, x.2.1, x.2.2)), draws := if r.drawRecs then c.toks.map (·.1) else []
    bytes := c.bytes ++ fl.1, endReason := r.endReason, endStatus := r.endStatus, stopIndex := r.stopIndex, outOff := c.off
    aflags := c.toks.foldl (fun a x => afOr a x.1.aflags) 0, endOff := if ended then r.endOffset else 0, generated := r.generated }

/-- Owners with a record at this boundary, in row order of the closed step, then in service order. -/
def Bd.recordOwners (b : Bd) (te : Terrace) : List Nat :=
  let rows := match b.closed with | some f => (f.rows.map (fun (x : Row) => x.idx)).eraseDups | none => []
  let all := rows.filter (fun i => (te.reqs.get i).isSome) ++ te.service.filter (fun i => !rows.contains i)
  all.filter (fun i => match te.reqs.get i with
    | some r => r.build.isNone && !r.endedRec && ((b.commits.get i).isSome || r.endReason ≠ 0)
    | none => false)

/-- Form and push the record of one owner; a request whose stream is in ERROR ends without one (R444). -/
def Bd.pushOwner (last : List Nat) (b : Bd) (i : Nat) : Bd :=
  b.withReq i (fun te r =>
    let ended := r.endReason ≠ 0
    let err := ((te.streams.get (hIndex r.stream)).map (·.err)).getD true
    let h := mkHandle b.t tyReq i r.gen
    let x := b.record i r
    let b := b.mod i (fun r => { r with endedRec := ended, slicer := if ended then {} else r.slicer })
    if err then (if ended then b.on (fun s => s.reqFinalError h) else b)
    else
      let fl := x.bytes.length - ((b.commits.get i).map (fun c => c.bytes.length)).getD 0
      let b := b.on (fun s => (s.count cSLICE_BYTES b.t locBlock fl).count cSLICE_REPLACED b.t locBlock
        (if ended && r.endReason ≠ erSTOP_STRING then r.slicer.flush.2 else 0))
      b.on (fun s => s.pushRecord r.stream { x with flags := x.flags + 2 * b2n (last.contains i) }))

def Bd.records (b : Bd) : Bd :=
  b.withT (fun te =>
    let os := b.recordOwners te
    let streamOf := fun i => ((te.reqs.get i).map (·.stream)).getD 0
    let last := os.filter (fun i => (os.reverse.find? (fun j => streamOf j = streamOf i)) = some i)
    os.foldl (Bd.pushOwner last) b)

def Bd.part4 (b : Bd) : Bd :=
  let b := (b.each Bd.endOwner).records
  let b := b.each Bd.freeDone
  b.idleStarters 9

/-! ### Part 5: rollback (R308) -/

def Bd.rollback (b : Bd) (i : Nat) : Bd :=
  b.withReq i (fun te r =>
    if r.endReason ≠ 0 || r.specLen ≤ r.committed then b
    else (b.mod i (fun r => { r with specLen := r.committed })).release i
      (max r.pageNeed (ceilDiv r.committed te.pageSize - te.sharedPages r.starter)))

end Sys2Proof.Machine
end

