-- ==== Sys2Proof/Machine/Boundary.lean ====
section
/-! DEFINITION. Boundary processing (R283, R322 to R337): parts 6 to 8, the messages a boundary sends, the journal record
it leaves (R537, R538), the quiesce boundary (R491), and the boundary as a whole. -/

namespace Sys2Proof.Machine

/-! ### Part 6: posted changes -/

/-- Outcome of an amendment on a request that goes on (R294). DEDUCED, log entry 70. -/
def Terrace.amendChk (te : Terrace) (r : Req) (a : Amend) : Chk :=
  let need := te.needOf { r with maxNew := a.maxNew } r.promptLen
  if !bit a.mask 3 then none
  else if r.pageNeed < need && te.desc.budget < te.committedNeed - r.pageNeed + need then some (stNO_RESOURCE, noField)
  else field (r.generated < a.maxNew && r.promptLen + a.maxNew ≤ maxPos) 40

/-- A request with an amendment applied (R294). DEDUCED, log entry 70. -/
def Terrace.amended (te : Terrace) (r : Req) (a : Amend) : Req :=
  let r := { r with
    priority := if bit a.mask 0 then a.priority else r.priority
    dlFirst := if bit a.mask 1 then a.dlFirst else r.dlFirst
    dlEnd := if bit a.mask 2 then a.dlEnd else r.dlEnd
    maxNew := if bit a.mask 3 then a.maxNew else r.maxNew
    dropLate := if a.setDrop then a.drop else r.dropLate }
  if bit a.mask 3 then { r with pageNeed := te.needOf r r.promptLen } else r

/-- One amendment in intake order (R103, R107, R294). DEDUCED, log entry 70. -/
def Bd.amend (i : Nat) (b : Bd) (a : Amend) : Bd :=
  b.withReq i (fun te r =>
    let h := mkHandle b.t tyReq i r.gen
    let fin := fun (b : Bd) st off => b.on (fun s => s.final a.ticket st h 0 off 0 0)
    if r.endReason = erCANCELLED then fin b stCANCELLED noField
    else if r.endReason ≠ 0 then fin b stNOT_ACTIVE noField
    else match te.amendChk r a with
      | some (st, off) => fin b st off
      | none => fin (b.mod i (fun r => te.amended r a)) stOK noField)

def Bd.amends (b : Bd) (i : Nat) : Bd :=
  b.withReq i (fun _ r =>
    if r.amends.isEmpty then b else r.amends.foldl (Bd.amend i) (b.mod i (fun r => { r with amends := [] })))

/-- A request moves to the new version of an object (R141). -/
def Bd.switch1 (h : Handle) (num : Nat) (b : Bd) (i : Nat) : Bd :=
  b.withReq i (fun _ r =>
    if r.build.isSome || r.endReason ≠ 0 || !r.admitted then b
    else
      let old := if hType h = tyBias then r.pins.bias else if hType h = tyProfile then r.pins.profile else r.pins.vocab
      let named := if hType h = tyBias then r.bias else if hType h = tyProfile then r.profile else r.vocab
      if h ≠ named || old = num then b
      else
        let pins := if hType h = tyBias then { r.pins with bias := num }
          else if hType h = tyProfile then { r.pins with profile := num } else { r.pins with vocab := num }
        let b := b.mod i (fun r => { r with pins := pins })
        b.on (fun s => (s.pin h num).unpin h old))

/-- The moves posted, in order; a version passed over by a later one retires once the moves are done. -/
def Bd.switches (b : Bd) : Bd :=
  b.withT (fun te =>
    let b := te.switches.foldl (fun b x => b.each (Bd.switch1 x.1 x.2)) b
    b.on (fun s => (s.modT b.t (fun te => { te with switches := [] })).forEach te.switches (fun s x => s.settleObj x.1)))

/-- A posted STEP_PORT_CONFIG SET applies; one that ends a force starts the window of R357 again. DEDUCED, log entry 63. -/
def StepPort.settle (p : StepPort) : StepPort :=
  match p.posted with
  | none => p
  | some c => { p with
      cur := c, posted := none, cap := if c.kMax = p.cur.kMax then p.cap else c.kMax
      forced := false, breachWin := if p.forced then [] else p.breachWin }

def Bd.part6 (b : Bd) : Bd :=
  let b := (b.each Bd.amends).switches
  b.on (fun s => s.modSp b.t StepPort.settle)

/-! ### Part 7: growth and drafts -/

/-- The owner stalls with a cause (R287). DEDUCED, log entry 69. -/
def Bd.stall (b : Bd) (i code : Nat) : Bd :=
  b.check i rsSTALLED (fun _ _ => b.mod i (fun r => { r with back := r.state, state := rsSTALLED, stall := code, satOut := false }))

/-- Grow a continuing owner to its base rows, or stall it (R287, R306). -/
def Bd.grow (b : Bd) (i : Nat) : Bd :=
  b.withReq i (fun te r =>
    let n := te.growth r (b.kleft te)
    if n = 0 then b.place i
    else match te.makeRoom b.t i r.priority false (fun te => te.alloc i n) with
      | some x => (b.apply x n).place i
      | none => (b.short i n rsSTALLED).stall i scPOOL_SHORT)

/-- A request with ACCEL_DRAFT at its boundary: a stale set is discarded; it sits out, or goes on (R334). DEDUCED, log entry
66. -/
def Bd.accel (b : Bd) (i : Nat) (r : Req) : Bd × Bool :=
  if r.draftSrc ≠ 2 || r.state ≠ rsDECODE then (b, false)
  else
    let usable := r.hasDrafts && r.draftBase = r.committed
    let b := if r.hasDrafts && !usable then
      (b.mod i (fun r => { r with drafts := [], hasDrafts := false })).tally cDRAFT_STALE else b
    let had := match b.closed with | some f => f.rows.any (fun x => x.idx = i) | none => false
    if usable || r.satOut || !had then (b.mod i (fun r => { r with satOut := false }), false)
    else ((b.mod i (fun r => { r with satOut := true })).tally cDRAFT_WAIT, true)

/-- Part 7 for one owner. -/
def Bd.continue (b : Bd) (i : Nat) : Bd :=
  b.withReq i (fun _ r =>
    if r.endReason ≠ 0 || (r.state ≠ rsPREFILL && r.state ≠ rsDECODE) then b
    else match b.closed.bind (fun f => f.withdrawn.get i) with
      | some code => b.stall i code
      | none =>
        if b.held.contains (mkHandle b.t tyReq i r.gen) then b.stall i scSTREAM_FULL
        else
          let x := b.accel i r
          if x.2 then x.1 else x.1.grow i)

/-- Drafts of one owner (R331, R335). -/
def Bd.draft (b : Bd) (i : Nat) : Bd :=
  b.withReq i (fun te r =>
    match b.plans.get i with
    | none => b
    | some p =>
      let b := b.mod i (fun r => { r with drafts := [], hasDrafts := false })
      if r.state ≠ rsDECODE || p.rows.isEmpty || !r.hasDrafts || r.draftBase ≠ r.committed then b
      else
        let walk := te.chainWalk r (te.endTok r.vocab r.pins.vocab) r.gstate r.drafts
        let b := b.on (fun s => s.count cCHAIN_CUT b.t locBlock (r.drafts.length - walk.1.length))
        let cover := (te.sharedPages r.starter + runsCount r.runs) * te.pageSize - r.committed
        let d := min (min walk.1.length r.draftMax) (min (r.maxNew - r.generated - 1)
          (min (te.sp.cur.rowsMax - b.rowCount - b.kleft te) cover))
        let rows := (List.range d).map (fun k =>
          te.mkRowAt b.t i r 2 (r.committed + k) (walk.1.getD k 0) (walk.2.getD k 0))
        let b := { b with plans := b.plans.put i { p with rows := p.rows ++ rows } }
        let b := b.mod i (fun r => { r with specLen := r.committed + d })
        if r.grammar = 0 then b
        else b.on (fun s => s.forEach (walk.2.take d) (fun s g =>
          s.maskFill r.grammar r.pins.grammar g (s.aheadBay b.t r) (mkHandle b.t tyReq i r.gen))))

/-- Ranges added to the pool become free for allocation (R301). -/
def Bd.openRanges (b : Bd) : Bd :=
  b.on (fun s => s.modT b.t (fun te => { te with pool := te.pool.map (fun p =>
    { p with ranges := p.ranges ++ p.newRanges, newRanges := [] }) }))

def Bd.part7 (b : Bd) : Bd := (b.openRanges.each Bd.continue).each Bd.draft

/-! ### Part 8: joins -/

/-- Has the cause of a stall gone (R287)? -/
def State.stallOver (s : State) (t i : Nat) (te : Terrace) (r : Req) : Bool :=
  let h := mkHandle t tyReq i r.gen
  if r.stall = scOBJ_QUARANTINE then r.pinned.all (fun p => s.atHand p.1 p.2)
  else if r.stall = scENTROPY_HALT then !s.spring.failed && te.drbg.live
  else if r.stall = scSTREAM_FULL then te.streams.all (fun x => x.2.waiting.all (fun y => y.req ≠ h))
  else if r.stall = scFILL_LATE then
    !r.spillWait && r.slotAfter.isNone && s.mp.all (fun o => match o.kind with | .reqFill q => q ≠ h | _ => true)
  else true

/-- A STALLED owner goes on where its cause has gone and its pages can grow. DEDUCED, log entry 69. -/
def Bd.unstall (b : Bd) (i : Nat) : Bd :=
  b.withReq i (fun te r =>
    if !b.s.stallOver b.t i te r then b
    else b.check i r.back (fun _ _ =>
      let n := te.growth { r with state := r.back } (b.kleft te)
      match te.alloc i n with
      | none => (b.short i n rsSTALLED).mod i (fun r => { r with stall := scPOOL_SHORT })
      | some te' =>
        ((b.on (fun s => (s.modT b.t (fun _ => te')).count cPOOL_ALLOC b.t locBlock n)).mod i (fun r =>
          { r with state := r.back, stall := 0 })).place i))

/-- The first own page receives the Starter's partial last page (R305). -/
def Bd.copyPage (b : Bd) (i : Nat) : Bd :=
  b.withReq i (fun te r =>
    let l := te.starterLen r.starter
    let n := l % te.pageSize
    if n = 0 then b
    else
      let src := (te.chainPage 16 (hIndex r.starter) (l / te.pageSize)).getD 0
      { b.tally cPAGE_COPY with notices := b.notices ++ [(2, n, mkHandle b.t tyReq i r.gen, src, (runPage r.runs 0).getD 0)] })

/-- A SPILLED request resumes (R289); one whose pages were released takes the need of its whole token history, or of its
prompt where that is longer, and PAGE_NEED stays as the join set it (R274). DEDUCED, log entry 69. -/
def Bd.resume (b : Bd) (i : Nat) : Bd :=
  b.withReq i (fun te r => b.check i (if r.pagesRel then rsPREFILL else r.back) (fun _ _ =>
    let need := te.needOf r r.target
    let n := if r.pagesRel then need else te.growth { r with state := r.back } (b.kleft te)
    match te.makeRoom b.t i r.priority true (fun te => te.alloc i n) with
    | none => if (te.alloc i n).isNone then b.short i n rsSPILLED else b
    | some x =>
      let b := b.apply x n
      let from_ := b.slotOwner x.te
      let b := b.mod i (fun q =>
        let q := { q with liveSlot := true, spillWait := true, slotAfter := from_ }
        if r.pagesRel then { q with state := rsPREFILL, prefilled := te.starterLen r.starter, pagesRel := false }
        else { q with state := q.back })
      let b := (b.tally cRESUME).on (fun s => s.mpOwn b.t (.spillRead (mkHandle b.t tyReq i r.gen)))
      let b := if r.pagesRel then b.copyPage i else b
      b.place i))

/-- Counts of the prompt and the Starter, entered at the join under COUNT_SCOPE 1 (R393). -/
def Terrace.joinCounts (te : Terrace) (r : Req) : Tbl Nat :=
  if (te.profile r).countScope = 0 then r.counts
  else (List.range r.promptLen).foldl (fun c p => let t := te.tokAt r p; c.put t ((c.get t).getD 0 + 1)) r.counts

/-- A QUEUED request joins (R286, R305, R317). -/
def Bd.join (b : Bd) (i : Nat) : Bd :=
  b.withReq i (fun te r => b.check i rsPREFILL (fun _ _ =>
    let need := te.needOf r r.promptLen
    if r.pageNeed < need && te.desc.budget < te.committedNeed - r.pageNeed + need then b
    else match te.makeRoom b.t i r.priority true (fun te => te.alloc i need) with
      | none => if (te.alloc i need).isNone then b.short i need rsQUEUED else b
      | some x =>
        let b := b.apply x need
        let from_ := b.slotOwner x.te
        let b := b.mod i (fun q => { q with
          state := rsPREFILL, liveSlot := true, slotAfter := from_, pageNeed := need, counts := if r.build.isSome then [] else te.joinCounts r })
        let b := if r.starter = 0 then b
          else ((b.tally cSTARTER_JOIN).on (fun s => s.mpOwn b.t (.starterToks r.starter))).copyPage i
        b.place i))

/-- One entry of the part 8 list, if it still stands in the state it had when the list was made (R328). -/
def Bd.admitOne (b : Bd) (x : Nat × Nat) : Bd :=
  b.withReq x.1 (fun _ r =>
    if r.endReason ≠ 0 || r.state ≠ x.2 then b
    else if x.2 = rsSTALLED then b.unstall x.1
    else if x.2 = rsSPILLED then b.resume x.1
    else b.join x.1)

/-- Part 8: the waiting entries in service order (R328). DEDUCED, log entry 69. -/
def Bd.part8 (b : Bd) : Bd :=
  b.withT (fun te =>
    let l := te.service.filterMap (fun i => (te.reqs.get i).bind (fun r =>
      if r.state = rsSPILLED || r.state = rsSTALLED || r.state = rsQUEUED then some (i, r.state) else none))
    (l.foldl Bd.admitOne b).countRuns)

/-! ### The quiesce boundary (R491) -/

/-- The FINAL of a POWER_SLEEP; interrupt source 21 follows once it is written, on the sideband at once (R116, R494). -/
def State.sleepFinal (s : State) (st r0 r1 : Nat) : State :=
  match s.sleep.ticket with
  | none => s
  | some tk =>
    let s := { s with sleep := { s.sleep with ticket := none } }.final tk st tk.handle 0 noField r0 r1
    if tk.src = .sideband then s.raise 21 else s

/-- Entry to a sleep state stops and the block goes on (R491). -/
def State.sleepStop (s : State) (st r0 : Nat) : State :=
  { s with sleep := { s.sleep with phase := .awake, code := 0, spilled := [] } }.sleepFinal st r0 0

/-- Spill one joined owner for sleep; one whose live state does not fit stops the entry. -/
def Bd.sleepSpill (b : Bd) (i : Nat) : Bd :=
  b.withReq i (fun te r =>
    if !r.joined || r.endReason ≠ 0 || b.s.sleep.phase ≠ .quiesce then b
    else if te.eligible r then
      (b.mod i Req.spill).on (fun s => (s.tally cSLEEP_SPILL noTerr).mpOwn b.t
        (.spillWrite (mkHandle b.t tyReq i r.gen)))
    else b.on (fun s => s.sleepStop stNO_RESOURCE b.t))

def Bd.quiesce (b : Bd) : Bd :=
  (b.each Bd.sleepSpill).on (fun s =>
    if s.sleep.phase = .quiesce then { s with sleep := { s.sleep with spilled := s.sleep.spilled ++ [b.t] } } else s)

/-! ### Destruction at the boundary (R467) -/

/-- Pages of every Starter receive their notices; token streams are abandoned and pending waits cancelled. -/
def Bd.destroy (b : Bd) : Bd :=
  b.withT (fun te =>
    if te.destroyStep ≠ 1 then b
    else
      let notes := te.starters.flatMap (fun x => x.2.runs.map (freeNotice (mkHandle b.t tyStarter x.1 x.2.gen)))
      let s := b.s.count cPOOL_FREE b.t locBlock (sumBy (fun q : Notice => q.2.1) notes)
      let s := s.modT b.t (fun te => { te with starters := te.starters.mapVals (fun _ x => { x with runs := [] }) })
      let s := s.forEach te.toks (fun s x =>
        let h := mkHandle b.t tyTok x.1 x.2.gen
        (s.modT b.t (fun te => { te with toks := te.toks.mod x.1 (fun y => { y with closing := true, abandon := true }) })).tokFail h
          none stCANCELLED 0 stCANCELLED stCANCELLED)
      let s := s.forEach te.syncs (fun s x => s.syncCancel (mkHandle b.t tySync x.1 x.2.gen))
      { b with s := s, notices := b.notices ++ notes })

/-- After the notices are sent the pool is deleted, without the checks of R301. -/
def State.destroyPool (s : State) (t : Nat) : State :=
  match s.terrace t with
  | none => s
  | some te =>
    if te.destroyStep ≠ 1 then s
    else
      let s := s.modT t (fun te => { te with pool := none, destroyStep := 2 })
      if te.pool.isSome then s.bumpGen t tyPool 0 else s

/-! ### Emission -/

/-- STEP_COMMIT record of one owner (R351), and WANT_DRAFTS with it. DEDUCED, log entry 75. -/
def Bd.commitRec (b : Bd) (f : Step) (i : Nat) : Option (Nat × Nat × Nat × Nat × Nat × Nat) :=
  match (b.s.terrace b.t).bind (fun te => te.reqs.get i) with
  | none => none
  | some r =>
    let c := (b.commits.get i).getD {}
    let owner := ((f.rows.find? (fun x => x.idx = i)).map (·.owner)).getD 0
    let want := r.endReason = 0 && r.draftSrc = 2
    some (owner, r.committed, ((c.toks.getLast?).map (fun x => x.1.tok)).getD 0, c.acc,
      b2n (!c.toks.isEmpty) + 2 * b2n (r.endReason ≠ 0) + 4 * b2n want + 8 * b2n (f.withdrawn.get i).isSome,
      if want then r.draftMax else 0)

def Bd.sendCommit (b : Bd) (next : Nat) : Bd :=
  match b.closed with
  | none => b
  | some f =>
    let os := (f.rows.map (fun (x : Row) => x.idx)).eraseDups
    let recs := os.filterMap (b.commitRec f)
    let b := os.foldl (fun b i => b.mod i (fun r => if r.endReason = 0 && r.draftSrc = 2 then { r with wantDrafts := true } else r)) b
    b.on (fun s => s.send b.t (.stepCommit b.t f.id s.tick next f.failed recs))

def Bd.sendNotices (b : Bd) (next : Nat) : Bd :=
  if b.notices.isEmpty then b else b.on (fun s => s.send b.t (.pageOp b.t next (s.handleOf b.t tyPool 0) b.notices))

/-- Rows of the step in the order of R333. -/
def Bd.stepRows (b : Bd) (te : Terrace) : List Row := te.service.flatMap (fun i => ((b.plans.get i).map (·.rows)).getD [])

/-- A row as its step opens: a prompt row has nothing to wait for; an output row waits for its BOUNDS or its ROWS_FULL. -/
def openRow (full : Bool) (r : Row) : Row :=
  if r.kind = 0 then r
  else if full then { r with st := .waitTiles, req := some ⟨0xFF, List.range r.nt, true, 0⟩ }
  else { r with st := .waitBounds }

/-- Step IDs skip 0xFFFF_FFFF (R323). -/
def nextStepId (n : Nat) : Nat := if 0xFFFFFFFE ≤ n then 0 else n + 1

def Bd.openStep (b : Bd) (rows : List Row) : Bd :=
  b.withT (fun te =>
    let p := te.sp
    let full := bit p.cur.mode 0 || p.forced
    let rows := rows.map (openRow full)
    let outs := (rows.filter (fun r => r.kind ≠ 0)).length
    let st : Step := { id := p.nextId, lfmt := p.cur.lfmt, bfmt := p.cur.bfmt, fullRow := full, rows := rows, openAt := b.s.tick }
    let s := b.s.modSp b.t (fun p => { p with
      flight := some st, nextId := nextStepId p.nextId, lastId := some st.id, lastRows := rows.length })
    let s := ((s.tally cSTEP_OPENED b.t).count cSTEP_ROWS b.t locBlock rows.length).count cDRAFT_ROWS b.t locBlock
      (rows.filter (fun r => r.kind = 2)).length
    let s := s.modT b.t (fun te => { te with model := { te.model with
      lastAt := some b.s.tick, lastR := rows.length, lastP := sumBy (fun q => q.2.chunk) b.plans } })
    b.on (fun _ => s.send b.t (.stepOpen b.t st.id st.lfmt st.bfmt ((te.pool.map (·.psize)).getD 0) (b2n full)
      (s.handleOf b.t tyPool 0) b.s.tick outs (rows.length - outs) (p.lastId.getD 0xFFFFFFFF) rows)))

def Bd.emit (b : Bd) : Bd :=
  b.withT (fun te =>
    let rows := b.stepRows te
    let next := if rows.isEmpty then 0xFFFFFFFF else te.sp.nextId
    let b := (b.sendCommit next).sendNotices next
    if rows.isEmpty then b else b.openStep rows)

/-! ### The whole boundary -/

/-- The interval that ends here joins the window of R276, unless a level change or a sleep fell into it (R485). DEDUCED, log
entry 73. DEDUCED, log entry 122. -/
def Model.measure (m : Model) (now : Tick) : Model :=
  match m.lastAt with
  | some at_ =>
    if m.tainted then { m with tainted := false, lastAt := none }
    else { m with win := ((now - at_, m.lastR, m.lastP) :: m.win).take 256, fresh := m.fresh + 1, lastAt := none }
  | none => { m with tainted := false }

/-- The closed step leaves the port: its breaching rows join the window of R357, and a step that did not fail ends a run of
failures (R360). -/
def StepPort.close (p : StepPort) (f : Step) : StepPort :=
  { p with flight := none, closing := some f, failures := if f.failed then p.failures else 0
           breachWin := ((f.rows.filter (fun r => !r.breached.isEmpty)).length :: p.breachWin).take 256 }

/-- The port without the step in flight, where there is one. -/
def StepPort.leave (p : StepPort) : Option Step → StepPort
  | some f => p.close f
  | none => p

/-- One boundary of a terrace at the present tick; a halted or quiescing terrace opens no step and its requests keep their
states (R360, R491), while the ranges added to its pool become free as at every boundary. DEDUCED, log entry 72. -/
def State.boundary (s : State) (t : Nat) : State :=
  match s.terrace t with
  | none => s
  | some te =>
    let s := s.heal t
    let closed := te.sp.flight
    let held := te.streams.flatMap (fun x => x.2.waiting.map (·.req))
    let done := (te.reqs.filter (fun r => r.2.state = rsDONE)).map (·.1)
    let s := s.modT t (fun te => { te with
      model := te.model.measure s.tick
      sp := te.sp.leave closed })
    let b : Bd := { s := s, t := t, closed := closed, held := held, doneOld := done }
    let b := ((b.part1.each Bd.cancel).each Bd.deadline).part4.destroy
    let b := (b.each Bd.rollback).part6
    let b := if b.s.sleep.phase = .quiesce then b.openRanges.quiesce
      else if te.sp.halted then b.openRanges else b.part7.part8
    let s := ((b.emit.s.destroyPool t).showReqs t).modT t (fun te => { te with journal := { te.journal with
      unacked := true, retried := false, boundaries := te.journal.boundaries + 1 } })
    s.mpOwn t (.journalDelta t false)

/-! ### When a boundary is due (R322, R324, R325, R462, R538) -/

/-- Do boundaries run: firmware is up, in S0 or while the block quiesces (R491)? -/
def State.tableRuns (s : State) : Bool := s.lcs.ready && (s.sleep.phase == .awake || s.sleep.phase == .quiesce)

/-- Under sealed turns a boundary begins only at the first tick of the management slot before the terrace's turn. -/
def State.sealedTick (s : State) (t : Nat) : Bool :=
  !s.sched.sealed || (s.sched.turn.isNone && s.sched.next == some t && s.tick == s.sched.start)

/-- The terrace's pinned lines that a sleep lost are back (R503). -/
def Terrace.refilled (te : Terrace) : Bool := te.objs.all (fun o => !o.2.refill)

/-- The step in flight has completed. DEDUCED, log entry 24. -/
def State.stepBoundaryDue (s : State) (t : Nat) : Bool :=
  match s.terrace t with
  | none => false
  | some te => s.tableRuns && !te.journal.unacked && te.refilled && te.sp.closing.isNone && s.sealedTick t &&
    match te.sp.flight with | some f => f.complete | none => false

/-- The terrace's turn began with no step in flight and an entry that is not FREE, and the idle boundary has not run yet: it runs
at the turn's first tick, or as soon after as the journal write, the restore of PD_TE or the refill of pinned lines lets it (R324,
R502, R503, R538). -/
def State.idleBoundaryDue (s : State) (t : Nat) : Bool :=
  match s.terrace t with
  | none => false
  | some te => s.tableRuns && !te.journal.unacked && te.refilled && te.sp.closing.isNone && te.sp.flight.isNone &&
    !te.idleDone && (if s.sched.sealed then s.sealedTick t else s.sched.turn == some t)

end Sys2Proof.Machine
end

