-- ==== Sys2Proof/Machine/StepPort.lean ====
section
/-! DEFINITION. The step port (R339 to R364): the checks of every ingress message, what BOUNDS, TILES, ROWS_FULL and ATTN do,
the step's timers, and STEP_PORT_CONFIG. -/

namespace Sys2Proof.Machine

/-! ### Protocol errors (R358) -/

def peBAD_TYPE : Nat := 1
def peBAD_TERRACE : Nat := 2
def peSTALE_STEP : Nat := 3
def peUNSOLICITED : Nat := 4
def peBAD_LENGTH : Nat := 5
def peBAD_FORMAT : Nat := 6
def peBAD_CONTENT : Nat := 7
def peNO_TREADY : Nat := 8
def peTIMEOUT : Nat := 9
def peABORTED : Nat := 10

/-- An error is counted and reported; `fails` says that it concerns the step in flight. -/
def State.protoErr (s : State) (t code : Nat) (fails : Bool) : State :=
  let u := if s.badTerr t then noTerr else t
  let s := (s.tally cSP_PROTO_ERR u).fault fcSTEP_PORT u locBlock cSP_PROTO_ERR code 0 0
  if fails then s.failStep t false else s

/-- SP_I_TREADY of a terrace (R341, R360). DEDUCED, log entry 61. -/
def State.tready (s : State) (t : Nat) : Bool :=
  match s.terrace t with
  | none => false
  | some te => !te.sp.halted && (!s.sched.sealed || s.sched.turn == some t)

/-! ### The header (R343) -/

def mType (m : SpMsg) : Nat := rd m.head 0 1
def mTerr (m : SpMsg) : Nat := rd m.head 1 1
def mFmt (m : SpMsg) : Nat := rd m.head 2 1
def mStep (m : SpMsg) : Nat := rd m.head 4 4
def mBeats (m : SpMsg) : Nat := rd m.head 8 4
def mCount (m : SpMsg) : Nat := rd m.head 12 4

/-- `n` bytes at an offset of beat 0 are zero. -/
def mZero (m : SpMsg) (off n : Nat) : Bool := (slice m.head off n).all (fun b => b == 0)

/-- The ingress channel takes messages: S0, and no debug opening under way (R339, R527). DEDUCED, log entry 26. -/
def State.ingressOpen (s : State) : Bool := s.running && s.tap.erasing.isNone && !s.erasedMode

/-- What a message concerns: nothing that it may name, a step that failed, or a step whose STEP_COMMIT is not sent, and
whether that one is being closed. -/
inductive Concern where
  | stale
  | late
  | step (f : Step) (old : Bool)

def Terrace.concern (te : Terrace) (id : Nat) : Concern :=
  let fl := te.sp.flight.filter (fun f => f.id = id && f.sent && !f.failed)
  let cl := te.sp.closing.filter (fun f => f.id = id && !f.failed)
  match fl, cl with
  | some f, _ => .step f false
  | none, some f => .step f true
  | none, none => if te.sp.lastFailed = some id then .late else .stale

/-- The first checks, in the order of R358: an error code with its terrace, a late message, or the step. -/
def State.concernOf (s : State) (m : SpMsg) : Sum (Option Nat) (Step × Bool) :=
  match s.terrace (mTerr m) with
  | none => .inl (some peBAD_TERRACE)
  | some te =>
    if s.badTerr (mTerr m) then .inl (some peBAD_TERRACE)
    else match te.concern (mStep m) with
      | .stale => .inl (some peSTALE_STEP)
      | .late => .inl none
      | .step f old => .inr (f, old)

/-- Run a message that names a step through the first checks, then `body` with the step. -/
def State.message (s : State) (m : SpMsg) (body : Step → Bool → State) : State :=
  if !s.ingressOpen then s
  else match s.concernOf m with
    | .inl none => s.tally cSP_LATE_MSG (mTerr m)
    | .inl (some code) => s.protoErr (mTerr m) code false
    | .inr (f, old) => if !s.tready (mTerr m) then s.protoErr (mTerr m) peNO_TREADY (!old) else body f old

/-- BEATS agrees with SP_I_LAST and with `want` payload bytes, and does not exceed 257. -/
def lengthOk (m : SpMsg) (want : Nat) : Bool := mBeats m = m.beats && m.beats ≤ 257 && m.beats = 1 + ceilDiv want 256

/-! ### BOUNDS (R346) -/

/-- The format a length is judged in: the message's own, or the step's where that is reserved. -/
def lenFmt (m : SpMsg) (f : Nat) : Nat := if mFmt m ≤ fmtL40 then mFmt m else f

def boundsErr (m : SpMsg) (f : Step) (row : Option Row) : Option Nat :=
  if !lengthOk m (boundBytes (lenFmt m f.bfmt) (mCount m)) then some peBAD_LENGTH
  else if mFmt m ≠ f.bfmt then some peBAD_FORMAT
  else if !mZero m 3 1 || !mZero m 20 4 || !mZero m 28 228 || (f.bfmt ≠ fmtQ16R && !mZero m 24 4) then some peBAD_CONTENT
  else match row with
    | some r =>
      if rd m.head 18 2 ≠ r.nt || mCount m ≠ r.nt then some peBAD_CONTENT
      else if f.fullRow || r.hasBounds then some peUNSOLICITED else none
    | none => some peUNSOLICITED

/-- The output row a message names. -/
def Step.outRow (f : Step) (m : SpMsg) : Option Row := (f.rows[rd m.head 16 2]?).filter (fun r => r.kind ≠ 0)

/-- A row's mask was resident when its first message arrived (R389); one that is in no slice is filled on demand at once (R379). -/
def State.maskHit (s : State) (t : Nat) (row : Row) : State :=
  match (s.terrace t).bind (fun te => (te.reqs.get row.idx).map (fun r => (te, r))) with
  | none => s
  | some (te, r) =>
    if r.grammar ≠ 0 && (List.range 4).any (fun b => te.maskIn r.grammar r.pins.grammar row.gstate b) then
      s.count cMASK_HIT t (locBay (s.stepBay t)) 1
    else if r.grammar ≠ 0 then s.maskFill r.grammar r.pins.grammar row.gstate (s.stepBay t) 0
    else s

def State.bounds (s : State) (m : SpMsg) : State :=
  if mType m ≠ 2 then s
  else s.message m (fun f old =>
    let t := mTerr m
    match boundsErr m f (f.outRow m), f.outRow m with
    | some e, _ => s.protoErr t e (!old)
    | none, none => s
    | none, some row =>
      let i := rd m.head 16 2
      let s := s.modRow t old i (fun r => { r with hasBounds := true, bounds := boundVals f.bfmt (rd m.head 24 4) r.nt m.payload })
      (s.maskHit t row).runRows t)

def execBounds (m : SpMsg) (s : State) : Host.Outcome State Fault Refusal := .next (s.bounds m)

/-! ### TILES and ROWS_FULL (R348, R356) -/

def tilesErr (m : SpMsg) (f : Step) (full : Bool) (row : Option Row) : Option Nat :=
  let lf := lenFmt m f.lfmt
  if !(1 ≤ mCount m && mCount m ≤ maxTiles lf) || !lengthOk m (mCount m * tileBytes lf) then some peBAD_LENGTH
  else if mFmt m ≠ f.lfmt then some peBAD_FORMAT
  else if !mZero m 3 1 || !mZero m 19 1 || !mZero m 22 2 || !mZero m 28 228 || (f.lfmt ≠ fmtQ16R && !mZero m 24 4) then
    some peBAD_CONTENT
  else match row with
    | none => some peUNSOLICITED
    | some r =>
      if f.lfmt = fmtQ16R && (match r.scale with | some x => x ≠ rd m.head 24 4 | none => false) then some peBAD_CONTENT
      else match r.req with
        | none => some peUNSOLICITED
        | some q =>
          if q.full ≠ full || q.list.length ≤ q.got then some peUNSOLICITED
          else if rd m.head 20 2 ≠ q.got then some peBAD_CONTENT
          else if rd m.head 18 1 ≠ q.round || q.list.length < q.got + mCount m then some peUNSOLICITED
          else none

/-- Tiles of a message with their values. -/
def msgTiles (m : SpMsg) (f : Step) (q : TileReq) : List (Nat × List XVal) :=
  ((List.range (mCount m)).map (fun k =>
    (q.list.getD (q.got + k) 0, tileVals f.lfmt (rd m.head 24 4) (m.payload.drop (k * tileBytes f.lfmt)))))

/-- Tiles whose values breach their bounds; IDs at or above V_SIZE are ignored (R355, R356). -/
def RowCtx.breaching (c : RowCtx) (row : Row) (l : List (Nat × List XVal)) : List Nat :=
  if !row.hasBounds then []
  else (l.filter (fun x => (x.2.take (c.vsize - 256 * x.1)).any (fun v =>
    breaches (c.lfmt = fmtL40) (c.bfmt = fmtL40) c.f (row.bounds.getD x.1 .nan) v))).map (·.1)

/-- With BREACH_AUTO, more breaching rows than BREACH_LIMIT force FULL_ROW from the next boundary (R357). DEDUCED, log entry
63. -/
def State.breachTest (s : State) (t : Nat) : State :=
  match s.terrace t with
  | none => s
  | some te =>
    let cur := match te.sp.flight with | some f => (f.rows.filter (fun r => !r.breached.isEmpty)).length | none => 0
    if bit te.sp.cur.mode 1 && !te.sp.forced && te.sp.cur.breachLimit < cur + sumBy id (te.sp.breachWin.take 255) then
      (s.modSp t (fun p => { p with forced := true })).fault fcSTEP_PORT t locBlock noCause 0 0 0
    else s

/-- Does the row still want values (R408)? -/
def Row.wants (r : Row) : Bool := r.st = .waitTiles

def State.tileMsg (s : State) (m : SpMsg) (full : Bool) : State :=
  s.message m (fun f old =>
    let t := mTerr m
    match tilesErr m f full (f.outRow m), f.outRow m, s.terrace t with
    | some e, _, _ => s.protoErr t e (!old)
    | none, some row, some te =>
      match row.req, te.reqs.get row.idx with
      | some q, some r =>
        let i := rd m.head 16 2
        let l := msgTiles m f q
        let br := ((te.rowCtx f r row).breaching row l).filter (fun j => !row.breached.contains j)
        let done := q.got + l.length = q.list.length
        let s := s.modRow t old i (fun x => { x with
          req := some { q with got := q.got + l.length }
          scale := if f.lfmt = fmtQ16R then some (rd m.head 24 4) else none
          breached := x.breached ++ br
          breach := x.breach || (!full && !br.isEmpty)
          fetched := if x.wants then l.foldl (fun a y => a.put y.1 y.2) x.fetched else x.fetched })
        let s := (s.count cTILES_FETCHED t locBlock l.length).count cBOUND_BREACH t locBlock br.length
        let s := if full && done then s.tally cFULL_ROW_FETCH t else s
        let s := if q.round = 0xFF && q.got = 0 then s.maskHit t row else s
        (if br.isEmpty then s else s.breachTest t).runRows t
      | _, _ => s
    | none, _, _ => s)

def State.tilesIn (s : State) (m : SpMsg) : State := if mType m ≠ 4 then s else s.tileMsg m false
def State.rowsFullIn (s : State) (m : SpMsg) : State := if mType m ≠ 5 then s else s.tileMsg m true

def execTiles (m : SpMsg) (s : State) : Host.Outcome State Fault Refusal := .next (s.tilesIn m)

def execRowsFull (m : SpMsg) (s : State) : Host.Outcome State Fault Refusal := .next (s.rowsFullIn m)

/-! ### ATTN (R353) -/

def aKind (m : SpMsg) : Nat := rd m.head 16 1

/-- Reserved bytes of every ATTN. -/
def attnZero (m : SpMsg) : Bool := mZero m 2 2 && mZero m 17 3 && mZero m 28 4 && mZero m 92 164

/-- Errors of an ATTN other than DRAFTS. -/
def attnErr (m : SpMsg) : Option Nat :=
  if mBeats m ≠ m.beats || m.beats ≠ 1 then some peBAD_LENGTH
  else if !attnZero m || mCount m ≠ 0 || !mZero m 20 4 || (aKind m ≠ 3 && !mZero m 24 4) || !mZero m 32 60
    || (aKind m ≠ 1 && aKind m ≠ 3) then some peBAD_CONTENT
  else none

/-- Every BOUNDS, or every ROWS_FULL of a FULL_ROW step, has been received (R355). -/
def Step.heard (f : Step) : Bool :=
  f.rows.all (fun r => r.kind = 0 || (if f.fullRow then
    (match r.req with | some q => q.round ≠ 0xFF || q.list.length ≤ q.got | none => true) else r.hasBounds))

def State.attnDone (s : State) (m : SpMsg) : State :=
  if mType m ≠ 8 || aKind m = 2 || aKind m = 3 then s
  else s.message m (fun f old =>
    match attnErr m with
    | some e => s.protoErr (mTerr m) e (!old)
    | none => if f.done || !f.heard then s.protoErr (mTerr m) peUNSOLICITED (!old) else s.modStep (mTerr m) old (fun f => { f with done := true }))

/-- STEP_DONE, and the reserved KIND values, which are BAD_CONTENT. -/
def execAttnStepDone (m : SpMsg) (s : State) : Host.Outcome State Fault Refusal := .next (s.attnDone m)

/-- ABORT fails the step (R353, R358). DEDUCED, log entry 60. -/
def State.attnAbort (s : State) (m : SpMsg) : State :=
  if mType m ≠ 8 || aKind m ≠ 3 then s
  else s.message m (fun _ old =>
    match attnErr m with
    | some e => s.protoErr (mTerr m) e (!old)
    | none => (s.modStep (mTerr m) old (fun f => { f with reason := rd m.head 24 4 })).protoErr (mTerr m) peABORTED (!old))

def execAttnAbort (m : SpMsg) (s : State) : Host.Outcome State Fault Refusal := .next (s.attnAbort m)

/-- Draft tokens of a DRAFTS message. -/
def draftToks (m : SpMsg) : List Tok := (List.range (mCount m)).map (fun i => rd m.head (32 + 4 * i) 4)

/-- Errors of a DRAFTS message's form. DEDUCED, log entry 59. -/
def draftsErr (m : SpMsg) (top : Nat) : Option Nat :=
  if mBeats m ≠ m.beats || m.beats ≠ 1 then some peBAD_LENGTH
  else if !attnZero m || top < mCount m || !mZero m (32 + 4 * mCount m) (60 - 4 * mCount m) then some peBAD_CONTENT
  else none

/-- A solicited set replaces an older one; any other, and one that names a token it may not, is discarded (R334, R353).
DEDUCED, log entry 59. -/
def State.attnDrafts (s : State) (m : SpMsg) : State :=
  if mType m ≠ 8 || aKind m ≠ 2 || !s.ingressOpen then s
  else
    let t := mTerr m
    let h := rd m.head 20 4
    match s.terrace t with
    | none => s.protoErr t peBAD_TERRACE false
    | some te =>
      if !s.tready t then s.protoErr t peNO_TREADY false
      else
        let r := if hTerr h = t && hType h = tyReq then s.req h else none
        match draftsErr m ((r.map (·.draftMax)).getD 15) with
        | some e => s.protoErr t e false
        | none =>
          let ok := match r with
            | none => false
            | some r => r.wantDrafts && r.draftSrc = 2 && r.lastStep = mStep m && match te.vocab r.vocab r.pins.vocab with
              | some v => (badToken v (draftToks m)).isNone
              | none => false
          if ok then s.modReq h (fun r => { r with
            drafts := draftToks m, draftBase := rd m.head 24 4, hasDrafts := true, wantDrafts := false })
          else s.tally cDRAFT_STALE t

def execAttnDrafts (m : SpMsg) (s : State) : Host.Outcome State Fault Refusal := .next (s.attnDrafts m)

/-! ### Messages of a reserved or egress type -/

def ingressTypes : List Nat := [2, 4, 5, 8]

def State.reservedMsg (s : State) (m : SpMsg) : State :=
  if ingressTypes.contains (mType m) || !s.ingressOpen then s else s.protoErr (mTerr m) peBAD_TYPE false

def execSpReservedMessage (m : SpMsg) (s : State) : Host.Outcome State Fault Refusal := .next (s.reservedMsg m)

/-! ### Timers -/

/-- STEP_TIMEOUT in force. -/
def SpSet.limit (p : SpSet) : Nat := if p.timeout = 0 then 10000000 else p.timeout

def State.stepTimeout (s : State) (t : Nat) : State :=
  match (s.terrace t).bind (fun te => te.sp.flight.map (fun f => (te, f))) with
  | some (te, f) =>
    if f.sent && !f.complete && f.openAt + te.sp.cur.limit ≤ s.tick then s.protoErr t peTIMEOUT true else s
  | none => s

def execStepTimeout (t : Nat) (s : State) : Host.Outcome State Fault Refusal := .next (s.stepTimeout t)

/-- 5,000 ticks of waiting with the rest of the step over (R338). -/
def State.rowTimeout (s : State) (t i : Nat) : State :=
  match (s.terrace t).bind (fun te => te.flightRow i) with
  | none => s
  | some (f, row) => match row.waitAt with
    | some (at_, code) =>
      if !f.failed && !row.isOver && (code = scOBJ_QUARANTINE || code = scFILL_LATE) && at_ + 5000 ≤ s.tick
          && f.rows.all (fun r => r.idx = row.idx || r.isOver || r.kind = 0) then s.withdrawOwner t row.idx code
      else s
    | none => s

def execRowWithdrawTimeout (t row : Nat) (s : State) : Host.Outcome State Fault Refusal := .next (s.rowTimeout t row)

/-! ### STEP_PORT_CONFIG (R361, R362) -/

def shSTEP_PORT_CONFIG : Shape where
  op := 0x0B
  body := fun c =>
    if rd c 16 1 = 0 then [rc c 16 2, rm c 17 1 0xF0, rm c 18 1 0xF0, rm c 19 1 0xFC, rz c 36 12]
    else [rc c 16 2, rz c 17 1, rz c 18 1, rz c 19 1, rz c 20 2, rz c 22 2, rz c 24 4, rz c 28 2, rz c 30 2, rz c 32 4, rz c 36 12]
  handles := fun _ => [⟨8, [tyTerrace], false, false⟩]

def cSpSet (c : Bytes) : SpSet where
  lfmt := rd c 17 1
  bfmt := rd c 18 1
  mode := rd c 19 1
  rowsMax := rd c 20 2
  kMax := rd c 22 2
  target := rd c 24 4
  stage := rd c 28 2
  breachLimit := rd c 30 2
  timeout := rd c 32 4

/-- The ranges of SET. -/
def State.spSetChk (s : State) (te : Terrace) (p : SpSet) : Chk :=
  Chk.first [field (p.lfmt ≤ fmtL40) 17, field (p.bfmt ≤ fmtL40) 18,
    field (te.desc.liveSlots + 64 ≤ p.rowsMax && p.rowsMax ≤ s.cfg.rowsPerStep) 20,
    field (64 ≤ p.kMax && p.kMax ≤ 8192 && p.kMax % 64 = 0) 22,
    field (256 ≤ p.stage && p.stage ≤ min 4096 s.cfg.stagingKiB && p.stage % 64 = 0) 28,
    field (1 ≤ p.breachLimit && p.breachLimit ≤ 256) 30, field (p.timeout = 0 || 10000 ≤ p.timeout) 32]

/-- The partition a terrace holds or has been promised (R341). DEDUCED, log entry 61. -/
def StepPort.staged (p : StepPort) : Nat := match p.posted with | some q => max p.cur.stage q.stage | none => p.cur.stage

def State.stagingUsed (s : State) (t : Nat) : Nat := sumBy (fun x => if x.1 = t then 0 else x.2.sp.staged) s.terr

/-- RESULT0 and RESULT1. -/
def StepPort.result0 (p : StepPort) : Nat :=
  p.k % 65536 + 65536 * b2n p.halted + 2 ^ 17 * b2n p.forced + 2 ^ 18 * b2n (p.forced || bit p.cur.mode 0)

def StepPort.result1 (p : StepPort) : Nat := p.lastId.getD 0xFFFFFFFF + 2 ^ 32 * p.failures

def State.spConfig (s : State) (src : Src) (c : Bytes) (act : State → Nat → State) : State :=
  let tk := ticketOf src c
  let t := hTerr (cHandle c)
  let s := act s t
  match s.terrace t with
  | none => s.refuse tk stSTALE_HANDLE noField
  | some te => s.only tk stOK tk.handle te.sp.result0 te.sp.result1

def State.spSet (s : State) (src : Src) (c : Bytes) : State :=
  let t := hTerr (cHandle c)
  let p := cSpSet c
  match s.terrace t with
  | none => s.refuse (ticketOf src c) stSTALE_HANDLE noField
  | some te =>
    match s.spSetChk te p with
    | some (st, off) => s.refuse (ticketOf src c) st off
    | none =>
      if s.cfg.stagingKiB < s.stagingUsed t + p.stage then s.refuse (ticketOf src c) stNO_RESOURCE noField
      else s.spConfig src c (fun s t => s.modSp t (fun x => { x with posted := some p }))

/-- SET, and the reserved OP values, which check 3 rejects. -/
def execStepPortConfigSet (src : Src) (c : Bytes) (s : State) : Host.Outcome State Fault Refusal :=
  .next (s.command shSTEP_PORT_CONFIG (shSTEP_PORT_CONFIG.row c && rd c 16 1 != 1 && rd c 16 1 != 2) src c (fun _ => none)
    (fun s => s.spSet src c))

def execStepPortConfigResume (src : Src) (c : Bytes) (s : State) : Host.Outcome State Fault Refusal :=
  .next (s.command shSTEP_PORT_CONFIG (shSTEP_PORT_CONFIG.row c && rd c 16 1 == 1) src c (fun _ => none)
    (fun s => s.spConfig src c (fun s t => s.modSp t (fun p =>
      if p.halted then { p with halted := false, failures := 0 } else p))))

def execStepPortConfigQuery (src : Src) (c : Bytes) (s : State) : Host.Outcome State Fault Refusal :=
  .next (s.command shSTEP_PORT_CONFIG (shSTEP_PORT_CONFIG.row c && rd c 16 1 == 2) src c (fun _ => none)
    (fun s => s.spConfig src c (fun s _ => s)))

end Sys2Proof.Machine
end

