-- ==== Sys2Proof/Machine/Terraces.lean ====
section
/-! DEFINITION. Terraces (R449 to R469): the meanings of TERRACE_CREATE, TERRACE_SET, KEY_INSTALL, TERRACE_DESTROY and of
what a destroyed terrace still does. -/

namespace Sys2Proof.Machine

/-! ### The descriptor (R451) -/

/-- A field of the terrace descriptor by its offset, which counts from 64. -/
def dsc (d : Bytes) (off n : Nat) : Nat := rd d (off - 64) n

def parseDesc (d : Bytes) : TDesc where
  coreMask := dsc d 64 8
  weights := dsc d 72 4
  pantry := dsc d 76 1
  maskWays := dsc d 77 1
  holeH := dsc d 78 1
  liveSlots := dsc d 80 2
  riddle := dsc d 84 4
  stopRows := dsc d 88 4
  echoRows := dsc d 92 4
  reqQuota := dsc d 96 4
  objQuota := dsc d 100 4
  syncQuota := dsc d 104 4
  starterQuota := dsc d 108 4
  reserve := dsc d 112 4
  budget := dsc d 116 4
  t1mp0 := dsc d 120 4
  t1mp1 := dsc d 124 4
  shBase := dsc d 128 8
  shSize := dsc d 136 4
  bw0 := dsc d 140 1
  bw1 := dsc d 141 1
  bwH := dsc d 142 1
  shPort := dsc d 143 1
  t2Quota := dsc d 144 4
  turn := dsc d 148 4
  modelA := dsc d 152 4
  modelB := dsc d 156 4
  modelC := dsc d 160 4

/-- Cores in aligned pairs, at least one, none beyond the configuration. -/
def coreMaskOk (cfg : Cfg) (m : Nat) : Bool :=
  m != 0 && m < 2 ^ cfg.cores && (List.range 32).all (fun i => bit m (2 * i) == bit m (2 * i + 1))

/-- Four weights of 1 to 15, nothing above them. -/
def weightsOk (w : Nat) : Bool := w < 65536 && (List.range 4).all (fun i => bits w (4 * i) 4 != 0)

def holesOk (h : Nat) : Bool := isPow2 h 2 6

def turnOk (n : Nat) : Bool := 1000 ≤ n && n ≤ 100000

/-- Rows a bank group has for quotas (R165, R454). -/
def groupRows (q : Nat) : Nat := if q = 0 then 24064 else 32768

/-- Check 3 of R452 on the descriptor, in the order of its offsets. DEDUCED, log entry 21. -/
def descChk (cfg : Cfg) (d : Bytes) : Chk :=
  let t := parseDesc d
  let bwOf := fun p => if p = 0 then t.bw0 else t.bw1
  Chk.first [
    field (coreMaskOk cfg t.coreMask) 64,
    field (weightsOk t.weights) 72,
    field (1 ≤ t.pantry && t.pantry ≤ 16) 76,
    field (1 ≤ t.maskWays && t.maskWays ≤ 16) 77,
    field (t.holeH == 0 || holesOk t.holeH) 78,
    field (dsc d 79 1 == 0) 79,
    field (1 ≤ t.liveSlots && t.liveSlots ≤ cfg.liveSlots) 80,
    field (dsc d 82 2 == 0) 82,
    field (64 ≤ t.riddle && t.riddle ≤ (if bits t.coreMask 0 4 ≠ 0 then groupRows 0 else 32768)) 84,
    field (16 ≤ t.stopRows && t.stopRows ≤ t.riddle) 88,
    field (t.echoRows ≤ t.riddle - t.stopRows) 92,
    field (1 ≤ t.reqQuota && t.reqQuota ≤ cfg.reqEntries) 96,
    field (1 ≤ t.objQuota && t.objQuota ≤ cfg.objectSlots) 100,
    field (t.syncQuota ≤ cfg.syncObjects) 104,
    field (t.starterQuota ≤ cfg.starters) 108,
    field (t.reserve ≤ 4194304) 112,
    field (t.budget ≤ 2 ^ 24) 116,
    field (t.t1mp0 ≤ cfg.t1Units 0 && (t.t1mp0 == 0 || t.bw0 != 0)) 120,
    field (t.t1mp1 ≤ cfg.t1Units 1 && (t.t1mp1 == 0 || (cfg.memPorts == 2 && t.bw1 != 0))) 124,
    field (t.shBase % 65536 == 0 && (cfg.memPorts ≤ t.shPort || t.shBase / 65536 ≤ cfg.t1Units t.shPort)) 128,
    field ((t.shBase == 0) == (t.shSize == 0) &&
      (cfg.memPorts ≤ t.shPort || t.shBase / 65536 + t.shSize ≤ cfg.t1Units t.shPort)) 136,
    field (t.bw0 ≤ 60) 140,
    field (t.bw1 ≤ 60 && (t.bw1 == 0 || cfg.memPorts == 2)) 141,
    field (1 ≤ t.bwH && t.bwH ≤ 60) 142,
    field (if t.shBase = 0 then t.shPort == 0 else t.shPort < cfg.memPorts && bwOf t.shPort != 0) 143,
    field (t.t2Quota == 0 || (cfg.hasFlash && t.t2Quota ≤ 32768)) 144,
    field (t.turn == 0 || turnOk t.turn) 148,
    field ((slice d 100 28).all (fun b => b == 0)) 164]

/-! ### What other terraces hold (check 5 of R452) -/

/-- The share a terrace holds or has been promised (R457): 0 MP0, 1 MP1, 2 the host fabric initiator. DEDUCED, log entry 81. -/
def Terrace.bw (te : Terrace) (i : Nat) : Nat :=
  let now := [te.desc.bw0, te.desc.bw1, te.desc.bwH].getD i 0
  match te.nextBw with
  | some (a, b, h) => max now ([a, b, h].getD i 0)
  | none => now

/-- Sum of a resource over the terraces but `t`. -/
def State.held (s : State) (t : Nat) (f : Terrace → Nat) : Nat := sumBy (fun x => if x.1 = t then 0 else f x.2) s.terr

/-- Do the bandwidth shares leave room? DEDUCED, log entry 81. -/
def State.bwFits (s : State) (t : Nat) (b0 b1 bH : Nat) : Bool :=
  s.held t (fun te => te.bw 0) + b0 ≤ 60 && s.held t (fun te => te.bw 1) + b1 ≤ 60 && s.held t (fun te => te.bw 2) + bH ≤ 60

/-- 64 KiB units a descriptor takes on a port, its shared region included. -/
def TDesc.units (d : TDesc) (p : Nat) : Nat :=
  (if p = 0 then d.t1mp0 else d.t1mp1) + (if d.shSize ≠ 0 && d.shPort = p then d.shSize else 0)

def ClearJob.units (j : ClearJob) (p : Nat) : Nat :=
  (if p = 0 then j.t1mp0 else j.t1mp1) + (if j.shSize ≠ 0 && j.shPort = p then j.shSize else 0)

/-- Units of T1 in use on a port: terraces, and space still being cleared (R468). DEDUCED, log entry 79. -/
def State.t1Units (s : State) (p : Nat) : Nat :=
  sumBy (fun x => x.2.desc.units p) s.terr + sumBy (fun j => j.units p) s.clearing

/-- Ranges of 64 KiB units taken on a port: first unit and count. -/
def State.t1Taken (s : State) (p : Nat) : List (Nat × Nat) :=
  (s.terr.flatMap (fun x =>
    (if x.2.desc.shPort = p then (x.2.desc.shBase / 65536, x.2.desc.shSize) else (0, 0)) ::
      (if p = 0 then x.2.t1At0 else x.2.t1At1)) ++
   s.clearing.flatMap (fun j =>
    (if j.shPort = p then (j.shBase / 65536, j.shSize) else (0, 0)) :: (if p = 0 then j.at0 else j.at1))) ++
  [Config.blockOwnedT1 p]

/-- The units from `pos` to `n` that no range of the list, rising by first unit, takes. -/
def freeRanges (pos n : Nat) : List (Nat × Nat) → List (Nat × Nat)
  | [] => if pos < n then [(pos, n - pos)] else []
  | (a, l) :: r => (if pos < min a n then [(pos, min a n - pos)] else []) ++ freeRanges (max pos (a + l)) n r

/-- The place of `q` units whose first is the `k`-th that leaves room for all of them in one free range. -/
def oneRange (q k : Nat) : List (Nat × Nat) → Option (Nat × Nat)
  | [] => none
  | (a, l) :: r => if l < q then oneRange q k r else if k < l + 1 - q then some (a + k, q) else oneRange q (k - (l + 1 - q)) r

/-- The first `q` units of the free ranges. -/
def firstUnits (q : Nat) : List (Nat × Nat) → List (Nat × Nat)
  | [] => []
  | (a, l) :: r => if q = 0 then [] else (a, min l q) :: firstUnits (q - min l q) r

/-- Where the block places a quota of `q` units among free ranges: one range where some range has the room, chosen by the
free value `k`, and the first free units otherwise. DESIGN CHOICE, log entry 78. -/
def placeUnits (q k : Nat) (free : List (Nat × Nat)) : List (Nat × Nat) :=
  let choices := sumBy (fun r => r.2 + 1 - q) free
  if q = 0 then []
  else match oneRange q (k % choices) free with
    | some r => [r]
    | none => firstUnits q free

/-- The T1 quota of a new terrace on a port (R452, "of its own choosing"), clear of everything taken and of the terrace's
own shared region. DESIGN CHOICE, log entry 78. -/
def State.placeT1 (s : State) (d : TDesc) (p : Nat) : List (Nat × Nat) :=
  let taken := (if d.shPort = p then (d.shBase / 65536, d.shSize) else (0, 0)) :: s.t1Taken p
  placeUnits (if p = 0 then d.t1mp0 else d.t1mp1) (Config.t1Place p s.fresh)
    (freeRanges 0 (s.cfg.t1Units p) (sortBy (fun a b => decide (a.1 ≤ b.1)) (taken.filter (fun r => r.2 ≠ 0))))

/-- The shared region meets nothing that is taken, and lies on its port. -/
def State.sharedFits (s : State) (d : TDesc) : Bool :=
  d.shSize = 0 || (d.shBase / 65536 + d.shSize ≤ s.cfg.t1Units d.shPort &&
    (s.t1Taken d.shPort).all (fun r => r.1 + r.2 ≤ d.shBase / 65536 || d.shBase / 65536 + d.shSize ≤ r.1))

/-- Ways and Riddle rows fit every slice and bank group that the core set uses (R454). -/
def State.waysFit (s : State) (d : TDesc) : Bool :=
  let quads := homeQuads d.coreMask
  let bays := homeBays d.coreMask
  let inQuad := fun (te : Terrace) q f => if (homeQuads te.desc.coreMask).contains q then f te.desc else 0
  let inBay := fun (te : Terrace) b f => if (homeBays te.desc.coreMask).contains b then f te.desc else 0
  quads.all (fun q => d.pantry + sumBy (fun x => inQuad x.2 q TDesc.pantry) s.terr ≤ 16 &&
    d.riddle + sumBy (fun x => inQuad x.2 q TDesc.riddle) s.terr ≤ groupRows q) &&
  bays.all (fun b => d.maskWays + sumBy (fun x => inBay x.2 b TDesc.maskWays) s.terr ≤ 16)

/-- STARTER region rows (R165). -/
def starterRows (quota : Nat) : Nat := ceilDiv quota 8

/-- Check 5 of R452. -/
def State.resourcesFit (s : State) (t : Nat) (d : TDesc) : Bool :=
  let h := s.held t
  s.terr.all (fun x => x.2.desc.coreMask &&& d.coreMask == 0) && s.waysFit d &&
  h (fun te => te.desc.liveSlots) + d.liveSlots ≤ s.cfg.liveSlots &&
  h (fun te => te.desc.reqQuota) + d.reqQuota ≤ s.cfg.reqEntries &&
  h (fun te => te.desc.objQuota) + d.objQuota ≤ s.cfg.objectSlots &&
  h (fun te => te.desc.syncQuota) + d.syncQuota ≤ s.cfg.syncObjects &&
  h (fun te => te.desc.starterQuota) + d.starterQuota ≤ s.cfg.starters &&
  h (fun te => starterRows te.desc.starterQuota) + starterRows d.starterQuota ≤ 8192 &&
  s.stagingUsed t + 256 ≤ s.cfg.stagingKiB && s.bwFits t d.bw0 d.bw1 d.bwH &&
  s.t1Units 0 + d.units 0 ≤ s.cfg.t1Units 0 && s.t1Units 1 + d.units 1 ≤ s.cfg.t1Units 1 &&
  h (fun te => te.desc.t2Quota) + d.t2Quota ≤ s.flash.usable && s.sharedFits d

/-! ### TERRACE_CREATE (R450, R452) -/

def shTERRACE_CREATE : Shape where
  op := 0x02
  noHandle := true
  body := fun c => [rm c 24 1 0xF0, rm c 25 1 0xFE, rz c 26 22]
  addrs := [16]
  hostMem := true

/-- A DRBG instantiated from 1,024 raw bits of entropy and 256 of nonce, and one Generate that fills its buffer; the
instantiation is counted, and the count and the terrace's number personalize it (R415, R416). DESIGN CHOICE, log entry 3. -/
def State.instantiate (s : State) (t : Nat) : State :=
  let n := (s.instCount.get t).getD 0 + 1
  let x := ctrInstantiate (noiseBytes s.fresh 128) (noiseBytes (s.fresh + 16) 32) (le 4 t ++ le 4 n)
  { s with instCount := s.instCount.put t n, fresh := s.fresh + 20 }.modT t (fun te =>
    { te with drbg := ({ live := true, key := x.1, v := x.2, count := n } : Drbg).generate })

/-- A terrace as TERRACE_CREATE makes it; its keys and salts are drawn from its DRBG, in an order of the block's own, as
free values from `k` on (R168, R464). DESIGN CHOICE, log entry 3. DESIGN CHOICE, log entry 82. -/
def mkTerrace (cfg : Cfg) (d : TDesc) (expert : Bool) (k : Nat) : Terrace where
  expert := expert
  desc := { d with turn := if d.turn = 0 then 5000 else d.turn }
  keys := noiseBytes k 96
  model := { a := (if d.modelA = 0 then 5000 else d.modelA, 1), b := (if d.modelB = 0 then 8 else d.modelB, 1)
             c := (if d.modelC = 0 then 4 else d.modelC, 1) }
  wayKib := (1 + Config.wayKib 0, 1 + Config.wayKib 1)
  sp := { cur := { rowsMax := min cfg.rowsPerStep (d.liveSlots + 512) } }
  regions := [mkRegion rkSTOP 0 0 (saltAt (k + 12)) (List.replicate d.stopRows emptyRow),
    mkRegion rkECHO 0 0 (saltAt (k + 14)) (List.replicate d.echoRows emptyRow)] ++
    (if d.starterQuota = 0 then []
     else [mkRegion rkSTARTER 0 0 (saltAt (k + 16)) (List.replicate (starterRows d.starterQuota) emptyRow)])
  dirSalt := saltAt (k + 18)

/-- Counters, clear ticks and the log of a terrace start empty (R545, R552). -/
def State.freshLogs (s : State) (t : Nat) : State :=
  { s with
    cnt := { vals := s.cnt.vals.filter (fun e => e.1.terr ≠ t), clears := s.cnt.clears.filter (fun e => e.1 ≠ t)
             bad := s.cnt.bad.filter (fun e => e.terr ≠ t), recent := s.cnt.recent.filter (fun e => e.1.terr ≠ t) }
    faults := { s.faults with terrLogs := s.faults.terrLogs.del t, terrSeq := s.faults.terrSeq.del t
                              terrClear := s.faults.terrClear.del t } }

def lcBLANK : Nat := 0
def lcTEST : Nat := 1
def lcPROVISIONED : Nat := 2
def lcDEPLOYED : Nat := 3
def lcRETURNED : Nat := 4
def lcSCRAPPED : Nat := 5
def lcINVALID : Nat := 7

/-- States in which terraces may be created and keys installed: TEST, PROVISIONED, DEPLOYED (R452, R519). -/
def Lcs.letsTerraces (l : Lcs) : Bool := l.state = lcTEST || l.state = lcPROVISIONED || l.state = lcDEPLOYED

/-- Checks 1 to 6 of R452. -/
def State.createChk (s : State) (t : Nat) (desc : HostRead) : Chk :=
  if !s.lcs.letsTerraces then some (stNOT_PERMITTED, noField)
  else match desc with
    | .error => some (stDATA_ERROR, noField)
    | .okay d => Chk.first [field (!s.badTerr t) 24, descChk s.cfg d, cond ((s.terrace t).isNone) stNOT_PERMITTED,
        cond (s.resourcesFit t (parseDesc d)) stNO_RESOURCE, cond (!s.spring.failed) stENTROPY_HALT]

/-- T1 bytes a quota makes available to data: 64 × 16 × floor(Q / 17) for Q lines (R452). DEDUCED, log entry 30. -/
def TDesc.dataBytes (d : TDesc) : Nat := 64 * (dataLines d.t1mp0 + dataLines d.t1mp1)

def State.terraceCreate (s : State) (src : Src) (c : Bytes) (desc : HostRead) : State :=
  let tk := ticketOf src c
  let t := rd c 24 1
  match s.createChk t desc with
  | some (st, off) => s.refuse tk st off
  | none =>
    let d := parseDesc (readBytes desc)
    let te := { mkTerrace s.cfg d (bit (rd c 25 1) 0) s.fresh with t1At0 := s.placeT1 d 0, t1At1 := s.placeT1 d 1 }
    let s := { s.freshLogs t with terr := s.terr.put t te, fresh := s.fresh + 20 }.instantiate t
    s.only tk stOK (s.terrHandle t) d.dataBytes d.liveSlots

def execTerraceCreate (src : Src) (c : Bytes) (desc : HostRead) (s : State) : Host.Outcome State Fault Refusal :=
  .next (s.command shTERRACE_CREATE (shTERRACE_CREATE.row c) src c (fun _ => field (rd c 16 8 % 8 == 0) 16)
    (fun s => s.terraceCreate src c desc))

/-! ### TERRACE_SET (R457) -/

def smask (c : Bytes) (i : Nat) : Bool := bit (rd c 17 1) i

/-- A field of TERRACE_SET that its SMASK bit does not select is reserved. -/
def unlessMask (c : Bytes) (i off n : Nat) : Chk := if smask c i then none else rz c off n

def shTERRACE_SET : Shape where
  op := 0x04
  body := fun c =>
    if rd c 16 1 = 1 then [rz c 17 1, rm c 18 1 0xFE, rz c 19 1, rz c 24 4, rz c 28 4, rz c 32 4, rz c 36 1, rz c 37 1, rz c 38 1, rz c 39 9]
    else [rc c 16 1, rm c 17 1 0x80, rm c 18 1 (if smask c 1 then 0xFE else 0xFF), unlessMask c 2 19 1,
      (if smask c 0 then rm c 20 4 0xFFFF0000 else rz c 20 4), unlessMask c 3 24 4, unlessMask c 4 28 4, unlessMask c 5 32 4,
      unlessMask c 6 36 1, unlessMask c 6 37 1, unlessMask c 6 38 1, rz c 39 9]
  handles := fun c => if rd c 16 1 = 1 then [] else [⟨8, [tyTerrace], false, false⟩]

/-- Ranges of OP TERRACE, and the shares it may not take to 0. -/
def State.chkSetTerrace (s : State) (c : Bytes) : Chk :=
  match s.terrace (hTerr (cHandle c)) with
  | none => some (stSTALE_HANDLE, noField)
  | some te =>
    let d := te.desc
    let on := smask c
    let uses := fun p => (if p = 0 then d.t1mp0 else d.t1mp1) ≠ 0 || (d.shSize ≠ 0 && d.shPort = p)
    let share := fun off p => decide (rd c off 1 ≤ 60) && (rd c off 1 != 0 || !uses p)
    Chk.first [
      field (rd c 17 1 != 0) 17,
      field (!on 2 || holesOk (rd c 19 1)) 19,
      field (!on 0 || weightsOk (rd c 20 4)) 20,
      field (!on 3 || turnOk (rd c 24 4)) 24,
      field (!on 4 || rd c 28 4 ≤ 4194304) 28,
      field (!on 5 || rd c 32 4 ≤ 2 ^ 24) 32,
      field (!on 6 || share 36 0) 36,
      field (!on 6 || (share 37 1 && (rd c 37 1 == 0 || s.cfg.memPorts == 2))) 37,
      field (!on 6 || (1 ≤ rd c 38 1 && rd c 38 1 ≤ 60)) 38,
      cond (!on 6 || s.bwFits (hTerr (cHandle c)) (rd c 36 1) (rd c 37 1) (rd c 38 1)) stNO_RESOURCE]

/-- The selected settings: some at once, TURN_TICKS and the shares at the next round. -/
def Terrace.set (te : Terrace) (c : Bytes) : Terrace :=
  let on := smask c
  let d := te.desc
  { te with
    expert := if on 1 then bit (rd c 18 1) 0 else te.expert
    desc := { d with
      weights := if on 0 then rd c 20 4 else d.weights
      holeH := if on 2 then rd c 19 1 else d.holeH
      reserve := if on 4 then rd c 28 4 else d.reserve
      budget := if on 5 then rd c 32 4 else d.budget }
    nextTurn := if on 3 then some (rd c 24 4) else te.nextTurn
    nextBw := if on 6 then some (rd c 36 1, rd c 37 1, rd c 38 1) else te.nextBw }

/-- OP TERRACE, and the reserved OP values, which check 3 rejects. -/
def execTerraceSetTerrace (src : Src) (c : Bytes) (s : State) : Host.Outcome State Fault Refusal :=
  .next (s.command shTERRACE_SET (shTERRACE_SET.row c && rd c 16 1 != 1) src c (fun s => s.chkSetTerrace c) (fun s =>
    (s.modT (hTerr (cHandle c)) (fun te => te.set c)).only (ticketOf src c) stOK (cHandle c) 0 0))

def chkSetSchedule (c : Bytes) : Chk :=
  let lo := if bit (rd c 18 1) 0 then 400 else 100
  Chk.first [field (cHandle c == 0) 8, field (lo ≤ rd c 20 4 && rd c 20 4 ≤ 10000) 20]

/-- OP SCHEDULE: in force from the next round. -/
def execTerraceSetSchedule (src : Src) (c : Bytes) (s : State) : Host.Outcome State Fault Refusal :=
  .next (s.command shTERRACE_SET (shTERRACE_SET.row c && rd c 16 1 == 1) src c (fun _ => chkSetSchedule c) (fun s =>
    { s with sched := { s.sched with posted := some (rd c 20 4, bit (rd c 18 1) 0) } }.only (ticketOf src c) stOK 0 0 0))

/-! ### KEY_INSTALL (R466) -/

def shKEY_INSTALL : Shape where
  op := 0x05
  body := fun c => [rz c 24 24]
  handles := fun _ => [⟨8, [tyTerrace], false, false⟩]
  addrs := [16]
  hostMem := true

/-- The terrace holds nothing under its present keys. -/
def Terrace.keyless (te : Terrace) : Bool := te.objs.isEmpty && te.reqs.isEmpty && te.starters.isEmpty

def State.keyInstall (s : State) (src : Src) (c : Bytes) (blob : HostRead) : State :=
  let tk := ticketOf src c
  let t := hTerr (cHandle c)
  match s.terrace t, s.fuses.rootKey, blob with
  | none, _, _ => s.refuse tk stSTALE_HANDLE noField
  | _, none, _ => s.refuse tk stNOT_PERMITTED noField
  | some te, some root, blob =>
    if !te.keyless then s.refuse tk stNOT_PERMITTED noField
    else match blob with
      | .error => s.refuse tk stDATA_ERROR noField
      | .okay b => match aesUnwrap (tkek root t s.lcs.state) (b.take 104) with
        | none => s.refuse tk stBAD_FORMAT noField
        | some k => (s.modT t (fun te => { te with keys := k })).only tk stOK (cHandle c) 0 0

def execKeyInstall (src : Src) (c : Bytes) (blob : HostRead) (s : State) : Host.Outcome State Fault Refusal :=
  .next (s.command shKEY_INSTALL (shKEY_INSTALL.row c) src c (fun _ => field (rd c 16 8 % 8 == 0) 16)
    (fun s => s.keyInstall src c blob))

/-! ### TERRACE_DESTROY (R467 to R469) -/

def shTERRACE_DESTROY : Shape where
  op := 0x03
  body := fun c => [rz c 16 32]
  handles := fun _ => [⟨8, [tyTerrace], false, false⟩]

/-- FIRST is written and the terrace enters DESTROYING; changes that wait for the next round are cancelled (R469). -/
def execTerraceDestroy (src : Src) (c : Bytes) (s : State) : Host.Outcome State Fault Refusal :=
  .next (s.command shTERRACE_DESTROY (shTERRACE_DESTROY.row c) src c (fun _ => none) (fun s =>
    let tk := ticketOf src c
    (s.first tk (cHandle c)).modT (hTerr (cHandle c)) (fun te =>
      { te with destroying := some tk, destroyStep := 1, destroyAt := s.tick, nextTurn := none, nextBw := none })))

/-! #### DESTROY_DISCARD_TIMER -/

/-- Waiting records of a stream that has had no credit for 100,000 ticks are discarded; a request whose ENDED record goes
writes its FINAL. DEDUCED, log entry 84. -/
def State.discardRecords (s : State) (te : Terrace) (h : Handle) (x : RStream) : State :=
  if x.waiting.isEmpty || s.tick < max x.creditAt te.destroyAt + 100000 then s
  else
    let t := hTerr h
    let s := (s.modStream h (fun y => { y with waiting := [], discarded := true })).count cDESTROY_DISCARD t locBlock x.waiting.length
    (s.forEach (x.waiting.filter (fun r => bit r.flags 2)) (fun s r => s.reqFinal r.req)).settleStream h

/-- Held completions that the ring has not taken within 100,000 ticks are discarded. DEDUCED, log entry 84. -/
def State.discardHeld (s : State) (t : Nat) (te : Terrace) : State :=
  let late := fun (c : Cpl) => max c.at_ te.destroyAt + 100000 ≤ s.tick
  let gone := (s.mailbox t).held.filter late
  let last := (gone.filter (fun c => c.kind = kONLY || c.kind = kFINAL)).length
  (s.modMb t (fun m => { m with held := m.held.filter (fun c => !late c), live := m.live - last })).count cDESTROY_DISCARD t
    locBlock gone.length

def State.destroyDiscard (s : State) (t : Nat) : State :=
  match s.terrace t with
  | none => s
  | some te =>
    if te.destroying.isNone then s
    else (s.forEach te.streams (fun s x => s.discardRecords te (mkHandle t tyStream x.1 x.2.gen) x.2)).discardHeld t te

def execDestroyDiscardTimer (t : Nat) (s : State) : Host.Outcome State Fault Refusal := .next (s.destroyDiscard t)

/-! #### TERRACE_DESTROY_DONE and T1_CLEAR_DONE -/

/-- Step 4 of R467 is over: every command has written its FINAL, and every record its stream. -/
def State.destroyDrained (s : State) (t : Nat) (te : Terrace) : Bool :=
  te.destroyStep = 2 && te.sp.flight.isNone && te.sp.closing.isNone && te.egressQ.isEmpty &&
  te.reqs.all (fun r => r.2.state = rsDONE) && te.streams.all (fun x => x.2.waiting.isEmpty && x.2.out = 0) &&
  s.tasks.all (fun k => k.terr ≠ t) && (s.mailbox t).held.isEmpty && (s.mailbox t).live = 0 && (s.mailbox t).openOnly.isEmpty

/-- Does a memory-port operation serve the terrace? DEDUCED, log entry 83. -/
def MpKind.terr (s : State) : MpKind → Option Nat
  | .fill h _ => some (hTerr h)
  | .maskFill h _ _ _ _ => some (hTerr h)
  | .line h _ _ _ _ => some (hTerr h)
  | .sealRead h => some (hTerr h)
  | .rewrite h _ => some (hTerr h)
  | .reqFill h => some (hTerr h)
  | .spillWrite h => some (hTerr h)
  | .spillRead h => some (hTerr h)
  | .journalDelta t _ => some t
  | .journalBase t _ => some t
  | .objWrite k => (s.task k).map (·.terr)
  | .objFill k => (s.task k).map (·.terr)
  | .window h _ _ _ => some (hTerr h)
  | .taskWrite k _ _ _ => (s.task k).map (·.terr)
  | .mirror t _ _ => some t
  | .starterToks h => some (hTerr h)
  | .bootHeader => none
  | .bootBody => none

def FlashJob.terr (s : State) : FlashJob → Option Nat
  | .sealCopy h => some (hTerr h)
  | .coldHint h _ => some (hTerr h)
  | .warmHint h _ _ => some (hTerr h)
  | .backCopy k => (s.task k).map (·.terr)
  | .promote h => some (hTerr h)
  | .refetch h _ => some (hTerr h)

/-- Steps 5 to 7 of R467: everything of the terrace is freed and cleared, its mailbox takes its reset values, every slot's
generation advances, and its T1 space waits for its overwrite (R468). The advance is one step, beside the step each slot
made when it was freed before; a slot still live makes this one alone (R94; DESIGN CHOICE, log entry 134). DEDUCED, log
entry 83. -/
def State.clearTerrace (s : State) (t : Nat) (te : Terrace) : State :=
  let d := te.desc
  let job : List ClearJob := if d.t1mp0 = 0 && d.t1mp1 = 0 && d.shSize = 0 then []
    else [⟨s.nextId, d.t1mp0, d.t1mp1, te.t1At0, te.t1At1, d.shPort, d.shBase, d.shSize⟩]
  { s.modMb t (fun m => { epoch := m.epoch + 1 }) with
    terr := s.terr.del t
    genBase := s.genBase.put t ((s.genBase.get t).getD 0 + 1)
    tasks := s.tasks.filter (fun k => k.terr ≠ t)
    cores := ((List.range s.cores.length).zip s.cores).map (fun c => if bit d.coreMask c.1 then {} else c.2)
    hfp := s.hfp.filter (fun o => o.terr ≠ t)
    mp := s.mp.filter (fun o => o.kind.terr s ≠ some t)
    flash := { s.flash with jobs := s.flash.jobs.filter (fun j => j.job.terr s ≠ some t)
                            prog := s.flash.prog.filter (fun m => hTerr m.obj ≠ t) }
    spring := { s.spring with queue := s.spring.queue.filter (· ≠ t) }
    clearing := s.clearing ++ job
    nextId := s.nextId + 1 }

def State.destroyDone (s : State) (t : Nat) : State :=
  match s.terrace t with
  | none => s
  | some te => match te.destroying with
    | none => s
    | some tk =>
      if s.destroyDrained t te then (s.clearTerrace t te).final tk stOK tk.handle 0 noField 0 0 else s

def execTerraceDestroyDone (t : Nat) (s : State) : Host.Outcome State Fault Refusal := .next (s.destroyDone t)

/-- The overwrite is complete: the T1 space is free again (R468). -/
def execT1ClearDone (job : Nat) (s : State) : Host.Outcome State Fault Refusal :=
  .next { s with clearing := s.clearing.filter (fun j => j.id ≠ job) }

end Sys2Proof.Machine
end

