-- ==== Sys2Proof/Machine/Turns.lean ====
section
/-! DEFINITION. The schedule of rounds, turns and management slots (R458 to R462), the refit and chunk size at a turn's end
(R276, R332), and the meaning of SLOT_END. -/

namespace Sys2Proof.Machine

/-! ### Work of a slot -/

/-- The schedule runs while firmware does, in S0 and while the block quiesces (R491). -/
def State.scheduleRuns (s : State) : Bool := s.tableRuns

/-- An entry stands ready at SQ_HEAD. -/
def Mailbox.hasReady (m : Mailbox) : Bool :=
  match m.ahead.get m.sqHead with
  | some c => m.ready c
  | none => false

/-- A command of the mailbox can start in its slot. -/
def State.intakeReadyAt (s : State) (mb : Nat) : Bool := s.running && !s.intakeClosed && (s.mailbox mb).hasReady

/-- A quantum or an egress message of terrace `t` is ready (R460). DEDUCED, log entry 112. -/
def State.turnWork (s : State) (t : Nat) : Bool :=
  match s.terrace t with
  | none => false
  | some te => (te.destroying.isNone && s.intakeReadyAt t) || !te.egressQ.isEmpty

/-- A management command is ready, or a command on the mailbox of a FREE terrace (R449, R460). -/
def State.mgmtWork (s : State) : Bool :=
  (s.sleep.ticket.isNone && (s.intakeReadyAt 16 || (s.running && !s.intakeClosed && s.sbReady))) ||
  (List.range s.cfg.terraces).any (fun t => (s.terrace t).isNone && s.intakeReadyAt t)

def State.slotWork (s : State) : Bool :=
  match s.sched.turn with
  | some t => s.turnWork t
  | none => s.mgmtWork

/-! ### The end of a turn -/

/-- The largest multiple of 64 up to K_MAX whose predicted interval meets TARGET; 64 if none does. -/
def Terrace.kModel (te : Terrace) : Nat :=
  let p := te.sp.cur
  if p.target = 0 then p.kMax
  else
    let ks := ((List.range (p.kMax / 64)).map (fun i => 64 * (i + 1))).filter (fun k =>
      let d := te.model.d te.sp.lastRows (k, 1)
      d.1 ≤ (p.target : Int) * (d.2 : Int))
    ks.getLastD 64

/-- Refit, then the chunk cap and k for the next turn (R276, R332, R485). -/
def Terrace.endTurn (te : Terrace) : Terrace :=
  let te := { te with model := if te.model.fresh < 16 then te.model else te.model.refit }
  let p := te.sp
  let cap := if 2 ≤ p.lateSteps then max 64 (p.cap / 128 * 64) else min p.cur.kMax (2 * p.cap)
  let room := (p.cur.rowsMax - te.desc.liveSlots) / 64 * 64
  { te with sp := { p with cap := cap, lateSteps := 0, k := min te.kModel (min cap room) } }

/-! ### The next slot -/

/-- The first terrace of the round behind number `n`; `none` starts from the lowest. -/
def State.nextTurnAfter (s : State) (n : Option Nat) : Option Nat :=
  (s.terr.find? (fun x => x.2.inRound && (match n with | some k => decide (k < x.1) | none => true))).map (·.1)

/-- What waits for the start of a round takes effect (R457, R458). -/
def State.newRound (s : State) : State :=
  let sc := match s.sched.posted with
    | some (m, x) => { s.sched with mgmt := m, sealed := x, posted := none }
    | none => s.sched
  { s with
    sched := sc
    terr := s.terr.mapVals (fun _ te =>
      let d := te.desc
      { te with
        inRound := true
        desc := { d with
          turn := te.nextTurn.getD d.turn
          bw0 := (te.nextBw.map (·.1)).getD d.bw0
          bw1 := (te.nextBw.map (·.2.1)).getD d.bw1
          bwH := (te.nextBw.map (·.2.2)).getD d.bwH }
        nextTurn := none, nextBw := none }) }

/-- Is an idle boundary due in the turn that begins now (R324)? A terrace being destroyed needs no entry (DEDUCED, log entry
17). -/
def Terrace.idleAtStart (te : Terrace) : Terrace :=
  { te with idleDone := te.sp.flight.isSome || (te.reqs.isEmpty && te.destroyStep ≠ 1) }

/-- A management slot begins at the present tick; under sealed turns the boundary of `next` is sampled in it (R462). -/
def State.startMgmt (s : State) (next : Option Nat) : State :=
  let s := { s with sched :=
    { s.sched with turn := none, next := next, start := s.tick, len := s.sched.mgmt, worked := false } }
  match next with
  | some t => if s.sched.sealed then s.modT t Terrace.idleAtStart else s
  | none => s

/-- Terrace `t`'s turn begins: its waiting egress messages are presented (R340). -/
def State.startTurn (s : State) (t len : Nat) : State :=
  let had := ((s.terrace t).map (fun te => !te.egressQ.isEmpty)).getD false
  let s := { s with sched := { s.sched with turn := some t, next := some t, start := s.tick, len := len, worked := had, busy := 0 } }
  let s := if s.sched.sealed then s else s.modT t Terrace.idleAtStart
  (s.tally cTURNS t).present t

/-- The management slot before the next turn of the round, or of the next round. -/
def State.afterTurn (s : State) (done : Option Nat) : State :=
  match done.bind (fun t => s.nextTurnAfter (some t)) with
  | some t => s.startMgmt (some t)
  | none => let s := s.newRound; s.startMgmt (s.nextTurnAfter none)

/-- A slot ends at its length, or, unsealed, once it is idle and has lasted a tick (R459 to R461). DEDUCED, log entry 24. -/
def State.slotEnds (s : State) : Bool :=
  s.scheduleRuns && (!s.slotOpen || (!s.sched.sealed && s.sched.start < s.tick && !s.slotWork))

/-- A message that the accelerator did not take in time runs past a sealed turn (R461). DESIGN CHOICE, log entry 151. -/
def State.overrun (s : State) (t : Nat) : State :=
  if s.sched.sealed && s.sched.busy ≠ 0 then
    { s with fresh := s.fresh + 1 }.count cTURN_OVERRUN t locBlock (b2n (Config.overruns s.fresh))
  else s

def State.slotEnd (s : State) : State :=
  if !s.slotEnds then s
  else match s.sched.turn with
    | some t => ((s.overrun t).modT t Terrace.endTurn).afterTurn (some t)
    | none => match s.sched.next with
      | some t => match s.terrace t with
        | some te => s.startTurn t te.desc.turn
        | none => s.afterTurn (some t)
      | none => s.afterTurn none

def execSlotEnd (s : State) : Host.Outcome State Fault Refusal := .next s.slotEnd

end Sys2Proof.Machine
end

