-- ==== Sys2Proof/Machine/Mailboxes.lean ====
section
/-! DEFINITION. The block's side of the mailbox registers (R72 to R88, R115): doorbells, returned credits, enabling,
disabling and coalescing. What the rows of the table do with them while the block sleeps stands in Machine/Registers.lean. -/

namespace Sys2Proof.Machine

/-! ### Doorbells (R78, R79, R85, R87) -/

/-- What a tail written anew leaves of the read-ahead: entries and doorbells up to the tail (R79). -/
def Mailbox.retail (m : Mailbox) (t : Nat) : Mailbox :=
  let m := { m with sqTail := BitVec.ofNat 32 t }
  { m with ahead := m.ahead.filter (fun e => m.inRange e.1), readNext := if m.inRange m.readNext then m.readNext else t
           bells := m.bells.filter (fun b => m.ahead_ b.1 ≤ m.ahead_ t) }

/-- MB_SQ_TAIL written with `v` at tick `at_`: the entries up to it are announced. In ERROR the register takes the value and
nothing else follows. DESIGN CHOICE, log entry 128. -/
def State.ringTail (s : State) (mb : Nat) (v : Word) (at_ : Tick) : State :=
  let t := v.toNat % 65536
  let m := s.mailbox mb
  let s := s.modMb mb (fun m => { m with sqTail := BitVec.ofNat 32 t })
  if !m.enable || m.error then s
  else if 2 ^ m.sqLog ≤ t then s.mbError mb 0x1
  else if m.sqTail.toNat = t then s
  else (s.modMb mb (fun m => let m := m.retail t; { m with bells := m.bells ++ [(t, at_)] })).readAhead mb 16

/-! ### Credits (R83, R85) -/

/-- A token stream's PROGRESS has been passed by MB_CQ_HEAD (R214). -/
def State.passProgress (s : State) (h : Handle) : State := s.modTok h (fun x => { x with passed := x.passed + 1 })

/-- Room in the completion ring lets held completions and paused announcements go on (R84, R86). -/
def State.roomMade (s : State) (mb : Nat) : State :=
  let s := s.flushHeld mb ((s.mailbox mb).held.length)
  if mb < 16 then s.tokRunAll mb else s

/-- MB_CQ_HEAD written with `v`: the entries before it return their credits; in ERROR the register takes the value and no
credit returns. DESIGN CHOICE, log entry 128. -/
def State.moveHead (s : State) (mb : Nat) (v : Word) : State :=
  let h := v.toNat % 65536
  let m := s.mailbox mb
  let d := 2 ^ m.cqLog
  let n := (h + d - m.cqHead.toNat % d) % d
  let s := s.modMb mb (fun m => { m with cqHead := BitVec.ofNat 32 h })
  if !m.enable || m.error then s
  else if d ≤ h || m.used < n then s.mbError mb 0x2
  else
    let s := s.modMb mb (fun m => { m with used := m.used - n, outQ := m.outQ.drop n })
    let s := s.forEach (((m.outQ.take n).map (·.2)).filter (· ≠ 0)) State.passProgress
    s.roomMade mb

/-! ### Enabling and disabling (R75, R85, R86) -/

def ringBase (lo hi : Word) : Nat := lo.toNat / 64 * 64 + hi.toNat * 2 ^ 32

/-- ENABLE = 1 on a disabled mailbox: the ring registers are latched and the rings start empty; with an unusable setting the
mailbox then enters ERROR with code 3 or 6. DEDUCED, log entry 113. -/
def State.enableMb (s : State) (mb : Nat) : State :=
  let m := s.mailbox mb
  if m.enable then s
  else
    let sl := m.sqSize.toNat % 32
    let cl := m.cqSize.toNat % 32
    let sb := ringBase m.sqBaseLo m.sqBaseHi
    let cb := ringBase m.cqBaseLo m.cqBaseHi
    let s := s.modMb mb (fun m => { m with
      enable := true, sqBase := sb, sqLog := sl, cqBase := cb, cqLog := cl, sqHead := 0, cqTail := 0, phase := true
      sqTail := 0, cqHead := 0, used := 0, outQ := [], ahead := [], readNext := 0, bells := [], epoch := m.epoch + 1 })
    let s := s.forEach ((m.outQ.map (·.2)).filter (· ≠ 0)) State.passProgress
    if sl < 1 || 16 < sl || cl < 1 || 16 < cl || sb = 0 || cb = 0 then s.mbError mb 0x3
    else if 2 ^ cl < m.held.length + 2 then s.mbError mb 0x6
    else s.roomMade mb

/-- ENABLE = 0: ERROR and its code clear, entries read ahead and not taken are dropped. -/
def State.disableMb (s : State) (mb : Nat) : State :=
  s.modMb mb (fun m => { m with enable := false, error := false, errCode := 0, ahead := [], bells := [] })

/-! ### Coalescing (R76, R115, R569) -/

/-- A write to MB_IRQ: the conditions of R115 are tested at once, and a newly set MSG_MODE may write a pending message. -/
def State.writeMbIrq (s : State) (mb : Nat) (v : Word) : State :=
  let was := s.msgMode mb
  let s := (s.modMb mb (fun m => { m with irq := v &&& 0xFFFFFF03 })).testMbIrq mb
  if !was && s.msgMode mb then s.unmaskMsg mb else s

/-! ### While the block sleeps (R88, R493, R496, R500) -/

/-- The always-on front end answers the host fabric in place of the registers (R496). -/
def State.frontEnd (s : State) : Bool :=
  match s.sleep.phase with
  | .s2 | .s3Enter | .s3 | .wakeVolt | .wakeClk | .waking => true
  | .awake | .quiesce | .entering | .abort | .s1 => false

/-- eclk and wclk run: the block's own work goes on. DEDUCED, log entry 26. -/
def State.clocked (s : State) : Bool := s.sleep.phase == .awake || s.sleep.phase == .quiesce

/-- Shadowed doorbells and heads are read after the wake, the management mailbox's first (R104), every doorbell with its own
arrival (R88). DEDUCED, log entry 96. -/
def State.readShadows (s : State) : State :=
  s.forEach (16 :: List.range 16) (fun s mb =>
    let m := s.mailbox mb
    let s := s.modMb mb (fun m => { m with shTail := [], shHead := none })
    let s := s.forEach m.shTail (fun s x => s.ringTail mb x.1 x.2)
    match m.shHead with | some v => s.moveHead mb v | none => s)

end Sys2Proof.Machine
end

