-- ==== Sys2Proof/Machine/Power.lean ====
section
/-! DEFINITION. Performance levels (R480 to R485, R563, R594, R595): the power-port handshake, a level change and its limit, and
the meanings of POWER_SET, BIAS_SETTLED and AUTO_LEVEL_TICK. The acknowledgement rows stand in Machine/Sleep.lean. -/

namespace Sys2Proof.Machine

/-! ### Settings of a level (R480) -/

def readAssistOf (l : Nat) : Nat := [0, 0, 1, 1, 2, 2, 3, 3].getD l 0
def writeAssistOf (l : Nat) : Nat := [0, 0, 0, 1, 1, 2, 2, 3].getD l 0
def bodyBiasOf (l : Nat) : BitVec 8 := [0, 0, 0, 0x11, 0x22, 0x33, 0x44, 0x55].getD l 0

def State.modPwr (s : State) (f : Power → Power) : State := { s with pwr := f s.pwr }

/-- A step interval in which a level change or a sleep falls does not enter the fit (R485). DEDUCED, log entry 122. -/
def State.taintModels (s : State) : State :=
  { s with terr := s.terr.mapVals (fun _ te => { te with model := { te.model with tainted := true } }) }

def scaleFrac (q : Int × Nat) (num den : Nat) : Int × Nat := (q.1 * num, q.2 * den)

/-- Coefficients in force times f_old / f_new; they stay until 16 intervals have been measured at the new level (R485). -/
def Model.scale (m : Model) (old new : Nat) : Model :=
  { m with a := scaleFrac m.a (eclk10 old) (eclk10 new), b := scaleFrac m.b (eclk10 old) (eclk10 new)
           c := scaleFrac m.c (eclk10 old) (eclk10 new), fresh := 0 }

def State.scaleModels (s : State) (old new : Nat) : State :=
  if old = new then s
  else { s with terr := s.terr.mapVals (fun _ te => { te with model := te.model.scale old new }) }

/-! ### Requests (R594, R595) -/

/-- Raise the voltage request once the acknowledgement is 0. -/
def Power.askVolt (p : Power) (now : Tick) : Power :=
  if p.phase = .volt && !p.vreq && !p.vack then { p with vsel := p.vGoal, vreq := true, since := now } else p

/-- Raise the frequency request once the acknowledgement is 0. -/
def Power.askFreq (p : Power) (now : Tick) : Power :=
  if p.phase = .freq && !p.freq && !p.fack then { p with fsel := p.target, freq := true, since := now } else p

def Power.wantVolt (p : Power) (sel : Nat) (now : Tick) : Power := ({ p with phase := .volt, vGoal := sel } : Power).askVolt now

/-- A request that waited for its acknowledgement to fall, or for step 1 of R508, is raised. -/
def Power.ask (p : Power) (now : Tick) : Power := (p.askVolt now).askFreq now

def Power.wantFreq (p : Power) (now : Tick) : Power := ({ p with phase := .freq } : Power).askFreq now

/-- Assist and bias of the target level are applied and settle (R481). -/
def Power.settle (p : Power) (now : Tick) : Power :=
  { p with readAssist := readAssistOf p.target, writeAssist := writeAssistOf p.target, bb := bodyBiasOf p.target
           phase := .bias, since := now }

/-! ### A change (R481) -/

/-- A change to level `b` begins: up asks for the voltage first, down for the clocks. -/
def State.beginChange (s : State) (b : Nat) (bySet : Bool) : State :=
  let s := s.taintModels
  s.modPwr (fun p =>
    let p := { p with target := b, changing := true, bySet := bySet }
    if b < p.level then p.wantVolt b s.tick else p.wantFreq s.tick)

/-- The level the settings call for (R483, R484). -/
def State.desiredLevel (s : State) : Nat :=
  let p := s.pwr
  if !p.auto || s.sched.sealed then p.levelHi
  else if p.level < p.levelHi then p.levelHi
  else if p.levelLo < p.level then p.levelLo
  else p.level

/-- With no change in progress: start the change the settings call for, or end the POWER_SET that waited for it. -/
def State.powerNext (s : State) : State :=
  if s.pwr.phase ≠ .idle then s
  else if s.pwr.level ≠ s.desiredLevel then s.beginChange s.desiredLevel s.pwr.setBy.isSome
  else match s.pwr.setBy with
    | some tk => (s.modPwr (fun p => { p with setBy := none })).finish tk stOK 0 noField
        (s.pwr.level + 256 * b2n s.pwr.auto) 0
    | none => s

/-- The last request of a change has been acknowledged. -/
def State.endChange (s : State) : State :=
  ((s.taintModels.modPwr (fun p => { p with phase := .idle, changing := false, bySet := false })).tally cPWR_LEVEL_CHANGE
    noTerr).powerNext

/-- The voltage of the change is in force (R481). -/
def State.voltDone (s : State) : State :=
  let s := s.modPwr (fun p => { p with vLevel := p.vsel, vAcked := true })
  if s.pwr.level = s.pwr.target then s.endChange else s.modPwr (fun p => p.settle s.tick)

/-- The clocks of the change are in force. -/
def State.freqDone (s : State) : State :=
  let old := s.pwr.level
  let s := (s.modPwr (fun p => { p with fLevel := p.fsel, fAcked := true })).taintModels
  let s := s.scaleModels old s.pwr.fLevel
  if s.pwr.vLevel = s.pwr.target then s.endChange else s.modPwr (fun p => p.settle s.tick)

/-- The bias has settled for 200 ticks: the change goes on to its second request. -/
def State.biasSettled (s : State) : State :=
  if s.pwr.phase = .bias && s.pwr.since + 200 ≤ s.tick then
    s.modPwr (fun p => if p.level ≠ p.target then p.wantFreq s.tick else p.wantVolt p.target s.tick)
  else s

def execBiasSettled (s : State) : Host.Outcome State Fault Refusal := .next s.biasSettled

/-- An acknowledgement missed its limit: the change ends at the last acknowledged pair (R482). -/
def State.changeFails (s : State) (detail : Nat) : State :=
  let mine := s.pwr.bySet
  let s := (s.taintModels.modPwr (fun p => { p with
    vreq := false, freq := false, phase := .idle, changing := false, bySet := false, target := p.fLevel })).tally
      cPWR_ACK_TIMEOUT noTerr
  let s := s.fault fcPOWER noTerr locBlock cPWR_ACK_TIMEOUT detail 0 0
  match s.pwr.setBy with
  | some tk =>
    if mine then (s.modPwr (fun p => { p with setBy := none })).finish tk stPOWER_STATE 0 noField 0 0 else s.powerNext
  | none => s

/-! ### POWER_SET (R483) -/

def shPOWER_SET : Shape where
  op := 0x07
  noHandle := true
  body := fun c => [rc c 16 1, rm c 17 1 0xF8, (if rd c 16 1 = 0 then rz c 18 1 else rm c 18 1 0xF8), rz c 19 1, rz c 24 24]

def chkPowerSet (c : Bytes) : Chk :=
  let n := rd c 20 4
  Chk.first [field (rd c 16 1 == 0 || rd c 17 1 ≤ rd c 18 1) 18, field (n == 0 || (100 ≤ n && n ≤ 1000000)) 20]

def execPowerSet (src : Src) (c : Bytes) (s : State) : Host.Outcome State Fault Refusal :=
  .next (s.command shPOWER_SET (shPOWER_SET.row c) src c (fun _ => chkPowerSet c) (fun s =>
    let tk := ticketOf src c
    ((s.defer tk).modPwr (fun p => { p with
      s1Idle := rd c 20 4, auto := rd c 16 1 == 1, levelHi := rd c 17 1, levelLo := rd c 18 1, setBy := some tk })).powerNext))

/-! ### AUTO (R484) -/

/-- `busy` of `total` eclk cycles of all rill cores ran a task in the last millisecond. -/
def State.autoLevel (s : State) (busy total : Nat) : State :=
  if !s.running || !s.pwr.auto || s.tick < s.pwr.lastAuto + 100000 then s
  else
    let late := s.terr.any (fun x => x.2.lateAuto)
    let p := s.pwr
    let s := { s with terr := s.terr.mapVals (fun _ te => { te with lateAuto := false }), pwr := { p with lastAuto := s.tick } }
    if p.phase ≠ .idle then s
    else if s.sched.sealed then s.powerNext
    else if 3 * total < 4 * busy || late then (if p.levelHi < p.level then s.beginChange (p.level - 1) false else s)
    else if 5 * busy < 2 * total then (if p.level < p.levelLo then s.beginChange (p.level + 1) false else s)
    else s

def execAutoLevelTick (busy total : Nat) (s : State) : Host.Outcome State Fault Refusal := .next (s.autoLevel busy total)

end Sys2Proof.Machine
end

