-- ==== Sys2Proof/Machine/Boot.lean ====
section
/-! DEFINITION. Resets, the start-up sequence, fuses and firmware image, and the lifecycle (R506 to R523): the reset rows, the
rows of the start-up steps, and LIFECYCLE_ADVANCE. -/

namespace Sys2Proof.Machine

/-! ### Resets (R506, R507) -/

/-- Inputs of the block and the model's own counters, which no reset changes. DESIGN CHOICE, log entry 10. -/
def State.keepInputs (s r : State) : State :=
  { r with
    cfg := s.cfg, fresh := s.fresh, medium := s.medium, nextId := s.nextId, mpReady := s.mpReady, spAttn := s.spAttn, pending := s.pending
    pwr := { r.pwr with vack := s.pwr.vack, fack := s.pwr.fack, clkack := s.pwr.clkack }
    flash := { r.flash with phyReady := s.flash.phyReady } }

/-- Step 1 of R508: VDD_K of P4 is requested. DEDUCED, log entry 87. DESIGN CHOICE, log entry 123. -/
def State.startUp (s : State) (straps : Straps) : State :=
  { s with boot := { step := .voltage, straps := straps, since := s.tick }
           pwr := ({ s.pwr with vreq := false, freq := false, phase := .idle } : Power).wantVolt 4 s.tick }

/-- AON_RESET_N, and the power-up after OFF: nothing is preserved, the timebase is 0, and step 1 raises its request at the next
tick (R486, R506, R508, R594). -/
def State.powerUp (s : State) (straps : Straps) : State :=
  let r := s.keepInputs State.reset
  { r with boot := { r.boot with straps := straps } }

def execAonResetN (straps : Straps) (s : State) : Host.Outcome State Fault Refusal := .next (s.powerUp straps)

def execVddAonOff (straps : Straps) (s : State) : Host.Outcome State Fault Refusal := .next (s.powerUp straps)

/-- SYS_RESET_N and the internal resets: the timebase and its latches, the sideband's dynamic address, the power port's
outputs and the record of a fault that stopped Wellhead are kept, and RESET_CAUSE tells the cause. DEDUCED, log entry 85.
DEDUCED, log entry 92. -/
def State.sysReset (s : State) (cause : Nat) (straps : Straps) : State :=
  let r := s.keepInputs State.reset
  { r with
    tick := s.tick
    lcs := { resetCause := cause }
    sb := { dynAddr := s.sb.dynAddr, dynValid := s.sb.dynValid }
    faults := { kept := s.faults.kept }
    tbLatch := s.tbLatch
    pwr := { r.pwr with vsel := s.pwr.vsel, fsel := s.pwr.fsel, bb := s.pwr.bb, clkreq := s.pwr.clkreq
                        iso := s.pwr.iso, memQuiet := s.pwr.memQuiet } }.startUp straps

def execSysResetN (straps : Straps) (s : State) : Host.Outcome State Fault Refusal := .next (s.sysReset 1 straps)

/-- The watchdog: firmware has not serviced it for 10 ms. A parity error in Wellhead's data memory that stopped Wellhead leaves
its record in the always-on domain (R534, R545). -/
def State.watchdog (s : State) (straps : Straps) (parity : Option ParityErr) : State :=
  if !s.clocked then s
  else
    let s := match parity with
      | some e =>
        let r : FaultRec :=
          ⟨0, fcPARITY_LOST, noTerr, locBlock, cPARITY_LOSS_EVT.1 * 256 + cPARITY_LOSS_EVT.2, 9, 0, s.tick, 0xFFFFFFFF,
            e.word⟩
        { s with faults := { s.faults with kept := some r } }
      | none => s
    s.sysReset 3 straps

def execWatchdogReset (straps : Straps) (parity : Option ParityErr) (s : State) : Host.Outcome State Fault Refusal :=
  .next (s.watchdog straps parity)

/-! ### Failures of the sequence (R509, R510, R515) -/

/-- The sequence stops with a code; a waiting sideband GO is refused. A failure of step 6 or 7 raises source 22. DEDUCED,
log entry 86. -/
def State.bootFail (s : State) (code : Nat) (raise : Bool) : State :=
  let s := { s with
    lcs := { s.lcs with fwErr := code }
    boot := { s.boot with step := .failed }
    sleep := { s.sleep with code := 0 }
    sb := if s.sb.busy then { s.sb with busy := false, queued := false, refused := true } else s.sb }
  if raise then s.raise 22 else s

/-! ### Steps 2 to 5 -/

/-- Every clock the configuration has (R475, R476). DEDUCED, log entry 89. -/
def allClocks (cfg : Cfg) : BitVec 6 := if cfg.hasFlash then 0x3F else 0x1F

/-- Every clock the configuration has runs (R476). DEDUCED, log entry 89. -/
def State.clocksUp (s : State) : Bool := s.pwr.clkack &&& allClocks s.cfg == allClocks s.cfg

/-- Step 3: PD_WH is restored. -/
def State.bootPdWh (s : State) : State :=
  if s.boot.step = .clocks && s.clocksUp then { s with boot := { s.boot with step := .pdWh, since := s.tick } } else s

/-- Step 2: every clock request is raised. -/
def State.bootClocks (s : State) : State :=
  { s with boot := { s.boot with step := .clocks, since := s.tick }
           pwr := { s.pwr with vLevel := 4, vAcked := true, phase := .idle, clkreq := allClocks s.cfg } }.bootPdWh

/-- Step 4 begins with fuse word 0. -/
def execPdWhRestoreDone (s : State) : Host.Outcome State Fault Refusal :=
  .next (if s.boot.step = .pdWh then { s with boot := { s.boot with step := .otp, otpWord := 0, since := s.tick } } else s)

/-! #### Fuses (R517, R518) -/

/-- A lifecycle nibble counts as set when two of its bits are. -/
def nibbleSet (w : Nat) (i : Nat) : Bool :=
  2 ≤ b2n (bit w (4 * i)) + b2n (bit w (4 * i + 1)) + b2n (bit w (4 * i + 2)) + b2n (bit w (4 * i + 3))

/-- The state a LIFECYCLE word gives (R518). -/
def lifecycleOf (w : Word) : Nat :=
  let v := w.toNat
  let set := (List.range 5).map (nibbleSet v)
  let n := (set.takeWhile id).length
  if (set.drop n).any id || v / 2 ^ 20 ≠ 0 then lcINVALID else n

def fuseWord (f : Tbl Word) (i : Nat) : Word := (f.get i).getD 0

def fuseBytes (f : Tbl Word) (lo n : Nat) : Bytes := (List.range n).flatMap (fun i => le 4 (fuseWord f (lo + i)).toNat)

def rootKeyOf (f : Tbl Word) : Bytes := fuseBytes f 5 8

/-- ROOT_KEY matches ROOT_CHECK. -/
def rootKeyOk (f : Tbl Word) : Bool := crc32c (rootKeyOf f) == (fuseWord f 13).toNat

/-- The root key a lifecycle state uses (R517, R519). -/
def rootKeyFor (state : Nat) (f : Tbl Word) : Option Bytes :=
  if state = lcTEST then some (zeros 32)
  else if state = lcPROVISIONED || state = lcDEPLOYED then (if rootKeyOk f then some (rootKeyOf f) else none)
  else none

/-- Length of the run of set bits from bit 0. -/
def runFromZero (n : Nat) (v : Nat) : Nat := ((List.range n).takeWhile (bit v)).length

def loadFuses (f : Tbl Word) : Fuses where
  uid := fuseBytes f 1 4
  rootKey := rootKeyFor (lifecycleOf (fuseWord f 0)) f
  keyHash := fuseBytes f 14 12
  revoke := bits (fuseWord f 26).toNat 0 2
  minSvn := runFromZero 64 ((fuseWord f 27).toNat + 2 ^ 32 * (fuseWord f 28).toNat)
  sbStatic := (fuseWord f 29).extractLsb' 0 7
  sbValid := (fuseWord f 29).getLsbD 7
  sbInstance := (fuseWord f 29).extractLsb' 8 4
  sramTrim := fuseWord f 30
  flashTrim0 := fuseWord f 31
  flashTrim1 := fuseWord f 32

/-- The fields are loaded, OTP_VALID is set, and every SRAM word is cleared next. -/
def State.fusesRead (s : State) : State :=
  let f := s.boot.otpSeen
  { s with
    fuses := loadFuses f
    lcs := { s.lcs with state := lifecycleOf (fuseWord f 0), otpValid := true }
    boot := { s.boot with step := .sram, since := s.tick } }

/-- A fuse word arrives: each is read twice and the readings must agree. -/
def State.otpWord (s : State) (w : Word) : State :=
  if s.boot.step ≠ .otp then s
  else match s.boot.otpFirst with
    | none => { s with boot := { s.boot with otpFirst := some w, since := s.tick } }
    | some v =>
      if v ≠ w then s.bootFail 0x9 false
      else
        let n := s.boot.otpWord
        let s := { s with boot := { s.boot with
          otpFirst := none, otpSeen := s.boot.otpSeen.put n w, otpWord := n + 1, since := s.tick } }
        if n = 32 then s.fusesRead else s

def execOtpRvalid (w : Word) (s : State) : Host.Outcome State Fault Refusal := .next (s.otpWord w)

/-- 2,000 wclk cycles at P4's 0.60 GHz, in ticks (R480, R597). PRESUMED, log entry 125. -/
def otpLimit : Nat := 334

def execOtpReadTimeout (s : State) : Host.Outcome State Fault Refusal :=
  .next (if s.boot.step = .otp && s.boot.since + otpLimit ≤ s.tick then s.bootFail 0x9 false else s)

/-! ### Step 6: the firmware image (R513 to R515) -/

/-- The header is read from the source of the straps. -/
def State.readHeader (s : State) : State :=
  let s := { s with boot := { s.boot with step := .header, since := s.tick } }
  if s.boot.straps.bootSrc = 0 then s.hfpIssue noTerr .bootHeader
  else if s.boot.straps.bootSrc = 1 then s.mpIssue 0 .bootHeader
  else s.bootFail 0x1 true

/-- Step 5 ends: SCRAPPED and INVALID stop here (R508). -/
def execSramClearDone (s : State) : Host.Outcome State Fault Refusal :=
  .next (if s.boot.step ≠ .sram then s
    else if s.lcs.state = lcSCRAPPED || s.lcs.state = lcINVALID then s.bootFail 0xA false
    else s.readHeader)

def ihSvn (h : Bytes) : Nat := rd h 16 4
def ihSize (h : Bytes) : Nat := rd h 24 4

/-- FW_ERR 0x3: does the header fit this block? -/
def imageFits (cfg : Cfg) (h : Bytes) : Bool :=
  h.length == 256 && rd h 0 4 == 0x5746444B && rd h 10 1 == 0x07 && rd h 11 1 == 0x02
    && rd h 20 4 &&& 0xFFFFFFF1 == 0 && bit (rd h 20 4) cfg.code
    && 4096 ≤ ihSize h && ihSize h ≤ 8388608 && ihSize h % 4096 == 0
    && (slice h 29 19).all (fun b => b == 0) && (slice h 192 64).all (fun b => b == 0)

/-- The signature over bytes 0 to 95 under the key of KEY_SLOT. DESIGN CHOICE, log entry 9. -/
def imageSigned (h : Bytes) : Bool :=
  ecdsaVerify (Config.nymuriKey (rd h 28 1)) (sha384 (h.take 96)) (leVal 48 (slice h 96 48)) (leVal 48 (slice h 144 48))

/-- Checks 0x2 to 0x5; the body is read next. -/
def State.imageHeader (s : State) (ok : Bool) (h : Bytes) : State :=
  if s.boot.step ≠ .header then s
  else if !ok then s.bootFail 0x2 true
  else if !imageFits s.cfg h then s.bootFail 0x3 true
  else if 1 < rd h 28 1 || bit s.fuses.revoke (rd h 28 1) then s.bootFail 0x4 true
  else if !imageSigned h then s.bootFail 0x5 true
  else
    let s := { s with boot := { s.boot with step := .body, header := h, since := s.tick } }
    if s.boot.straps.bootSrc = 0 then s.hfpIssue noTerr .bootBody else s.mpIssue 0 .bootBody

/-- Checks 0x2, 0x6 and 0x7; the firmware starts and requests P0. DEDUCED, log entry 87. -/
def State.imageBody (s : State) (ok : Bool) (b : Bytes) : State :=
  let h := s.boot.header
  if s.boot.step ≠ .body then s
  else if !ok then s.bootFail 0x2 true
  else if b.length + 256 ≠ ihSize h || sha384 b ≠ slice h 48 48 then s.bootFail 0x6 true
  else if ihSvn h < s.fuses.minSvn then s.bootFail 0x7 true
  else
    let s := { s with boot := { s.boot with
      step := .firmware, since := s.tick, ifMinor := rd h 4 1, ifMajor := rd h 5 1, fwBuild := rd h 6 2, objMinor := rd h 8 1
      objMajor := rd h 9 1, imageId := rd h 12 4 } }
    if s.pwr.phase = .idle && s.pwr.level ≠ 0 then s.beginChange 0 false else s

/-! ### Steps 7 and 8 -/

def execFirmwareStartTimeout (s : State) : Host.Outcome State Fault Refusal :=
  .next (if s.boot.step = .firmware && s.boot.since + 1000000 ≤ s.tick then s.bootFail 0x8 true else s)

/-- The record of a fault that stopped Wellhead enters the logs again (R545). DEDUCED, log entry 85. -/
def State.refileKept (s : State) : State :=
  match s.faults.kept with
  | none => s
  | some r => ({ s with faults := { s.faults.file r with kept := none } }.tally cFAULT_RECORDS r.terr).raise (faultSource r.cls)

/-- READY is set, FIXED P0 and S1_IDLE 1,000 stand, and source 22 is raised (R483, R508). DEDUCED, log entry 87. -/
def State.setReady (s : State) : State :=
  ({ s with
    lcs := { s.lcs with ready := true, svn := ihSvn s.boot.header % 128 }
    boot := { s.boot with step := .running, readyAt := s.tick, restart := false }
    pwr := { s.pwr with auto := false, levelHi := 0, levelLo := 0, s1Idle := 1000, spAwake := true }
    sleep := { s.sleep with code := 0, idleSince := s.tick }
    sched := { start := s.tick } }.raise 22).refileKept

/-! ### LIFECYCLE_ADVANCE (R521 to R523) -/

def shLIFECYCLE_ADVANCE : Shape where
  op := 0x06
  noHandle := true
  body := fun c => [rz c 17 3, rz c 24 24]

/-- The legal advances (R520). -/
def State.advanceLegal (s : State) (target : Nat) : Bool :=
  let c := s.lcs.state
  if target = lcSCRAPPED then c ≠ lcSCRAPPED
  else if target = lcTEST then c = lcBLANK
  else if target = lcPROVISIONED then
    c = lcTEST && (rootKeyOf s.boot.otpSeen).any (fun b => b != 0) && rootKeyOk s.boot.otpSeen
  else if target = lcDEPLOYED then c = lcPROVISIONED && s.fuses.keyHash.any (fun b => b != 0)
  else c = lcPROVISIONED || c = lcDEPLOYED

/-- R522. -/
def State.chkAdvance (s : State) (c : Bytes) : Chk :=
  let target := rd c 16 1
  Chk.first [field (1 ≤ target && target ≤ 5) 16, field (rd c 20 4 == 0x4C434100 + target) 20,
    cond s.terr.isEmpty stNOT_PERMITTED, cond (!s.lcs.debugOpen || target == lcSCRAPPED) stNOT_PERMITTED,
    cond (s.advanceLegal target) stNOT_PERMITTED]

/-- FIRST is written, every intake closes, and the first nibble's burn is requested. -/
def execLifecycleAdvance (src : Src) (c : Bytes) (s : State) : Host.Outcome State Fault Refusal :=
  .next (s.command shLIFECYCLE_ADVANCE (shLIFECYCLE_ADVANCE.row c) src c (fun s => s.chkAdvance c) (fun s =>
    let tk := ticketOf src c
    { s.first tk 0 with
      intakeClosed := true
      advance := some { ticket := tk, old := s.lcs.state, target := rd c 16 1, nibble := s.lcs.state, since := s.tick } }))

/-- The advance ends with its FINAL; where a reset follows, source 22 is raised once the FINAL is written, on the sideband at
once. -/
def State.advanceEnd (s : State) (a : Advance) (st r0 : Nat) (reset : Bool) : State :=
  let s := if reset then { s with advance := some { a with done := true } } else { s with advance := none, intakeClosed := false }
  let s := s.final a.ticket st 0 0 noField r0 0
  if reset && a.ticket.src = .sideband then
    { s.raise 22 with advance := some { a with done := true, ended := some s.tick } }
  else s

/-- LIFECYCLE is read again after a burn; two readings that differ count as no legal state. DEDUCED, log entry 91. -/
def State.advanceRead (s : State) (a : Advance) (w1 w2 : Word) : State :=
  let r := if w1 = w2 then lifecycleOf w1 else lcINVALID
  if r = a.nibble + 1 && r < a.target then { s with advance := some { a with nibble := r, since := s.tick } }
  else if r = a.target then s.advanceEnd a stOK a.target true
  else if r = a.old then s.advanceEnd a stDATA_ERROR 0 false
  else s.advanceEnd a stDATA_ERROR r true

/-- A burn in progress. -/
def State.burning (s : State) : Option Advance := s.advance.filter (fun a => !a.done)

def execOtpAdvAck (w1 w2 : Word) (s : State) : Host.Outcome State Fault Refusal :=
  .next (match s.burning with | some a => s.advanceRead a w1 w2 | none => s)

def execOtpAdvTimeout (w1 w2 : Word) (s : State) : Host.Outcome State Fault Refusal :=
  .next (match s.burning with
    | some a => if a.since + 10000000 ≤ s.tick then s.advanceRead a w1 w2 else s
    | none => s)

/-- The FINAL of an advance has been written (R116, R523). -/
def State.advanceWritten (s : State) : State :=
  match s.advance with
  | some a => if a.done && a.ended.isNone then { s.raise 22 with advance := some { a with ended := some s.tick } } else s
  | none => s

def execLifecycleReset (straps : Straps) (s : State) : Host.Outcome State Fault Refusal :=
  .next (match s.advance.bind (·.ended) with
    | some e => if e + 1000 ≤ s.tick then s.sysReset 2 straps else s
    | none => s)

end Sys2Proof.Machine
end

