-- ==== Sys2Proof/Machine/Sleep.lean ====
section
/-! DEFINITION. Sleep and wake (R486 to R504): POWER_SLEEP, quiesce, entry with its abort points, wake events, the exit path,
automatic S1, and the acknowledgement rows of the power port (R476, R481, R482, R594, R595). -/

namespace Sys2Proof.Machine

/-! ### Wake sources (R494) -/

def wkDOORBELL : Nat := 1
def wkSIDEBAND : Nat := 2
def wkALARM : Nat := 4
def wkATTN : Nat := 8
def wkHFP : Nat := 16
def wkTIMER : Nat := 32

/-! ### Back to S0 -/

/-- Firmware runs again: shadows are read, a new round begins with a management slot, and POWER_SLEEP gets its FINAL (R493,
R494, R500, R504); a wake from automatic S1 raises source 21 itself (R114). DEDUCED, log entry 96. -/
def State.finishSleep (s : State) (outcome : Nat) : State :=
  let l := s.sleep
  let s := { s with
    sleep := { l with phase := .awake, code := 0, lastWake := l.wakeSrc, wakeSrc := 0, wakeAt := none, alarm := 0, stage := 0
                      failed := false, spilled := [], idleSince := s.tick }
    pwr := { s.pwr with iso := 0, memQuiet := false, spAwake := true } }
  let s := s.taintModels.readShadows.newRound
  let s := s.startMgmt (s.nextTurnAfter none)
  let s := if l.ticket.isNone && l.phase = .s1 then s.raise 21 else s
  if l.failed then s.sleepFinal stPOWER_STATE 0 0
  else s.sleepFinal stOK (outcome + 256 * l.wakeSrc) (l.wakeAt.getD s.tick)

/-- Every clock request is raised; the exit goes on once every clock runs (R476, R481, R500). -/
def State.exitClocks (s : State) : State :=
  let s := { s with pwr := { s.pwr with clkreq := allClocks s.cfg, memQuiet := false }
                    sleep := { s.sleep with code := 5 } }
  { s with sleep := { s.sleep with phase := if s.clocksUp then .waking else .wakeClk, since := s.tick } }

/-- A wake from S3 asks for the voltage of the level in force at entry first. DEDUCED, log entry 94. -/
def State.exitVolt (s : State) : State :=
  { s with sleep := { s.sleep with code := 5, phase := .wakeVolt, since := s.tick }
           pwr := s.pwr.wantVolt s.pwr.vLevel s.tick }

/-- Entry is abandoned at an abort point: the steps taken are undone in reverse order (R493). -/
def State.abandon (s : State) : State :=
  let k := s.sleep.stage
  let s := { (s.tally cSLEEP_ABANDON noTerr) with sleep := { s.sleep with outcome := k } }
  if k ≤ 2 then s.finishSleep k
  else
    let s := { s with pwr := { s.pwr with clkreq := allClocks s.cfg, iso := 0, memQuiet := false, spAwake := true }
                      flash := { s.flash with ceN := List.replicate 8 15, wpN := List.replicate 8 false } }
    if s.clocksUp then s.finishSleep k else { s with sleep := { s.sleep with phase := .abort, since := s.tick } }

/-- A pending wake is acted on where the sequencer can: at an abort point, in S1, S2 or S3. -/
def State.actWake (s : State) : State :=
  if s.sleep.wakeAt.isNone then s
  else match s.sleep.phase with
    | .entering => if s.sleep.stage ≤ 4 then s.abandon else s
    | .s1 => s.finishSleep 0
    | .s2 => s.exitClocks
    | .s3 => s.exitVolt
    | _ => s

/-- A wake event: the first pending one fixes the tick, and the events of that tick are reported together (R494). DEDUCED,
log entry 96. -/
def State.latchWake (s : State) (src : Nat) : State :=
  let l := s.sleep
  if l.phase = .awake then s
  else
    let l := match l.wakeAt with
      | none => { l with wakeAt := some s.tick, wakeSrc := src }
      | some a => if a = s.tick then { l with wakeSrc := l.wakeSrc ||| src } else l
    { s with sleep := l }.actWake

/-! ### POWER_SLEEP (R489, R490) -/

def shPOWER_SLEEP : Shape where
  op := 0x08
  noHandle := true
  body := fun c => [field (1 ≤ rd c 16 1 && rd c 16 1 ≤ 3) 16, rm c 17 1 0xFE, rz c 18 2, rz c 36 12]

/-- Bits of RET_MASK that name a group the configuration has (R487). -/
def Cfg.retGroups (c : Cfg) : Nat :=
  15 + (2 ^ (c.quads - 1) - 1) * 2 ^ 4 + (2 ^ c.bays - 1) * 2 ^ 19 + (2 ^ c.bays - 1) * 2 ^ 23

def State.chkSleep (s : State) (c : Bytes) : Chk :=
  let m := rd c 20 4
  Chk.first [field (rd c 32 4 == 0 || (1000 ≤ rd c 32 4 && rd c 32 4 ≤ 100000000)) 32,
    field (m &&& Cfg.retGroups s.cfg == m) 20,
    field (rd c 16 1 != 3 || s.terr.isEmpty || (bit m 0 && bit m 2 && bit m 3)) 20,
    cond (s.terr.all (fun x => x.2.destroying.isNone) && s.advance.isNone && !s.lcs.debugOpen) stPOWER_STATE]

/-- E1: the mode bits are written and the wait executed; A1 is next. DEDUCED, log entry 90. -/
def State.enterSleep (s : State) : State :=
  { s with sleep := { s.sleep with phase := .entering, stage := 1, code := 4 } }.actWake

/-- FIRST, then quiesce for S2 and S3, or E1 for S1. -/
def State.powerSleep (s : State) (tk : Ticket) (c : Bytes) : State :=
  let s := s.first tk 0
  let s := { s with sleep := { s.sleep with
    ticket := some tk, goal := rd c 16 1, attnWake := bit (rd c 17 1) 0, retMask := BitVec.ofNat 32 (rd c 20 4)
    alarm := rd c 24 8, limit := if rd c 32 4 = 0 then 1000000 else rd c 32 4, since := s.tick, spilled := [], code := 4
    wakeSrc := 0, wakeAt := none, failed := false, phase := .quiesce } }
  if rd c 16 1 = 1 then s.enterSleep else s

def execPowerSleep (src : Src) (c : Bytes) (s : State) : Host.Outcome State Fault Refusal :=
  .next (s.command shPOWER_SLEEP (shPOWER_SLEEP.row c) src c (fun s => s.chkSleep c)
    (fun s => s.powerSleep (ticketOf src c) c))

/-! ### Quiesce (R491) -/

/-- The terrace has no step open, its final boundary has run where it needs one, and its journal is in T1. -/
def Terrace.quiet (te : Terrace) (spilled : Bool) : Bool :=
  te.sp.flight.isNone && te.sp.closing.isNone && (te.reqs.isEmpty || spilled) && te.reqs.all (fun x => !x.2.joined)
    && (!te.journal.unacked || te.journal.degraded)

/-- Quiesce is complete (R491). DEDUCED, log entry 108. -/
def State.quiet (s : State) : Bool :=
  s.terr.all (fun x => x.2.quiet (s.sleep.spilled.contains x.1)) && s.tasks.all (fun k => k.core.isNone) &&
    s.mp.all (fun o => match o.kind with
      | .spillWrite _ => false
      | .spillRead _ => false
      | .journalDelta _ _ => false
      | .journalBase _ _ => false
      | _ => true)

/-- QUIESCE_DONE (R491, R492). DEDUCED, log entry 108. -/
def execQuiesceDone (s : State) : Host.Outcome State Fault Refusal :=
  .next (if s.sleep.phase = .quiesce && s.quiet then s.enterSleep else s)

def execQuiesceTimeout (s : State) : Host.Outcome State Fault Refusal :=
  .next (if s.sleep.phase = .quiesce && s.sleep.since + s.sleep.limit ≤ s.tick then s.sleepStop stPOWER_STATE 0 else s)

/-! ### Entry, one step a tick (R492, R499) -/

/-- S1, S2 or S3 is reached: a wake pending after A4 runs the exit path now. -/
def State.reachSleep (s : State) (ph : SleepPhase) (code : Nat) (c : Cause) : State :=
  { (s.tally c noTerr) with sleep := { s.sleep with phase := ph, code := code } }.actWake

/-- The entry step after the abort point that was passed with nothing pending. DEDUCED, log entry 89. DEDUCED, log entry 90. -/
def State.sleepTick (s : State) : State :=
  let l := s.sleep
  match l.phase with
  | .entering =>
    match l.stage with
    | 1 => { s with sleep := { l with stage := 2 } }
    | 2 =>
      if l.goal = 1 then s.reachSleep .s1 1 cS1_ENTER
      else { s with pwr := { s.pwr with clkreq := 1, memQuiet := true }, sleep := { l with stage := 3 } }
    | 3 => { s with
        pwr := { s.pwr with iso := 0xF, spAwake := false }
        flash := { s.flash with ceN := List.replicate 8 15, wpN := List.replicate 8 false }
        sleep := { l with stage := 4 } }
    | _ =>
      let s := { s with sleep := { l with stage := 5, teOn := false, rbOn := false, teWait := none, rbWait := none } }
      if l.goal = 2 then s.reachSleep .s2 2 cSLEEP_ENTER
      else if s.pwr.phase = .idle then
        { s with pwr := s.pwr.wantVolt 8 s.tick, sleep := { s.sleep with phase := .s3Enter } }
      else s
  | _ => s

/-! ### Acknowledgements of the power port -/

/-- PP_VACK: an acknowledgement raised while the request is 0 is ignored (R595). -/
def State.vackRise (s : State) : State :=
  if !s.pwr.vreq then s
  else
    let s := s.modPwr (fun p => { p with vreq := false })
    if s.boot.step = .voltage then s.bootClocks
    else match s.sleep.phase with
      | .s3Enter => (s.modPwr (fun p => { p with phase := .idle })).reachSleep .s3 3 cSLEEP_ENTER
      | .wakeVolt => (s.modPwr (fun p => { p with vAcked := true, phase := .idle })).exitClocks
      | _ => if s.pwr.phase = .volt then s.voltDone else s

def execPpVack (level : Bool) (s : State) : Host.Outcome State Fault Refusal :=
  let s := s.modPwr (fun p => { p with vack := level })
  .next (if level then s.vackRise else s.modPwr (fun p => p.ask s.tick))

def execPpFack (level : Bool) (s : State) : Host.Outcome State Fault Refusal :=
  let s := s.modPwr (fun p => { p with fack := level })
  .next (if !level then s.modPwr (fun p => p.ask s.tick)
    else if s.pwr.freq then
      let s := s.modPwr (fun p => { p with freq := false })
      if s.pwr.phase = .freq then s.freqDone else s
    else s)

/-- The fault report of a missed acknowledgement (R482). DEDUCED, log entry 88. -/
def State.ackFault (s : State) (detail : Nat) : State :=
  (s.tally cPWR_ACK_TIMEOUT noTerr).fault fcPOWER noTerr locBlock cPWR_ACK_TIMEOUT detail 0 0

/-- An acknowledgement has not arrived 10,000 ticks after its request. DEDUCED, log entry 88. DEDUCED, log entry 94. -/
def State.ackTimeout (s : State) : State :=
  let p := s.pwr
  if !(p.vreq || p.freq) || s.tick < p.since + 10000 then s
  else if s.boot.step = .voltage then
    { (s.modPwr (fun p => { p with vreq := false, phase := .idle, changing := false })).ackFault 1 with
      boot := { s.boot with step := .failed } }
  else match s.sleep.phase with
    | .s3Enter =>
      let s := (s.modPwr (fun p => { p with vreq := false, phase := .idle })).ackFault 1
      { s with sleep := { s.sleep with failed := true } }.exitClocks
    | .wakeVolt => (s.modPwr (fun p => { p with since := s.tick })).ackFault 1
    | _ => s.changeFails (if p.vreq then 1 else 2)

def execPpAckTimeout (s : State) : Host.Outcome State Fault Refusal := .next s.ackTimeout

/-- PP_CLKACK: a start-up step, an abandoned entry or a wake that waits for the clocks goes on (R476). -/
def State.clkackSet (s : State) (v : BitVec 6) : State :=
  let s := { s with pwr := { s.pwr with clkack := v } }
  if s.boot.step = .clocks then s.bootPdWh
  else match s.sleep.phase with
    | .abort => if s.clocksUp then s.finishSleep s.sleep.outcome else s
    | .wakeClk => if s.clocksUp then { s with sleep := { s.sleep with phase := .waking, since := s.tick } } else s
    | _ => s

def execPpClkack (v : BitVec 6) (s : State) : Host.Outcome State Fault Refusal := .next (s.clkackSet v)

/-! ### The wake (R183, R184, R488, R500, R503, R512) -/

/-- The groups that kept their contents (R488). -/
def State.keptGroups (s : State) : Nat :=
  if s.sleep.goal = 2 then s.sleep.retMask.toNat ||| 0x7FFFF else s.sleep.retMask.toNat

/-- Bank groups whose rows were lost: RG1 keeps group 0, RG3+q group q. -/
def State.lostBanks (s : State) : List Nat :=
  (List.range s.cfg.quads).filter (fun q => !bit s.keptGroups (if q = 0 then 1 else 3 + q))

/-- Non-EMPTY rows of a list of regions. -/
def rowsInUse (rs : List Region) : Nat := (rs.map (fun r => (usedRows r.rows).length)).foldl (· + ·) 0

/-- A terrace's regions of a lost bank group are rebuilt from their sources, ECHO regions are cleared (R184). -/
def State.rebuildBank (s : State) (q : Nat) : State :=
  s.forEach s.terr (fun s x =>
    let te := x.2
    let home := bits te.desc.coreMask (4 * q) 4 ≠ 0
    let own := te.regions.filter (fun r => if r.kind = rkSTARTER then q = 0 else home && r.kind ≠ rkECHO)
    (s.count cRIDDLE_REBUILD x.1 (locQuad q) (rowsInUse own)).modT x.1 (fun te => { te with regions := te.regions.map (fun r =>
      if own.contains r then r.heal (te.rowSource x.1 r) (fun row => row.rstate ≠ rrEMPTY)
      else if home && r.kind = rkECHO then { r with rows := r.rows.map (fun _ => emptyRow) } else r) }))

/-- Masks in the slice of a bay whose group was not kept are gone, and so are the lines of its quads' Pantry slices (R487,
R488). DEDUCED, log entry 53. -/
def State.dropMasks (s : State) : State :=
  { s with terr := s.terr.mapVals (fun _ te =>
      { te with masks := te.masks.filter (fun m => bit s.keptGroups (19 + m.bay))
                pantry := te.pantry.filter (fun p => bit s.keptGroups (23 + p.quad / 4)) }) }

/-- Is a slice that holds the object's pinned lines among those whose group was not kept? -/
def State.pinLost (s : State) (te : Terrace) (o : Obj) : Bool :=
  if o.kind = tyGrammar then (homeBays te.desc.coreMask).any (fun b => !bit s.keptGroups (19 + b))
  else (homeQuads te.desc.coreMask).any (fun q => !bit s.keptGroups (23 + q / 4))

/-- Pinned lines that were lost are read again (R503). -/
def State.refillPins (s : State) : State :=
  s.forEach s.terr (fun s x =>
    s.forEach (x.2.objs.filter (fun o => o.2.pinned && o.2.t0Need ≠ 0 && s.pinLost x.2 o.2)) (fun s o =>
      let h := mkHandle x.1 o.2.kind o.1 o.2.gen
      (s.modObj h (fun o => { o with refill := true })).pinFill h o.2))

/-- What belongs to no retention group is lost in S2 and S3: core scratch, with the lanes (R487, R503). Count tables and staging are
empty then (R491). -/
def State.dropScratch (s : State) : State := { s with cores := s.cores.map (fun _ => {}) }

/-- RG2 was not kept, every terrace being FREE: the firmware starts again (R488, R512). DEDUCED, log entry 95. -/
def State.restart (s : State) : State :=
  { s with
    lcs := { s.lcs with ready := false, resetCause := 4, fwErr := 0 }
    boot := { s.boot with restart := true, since := s.tick }
    faults := { kept := s.faults.kept }
    tasks := [] }.readHeader

/-- The domains are restored. -/
def State.wakeRestored (s : State) : State :=
  if s.sleep.phase ≠ .waking then s
  else
    let s := (s.forEach s.lostBanks State.rebuildBank).dropMasks.dropScratch.refillPins
    if !bit s.keptGroups 2 then s.restart else s.finishSleep 0

def execWakeRestoreDone (s : State) : Host.Outcome State Fault Refusal := .next s.wakeRestored

/-- A privileged domain is ready: the access that waited goes on (R502). -/
def execPrivilegedDomainReady (te : Bool) (s : State) : Host.Outcome State Fault Refusal :=
  .next (if te then
      (if s.sleep.teWait.isSome then { s with sleep := { s.sleep with teOn := true, teWait := none } } else s)
    else if s.sleep.rbWait.isSome then { s with sleep := { s.sleep with rbOn := true, rbWait := none } } else s)

/-! ### Wake events (R495, R497, R590) -/

/-- The alarm comparator: ALARM under a POWER_SLEEP, the TIMER of automatic S1 otherwise; it is loaded at E1 (R492, R495). -/
def State.alarmDue (s : State) : Bool := s.sleep.alarm ≠ 0 && s.sleep.alarm ≤ s.tick

def execWakeAlarm (s : State) : Host.Outcome State Fault Refusal :=
  .next (if s.alarmDue && s.sleep.phase ≠ .quiesce then s.latchWake (if s.sleep.ticket.isSome then wkALARM else wkTIMER) else s)

/-- SP_ATTN has been 1 for two tbclk cycles; it wakes the block where ATTN_WAKE says so, and S1 always on its own entry.
While SP_AWAKE is 1 it has no effect outside S1 (R495, R497, R590). DEDUCED, log entry 96. -/
def execSpAttn (s : State) : Host.Outcome State Fault Refusal :=
  .next (let s := { s with spAttn := true }
    if s.pwr.spAwake && s.sleep.phase ≠ .s1 then s
    else if s.sleep.attnWake || s.sleep.ticket.isNone then s.latchWake wkATTN else s)

def execSidebandWake (s : State) : Host.Outcome State Fault Refusal := .next (s.latchWake wkSIDEBAND)

/-- The further wake events of S1. -/
def execS1Wake (cause : S1Cause) (s : State) : Host.Outcome State Fault Refusal :=
  .next (if s.sleep.phase ≠ .s1 then s
    else match cause with
      | .hfpAccess => s.latchWake wkHFP
      | .spIValid => s.latchWake 0
      | .timer => if s.alarmDue then s.latchWake wkTIMER else s)

/-! ### Automatic S1 (R495) -/

/-- No doorbell is unread, and no command but `waits` SYNC_WAITs is in progress. -/
def Mailbox.restful (m : Mailbox) (waits : Nat) : Bool :=
  !m.enable || m.error || (m.sqTail.toNat = m.sqHead && m.live = waits && !m.busy)

/-- Pending SYNC_WAITs of a terrace: they wait for an event and leave the block idle. -/
def State.waitsOf (s : State) (t : Nat) : Nat :=
  ((s.terrace t).map (fun te => sumBy (fun y => y.2.waiters.length) te.syncs)).getD 0

/-- The block is idle: no task, step or command, none of its transfers outstanding, no doorbell unread (R495). DEDUCED, log
entry 152. -/
def State.idle (s : State) : Bool :=
  s.tasks.isEmpty && s.hfp.isEmpty && s.mp.isEmpty &&
    ((List.range s.mbs.length).zip s.mbs).all (fun m => m.2.restful (s.waitsOf m.1)) && !s.sb.busy && s.advance.isNone &&
    s.tap.erasing.isNone && s.clearing.isEmpty && s.flash.jobs.isEmpty && s.pwr.phase = .idle && !s.cntWin.busy &&
    s.terr.all (fun x => x.2.destroying.isNone && x.2.sp.flight.isNone && x.2.sp.closing.isNone && x.2.egressQ.isEmpty &&
      x.2.reqs.all (fun r => r.2.state = rsDONE))

/-- The ticks at which a timer falls due. -/
def State.timers (s : State) : List Tick :=
  (s.mbs.filter (fun m => 0 < m.unann && coalTime m.irq ≠ 0)).map (fun m => m.firstAt + 16 * coalTime m.irq)
    ++ s.terr.flatMap (fun x =>
      (x.2.streams.filter (fun r => 0 < r.2.unann && r.2.coalTime ≠ 0)).map (fun r => r.2.firstAt + 16 * r.2.coalTime)
        ++ x.2.syncs.flatMap (fun y => (y.2.waiters.map (·.timeout)).filter (· ≠ 0))
        ++ x.2.objs.flatMap (fun o => (o.2.versions.filter (fun v => v.quarantine && v.backing = 0)).map (fun v =>
             v.quarAt + 100 * (if v.limit = 0 then 100000 else v.limit))))
    ++ [s.sched.start + s.sched.len]

/-- Entry without a command: E1 with the earliest timer in the alarm comparator. -/
def State.autoS1 (s : State) : State :=
  if !s.running || s.sched.sealed || s.pwr.s1Idle = 0 || !s.idle || s.tick < s.sleep.idleSince + s.pwr.s1Idle then s
  else
    { s with sleep := { s.sleep with
      ticket := none, goal := 1, attnWake := true, failed := false, alarm := (s.timers.min?).getD 0, wakeSrc := 0, wakeAt := none
      since := s.tick } }.enterSleep

def execAutoS1Entry (s : State) : Host.Outcome State Fault Refusal := .next s.autoS1

end Sys2Proof.Machine
end

