-- ==== Sys2Proof/Machine/Registers.lean ====
section
/-! DEFINITION. The register window (R73 to R76, R87, R88, R496, R509, R555 to R579, R583): each register write with a row of
its own, the latched timebase read, and REGISTER_WRITE for every other access. -/

namespace Sys2Proof.Machine

/-! ### When a register takes a write -/

/-- Doorbells and heads are shadowed: Wellhead does not run (R88, R493, R496). -/
def State.shadowing (s : State) : Bool := !s.clocked

/-- Any access of the target side wakes S1 (R495). DEDUCED, log entry 96. -/
def State.touch (s : State) : State := if s.sleep.phase = .s1 then s.latchWake wkHFP else s

/-- A write to a register: nothing before READY, dropped and counted in S2 and S3, a wake in S1 (R495, R496, R509). DEDUCED,
log entry 96. -/
def State.hostWrite (s : State) (f : State → State) : State :=
  if !s.lcs.ready then s
  else if s.frontEnd then s.tally cSLEEP_WRITE_DROP noTerr
  else f s.touch

/-- A write that the always-on domain also takes while the block sleeps. -/
def State.alwaysWrite (s : State) (f : State → State) : State :=
  if !s.lcs.ready then s else f s.touch

/-! ### Mailbox registers with rows of their own -/

/-- A doorbell before READY is lost; while the block sleeps it is shadowed with its arrival and wakes the block; during
quiesce it is sampled and its wake is pending (R88, R491, R493, R497, R509). -/
def State.doorbell (s : State) (mb : Nat) (v : Word) : State :=
  if !s.lcs.ready || !s.mbExists mb then s
  else if s.shadowing then
    (s.modMb mb (fun m => { m with shTail := m.shTail ++ [(v, s.tick)] })).latchWake
      (if s.sleep.phase = .s1 then wkDOORBELL + wkHFP else wkDOORBELL)
  else (s.ringTail mb v s.tick).latchWake wkDOORBELL

def execDoorbell (mb : Nat) (v : Word) (s : State) : Host.Outcome State Fault Refusal := .next (s.doorbell mb v)

/-- A returned head; asleep it is shadowed without a wake, but any access wakes S1. -/
def State.headWrite (s : State) (mb : Nat) (v : Word) : State :=
  if !s.lcs.ready || !s.mbExists mb then s
  else if s.shadowing then
    (s.modMb mb (fun m => { m with shHead := some v })).touch
  else s.moveHead mb v

def execMbCqHeadWrite (mb : Nat) (v : Word) (s : State) : Host.Outcome State Fault Refusal := .next (s.headWrite mb v)

/-- MB_STATUS written: ENABLE is its one writable bit (R75). -/
def State.statusWrite (s : State) (mb : Nat) (on : Bool) : State :=
  s.hostWrite (fun s => if s.mbExists mb then (if on then s.enableMb mb else s.disableMb mb) else s)

def execMbEnable (mb : Nat) (s : State) : Host.Outcome State Fault Refusal := .next (s.statusWrite mb true)

def execMbDisable (mb : Nat) (s : State) : Host.Outcome State Fault Refusal := .next (s.statusWrite mb false)

def State.mbIrqReg (s : State) (mb : Nat) (v : Word) : State :=
  s.hostWrite (fun s => if s.mbExists mb then s.writeMbIrq mb v else s)

def execMbIrqWrite (mb : Nat) (v : Word) (s : State) : Host.Outcome State Fault Refusal := .next (s.mbIrqReg mb v)

/-- COAL_TIME has passed since the first unannounced completion (R115). -/
def execMbCoalTimer (mb : Nat) (s : State) : Host.Outcome State Fault Refusal :=
  .next (if s.clocked && coalTime (s.mailbox mb).irq ≠ 0 then s.testMbIrq mb else s)

/-! ### Interrupt registers (R565 to R571) -/

/-- W1C; a source raised in the same cycle keeps its bit (R570). -/
def State.irqStatusReg (s : State) (v raised : Word) : State :=
  s.alwaysWrite (fun s => { s with irq := { s.irq with status := s.irq.status &&& ~~~(v &&& 0xFFFFFF &&& ~~~raised) } })

def execIrqStatusWrite (v raised : Word) (s : State) : Host.Outcome State Fault Refusal := .next (s.irqStatusReg v raised)

/-- Sources whose bit is 1 in `w`, rising. -/
def sourcesOf (w : Word) : List Nat := (List.range 24).filter (fun n => w.getLsbD n)

/-- IRQ_MASK; a bit that clears may write a waiting message. -/
def State.irqMaskReg (s : State) (v : Word) : State :=
  s.alwaysWrite (fun s =>
    let cleared := s.irq.mask &&& ~~~v
    { s with irq := { s.irq with mask := v &&& 0xFFFFFF } }.forEach (sourcesOf cleared) State.unmaskMsg)

def execIrqMaskWrite (v : Word) (s : State) : Host.Outcome State Fault Refusal := .next (s.irqMaskReg v)

/-- IRQ_MODE: bits 23 to 17; a bit that sets may write a waiting message. -/
def State.irqModeReg (s : State) (v : Word) : State :=
  s.hostWrite (fun s =>
    let set := v &&& 0xFE0000 &&& ~~~s.irq.mode
    { s with irq := { s.irq with mode := v &&& 0xFE0000 } }.forEach (sourcesOf set) State.unmaskMsg)

def execIrqModeWrite (v : Word) (s : State) : Host.Outcome State Fault Refusal := .next (s.irqModeReg v)

/-! ### The timebase (R572) and the counter window's select (R576) -/

/-- Bits 31 to 0 are answered and bits 63 to 32 latched for the requester's initiator port. DEDUCED, log entry 92. -/
def State.timebaseLo (s : State) (port : Nat) : State :=
  { s with tbLatch := s.tbLatch.put port (s.tick / 2 ^ 32), rsp := loWord s.tick }

def execTimebaseLoRead (port : Nat) (s : State) : Host.Outcome State Fault Refusal :=
  .next (s.touch.timebaseLo port)

def execCntSelectWrite (v : Word) (s : State) : Host.Outcome State Fault Refusal :=
  .next (s.hostWrite (fun s => s.cntSelect v))

/-! ### The window (R555 to R557) -/

/-- Privileged ranges (R555). -/
def privRange (off : Nat) : Bool := off < 0x2000 || 0x40000 ≤ off

/-- The mailbox whose page holds an offset: the management page, or a terrace page the configuration has (R10, R72). -/
def State.pageOf (s : State) (off : Nat) : Option Nat :=
  if 0x1000 ≤ off && off < 0x2000 then some 16
  else if 0x10000 ≤ off && off < 0x10000 + 0x1000 * s.cfg.terraces then some ((off - 0x10000) / 0x1000)
  else none

/-- Counter-window registers (R574, R577). -/
def CntWin.reg (w : CntWin) (off : Nat) : Word :=
  match off with
  | 0x40000 => w.select
  | 0x40004 => w.status
  | 0x40008 => loWord w.sample
  | 0x4000C => hiWord w.sample
  | 0x40010 => loWord w.clear
  | 0x40014 => hiWord w.clear
  | 0x40018 => BitVec.ofNat 32 w.newest
  | _ =>
    if 0x40808 ≤ off && off < 0x41000 then
      let v := w.vals.getD ((off - 0x40800) / 8 - 1) 0
      if off % 8 = 0 then loWord v else hiWord v
    else 0

/-- Read value of an aligned offset outside the debug window (R558, R573). -/
def State.regValue (s : State) (port off : Nat) : Word :=
  match off with
  | 0x000 => kdvId
  | 0x004 => kdvVersion s.cfg
  | 0x008 => kdvCap0 s.cfg
  | 0x00C => kdvCap1 s.cfg
  | 0x010 => kdvCap2 s.cfg
  | 0x014 => kdvCap3 s.cfg
  | 0x018 => s.lcs.word
  | 0x01C => s.pwr.word
  | 0x020 => s.sleep.word
  | 0x024 => s.irq.status
  | 0x028 => s.irq.mask
  | 0x02C => s.irqModeWord
  | 0x030 => loWord s.tick
  | 0x034 => BitVec.ofNat 32 ((s.tbLatch.get port).getD 0)
  | 0x038 => s.sbAddr
  | 0x040 => s.irq.msiLo
  | 0x044 => s.irq.msiHi
  | _ =>
    if 0x048 ≤ off && off < 0x064 then s.irq.msiData.getD ((off - 0x048) / 4) 0
    else match s.pageOf off with
      | some mb => (s.mailbox mb).reg (off % 0x1000)
      | none => if 0x40000 ≤ off && off < 0x80000 then s.cntWin.reg off else 0

/-- Readable before READY (R509). -/
def earlyRegs : List Nat := [0x000, 0x004, 0x008, 0x00C, 0x010, 0x014, 0x018, 0x01C, 0x020, 0x030, 0x034, 0x038]

/-- Does a read of this offset return its value now (R496, R509)? -/
def State.readable (s : State) (off : Nat) : Bool :=
  earlyRegs.contains off || (s.lcs.ready && (!s.frontEnd || off = 0x024 || off = 0x028))

/-- A read of the debug window: its layout is Nymuri-internal, so the value is free (R578, R579; DESIGN CHOICE, log entry
6). -/
def State.debugRead (s : State) : State :=
  if s.lcs.debugOpen then { s with fresh := s.fresh + 1, rsp := Config.debugWindow s.fresh } else { s with rsp := 0 }

def State.regRead (s : State) (port off : Nat) : State :=
  if !s.readable off then { s with rsp := 0 }
  else if off = 0x030 then s.timebaseLo port
  else if 0x80000 ≤ off then s.debugRead
  else { s with rsp := s.regValue port off }

/-! ### Writes -/

/-- A mailbox register without a row of its own: ring and message registers, held while ENABLE is 1 (R74). -/
def Mailbox.write (m : Mailbox) (off : Nat) (v : Word) : Mailbox :=
  if m.enable then m
  else match off with
    | 0x000 => { m with sqBaseLo := v &&& 0xFFFFFFC0 }
    | 0x004 => { m with sqBaseHi := v }
    | 0x008 => { m with sqSize := v &&& 0x1F }
    | 0x010 => { m with cqBaseLo := v &&& 0xFFFFFFC0 }
    | 0x014 => { m with cqBaseHi := v }
    | 0x018 => { m with cqSize := v &&& 0x1F }
    | 0x028 => { m with msiLo := v &&& 0xFFFFFFFC }
    | 0x02C => { m with msiHi := v }
    | 0x030 => { m with msiData := v }
    | _ => m

def State.pageWrite (s : State) (mb off : Nat) (v : Word) : State :=
  if off = 0x00C then s.doorbell mb v
  else if off = 0x01C then s.headWrite mb v
  else if off = 0x020 then s.statusWrite mb (v.getLsbD 0)
  else if off = 0x024 then s.mbIrqReg mb v
  else s.hostWrite (fun s => s.modMb mb (fun m => m.write off v))

/-- Message registers of sources 17 to 23 (R568). -/
def Irq.write (q : Irq) (off : Nat) (v : Word) : Irq :=
  if off = 0x040 then { q with msiLo := v &&& 0xFFFFFFFC }
  else if off = 0x044 then { q with msiHi := v }
  else if 0x048 ≤ off && off < 0x064 then { q with msiData := setAt ((off - 0x048) / 4) (fun _ => v) q.msiData }
  else q

/-- Writes into the open debug window are recorded, newest first (R578). DESIGN CHOICE, log entry 6. -/
def State.debugWrite (s : State) (word : Nat) (v : Word) : State :=
  if s.lcs.debugOpen then { s with tap := { s.tap with window := (word, v) :: s.tap.window } } else s

def State.regWrite (s : State) (off : Nat) (v : Word) : State :=
  match s.pageOf off with
  | some mb => s.pageWrite mb (off % 0x1000) v
  | none =>
    if off = 0x024 then s.irqStatusReg v 0
    else if off = 0x028 then s.irqMaskReg v
    else if off = 0x02C then s.irqModeReg v
    else if off = 0x40000 then s.hostWrite (fun s => s.cntSelect v)
    else if 0x80000 ≤ off then s.hostWrite (fun s => s.debugWrite ((off - 0x80000) / 4) v)
    else s.hostWrite (fun s => { s with irq := s.irq.write off v })

/-- One access of the target side. -/
def State.access (s : State) (a : Access) : State :=
  let off := a.off % 2 ^ 20
  let s := { s with rsp := 0 }
  if !a.priv && privRange off && (a.write || 0x018 ≤ off) then s.touch.tally cPRIV_DENIED noTerr
  else if off % 4 ≠ 0 || (a.write && a.strb ≠ 0xF) then s.touch
  else if a.write then s.regWrite off a.data
  else s.touch.regRead a.port off

def execRegisterWrite (a : Access) (s : State) : Host.Outcome State Fault Refusal := .next (s.access a)

end Sys2Proof.Machine
end

