-- ==== Sys2Proof/Machine/Debug.lean ====
section
/-! DEFINITION. The test access port and the debug port (R519, R524 to R528, R578): the meanings of IDCODE, BYPASS, the DBG_
instructions, DEBUG_ERASE_DONE and TRST_N. -/

namespace Sys2Proof.Machine

/-! ### Instructions without conditions (R524) -/

def tapIDCODE : Word := 0x74B4454F

/-- An instruction is selected and its data register read out. -/
def State.tapOut (s : State) (ir : BitVec 8) (dr : Nat) : State := { s with tap := { s.tap with ir := ir, dr := BitVec.ofNat 256 dr } }

def execIdcode (s : State) : Host.Outcome State Fault Refusal := .next (s.tapOut 0x01 tapIDCODE.toNat)

/-- BYPASS, and an instruction that is not available: one bit, captured as 0. -/
def State.tapBypass (s : State) : State := s.tapOut 0xFF 0

def execBypass (s : State) : Host.Outcome State Fault Refusal := .next s.tapBypass

/-- The status word of R525, then DEVICE_UID. -/
def execDbgStatus (s : State) : Host.Outcome State Fault Refusal :=
  .next (s.tapOut 0x10 (s.dbgWord + 2 ^ 32 * leVal 16 s.fuses.uid))

/-! ### Challenge and response (R526) -/

def drBAD_SIGNATURE : Nat := 2
def drBAD_KEY : Nat := 3
def drSTALE_NONCE : Nat := 4
def drASLEEP : Nat := 5
def drBUSY : Nat := 6
def drENTROPY : Nat := 7
/-- Result code of a state without a debug port (R526). DEDUCED, log entry 99. -/
def drCLOSED_STATE : Nat := 8

def State.dbgResult (s : State) (r : Nat) : State := { s with tap := { s.tap with result := r } }

/-- No debug access but IDCODE and BYPASS (R519). -/
def State.tapClosed (s : State) : Bool := s.lcs.state = lcSCRAPPED || s.lcs.state = lcINVALID

/-- 256 bits of the Spring's conditioned output, outside every DRBG: a free value. DESIGN CHOICE, log entry 3. -/
def nonceAt (k : Nat) : BitVec 256 := saltAt k ++ saltAt (k + 2)

/-- A fresh nonce replaces the live one; it needs a running Spring. DEDUCED, log entry 99. -/
def State.dbgChallenge (s : State) : State :=
  if s.tapClosed then s.tapBypass.dbgResult drCLOSED_STATE
  else if !s.lcs.ready then (s.tapOut 0x11 0).dbgResult drBUSY
  else if !s.clocked then (s.tapOut 0x11 0).dbgResult drASLEEP
  else if s.spring.failed then (s.tapOut 0x11 0).dbgResult drENTROPY
  else
    let n := nonceAt s.fresh
    let s := (s.tapOut 0x11 n.toNat).tally cDEBUG_CHALLENGE noTerr
    { s with tap := { s.tap with nonce := some (n, s.tick) }, fresh := s.fresh + 4 }

def execDbgChallenge (s : State) : Host.Outcome State Fault Refusal := .next s.dbgChallenge

/-- What the opener signs. -/
def State.dbgMessage (s : State) (n : BitVec 256) : Bytes :=
  le 32 n.toNat ++ s.fuses.uid ++ le 1 s.lcs.state ++ ascii "KDV-DBG"

/-- Checks 1 to 4: the RESULT of the first failure. DEDUCED, log entry 99. -/
def State.responseChk (s : State) (dr : Bytes) : Option Nat :=
  if s.sleep.code ≠ 0 then some drASLEEP
  else if !s.lcs.ready || s.advance.isSome then some drBUSY
  else match s.tap.nonce with
    | none => some drSTALE_NONCE
    | some (n, at_) =>
      if at_ + 100000000 ≤ s.tick then some drSTALE_NONCE
      else if sha384 (slice dr 0 96) ≠ s.fuses.keyHash then some drBAD_KEY
      else if !ecdsaVerify (leVal 48 (slice dr 0 48), leVal 48 (slice dr 48 48)) (sha384 (s.dbgMessage n))
          (leVal 48 (slice dr 96 48)) (leVal 48 (slice dr 144 48)) then some drBAD_SIGNATURE
      else none

/-- A failed check: failures 2 to 4 lower ATTEMPTS, and at 0 LOCKED is set. -/
def State.responseFail (s : State) (r : Nat) : State :=
  let n := s.tap.attempts - (if drBAD_SIGNATURE ≤ r && r ≤ drSTALE_NONCE then 1 else 0)
  ({ s with tap := { s.tap with attempts := n, locked := s.tap.locked || n = 0 } }.tally cDEBUG_FAIL noTerr).dbgResult r

/-- Step 6 of R527: the port opens. -/
def State.openPort (s : State) (erased : Bool) : State :=
  ({ s with lcs := { s.lcs with debugOpen := true, erased := s.lcs.erased || erased } }.tally cDEBUG_OPEN noTerr).raise 22

/-! ### Erasure (R527) -/

/-- A mailbox whose commands were abandoned: only completions already on their way are still owed. -/
def Mailbox.abandon (m : Mailbox) (owed : Nat) : Mailbox := { m with held := [], reserved := 0, busy := false, openOnly := [], live := owed }

/-- ONLY and FINAL completions of a mailbox being written. -/
def State.owedBy (s : State) (mb : Nat) : Nat :=
  (s.hfp.filter (fun o => match o.kind with
    | .cplWrite b _ _ _ _ c => b = mb && (c.kind = kONLY || c.kind = kFINAL)
    | _ => false)).length

/-- Reads of ring entries, completions and messages under way are no command's work. -/
def HfpKind.outlives : HfpKind → Bool
  | .sqRead .. | .cplWrite .. | .msi .. => true
  | _ => false

/-- Steps 1 to 5: intake closes, commands taken are abandoned, secrets and every terrace's state are erased and its slots'
generations advance; nothing is written for the work ended. DEDUCED, log entry 100. DEDUCED, log entry 109. -/
def State.erase (s : State) : State :=
  let owed := (List.range 17).map s.owedBy
  let s := { s with
    intakeClosed := true
    tap := { s.tap with erasing := some s.tick }
    genBase := s.terr.foldl (fun (g : Tbl Nat) (x : Nat × Terrace) => g.put x.1 ((g.get x.1).getD 0 + 1)) s.genBase
    terr := []
    tasks := []
    cores := s.cores.map (fun _ => {})
    signals := []
    syncEnds := []
    hfp := s.hfp.filter (fun o => o.kind.outlives)
    mp := []
    flash := { s.flash with jobs := [], prog := [] }
    spring := { s.spring with queue := [] }
    mbs := (s.mbs.zip owed).map (fun (m : Mailbox × Nat) => m.1.abandon m.2)
    pwr := { s.pwr with setBy := none, bySet := false }
    sb := if s.sb.queued then s.sb else { s.sb with busy := false }
    fuses := { s.fuses with rootKey := none }
    boot := { s.boot with otpSeen := s.boot.otpSeen.filter (fun w => w.1 < 5 || 12 < w.1) } }
  s.newRound.startMgmt none

/-- Step 6: ERASED and DEBUG_OPEN are set, and intake reopens for the commands of R527. DEDUCED, log entry 100. -/
def execDebugEraseDone (s : State) : Host.Outcome State Fault Refusal :=
  .next (if s.tap.erasing.isNone then s
    else { s with tap := { s.tap with erasing := none }, intakeClosed := false, erasedMode := true }.openPort true)

/-! ### The response -/

/-- A state with a challenge (R519). -/
def State.challenged (s : State) : Bool := s.lcs.state = lcPROVISIONED || s.lcs.state = lcDEPLOYED

/-- In a state without a challenge the port opens whatever the response holds; otherwise the response, which consumes the
nonce, is checked unless LOCKED refuses it. DEDUCED, log entry 99. -/
def State.dbgResponse (s : State) (dr : Bytes) : State :=
  let s := s.tapOut 0x12 0
  if !s.lcs.otpValid || s.tapClosed then s.tapBypass.dbgResult drCLOSED_STATE
  else if s.lcs.debugOpen || s.tap.erasing.isSome then s
  else if !s.challenged then (s.openPort false).dbgResult 1
  else
    let r := s.responseChk dr
    let s := { s with tap := { s.tap with nonce := none } }
    if s.tap.locked then s
    else match r with
      | some k => s.responseFail k
      | none => if s.lcs.state = lcDEPLOYED then s.erase.dbgResult 1 else (s.openPort true).dbgResult 1

def execDbgResponse (dr : Bytes) (s : State) : Host.Outcome State Fault Refusal := .next (s.dbgResponse dr)

/-! ### The open port (R524, R528, R578) -/

/-- One access of the debug window through the TAP; an address beyond the window sets ERROR. DESIGN CHOICE, log entry 6. -/
def State.dbgAccess (s : State) (dr : BitVec 128) : State :=
  if !s.lcs.debugOpen then s.tapBypass
  else
    let op := bits dr.toNat 0 2
    let w := bits dr.toNat 2 30
    if op = 0 || op = 3 then s.tapOut 0x13 0
    else if 0x20000 ≤ w then s.tapOut 0x13 (2 ^ 64)
    else if op = 1 then { s.tapOut 0x13 (2 ^ 32 * (Config.debugWindow s.fresh).toNat) with fresh := s.fresh + 1 }
    else (s.tapOut 0x13 0).debugWrite w (BitVec.ofNat 32 (bits dr.toNat 32 32))

def execDbgAccess (dr : BitVec 128) (s : State) : Host.Outcome State Fault Refusal := .next (s.dbgAccess dr)

/-- The port closes: the window locks and source 22 is raised; ERASED stays. -/
def State.closePort (s : State) : State :=
  if s.lcs.debugOpen then { s with lcs := { s.lcs with debugOpen := false } }.raise 22 else s

def execDbgClose (s : State) : Host.Outcome State Fault Refusal :=
  .next (if s.lcs.debugOpen then (s.tapOut 0x14 0).closePort else s.tapBypass)

/-- TRST_N, or Test-Logic-Reset: the TAP alone is reset, IDCODE is selected, and the port closes (R506, R528). -/
def execTrstN (s : State) : Host.Outcome State Fault Refusal := .next (s.tapOut 0x01 0).closePort

end Sys2Proof.Machine
end

