-- ==== Sys2Proof/Machine/Sideband.lean ====
section
/-! DEFINITION. The sideband target (R108 to R112, R510, R529, R530): private writes, GO and ACK, and the common command codes
of address assignment, which the front end answers by itself in every power state. -/

namespace Sys2Proof.Machine

def State.modSb (s : State) (f : Sideband → Sideband) : State := { s with sb := f s.sb }

/-! ### The handshake (R109, R510, R527) -/

/-- GO places SB_CMD into the management intake and sets BUSY; while BUSY or DONE is set, while the erasure of R527 runs,
and after a failed start it is ignored and sets REFUSED. DEDUCED, log entry 109. -/
def State.sbGo (s : State) : State :=
  if s.sb.busy || s.sb.done || s.tap.erasing.isSome || s.boot.step = .failed then s.modSb (fun b => { b with refused := true })
  else s.modSb (fun b => { b with busy := true, queued := true, goAt := s.tick, refused := false })

def execSbGo (s : State) : Host.Outcome State Fault Refusal := .next s.sbGo

def State.sbAck (s : State) : State := s.modSb (fun b => { b with done := false })

def execSbAck (s : State) : Host.Outcome State Fault Refusal := .next s.sbAck

/-! ### Private writes (R108) -/

/-- One data byte of a private write. -/
def State.sbByte (s : State) (at_ : Nat) (v : Byte) : State :=
  if at_ < 64 then (if s.sb.busy then s else s.modSb (fun b => { b with cmd := setAt at_ (fun _ => v) b.cmd }))
  else if at_ = 0x40 && v = 0x01 then s.sbGo
  else if at_ = 0x40 && v = 0x02 then s.sbAck
  else s

/-- The pointer is set, and the data bytes go to auto-incrementing addresses. DEDUCED, log entry 101. -/
def State.sbWrite (s : State) (ptr : Byte) (data : Bytes) : State :=
  ((List.range data.length).zip data).foldl (fun (s : State) (d : Nat × Byte) => s.sbByte ((ptr.toNat + d.1) % 256) d.2)
    (s.modSb (fun b => { b with ptr := ptr }))

/-- SB_PRIVATE_WRITE (R108). DEDUCED, log entry 101. -/
def execSbPrivateWrite (ptr : Byte) (data : Bytes) (s : State) : Host.Outcome State Fault Refusal := .next (s.sbWrite ptr data)

/-- What a private read returns at a pointer (R108). -/
def Sideband.readByte (b : Sideband) (at_ : Nat) : Byte :=
  if at_ < 64 then b.cmd.getD at_ 0
  else if at_ = 0x41 then b.stat
  else if 0x60 ≤ at_ && at_ < 0x80 then b.cpl.getD (at_ - 0x60) 0
  else 0

/-! ### Address assignment (R529, R530) -/

/-- The provisioned ID. -/
def State.provisionedId (s : State) : Nat :=
  0x0D9E * 2 ^ 33 + 0x4B44 * 2 ^ 16 + s.fuses.sbInstance.toNat * 2 ^ 12 + 0x072

/-- What the front end returns for a CCC, most significant byte first. DEDUCED, log entry 101. -/
def State.sbAnswer (s : State) (b : Bytes) : State := s.modSb (fun x => { x with answer := b })

def State.setDyn (s : State) (a : BitVec 7) : State := s.modSb (fun b => { b with dynAddr := a, dynValid := true })

/-- The block takes part with its provisioned ID, BCR and DCR, and is given an address. -/
def execEntdaa (addr : BitVec 7) (s : State) : Host.Outcome State Fault Refusal :=
  .next ((s.sbAnswer (be 6 s.provisionedId ++ [0, 0])).setDyn addr)

/-- Addressed to SB_STATIC; ignored while STATIC_VALID reads 0. -/
def execSetdasa (stat addr : BitVec 7) (s : State) : Host.Outcome State Fault Refusal :=
  .next (if s.lcs.otpValid && s.fuses.sbValid && stat = s.fuses.sbStatic then s.setDyn addr else s)

/-- Replaces the dynamic address, where there is one. -/
def execSetnewda (addr : BitVec 7) (s : State) : Host.Outcome State Fault Refusal :=
  .next (if s.sb.dynValid then s.setDyn addr else s)

def execRstdaa (s : State) : Host.Outcome State Fault Refusal :=
  .next (s.modSb (fun b => { b with dynAddr := 0, dynValid := false }))

def execGetpid (s : State) : Host.Outcome State Fault Refusal := .next (s.sbAnswer (be 6 s.provisionedId))

def execGetbcr (s : State) : Host.Outcome State Fault Refusal := .next (s.sbAnswer [0])

def execGetdcr (s : State) : Host.Outcome State Fault Refusal := .next (s.sbAnswer [0])

def execGetstatus (s : State) : Host.Outcome State Fault Refusal := .next (s.sbAnswer [0, 0])

end Sys2Proof.Machine
end

