-- ==== Sys2Proof/Machine/Flash.lean ====
section
/-! DEFINITION. The flash port and tier T2 of Kidevon L (R146, R148 to R150, R155, R511, R591 to R593): the mount, the operations
of waiting commands, the mapping with its wear counts, and background work. Cycle descriptors are not state. -/

namespace Sys2Proof.Machine

/-! ### What waits on T2 -/

/-- Jobs that program pages; the others read. DEDUCED, log entry 102. -/
def FlashJob.writes : FlashJob → Bool
  | .sealCopy _ | .coldHint _ _ | .backCopy _ => true
  | .promote _ | .refetch _ _ | .warmHint .. => false

def State.dropJob (s : State) (j : FlashOp) : State := { s with flash := { s.flash with jobs := s.flash.jobs.erase j } }

/-- The home is T2: the T1 copy goes when the last user ends (R146). -/
def State.coldDone (s : State) (h : Handle) (tk : Ticket) : State :=
  ((s.modObj h (fun o => { applyHint 3 o with ticket := none })).settleObj h).finish tk stOK h noField 0 0

/-- The object is in T1 again: rows and streams that waited for it go on. DEDUCED, log entry 39. -/
def State.promoted (s : State) (h : Handle) : State :=
  let s := s.modObj h (fun o => { o with promoting := false })
  (s.runRows (hTerr h)).tokRunAll (hTerr h)

/-- The pages of a command's data are programmed and its mapping is durable (R150). -/
def State.jobWritten (s : State) (j : FlashJob) : State :=
  match j with
  | .sealCopy h => s.sealPin h
  | .coldHint h tk => s.coldDone h tk
  | .backCopy k => match s.task k with
    | some t => match t.kind with
      | .objReplace h _ _ _ _ => s.replacePin t h
      | _ => s
    | none => s
  | _ => s

/-- The copy from T2 to T1 failed: a version without a second copy is lost (R150, R155). -/
def State.promoteFail (s : State) (h : Handle) : State :=
  match s.obj h with
  | none => s
  | some o =>
    let s := s.modObj h (fun o => { o with promoting := false })
    let q := s.quarantine h o.cur noCause
    if o.versions.any (fun v => v.num = o.cur && v.backing = 2) then q.loseVersion h o.cur else q

/-- A read of T2 has returned; no data means that it failed after the deepest read-retry level, which is an uncorrectable
error on the version: one without a second copy is lost (R150, R155). -/
def State.jobRead (s : State) (j : FlashJob) (data : Bytes) : State :=
  match j with
  | .promote h => if !data.isEmpty then s.promoted h else s.promoteFail h
  | .warmHint h tk hint =>
    match s.obj h with
    | none => s
    | some o =>
      if !data.isEmpty then (s.promoted h).hintNow h o tk hint
      else ((s.promoteFail h).modObj h (fun o => { o with ticket := none })).finish tk stDATA_ERROR h noField 0 0
  | .refetch h ver => s.refetchRead h ver (if data.isEmpty then none else some data)
  | _ => s

/-- T2 has failed: the waiting command completes with DATA_ERROR (R511). -/
def State.jobFails (s : State) (j : FlashJob) : State :=
  match j with
  | .sealCopy h => s.sealFail h stDATA_ERROR
  | .coldHint h tk => (s.modObj h (fun o => { o with ticket := none })).finish tk stDATA_ERROR tk.handle noField 0 0
  | .backCopy k => match s.task k with
    | some t => match t.kind with
      | .objReplace h _ _ _ _ => s.replaceUndo t h
      | _ => s
    | none => s
  | .warmHint h tk _ =>
    (s.modObj h (fun o => { o with ticket := none, promoting := false, t1Gone := true })).finish tk stDATA_ERROR h noField 0 0
  | .promote h =>
    let v := s.curVer h
    (s.modObj h (fun o => { o with promoting := false, t1Gone := true })).endUsers h v stDATA_ERROR
  | .refetch h ver => s.loseVersion h ver

/-! ### The mount (R148, R511, R593) -/

def flashFault (s : State) : State := s.fault fcFLASH noTerr locBlock noCause 0 0 0

/-- The mount fails: T2_READY stays 0 until the next reset. -/
def State.mountFails (s : State) : State :=
  let js := s.flash.jobs
  let s := flashFault { s with boot := { s.boot with t2Failed := true }, flash := { s.flash with jobs := [], prog := [] } }
  s.forEach js (fun s o => s.jobFails o.job)

/-- Firmware is up and T2 is being mounted. -/
def State.mounting (s : State) : Bool := s.cfg.hasFlash && s.lcs.ready && !s.lcs.t2Ready && !s.boot.t2Failed

/-- Does a target stand at this place? -/
def targetThere (n : Nat) : Bool := (Config.flashPage n).1

/-- Its parameter page has read retry, and its page is 16 KiB plus spare at most (R593). -/
def targetFit (n : Nat) : Bool := (Config.flashPage n).2.1 && (Config.flashPage n).2.2.1 ≤ 16384

/-- The targets of trained channels, the fit ones, and how many places file a FLASH record: a channel that is not trained, and
a target that is not fit (R593). -/
def Flash.targets (f : Flash) : List Nat :=
  (List.range 32).filter (fun n => f.phyReady.getD (n / 4) false && targetThere n)

def Flash.fit (f : Flash) : List Nat := f.targets.filter targetFit

def Flash.excluded (f : Flash) : Nat :=
  (f.phyReady.filter (fun r => !r)).length + (f.targets.filter (fun n => !targetFit n)).length

/-- The blocks of the accepted targets: known from an earlier mount, or as the targets come. -/
def Medium.known (m : Medium) (fit : List Nat) : List FBlock :=
  if m.blocks.isEmpty then
    fit.flatMap (fun n => (Config.flashPage n).2.2.2.2.map (fun b => ⟨n / 4, n % 4, b.1, b.2, 0, false⟩))
  else m.blocks

/-- 16 KiB units in 1 GiB. -/
def unitsPerGib : Nat := 65536

def unitsPerBlock : Nat := max 1 Config.blockUnits

/-- Units in good blocks. -/
def Medium.good (m : Medium) : Nat := (m.blocks.filter (fun b => !b.bad)).length * unitsPerBlock

/-- Usable capacity in GiB: at most 93 % of the good capacity (R148), and at most 32 TiB (R6). -/
def Medium.usableGib (m : Medium) : Nat := min 32768 (m.good * 93 / 100 / unitsPerGib)

/-- The mount is done with what it accepted. The mapping in force is that of the checkpoint journal (R150). DESIGN CHOICE,
log entry 103. -/
def State.mountDone (s : State) : State :=
  if !s.mounting then s
  else if !s.flash.phyReady.any id then s.mountFails
  else
    let s := s.forEach (List.range s.flash.excluded) (fun s _ => flashFault s)
    let m := { s.medium with blocks := s.medium.known s.flash.fit }
    let usable := m.usableGib
    { s with
      lcs := { s.lcs with t2Ready := true }
      medium := m
      flash := { s.flash with
        usable := usable, reserve := m.good / unitsPerGib - usable, maps := m.ckpt, prog := []
        jobs := s.flash.jobs.map (fun o => { o with at_ := s.tick }) } }

def execT2MountDone (s : State) : Host.Outcome State Fault Refusal := .next s.mountDone

def execT2MountTimeout (s : State) : Host.Outcome State Fault Refusal :=
  .next (if s.mounting && s.boot.readyAt + 300000000 ≤ s.tick then s.mountFails else s)

/-! ### The mapping (R148 to R150, R468) -/

/-- Does T2 still hold the mapped version? What no live object or job accounts for is trimmed. DEDUCED, log entry 140. -/
def State.mapLive (s : State) (m : FMap) : Bool :=
  match s.obj m.obj with
  | none => false
  | some o => (o.versions ++ o.making.toList).any (fun v => v.num = m.ver && (o.cold || v.backing = 2)) ||
      s.flash.jobs.any (fun j => match j.job with
        | .sealCopy h => h = m.obj
        | .coldHint h _ => h = m.obj
        | .warmHint h _ _ => h = m.obj
        | .promote h => h = m.obj
        | .refetch h v => h = m.obj && v = m.ver
        | .backCopy _ => false)

def State.liveMaps (s : State) : List FMap := s.flash.maps.filter s.mapLive

/-- Dynamic wear levelling: of the good blocks that hold nothing, the first with the lowest erase count (R149). -/
def State.freeBlock (s : State) : Option Nat :=
  let used := (s.liveMaps ++ s.flash.prog ++ s.medium.ckpt.filter s.mapLive).map (·.block)
  let free := ((List.range s.medium.blocks.length).zip s.medium.blocks).filter (fun b => !b.2.bad && !used.contains b.1)
  (free.foldl (fun (best : Option (Nat × FBlock)) b => match best with
    | none => some b
    | some a => if b.2.erases < a.2.erases then some b else best) none).map (·.1)

def State.modBlock (s : State) (n : Nat) (f : FBlock → FBlock) : State :=
  { s with medium := { s.medium with blocks := setAt n f s.medium.blocks } }

/-- A block is erased before it is programmed; its counts since the last program start again (R149, R468). -/
def FBlock.program (b : FBlock) : FBlock := { b with erases := b.erases + 1, reads := 0, due := false }

/-- A block is retired: it enters the bad-block table and the reserve shrinks (R149). -/
def State.retireBlock (s : State) (n : Nat) : State :=
  let s := s.modBlock n (fun b => { b with bad := true })
  flashFault ({ s with flash := { s.flash with reserve := s.medium.good / unitsPerGib - s.flash.usable } }.tally cT2_RETIRED noTerr)

/-- What block `n` holds moves to another block. -/
def State.moveBlock (s : State) (n : Nat) : State :=
  match s.freeBlock with
  | none => s
  | some k =>
    let moved := fun (m : FMap) => if m.block = n then { m with block := k } else m
    { s.modBlock k FBlock.program with
      flash := { s.flash with maps := s.flash.maps.map moved }
      medium := { (s.modBlock k FBlock.program).medium with ckpt := s.medium.ckpt.map moved } }

/-! ### Operations (R149, R150, R592) -/

/-- Versions a writing job copies, with their image bytes. -/
def State.jobParts (s : State) (j : FlashJob) : List (Handle × Nat × Nat) :=
  match j with
  | .sealCopy h => ((s.obj h).map (fun o => [(h, max 1 o.cur, hdSize o.hdr)])).getD []
  | .coldHint h _ => ((s.obj h).map (fun o => o.versions.map (fun v => (h, v.num, hdSize v.header)))).getD []
  | .backCopy k => match s.task k with
    | some t => match t.kind with
      | .objReplace h _ _ _ _ => ((s.obj h).bind (·.making)).toList.map (fun v => (h, v.num, hdSize v.header))
      | _ => []
    | none => []
  | _ => []

/-- The pieces a job programs, one erase block each: object, version, first unit, units. -/
def State.jobPieces (s : State) (j : FlashJob) : List (Handle × Nat × Nat × Nat) :=
  (s.jobParts j).flatMap (fun p =>
    let units := ceilDiv p.2.2 16384
    (List.range (ceilDiv units unitsPerBlock)).map (fun i =>
      (p.1, p.2.1, i * unitsPerBlock, min unitsPerBlock (units - i * unitsPerBlock))))

/-- The mapping with a job's pages in place of what it held of those versions. -/
def mapOver (maps prog : List FMap) : List FMap :=
  maps.filter (fun m => !prog.any (fun p => p.obj = m.obj && p.ver = m.ver)) ++ prog

/-- A block of the oldest writing job is programmed on this target; once every piece stands, a last program puts the mapping
change into the checkpoint journal, and the data is durable (R150). A failed program retires its block and goes on in
another. DEDUCED, log entry 102. -/
def State.flashReady (s : State) (chan target : Nat) (ok : Bool) : State :=
  match s.flash.jobs.find? (fun o => o.job.writes), s.freeBlock with
  | some o, some n =>
    if !s.lcs.t2Ready || !(s.medium.blocks[n]?.any (fun b => b.chan = chan && b.target = target)) then s
    else if !ok then (s.modBlock n FBlock.program).retireBlock n
    else match (s.jobPieces o.job)[s.flash.prog.length]? with
      | some (h, v, first, count) =>
        let s := s.modBlock n FBlock.program
        { s with flash := { s.flash with prog := s.flash.prog ++ [⟨h, v, first, count, n⟩] } }
      | none =>
        let maps := mapOver s.liveMaps s.flash.prog
        ({ s with flash := { s.flash with maps := maps, prog := [] }
                  medium := { s.medium with ckpt := maps } }.dropJob o).jobWritten o.job
  | _, _ => s

def execFpRbReady (chan target : Nat) (ok : Bool) (s : State) : Host.Outcome State Fault Refusal :=
  .next (s.flashReady chan target ok)

/-- The object a reading job reads. -/
def FlashJob.source : FlashJob → Handle
  | .promote h | .refetch h _ | .warmHint h _ _ | .sealCopy h | .coldHint h _ => h
  | .backCopy _ => 0

/-- Read-retry level from which a block is due for refresh (R149); word 32 of the fuses trims it. -/
def State.retryLevel (s : State) : Nat :=
  let n := bits s.fuses.flashTrim1.toNat 0 4
  if n = 0 then 4 else n

/-- The blocks a version stands in have been read once more; one of them needed retry level `retry` (R149). -/
def State.readBlocks (s : State) (h : Handle) (retry : Nat) : State :=
  let bs := ((s.liveMaps.filter (fun m => m.obj = h)).map (·.block)).eraseDups
  let s := s.forEach bs (fun s n => s.modBlock n (fun b => { b with reads := b.reads + 1, due := b.due || decide (s.retryLevel ≤ retry) }))
  match bs.head? with
  | some n => if Config.deepestRetry ≤ retry then (s.moveBlock n).retireBlock n else s
  | none => s

/-- Read data of the oldest read operation; no data means that it failed after the deepest retry level (R149, R150).
DEDUCED, log entry 102. -/
def State.flashRead (s : State) (data : Bytes) (retry : Nat) : State :=
  if !s.lcs.t2Ready then s
  else match s.flash.jobs.find? (fun o => !o.job.writes) with
    | none => s
    | some o => ((s.readBlocks o.job.source (if data.isEmpty then Config.deepestRetry else retry)).dropJob o).jobRead o.job data

def execFpReadData (_chan : Nat) (data : Bytes) (retry : Nat) (s : State) : Host.Outcome State Fault Refusal :=
  .next (s.flashRead data retry)

/-- The watchdog of a T2 read: no response for 100,000 ticks is an uncorrectable error (R153). -/
def State.flashLate (s : State) (op : Nat) : State :=
  match s.flash.jobs.find? (fun o => o.id = op && !o.job.writes) with
  | some o =>
    if !s.lcs.t2Ready || s.tick < o.at_ + 100000 then s
    else ((s.tally cFILL_TIMEOUT (hTerr o.job.source)).dropJob o).jobRead o.job []
  | none => s

def execFpPhyReady (chan : Nat) (level : Bool) (s : State) : Host.Outcome State Fault Refusal :=
  .next { s with flash := { s.flash with phyReady := setAt chan (fun _ => level) s.flash.phyReady } }

/-! ### Background work (R149) -/

/-- How far the least-erased block may lag, and how many reads a block may take; word 31 of the fuses trims both. -/
def State.wearDelta (s : State) : Nat :=
  let n := bits s.fuses.flashTrim0.toNat 0 16
  if n = 0 then 256 else n

def State.disturbReads (s : State) : Nat :=
  let n := bits s.fuses.flashTrim0.toNat 16 16
  1000 * (if n = 0 then 50 else n)

/-- Blocks that hold data, with their numbers. -/
def State.dataBlocks (s : State) : List (Nat × FBlock) :=
  ((List.range s.medium.blocks.length).zip s.medium.blocks).filter (fun b => !b.2.bad && s.liveMaps.any (fun m => m.block = b.1))

/-- The block static wear levelling moves: the least erased of those with data, where it lags the most erased by more than the
limit. -/
def State.wearBlock (s : State) : Option Nat :=
  let top := (s.medium.blocks.map (·.erases)).foldl max 0
  let low := s.dataBlocks.foldl (fun (best : Option (Nat × FBlock)) b => match best with
    | none => some b
    | some a => if b.2.erases < a.2.erases then some b else best) none
  match low with
  | some b => if b.2.erases + s.wearDelta < top then some b.1 else none
  | none => none

/-- A block is rewritten by refresh: what it holds goes to another block. -/
def State.refreshBlock (s : State) (p : FBlock → Bool) : State :=
  match s.dataBlocks.find? (fun b => p b.2) with
  | some b => ((s.moveBlock b.1).modBlock b.1 (fun x => { x with reads := 0, due := false })).tally cT2_REFRESH noTerr
  | none => s

/-- Background work runs only in turns left idle and behind every demand operation; it does nothing where no block calls for
it (R149). An erase failure found by it retires the next free block. DEDUCED, log entry 140. -/
def State.ftlWork (s : State) (w : FtlWork) : State :=
  if !s.lcs.t2Ready || !s.running || s.slotWork || !s.flash.jobs.isEmpty then s
  else match w with
    | .staticWear => match s.wearBlock with | some n => s.moveBlock n | none => s
    | .disturbRefresh => s.refreshBlock (fun b => s.disturbReads ≤ b.reads)
    | .retentionRefresh => s.refreshBlock (fun b => b.due)
    | .retire => match s.freeBlock with | some n => (s.modBlock n FBlock.program).retireBlock n | none => s

def execFtlBackground (w : FtlWork) (s : State) : Host.Outcome State Fault Refusal := .next (s.ftlWork w)

end Sys2Proof.Machine
end

