-- ==== Sys2Proof/Machine/Spring.lean ====
section
/-! DEFINITION. The Spring and the DRBGs (R414 to R417): health tests, failure and retry, reinstantiation, refill and reseeding. -/

namespace Sys2Proof.Machine

/-! ### Health tests on the raw bits of a noise cell (R414) -/

/-- Longest run of equal bits; `run` is the run that ends at `last`. -/
def longestRun (last : Bool) (run : Nat) : List Bool → Nat
  | [] => run
  | b :: r => if b = last then longestRun last (run + 1) r else max run (longestRun b 1 r)

/-- Repetition count: a run reaches 41. -/
def repetitionFails (raw : List Bool) : Bool :=
  match raw with
  | [] => false
  | b :: r => 41 ≤ longestRun b 1 r

/-- Windows of 1,024 bits. -/
def windows (raw : List Bool) : List (List Bool) :=
  (List.range (ceilDiv raw.length 1024)).map (fun i => (raw.drop (1024 * i)).take 1024)

/-- Adaptive proportion: in a window the first bit's value occurs 800 times or more. -/
def proportionFails (raw : List Bool) : Bool :=
  (windows raw).any (fun w => 800 ≤ (w.filter (fun b => b == w.headD false)).length)

/-- Do raw bits fail a health test (R414)? DEDUCED, log entry 98. -/
def rawFails (raw : List Bool) : Bool := repetitionFails raw || proportionFails raw

/-! ### Failure (R416) -/

/-- The Spring's domain is powered and firmware runs. DESIGN CHOICE, log entry 3. -/
def State.springOn (s : State) : Bool := s.lcs.ready && !s.frontEnd

/-- Steps 1 to 3, and the limit of four failures in a second. DEDUCED, log entry 98. -/
def State.springFail (s : State) : State :=
  let recent := (s.tick :: s.spring.failAt).filter (fun a => s.tick < a + 100000000)
  let sp : Spring := { failed := true, dead := s.spring.dead || 4 ≤ recent.length, failAt := recent, queue := [] }
  let s := { s with
    spring := sp
    terr := s.terr.mapVals (fun _ (te : Terrace) => { te with drbg := { count := te.drbg.count } }) }
  (s.raise 20).tally cENTROPY_FAIL noTerr

def execSpringHealthFail (raw : List Bool) (s : State) : Host.Outcome State Fault Refusal :=
  .next (if s.springOn && rawFails raw then s.springFail else s)

/-- 1 ms after the latest failure, unless the Spring stays FAILED: the start-up test. When it passes, every terrace's DRBG
is instantiated again in ascending order. DEDUCED, log entry 98. -/
def State.springRetry (s : State) (raw : List Bool) : State :=
  let p := s.spring
  if !s.springOn || !p.failed || p.dead || s.tick < (p.failAt.headD 0) + 100000 || raw.length < 1024 then s
  else if rawFails (raw.take 1024) then s.springFail
  else { s with spring := { p with failed := false, queue := s.terr.keys } }

def execSpringRetryTimer (raw : List Bool) (s : State) : Host.Outcome State Fault Refusal := .next (s.springRetry raw)

/-! ### The DRBGs (R415, R416) -/

/-- The next terrace of the queue has its DRBG again. DESIGN CHOICE, log entry 3. -/
def State.reinstantiate (s : State) (t : Nat) : State :=
  if s.springOn && !s.spring.failed && s.spring.queue.head? = some t then
    { s with spring := { s.spring with queue := s.spring.queue.drop 1 } }.instantiate t
  else s

def execDrbgInstantiateDone (t : Nat) (s : State) : Host.Outcome State Fault Refusal := .next (s.reinstantiate t)

/-- A Generate refills the buffer of a live DRBG, up to 100 variates. -/
def execDrbgGenerate (t : Nat) (s : State) : Host.Outcome State Fault Refusal :=
  .next (match s.terrace t with
    | some te => if s.springOn && te.drbg.live && te.drbg.buffer.length < 100 then s.generate t else s
    | none => s)

/-- After 2^20 Generate requests the DRBG is reseeded from fresh raw bits. -/
def execDrbgReseed (t : Nat) (s : State) : Host.Outcome State Fault Refusal :=
  .next (match s.terrace t with
    | some te =>
      if s.springOn && !s.spring.failed && te.drbg.live && reseedLimit ≤ te.drbg.gens then
        { s with fresh := s.fresh + 16 }.modT t (fun te => { te with drbg := te.drbg.reseed s.fresh })
      else s
    | none => s)

end Sys2Proof.Machine
end

