-- ==== Sys2Proof/Machine/Background.lean ====
section
/-! DEFINITION. Wellhead's and the Table engine's background work (R178, R182, R537, R540): BASE records, compaction of ordered
Riddle regions, and the removal of ECHO rows of ended requests. -/

namespace Sys2Proof.Machine

/-! ### BASE records (R537, R540) -/

/-- A BASE write is outstanding for a terrace. -/
def State.basing (s : State) (t : Nat) : Bool :=
  s.mp.any (fun o => match o.kind with | .journalBase u _ => u = t | _ => false)

/-- A pass of BASE records over the live items of a terrace is written; one pass is under way at a time. DEDUCED, log entry
105. -/
def State.baseWrite (s : State) (t : Nat) : State :=
  match s.terrace t with
  | none => s
  | some _ =>
    if !s.tableRuns || s.basing t then s
    else (s.modT t (fun te => { te with journal := { te.journal with basePass := some 1 } })).mpOwn t (.journalBase t false)

def execJournalBaseWrite (t : Nat) (s : State) : Host.Outcome State Fault Refusal := .next (s.baseWrite t)

/-! ### Idle time of a terrace's turn -/

/-- Wellhead is idle within the terrace's own turn (R182). -/
def State.idleTurn (s : State) (t : Nat) : Bool :=
  s.scheduleRuns && s.slotOpen && s.sched.turn == some t && !s.turnWork t

/-! ### Compaction (R182) -/

/-- One region of a terrace, by its position, has its holes spread again. -/
def State.compact (s : State) (t i : Nat) : State :=
  match s.terrace t with
  | none => s
  | some te => match te.regions[i]? with
    | none => s
    | some r =>
      if !s.idleTurn t || !r.ordered || !r.compact then s
      else
        let c := compactRows te.holes r.rows
        (s.modT t (fun te => { te with regions := setAt i (fun r => { r with rows := c.1, compact := false }) te.regions })).count
          cRIDDLE_MOVE t te.quadLoc c.2

def execRiddleCompaction (t region : Nat) (s : State) : Host.Outcome State Fault Refusal := .next (s.compact t region)

/-! ### ECHO rows of ended requests (R178) -/

/-- Is an ECHO row a key of a live request's own history, tentative tokens included, under the request's handle? DEDUCED,
log entry 104. -/
def Terrace.echoLive (te : Terrace) (t : Nat) (salt : BitVec 128) (row : RRow) : Bool :=
  te.reqs.any (fun x =>
    let r := x.2
    let n := row.keyLen / 3
    let new := (((te.sp.flight.bind (fun f => f.res.get x.1)).map (fun o => o.toks.map (·.tok))).getD [])
    let k := te.tentKey r new n row.value
    let h := keyHash salt (some (mkHandle t tyReq x.1 r.gen)) (tokKey k)
    decide (r.state < rsDRAINING) && r.endReason = 0 && decide (row.value ≤ r.committed + new.length) && decide (n ≤ row.value) &&
      row.pre = h.extractLsb' 0 16 && row.fp = h.extractLsb' 16 40)

/-- The rows of ended requests leave the ECHO regions (R178). DEDUCED, log entry 104. -/
def State.echoCleanup (s : State) (t : Nat) : State :=
  match s.terrace t with
  | none => s
  | some te =>
    if !s.idleTurn t then s
    else s.modT t (fun _ => te.modRegion rkECHO (fun r => r.remove (fun row => !te.echoLive t r.salt row)))

def execEchoRowCleanup (t : Nat) (s : State) : Host.Outcome State Fault Refusal := .next (s.echoCleanup t)

end Sys2Proof.Machine
end

