-- ==== Sys2Proof/Machine/Parity.lean ====
section
/-! DEFINITION. Parity errors in on-block SRAM (R183, R319, R532 to R536, R539, R540, R549), and the boundary rows, which may find
one. -/

namespace Sys2Proof.Machine

/-- The location that a parity error is reported at: the unit the hardware names where it is one of the configuration's, the block for
what belongs to no quad or bay (R36). -/
def placedErr (c : Cfg) (e : ParityErr) : ParityErr :=
  let l := locLevel e.location
  let i := locIndex e.location
  let ok := (l = 1 && i < 16 * c.cores) || (l = 2 && i < c.cores) || (l = 3 && i < c.quads) || (l = 4 && i < c.bays) || (l = 5 && i = 0)
  if ok && !(6 ≤ e.structure_ && e.structure_ ≤ 10) then e else { e with location := locBlock }

/-- The quad of a location: of a lane, a core or a quad (R34). -/
def locQuadOf (w : Nat) : Option Nat :=
  if locLevel w = 1 then some (locIndex w / 64) else if locLevel w = 2 then some (locIndex w / 4)
  else if locLevel w = 3 then some (locIndex w) else none

/-- Count and record an error replayed or not replayed (R543, R548). -/
def State.parityRec (s : State) (t : Nat) (e : ParityErr) (lost : Bool) (h : Handle) : State :=
  let cause := if lost then cPARITY_LOSS_EVT else cPARITY_REPLAY
  (s.count cause t e.location 1).fault (if lost then fcPARITY_LOST else fcPARITY_REPLAYED) t e.location cause e.structure_ h e.word

/-- A request ends with `st` at its next boundary (R269). -/
def State.doomReq (s : State) (t i st : Nat) : State :=
  s.modT t (fun te => { te with reqs := te.reqs.mod i (fun r =>
    if r.doom.isNone && r.state < rsDRAINING then { r with doom := some st } else r) })

def State.reqHandle (s : State) (t i : Nat) : Handle :=
  (((s.terrace t).bind (fun te => te.reqs.get i)).map (fun r => mkHandle t tyReq i r.gen)).getD 0

/-! ### Lost Starters (R319) -/

/-- Does Starter `j` lead to `i` along its chain of at most 8? -/
def Terrace.leadsTo (te : Terrace) (i : Nat) : Nat → Nat → Bool
  | 0, _ => false
  | n + 1, j => j = i || (((te.starters.get j).bind (·.link)).map (te.leadsTo i n)).getD false

/-- Every user, and every user of a Starter that links to it, ends with OBJECT_LOST at the next boundary; no search matches
it any more (R316, R319; DEDUCED, log entry 126). -/
def State.loseStarter (s : State) (t i : Nat) : State :=
  s.modT t (fun te => { te.forgetStarter i with
    starters := te.starters.mod i (fun x => { x with state := stLOST })
    reqs := te.reqs.mapVals (fun _ r =>
      if r.starter ≠ 0 && r.doom.isNone && decide (r.state < rsDRAINING) && te.leadsTo i 16 (te.starterIx (hIndex r.starter)) then
        { r with doom := some stOBJECT_LOST }
      else r) })

/-! ### Structures -/

/-- The object of a key, as a handle. -/
def State.keyHandle (s : State) (t key : Nat) : Handle :=
  (((s.terrace t).bind (fun te => te.objs.get key)).map (fun o => mkHandle t (key / 2 ^ 18) (key % 2 ^ 18) o.gen)).getD 0

/-- A clean cache line: refilled, or the refill's failure counts as an uncorrectable error (R155). -/
def State.cacheParity (s : State) (t : Nat) (e : ParityErr) : State :=
  let h := s.keyHandle t e.owner
  let s := s.parityRec t e e.lost h
  if e.lost then s.quarantine h (s.curVer h) noCause else s

/-- A Riddle row: rebuilt from its source, or written EMPTY in an ECHO region; a source that cannot be read ends what the row
served (R183). `owner` is the region's position and `word` the row. -/
def State.riddleParity (s : State) (t : Nat) (e : ParityErr) : State :=
  match s.terrace t, (s.terrace t).bind (fun te => te.regions[e.owner]?) with
  | some te, some r =>
    let q := locQuad ((locQuadOf e.location).getD ((te.regionQuads r).headD 0))
    let row := r.rows.getD e.word emptyRow
    let s := s.parityRec t e e.lost 0
    if r.kind = rkECHO || !e.lost then
      let s := s.count cRIDDLE_REBUILD t q 1
      s.modT t (fun te => { te with regions := setAt e.owner (fun r =>
        { r with rows := applySteps r.rows (r.rebuildSteps (te.rowSource t r) e.word row) }) te.regions })
    else
      let v := row.value
      if r.kind = rkSTOP then s.doomReq t v stPARITY_LOSS
      else if r.kind = rkSTARTER then s.loseStarter t v
      else s.quarantine (s.keyHandle t r.obj) r.ver noCause
  | _, _ => s

/-- Step staging, or core scratch of step work: the step fails, outside the halt of R360. -/
def State.stepParity (s : State) (t : Nat) (e : ParityErr) : State :=
  match (s.terrace t).bind (fun te => te.sp.flight) with
  | none => s
  | some f =>
    let s := s.parityRec t e true 0
    if f.failed then s
    else (s.modSp t (fun p => { p with
      lastFailed := some f.id, flight := p.flight.map (fun f => { f with failed := true, parity := true }) })).tally cSTEP_FAILED t

/-- A journalled item: restored, an error replayed (R543, R548), or, where the journal cannot serve, its requests end or its
Starter is lost (R534, R539, R540). Among page lists the owner carries its type, that of a request where it is one. DEDUCED,
log entry 106. -/
def State.journalParity (s : State) (t : Nat) (e : ParityErr) : State :=
  let degraded := ((s.terrace t).map (fun te => te.journal.degraded)).getD false
  let starter := e.structure_ = 8 && e.owner / 2 ^ 18 ≠ tyReq
  let h := if starter then 0 else s.reqHandle t (e.owner % 2 ^ 18)
  if !e.lost && !degraded then
    ((s.count cPARITY_REPLAY t e.location 1).tally cJOURNAL_REPLAY t).fault fcPARITY_REPLAYED t e.location cJOURNAL_REPLAY e.structure_ h e.word
  else
    let s := s.parityRec t e true h
    if starter then s.loseStarter t e.owner else s.doomReq t (e.owner % 2 ^ 18) stPARITY_LOSS

/-- The secret store holds a DRBG state (`owner` 0) or a key set twice: both copies have failed (R534, R535). -/
def State.secretLost (s : State) (t owner : Nat) : State :=
  if owner = 0 then
    { s.modT t (fun te => { te with drbg := { count := te.drbg.count } }) with
      spring := { s.spring with queue := s.spring.queue ++ (if s.spring.failed || s.spring.queue.contains t then [] else [t]) } }
  else
    let s := s.forEach (((s.terrace t).map (fun te => te.reqs.keys)).getD []) (fun s i => s.doomReq t i stPARITY_LOSS)
    s.forEach (((s.terrace t).map (fun te => te.objs)).getD []) (fun s o =>
      let h := s.keyHandle t o.1
      let s := if o.2.state = osLOADING then s.modObj h (fun o => { o with state := osLOST }) else s
      s.forEach o.2.versions (fun s v => s.loseVersion h v.num))

/-- Wellhead's data memory: Wellhead stops, and the record waits in the always-on domain for the watchdog's reset (R534,
R545). DEDUCED, log entry 85. -/
def State.wellheadStops (s : State) (e : ParityErr) : State :=
  let r : FaultRec := ⟨0, fcPARITY_LOST, noTerr, e.location, cPARITY_LOSS_EVT.1 * 256 + cPARITY_LOSS_EVT.2, 9, 0, s.tick, 0xFFFFFFFF,
    e.word⟩
  { s with faults := { s.faults with kept := some r }, intakeClosed := true }

/-- The error is handled by the structure that holds the word (R534, R549). DEDUCED, log entry 106. -/
def State.parity (s : State) (t : Nat) (err : ParityErr) : State :=
  let e := placedErr s.cfg err
  if e.structure_ = 1 || e.structure_ = 2 then s.cacheParity t e
  else if e.structure_ = 3 then s.riddleParity t e
  else if e.structure_ = 4 then (s.parityRec t e true (s.reqHandle t e.owner)).doomReq t e.owner stPARITY_LOSS
  else if e.structure_ = 5 then s.stepParity t e
  else if 6 ≤ e.structure_ && e.structure_ ≤ 8 then s.journalParity t e
  else if e.structure_ = 9 then (if e.lost then s.wellheadStops e else s.parityRec noTerr e false 0)
  else if e.structure_ = 10 then
    let s := s.parityRec t e e.lost 0
    if e.lost then s.secretLost t e.owner else s
  else if e.structure_ = 11 then
    { s.parityRec t e true 0 with
      cnt := { s.cnt with bad := s.cnt.bad ++ [⟨e.word / 256 % 256, e.word % 256, t, e.location⟩] } }
  else s

/-- The error that a boundary meets is handled before the boundary runs. DEDUCED, log entry 106. -/
def State.parityFirst (s : State) (t : Nat) (p : Option ParityErr) : State :=
  match p with
  | some e => s.parity t e
  | none => s

/-! ### The boundary rows (R322, R324, R502) -/

/-- A boundary that may look a Starter up searches bank group 0 (R166, R315). -/
def State.boundaryRb (s : State) (t : Nat) : Bool :=
  !s.sleep.rbOn && ((s.terrace t).map (fun te => te.reqs.any (fun r => r.2.capture.isSome))).getD false

/-- The Table engine's domain must be powered, and bank group 0 where the boundary searches it: the first access after a
wake waits for them. DEDUCED, log entry 97. -/
def State.withTe (s : State) (t : Nat) (f : State → State) : State :=
  if s.boundaryRb t then s.wantRb
  else if s.sleep.teOn then f { s with sched := { s.sched with worked := true } }
  else { s with sleep := { s.sleep with teWait := some (s.sleep.teWait.getD s.tick) } }

def execStepBoundary (t : Nat) (parity : Option ParityErr) (s : State) : Host.Outcome State Fault Refusal :=
  .next (if s.stepBoundaryDue t then s.withTe t (fun s => (s.parityFirst t parity).boundary t) else s)

def execIdleBoundary (t : Nat) (parity : Option ParityErr) (s : State) : Host.Outcome State Fault Refusal :=
  .next (if s.idleBoundaryDue t then
      s.withTe t (fun s => ((s.parityFirst t parity).boundary t).modT t (fun te => { te with idleDone := true }))
    else s)

end Sys2Proof.Machine
end

