-- ==== Sys2Proof/Machine/Dispatcher.lean ====
section
/-! DEFINITION. The bay dispatchers (R29, R456): which ready task starts on which core, what a task does when it runs, and the
meaning of TASK_DISPATCH with the parity errors of R534 in a task's scratch. -/

namespace Sys2Proof.Machine

/-! ### Ready tasks and free cores -/

/-- A version and, under an overlay, the base version that is read with it (R223). -/
def State.withBase (s : State) (p : Handle × Nat) : List (Handle × Nat) :=
  match s.obj p.1 with
  | some o => if o.overlay then [p, (o.base, 1)] else [p]
  | none => [p]

/-- Versions the task reads. -/
def State.taskPins (s : State) (k : Task) : List (Handle × Nat) :=
  (match k.kind with
  | .streamPut h _ => match s.tokStream h with | some x => [(x.vocab, x.ver)] | none => []
  | .intake h => match s.req h with | some r => r.pinned | none => []
  | kind => kind.pins.filter (fun p => p.1 ≠ 0)).flatMap s.withBase

/-- Its inputs are read, it has no core yet, and the versions it reads are at hand. -/
def State.taskReady (s : State) (k : Task) : Bool :=
  k.input.isSome && k.core.isNone && k.result.isNone && (s.taskPins k).all (fun p => s.atHand p.1 p.2)

/-- The lowest free core of a terrace's set. -/
def State.freeCore (s : State) (te : Terrace) : Option Nat :=
  (List.range s.cfg.cores).find? (fun c => bit te.desc.coreMask c && s.coreFree c)

/-- The core that a bay's dispatcher can give the terrace. -/
def State.bayCore (s : State) (bay t : Nat) : Option Nat :=
  ((s.terrace t).bind s.freeCore).filter (fun c => c / 16 = bay)

def State.readyOf (s : State) (t : Nat) : List Task := s.tasks.filter (fun k => k.terr = t && s.taskReady k)

/-! ### Which task (R456) -/

/-- The terrace has a core in the bay. -/
def State.inBay (s : State) (bay t : Nat) : Bool :=
  ((s.terrace t).map (fun te => (homeBays te.desc.coreMask).contains bay)).getD false

/-- The terrace that the bay's pointer picks: the next with a ready task and a core for it, or, under sealed turns, the next
with cores in the bay, whose cycle passes unused where it has no such task (R456, R463). A terrace being destroyed keeps its
place in the rotation (DESIGN CHOICE, log entry 151). -/
def State.grant (s : State) (bay : Nat) : Option Nat :=
  let p := s.rrBay.getD bay 0
  ((List.range 16).map (fun i => (p + i) % 16)).find? (fun t =>
    if s.sched.sealed then s.inBay bay t else !(s.readyOf t).isEmpty && (s.bayCore bay t).isSome)

/-- Core time of a class in the present window, running tasks included. -/
def State.classUse (s : State) (t : Nat) (te : Terrace) (cls : Nat) : Nat :=
  te.used.getD cls 0 + sumBy (fun k => if k.terr = t && k.cls = cls && k.core.isSome then s.tick - max k.began te.usedAt else 0) s.tasks

/-- Less core time for its weight goes first; ties go to the lower class. -/
def State.classBefore (s : State) (t : Nat) (te : Terrace) (a b : Nat) : Bool :=
  let wa := bits te.desc.weights (4 * a) 4
  let wb := bits te.desc.weights (4 * b) 4
  s.classUse t te a * wb < s.classUse t te b * wa || (s.classUse t te a * wb = s.classUse t te b * wa && a ≤ b)

/-- Within a class: higher priority, lower index, earlier intake. -/
def taskBefore (a b : Task) : Bool :=
  b.prio < a.prio || (a.prio = b.prio && (a.index < b.index || (a.index = b.index && a.id ≤ b.id)))

def State.pick (s : State) (t : Nat) (te : Terrace) : Option Task :=
  let l := s.readyOf t
  match (sortBy (s.classBefore t te) (l.map (·.cls)).eraseDups).head? with
  | some c => (sortBy taskBefore (l.filter (fun k => k.cls = c))).head?
  | none => none

/-! ### Running a task -/

/-- The chunk of an OBJ_LOAD is written to T1. -/
def State.runLoad (s : State) (k : Task) (h : Handle) (off : Nat) : State :=
  s.mpOwn (hTerr h) (.taskWrite k.id off ((k.input.getD []).flatten) 0)

def State.runTask (s : State) (k : Task) (core : Nat) : State :=
  match k.kind with
  | .tok v ver outAddr offsAddr cap reject => s.runTok k core v ver outAddr offsAddr cap reject
  | .detok v ver outAddr cap ctrl hold => s.runDetok k v ver outAddr cap ctrl hold
  | .pack pair tp v st sync tv vv sv outAddr cap a => s.runPack k core pair tp v st sync tv vv sv outAddr cap a
  | .objLoad h off _ => s.runLoad k h off
  | .objReplace h backing limit backAddr switch => s.replaceRun k h backing limit backAddr switch
  | .streamPut h put => ((s.chargeTask k).dropTask k.id).putTask h put core
  | .intake h => s.siftStage k core h

/-! ### The lines a task reads -/

/-- Lines of an assembly: the template's, those of its text slots, and of its passages as far as their tokens are kept (R251,
R259). -/
def Terrace.asmNeeds (te : Terrace) (pair : Bool) (tp v st : Handle) (tv vv sv : Nat) (a : Assembly) : List Need :=
  match te.vocab v vv, te.asmWork tp v st tv vv sv a with
  | some vb, some w =>
    let uid := ((te.objVer st sv).map (fun x => hdUid x.header)).getD 0
    let parts := (w.seqs pair a.budget).flatMap (fun q => if q.isOver then q.parts.map (fun p => (p.1, 0)) else q.parts)
    need ⟨15, 0⟩ true false (hKey tp) tv .segs :: slotNeeds vb 0 a.slots ++ entryNeeds (hKey st) sv uid a.passages w.pass.nums ++
      (if w.fail.isSome then [] else keptNeeds (hKey st) sv 1 0 ((w.pass.nums.zip parts).map (fun x => (x.1, x.2.1, x.2.2))))
  | _, _ => []

/-- Lines of the pieces that a put settles. -/
def Terrace.putNeeds (te : Terrace) (x : TokStream) (id : Nat) : List Need :=
  match te.vocab x.vocab x.ver, x.puts.find? (fun p => p.id = id) with
  | some v, some p =>
    let old := (siftOpen v false x.textBuf).1.pieces.length
    ((siftOpen v p.docEnd (x.textBuf ++ p.text.getD [])).1.pieces.drop old).flatMap (fun y => y.needs v 0)
  | _, _ => []

/-- The lines that a task reads, in order, with those its fetch engine asks for. -/
def State.taskNeeds (s : State) (k : Task) : List Need :=
  match s.terrace k.terr with
  | none => []
  | some te => match k.kind with
    | .tok v ver _ _ _ _ => ((te.vocab v ver).map (fun vb => textNeeds vb 0 ((k.input.getD []).flatten))).getD []
    | .detok v ver _ _ _ _ => ((te.vocab v ver).map (fun vb => detokNeeds vb (toTokens ((k.input.getD []).flatten)))).getD []
    | .pack pair tp v st _ tv vv sv _ _ a => te.asmNeeds pair tp v st tv vv sv (a.fill (k.input.getD []))
    | .streamPut h id => ((s.tokStream h).map (fun x => te.putNeeds x id)).getD []
    | .intake h => match s.req h with
      | none => []
      | some r => match r.intake, te.vocab r.vocab r.pins.vocab with
        | .text _ (some b), some vb => textNeeds vb 0 b
        | .assembly a true, some vb =>
          if a.hasText then slotNeeds vb 0 a.slots
          else te.asmNeeds false r.template r.vocab r.store r.pins.template r.pins.vocab r.pins.store a
        | _, _ => []
    | .objLoad .. | .objReplace .. => []

/-- A search goes to a bank group only from a core of the terrace whose regions it names; any other issue misses, and is reported
at the core (R167). -/
def State.confined (s : State) (t core : Nat) (f : State → State) : State :=
  match s.terrace t with
  | none => f s
  | some te =>
    if bit te.desc.coreMask core then f s
    else
      let s := (s.fault fcISOLATION t (locCore core) noCause 0 0 0).modT t (fun te => { te with regions := [] })
      (f s).modT t (fun x => { x with regions := te.regions })

/-- A task that searches stands on a core of quad 0 whose bank group is not powered (R184). -/
def State.rbHolds (s : State) (id : Nat) : Bool :=
  match s.task id with
  | some k => (k.core.map s.rbStalls).getD false && match k.kind with
    | .tok .. | .pack .. | .streamPut .. | .intake _ => true
    | .detok .. | .objLoad .. | .objReplace .. => false
  | none => false

/-- The task reads on, and does its work once nothing is left to read. -/
def State.goTask (s : State) (id : Nat) : State :=
  if s.rbHolds id then s.wantRb
  else
  let x := s.readTask id
  if !x.2 then x.1
  else match x.1.task id with
    | some k => match k.core with
      | some c => x.1.confined k.terr c (fun s => s.runTask k c)
      | none => x.1
    | none => x.1

/-- Every task of a terrace that waits for a line tries again. -/
def State.goTasks (s : State) (t : Nat) : State :=
  s.forEach (s.tasks.filter (fun k => k.terr = t && k.core.isSome && k.todo.isSome && !k.ran)) (fun s k => s.goTask k.id)

/-- A task begins on its core (R29). -/
def State.startTask (s : State) (k : Task) (core : Nat) : State :=
  let s := (s.heal k.terr).useCore core (sumBy List.length (k.input.getD []))
  (s.modTask k.id (fun k => { k with todo := some (s.taskNeeds k) })).goTask k.id

/-- The task's command ends with PARITY_LOSS: its scratch failed again (R534). -/
def State.taskLost (s : State) (k : Task) : State :=
  match k.kind with
  | .tok .. | .detok .. => s.endTask k stPARITY_LOSS noField 0 0
  | .pack _ _ _ _ sync _ _ _ _ _ _ => (s.endTask k stPARITY_LOSS noField 0 0).syncFail sync
  | .objLoad h _ _ => ((s.chargeTask k).dropTask k.id).final k.ticket stPARITY_LOSS h 0 noField 0 0
  | .objReplace h _ _ _ _ => (s.chargeTask k).replaceFail k h stPARITY_LOSS noField
  | .streamPut h put => ((s.chargeTask k).dropTask k.id).tokFail h (some put) stPARITY_LOSS 0 stNOT_ACTIVE stPARITY_LOSS
  | .intake h => s.intakeFail h stPARITY_LOSS noField

/-- The task runs, after a parity error met in its step has been handled. -/
def State.runWith (s : State) (k : Task) (core : Nat) (p : Option ParityErr) : State :=
  match p with
  | none => s.startTask k core
  | some e =>
    if e.structure_ = 4 then
      let s := s.parityRec k.terr (placedErr s.cfg e) e.lost k.ticket.handle
      if e.lost then s.taskLost k else (s.modTask k.id (fun k => { k with restarted := true })).startTask { k with restarted := true } core
    else
      let s := s.parity k.terr e
      if (s.taskPins k).all (fun p => s.atHand p.1 p.2) && (s.task k.id).isSome then s.startTask k core
      else s.modTask k.id (fun k => { k with core := none })

/-- One task starts in the bay. -/
def State.dispatch (s : State) (bay : Nat) (p : Option ParityErr) : State :=
  if !s.running then s
  else match s.grant bay with
    | none => s
    | some t =>
      let s := { s with rrBay := setAt bay (fun _ => (t + 1) % 16) s.rrBay }
      match s.terrace t, s.bayCore bay t with
      | some te, some core =>
        let s := s.modT t (fun te => te.rollUse s.tick s.windowTicks)
        match s.pick t te with
        | none => s
        | some k =>
          let k := { k with core := some core, began := s.tick }
          (s.modTask k.id (fun _ => k)).runWith k core p
      | _, _ => s

def execTaskDispatch (bay : Nat) (parity : Option ParityErr) (s : State) : Host.Outcome State Fault Refusal :=
  .next (s.dispatch bay parity)

end Sys2Proof.Machine
end

