-- ==== Sys2Proof/Machine/Ports.lean ====
section
/-! DEFINITION. Responses on the host fabric initiator and the memory ports (R85, R86, R116, R153 to R155, R540, R541, R569, R585,
R587): reads, write acknowledgements, the two time limits, and the controllers' readiness. A response to no outstanding operation
is discarded. -/

namespace Sys2Proof.Machine

/-- The block takes responses: it runs, or its firmware starts again after a wake (R512). DEDUCED, log entry 26. -/
def State.hears (s : State) : Bool := s.clocked || s.boot.restart

/-! ### Host fabric reads -/

def partsOf : HostData → Option Bytes
  | .parts ps => some ps.flatten
  | .image b _ => some b
  | .error => none

/-- A submission entry has been read ahead, for the ring in force; an error stops the mailbox (R79, R85). -/
def State.entryRead (s : State) (mb epoch idx : Nat) (d : HostData) : State :=
  let m := s.mailbox mb
  if !m.enable || m.error || m.epoch ≠ epoch then s
  else match partsOf d with
    | some b => s.modMb mb (fun m => if m.inRange idx then { m with ahead := m.ahead.put idx b } else m)
    | none => s.mbError mb 0x4

/-- A read operation has its data or an error. -/
def State.hfpData (s : State) (k : HfpKind) (d : HostData) : State :=
  match k with
  | .sqRead mb epoch idx => s.entryRead mb epoch idx d
  | .taskRead id _ => s.taskRead id d
  | .putRead h put _ _ => s.putRead h put d
  | .intakeRead h _ => s.intakeRead h d
  | .refetch h ver _ => s.refetchRead h ver (partsOf d)
  | .bootHeader => s.imageHeader (partsOf d).isSome ((partsOf d).getD [])
  | .bootBody => s.imageBody (partsOf d).isSome ((partsOf d).getD [])
  | .cplWrite .. | .msi .. | .mirror .. | .record .. | .taskWrite .. | .window .. | .queryWrite .. => s

def HfpKind.reads : HfpKind → Bool
  | .sqRead .. | .taskRead .. | .putRead .. | .intakeRead .. | .refetch .. | .bootHeader | .bootBody => true
  | _ => false

/-- HFP_READ_RESPONSE (R585). DEDUCED, log entry 25. -/
def execHfpReadResponse (op : Nat) (d : HostData) (s : State) : Host.Outcome State Fault Refusal :=
  .next (match s.hfpOp op with
    | some o => if s.hears && o.kind.reads then (s.hfpDone op).hfpData o.kind d else s
    | none => s)

/-! ### Completions acknowledged (R86, R115, R116) -/

/-- What follows a FINAL once it is visible: source 21 after a POWER_SLEEP, source 22 after a LIFECYCLE_ADVANCE. -/
def State.afterFinal (s : State) (c : Cpl) : State :=
  if c.kind ≠ kFINAL then s
  else if c.opcode = 0x08 then s.raise 21
  else if c.opcode = 0x06 then s.advanceWritten
  else s

/-- The completion is visible; an ONLY or FINAL ends its command, and the interrupt conditions are tested. DEDUCED, log
entry 27. DEDUCED, log entry 107. -/
def State.cplVisible (s : State) (mb : Nat) (c : Cpl) : State :=
  let s := if c.kind = kONLY || c.kind = kFINAL then s.modMb mb (fun m => { m with live := m.live - 1 }) else s
  (s.announceCpl mb c.noIrq).afterFinal c

/-- The completion counts as not written: the mailbox stops, and the completion is held ahead of later ones. DEDUCED, log
entry 107. -/
def State.cplFailed (s : State) (mb epoch : Nat) (c : Cpl) : State :=
  let s := if (s.mailbox mb).epoch = epoch then
      (s.modMb mb (fun m => { m with used := m.used - 1, outQ := m.outQ.filter (fun q => q.1 ≠ c.seq) })).mbError mb 0x5
    else s
  let s := s.modMb mb (fun m => { m with held := holdCpl c m.held })
  s.flushHeld mb (s.mailbox mb).held.length

/-! ### Host fabric writes -/

/-- A write operation is acknowledged, or has failed as a whole. Sync objects that moved let token streams go on. -/
def State.hfpWritten (s : State) (k : HfpKind) (ok : Bool) : State :=
  match k with
  | .cplWrite mb epoch _ _ _ c => if ok then s.cplVisible mb c else s.cplFailed mb epoch c
  | .msi n _ _ => if ok then s else s.setStatus n
  | .mirror t h _ => if ok then s else (s.syncFail h).tokRunAll t
  | .record h _ _ _ r => if ok then (s.recordAck h r).tokRunAll (hTerr h) else s.recordFail h
  | .taskWrite id addr _ sync => (s.taskWritten id addr sync ok).tokRunAll (hTerr sync)
  | .window h k _ _ => if ok then (s.tokAck h k).tokRunAll (hTerr h) else (s.tokWriteFail h).tokRunAll (hTerr h)
  | .queryWrite tk _ _ r0 r1 =>
    if ok then s.finish tk stOK tk.handle noField r0 r1 else s.finish tk stDATA_ERROR tk.handle noField 0 0
  | .sqRead .. | .taskRead .. | .putRead .. | .intakeRead .. | .refetch .. | .bootHeader | .bootBody => s

def execHfpWriteAck (op : Nat) (resp : BitVec 2) (s : State) : Host.Outcome State Fault Refusal :=
  .next (match s.hfpOp op with
    | some o => if s.hears && !o.kind.reads then (s.hfpDone op).hfpWritten o.kind (resp = 0) else s
    | none => s)

/-- No response within 100,000 ticks is an ERROR; a later response finds no operation. DEDUCED, log entry 25. -/
def State.hfpLate (s : State) (op : Nat) : State :=
  match s.hfpOp op with
  | some o =>
    if !s.hears || s.tick < o.at_ + 100000 then s
    else if o.kind.reads then (s.hfpDone op).hfpData o.kind .error
    else (s.hfpDone op).hfpWritten o.kind false
  | none => s

def execHfpResponseTimeout (op : Nat) (s : State) : Host.Outcome State Fault Refusal := .next (s.hfpLate op)

/-! ### Memory-port reads (R154, R465, R541) -/

def MpKind.reads : MpKind → Bool
  | .fill .. | .objFill _ | .maskFill .. | .line .. | .sealRead _ | .reqFill _ | .spillRead _ | .starterToks _ | .bootHeader
  | .bootBody => true
  | _ => false

/-- Terrace a memory operation counts for. -/
def State.mpTerr (s : State) (k : MpKind) : Nat := (k.terr s).getD noTerr

/-- A record of class MEMORY; the T1 address is of the block's own choosing, so a free value. DESIGN CHOICE, log entry 80. -/
def State.memFault (s : State) (t port : Nat) (cause : Cause) (h : Handle) : State :=
  { s with fresh := s.fresh + 1 }.fault fcMEMORY t locBlock cause 0 h (Config.t1Address port s.fresh % 2 ^ 32)

/-- The rows of a request that waited for its data take it. -/
def State.filled (s : State) (h : Handle) : State :=
  let t := hTerr h
  (s.modStep t false (fun f => { f with rows := f.rows.map (fun r => if r.idx = hIndex h then { r with filled := true } else r) })).runRows t

/-- The spilled state is back (R289). -/
def State.spillBack (s : State) (h : Handle) : State :=
  (s.modReq h (fun r => { r with spillWait := false, spillT1 := 0 })).runRows (hTerr h)

/-- The read's data is good, or is not and counts as an uncorrectable error of its class (R154). -/
def State.mpData (s : State) (k : MpKind) (ok : Bool) (cause : Cause) (d : MpData) : State :=
  match k with
  | .fill h ver => s.pinDone h ver ok cause
  | .objFill id => match s.task id with | some k => s.objFilled k ok | none => s
  | .maskFill h ver n bay q =>
    if ok then (s.putMask h ver n bay (q ≠ 0)).runRows (hTerr h) else (s.quarantine h ver cause).runRows (hTerr h)
  | .line h l quad k ahead =>
    if ok then ((s.lineArrived (hTerr h) l quad k ahead).goTasks (hTerr h)).runRows (hTerr h)
    else (s.quarantine h l.ver cause).runRows (hTerr h)
  | .sealRead h => s.sealRead h ok (match d with | .body b => b | _ => none)
  | .reqFill h => if ok then s.filled h else s.doomReq (hTerr h) (hIndex h) stDATA_ERROR
  | .spillRead h =>
    if ok then s.spillBack h
    else (s.modReq h (fun r => { r with spillWait := false, spillT1 := 0 })).doomReq (hTerr h) (hIndex h) stDATA_ERROR
  | .starterToks h => if ok then s else s.loseStarter (hTerr h) (hIndex h)
  | .bootHeader => s.imageHeader ok (match d with | .bytes b => b | _ => [])
  | .bootBody => s.imageBody ok (match d with | .bytes b => b | _ => [])
  | .rewrite .. | .spillWrite _ | .journalDelta .. | .journalBase .. | .objWrite _ | .window .. | .taskWrite .. | .mirror .. => s

/-- Block-owned T1 and the shared region are neither encrypted nor tagged (R465). -/
def MpKind.tagged : MpKind → Bool
  | .bootHeader | .bootBody => false
  | _ => true

def State.mpRead (s : State) (o : MpOp) (resp : BitVec 2) (tagOk : Bool) (d : MpData) : State :=
  let t := s.mpTerr o.kind
  let s := s.mpDone o.id
  if resp = 2 || resp = 3 then
    let s := s.tally cMC_UNCORRECTABLE t
    let s := if resp = 3 then s.memFault t o.port cMC_UNCORRECTABLE 0 else s
    s.mpData o.kind false cMC_UNCORRECTABLE d
  else
    let s := if resp = 1 then s.tally cMC_CORRECTED t else s
    if o.kind.tagged && !tagOk then (s.tally cTAG_MISMATCH t).mpData o.kind false cTAG_MISMATCH d
    else s.mpData o.kind true noCause d

/-- MP_READ_RESPONSE (R541, R587). DEDUCED, log entry 25. -/
def execMpReadResponse (op : Nat) (resp : BitVec 2) (tagOk : Bool) (d : MpData) (s : State) : Host.Outcome State Fault Refusal :=
  .next (match s.mpOp op with
    | some o => if s.hears && o.issued && o.kind.reads then s.mpRead o resp tagOk d else s
    | none => s)

/-- A fill with no response for 100,000 ticks is an uncorrectable error (R153). -/
def State.fillLate (s : State) (op : Nat) : State :=
  match s.mpOp op with
  | some o =>
    if !s.hears || !o.issued || !o.kind.reads || s.tick < o.at_ + 100000 then s
    else
      let t := s.mpTerr o.kind
      (((s.mpDone op).tally cFILL_TIMEOUT t).memFault t o.port cFILL_TIMEOUT 0).mpData o.kind false cFILL_TIMEOUT .lines
  | none => s.flashLate op

def execFillWatchdog (op : Nat) (s : State) : Host.Outcome State Fault Refusal := .next (s.fillLate op)

/-! ### Memory-port writes (R288, R540, R541) -/

def State.modJournal (s : State) (t : Nat) (f : Journal → Journal) : State := s.modT t (fun te => { te with journal := f te.journal })

/-- The retry of a journal write has failed too (R540). -/
def State.degrade (s : State) (t port : Nat) : State :=
  if ((s.terrace t).map (fun te => te.journal.degraded)).getD true then s
  else ((s.modJournal t (fun j => { j with degraded := true })).tally cJOURNAL_DEGRADED t).memFault t port cJOURNAL_DEGRADED 0

/-- The DELTA of a boundary: the next boundary may begin; a first error is retried at another address. -/
def State.deltaDone (s : State) (t port : Nat) (retry ok : Bool) : State :=
  if ok then s.modJournal t (fun j => { j with unacked := false, retried := false })
  else if !retry then (s.modJournal t (fun j => { j with retried := true })).mpIssue port (.journalDelta t true)
  else (s.degrade t port).modJournal t (fun j => { j with unacked := false, retried := false })

/-- A full pass of BASE records is acknowledged: the journal leaves DEGRADED. DEDUCED, log entry 105. -/
def State.baseDone (s : State) (t port : Nat) (retry ok : Bool) : State :=
  if ok then s.modJournal t (fun j => { j with basePass := none, degraded := false })
  else if !retry then s.mpIssue port (.journalBase t true)
  else (s.degrade t port).modJournal t (fun j => { j with basePass := none })

/-- A version has been rewritten in T1: the quarantine is lifted and its users go on (R155). -/
def State.rewritten (s : State) (h : Handle) (ver : Nat) (ok : Bool) : State :=
  if ok then ((s.liftQuarantine h ver).runRows (hTerr h)).tokRunAll (hTerr h) else s.refetchFail h ver true

def State.mpWritten (s : State) (o : MpOp) (ok : Bool) : State :=
  match o.kind with
  | .rewrite h ver => s.rewritten h ver ok
  | .spillWrite h =>
    let s := (s.modT (hTerr h) (fun te => { te with reqs := te.reqs.mapVals (fun _ r =>
      if r.slotAfter = some h then { r with slotAfter := none } else r) })).runRows (hTerr h)
    if ok then s else (s.modReq h (fun r => { r with spillT1 := 0 })).doomReq (hTerr h) (hIndex h) stDATA_ERROR
  | .journalDelta t retry => s.deltaDone t o.port retry ok
  | .journalBase t retry => s.baseDone t o.port retry ok
  | .objWrite id => match s.task id with | some k => s.replaceWritten k ok | none => s
  | .window h k _ _ => if ok then (s.tokAck h k).tokRunAll (hTerr h) else (s.tokWriteFail h).tokRunAll (hTerr h)
  | .taskWrite id addr _ sync => (s.taskWritten id addr sync ok).tokRunAll (hTerr sync)
  | .mirror t h _ => if ok then s else (s.syncFail h).tokRunAll t
  | .fill .. | .objFill _ | .maskFill .. | .line .. | .sealRead _ | .reqFill _ | .spillRead _ | .starterToks _ | .bootHeader
  | .bootBody => s

def execMpWriteAck (op : Nat) (resp : BitVec 2) (s : State) : Host.Outcome State Fault Refusal :=
  .next (match s.mpOp op with
    | some o => if s.hears && o.issued && !o.kind.reads then (s.mpDone op).mpWritten o (resp = 0) else s
    | none => s)

/-! ### The controllers (R587) -/

/-- A ready controller takes the port's waiting requests; the watchdog counts from their issue. -/
def State.ctrlReady (s : State) (port : Nat) (level : Bool) : State :=
  let s := { s with mpReady := setAt port (fun _ => level) s.mpReady }
  if level then { s with mp := s.mp.map (fun o => if o.port = port && !o.issued then { o with issued := true, at_ := s.tick } else o) }
  else s

def execMpCtrlReady (port : Nat) (level : Bool) (s : State) : Host.Outcome State Fault Refusal := .next (s.ctrlReady port level)

end Sys2Proof.Machine
end

