-- ==== Sys2Proof/Machine/Query.lean ====
section
/-! DEFINITION. FW_QUERY, an opcode that is not assigned, and the end of a firmware start (R95, R113, R508). -/

namespace Sys2Proof.Machine

/-! ### FW_QUERY (R113) -/

def shFW_QUERY : Shape where
  op := 0x01
  noHandle := true
  body := fun c => [rz c 16 32]

/-- Bytes 16 to 23 of the completion: the revisions, the build and the lifecycle state. -/
def State.fwRes0 (s : State) : Nat :=
  s.boot.ifMinor + 2 ^ 8 * s.boot.ifMajor + 2 ^ 16 * s.boot.fwBuild + 2 ^ 32 * s.boot.objMinor + 2 ^ 40 * s.boot.objMajor
    + 2 ^ 48 * (s.lcs.word.toNat % 256)

/-- Bytes 24 to 31: no feature bit is assigned, and the image's identifier. -/
def State.fwRes1 (s : State) : Nat := 2 ^ 32 * s.boot.imageId

def execFwQuery (src : Src) (c : Bytes) (s : State) : Host.Outcome State Fault Refusal :=
  .next (s.command shFW_QUERY (shFW_QUERY.row c) src c (fun _ => none)
    (fun s => s.only (ticketOf src c) stOK 0 s.fwRes0 s.fwRes1))

/-! ### An opcode that is not assigned (R95 check 1, R100) -/

/-- The entry is taken and completes with BAD_COMMAND; nothing else happens. -/
def execCommandUnassigned (src : Src) (c : Bytes) (s : State) : Host.Outcome State Fault Refusal :=
  .next (if (opWhere (cOp c)).isNone && s.takeable src c then (s.take src).refuse (ticketOf src c) stBAD_COMMAND noField else s)

/-! ### The end of step 7 (R508, R512) -/

/-- The firmware has started: every domain is restored, the engine programs are in each quad's instruction store (R28), READY is
set, and a wake that started it again ends. -/
def State.fwStarted (s : State) : State :=
  if s.boot.step ≠ .firmware then s
  else
    let again := s.boot.restart
    let s := { s with sleep := { s.sleep with teOn := true, rbOn := true, teWait := none, rbWait := none },
                      programs := List.range s.cfg.quads }.setReady
    if again && s.sleep.phase = .waking then s.finishSleep 0 else s

def execFwReady (s : State) : Host.Outcome State Fault Refusal := .next s.fwStarted

end Sys2Proof.Machine
end

