-- ==== Sys2Proof/Machine/Sync.lean ====
section
/-! DEFINITION. The meanings of SYNC_CREATE, SYNC_SIGNAL, SYNC_WAIT, its time-out and SYNC_DESTROY (R117 to R123). -/

namespace Sys2Proof.Machine

/-! ### SYNC_CREATE -/

def shSYNC_CREATE : Shape where
  op := 0x50
  body := fun c => [rc c 32 2, rz c 33 15]
  handles := fun _ => [⟨8, [tyTerrace], false, false⟩]
  addrs := [24]

/-- MIRROR_ADDR: 0 with kind 0, 8-byte aligned, inside the shared region with kind 2 (R118). -/
def State.chkSyncCreate (s : State) (c : Bytes) : Chk :=
  let a := rd c 24 8
  let kind := rd c 32 1
  Chk.first [field (kind != 0 || a == 0) 24, field (a % 8 == 0) 24,
    field (kind != 2 || ((s.terrace (hTerr (cHandle c))).map (fun te => te.inShared a 8)).getD false) 24]

/-- R117, R118. -/
def State.syncCreate (s : State) (src : Src) (c : Bytes) : State :=
  let tk := ticketOf src c
  let t := hTerr (cHandle c)
  match s.terrace t with
  | none => s.refuse tk stSTALE_HANDLE noField
  | some te =>
    if te.desc.syncQuota ≤ te.syncs.length then s.refuse tk stNO_RESOURCE noField
    else
      let i := Tbl.fresh te.syncs
      let h := s.handleOf t tySync i
      (s.modT t (fun te => { te with syncs := te.syncs.put i ⟨hGen h, rd c 16 8, rd c 32 1, rd c 24 8, false, []⟩ })).only
        tk stOK h 0 0

def execSyncCreate (src : Src) (c : Bytes) (s : State) : Host.Outcome State Fault Refusal :=
  .next (s.command shSYNC_CREATE (shSYNC_CREATE.row c) src c (fun s => s.chkSyncCreate c) (fun s => s.syncCreate src c))

/-! ### SYNC_SIGNAL -/

def shSYNC_SIGNAL : Shape where
  op := 0x51
  body := fun c => [rc c 24 1, rz c 25 23]
  handles := fun _ => [⟨8, [tySync], false, false⟩]

/-- R119, R120: the new value, or none for an ADD that would carry. -/
def SyncObj.signal (x : SyncObj) (mode v : Nat) : Option Nat :=
  if mode = 0 then (if x.value + v ≤ max64 then some (x.value + v) else none) else some (max x.value v)

/-- A SYNC_SIGNAL taken waits for the end of its tick: the block's own changes of that tick come first (R121). DEDUCED, log
entry 135. -/
def State.syncSignal (s : State) (src : Src) (c : Bytes) : State :=
  let tk := ticketOf src c
  { s.defer tk with signals := s.signals ++ [⟨tk, cHandle c, rd c 24 1, rd c 16 8⟩] }

/-- A SYNC_SIGNAL changes the value and completes. -/
def State.applySignal (s : State) (g : Signal) : State :=
  let fail := fun st off => s.finish g.ticket st g.ticket.handle off 0 0
  match s.sync g.handle with
  | none => fail stSTALE_HANDLE noField
  | some x =>
    if x.err then fail stDATA_ERROR noField
    else match x.signal g.mode g.value with
      | none => fail stBAD_FIELD 16
      | some v =>
        ((if v = x.value then s else s.syncSet g.handle v).finish g.ticket stOK g.handle noField v 0).tokRunAll (hTerr g.handle)

/-- MODE ADD; a reserved MODE is refused here too. -/
def execSyncSignalAdd (src : Src) (c : Bytes) (s : State) : Host.Outcome State Fault Refusal :=
  .next (s.command shSYNC_SIGNAL (shSYNC_SIGNAL.row c && rd c 24 1 != 1) src c (fun _ => none) (fun s => s.syncSignal src c))

def execSyncSignalAdvanceTo (src : Src) (c : Bytes) (s : State) : Host.Outcome State Fault Refusal :=
  .next (s.command shSYNC_SIGNAL (shSYNC_SIGNAL.row c && rd c 24 1 == 1) src c (fun _ => none) (fun s => s.syncSignal src c))

/-! ### SYNC_WAIT -/

def shSYNC_WAIT : Shape where
  op := 0x52
  body := fun c => [rz c 32 16]
  handles := fun _ => [⟨8, [tySync], false, false⟩]

/-- R122; the ONLY of a wait satisfied at intake shows the counter in RESULT0 (DESIGN CHOICE, log entry 136). -/
def State.syncWait (s : State) (src : Src) (c : Bytes) : State :=
  let tk := ticketOf src c
  let h := cHandle c
  match s.sync h with
  | none => s.refuse tk stSTALE_HANDLE noField
  | some x =>
    if x.err then s.refuse tk stDATA_ERROR noField
    else if rd c 16 8 ≤ x.value then s.only tk stOK h x.value 0
    else if 256 ≤ x.waiters.length then s.refuse tk stNO_RESOURCE noField
    else (s.modSync h (fun y => { y with waiters := y.waiters ++ [⟨tk, rd c 16 8, rd c 24 8⟩] })).first tk h

def execSyncWait (src : Src) (c : Bytes) (s : State) : Host.Outcome State Fault Refusal :=
  .next (s.command shSYNC_WAIT (shSYNC_WAIT.row c) src c (fun _ => none) (fun s => s.syncWait src c))

/-- A wait whose TIMEOUT tick has come. -/
def SyncWaiter.due (w : SyncWaiter) (now : Tick) : Bool := w.timeout ≠ 0 && w.timeout ≤ now

/-- Waits of sync object `idx` whose TIMEOUT has come complete with TIMED_OUT (R122); a wait that was satisfied is no
longer pending. -/
def State.syncTimeout (s : State) (t idx : Nat) : State :=
  match (s.terrace t).bind (fun te => te.syncs.get idx) with
  | none => s
  | some x =>
    let h := mkHandle t tySync idx x.gen
    (s.modSync h (fun y => { y with waiters := y.waiters.filter (fun w => !w.due s.tick) })).forEach
      (x.waiters.filter (fun w => w.due s.tick)) (fun s w => s.final w.ticket stOK h 0 noField x.value 1)

/-- The time-out of object `idx` is noted: it acts when the tick ends, behind every change of that tick (R122). -/
def State.noteTimeout (s : State) (t idx : Nat) : State := { s with syncEnds := s.syncEnds ++ [(t, idx)] }

def execSyncWaitTimeout (t idx : Nat) (s : State) : Host.Outcome State Fault Refusal := .next (s.noteTimeout t idx)

/-- The end of a tick: SYNC_SIGNALs in intake order, then time-outs (R121, R122). DEDUCED, log entry 135. -/
def State.syncTick (s : State) : State :=
  ({ s with signals := [], syncEnds := [] }.forEach s.signals State.applySignal).forEach s.syncEnds (fun s x => s.syncTimeout x.1 x.2)

/-! ### SYNC_DESTROY -/

def shSYNC_DESTROY : Shape where
  op := 0x53
  body := fun c => [rz c 16 32]
  handles := fun _ => [⟨8, [tySync], false, false⟩]

/-- Is the sync object named by an open token stream (R123)? One that an error has ended is not open (DESIGN CHOICE, log
entry 136). -/
def Terrace.syncNamed (te : Terrace) (h : Handle) : Bool :=
  te.toks.any (fun x => x.2.err.isNone && (x.2.sync = h || x.2.release = h))

/-- R123. -/
def State.syncDestroy (s : State) (src : Src) (c : Bytes) : State :=
  let tk := ticketOf src c
  let h := cHandle c
  let t := hTerr h
  match s.terrace t with
  | none => s.refuse tk stSTALE_HANDLE noField
  | some te =>
    if te.syncNamed h then s.refuse tk stNOT_PERMITTED noField
    else
      (((s.syncCancel h).modT t (fun te => { te with syncs := te.syncs.del (hIndex h) })).bumpGen t tySync (hIndex h)).only
        tk stOK h 0 0

def execSyncDestroy (src : Src) (c : Bytes) (s : State) : Host.Outcome State Fault Refusal :=
  .next (s.command shSYNC_DESTROY (shSYNC_DESTROY.row c) src c (fun _ => none) (fun s => s.syncDestroy src c))

end Sys2Proof.Machine
end

