-- ==== Sys2Proof/Machine/Dispatch.lean ====
section
/-! DEFINITION. The meaning of every command: one arm per constructor of `Instr`. -/

namespace Sys2Proof.Machine

def exec (i : Instr) (s : State) : Host.Outcome State Fault Refusal :=
  match i with
  | .fwQuery src c => Sys2Proof.Machine.execFwQuery src c s
  | .commandUnassigned src c => Sys2Proof.Machine.execCommandUnassigned src c s
  | .terraceCreate src c desc => Sys2Proof.Machine.execTerraceCreate src c desc s
  | .terraceDestroy src c => Sys2Proof.Machine.execTerraceDestroy src c s
  | .terraceDestroyDone t => Sys2Proof.Machine.execTerraceDestroyDone t s
  | .t1ClearDone job => Sys2Proof.Machine.execT1ClearDone job s
  | .destroyDiscardTimer t => Sys2Proof.Machine.execDestroyDiscardTimer t s
  | .terraceSetTerrace src c => Sys2Proof.Machine.execTerraceSetTerrace src c s
  | .terraceSetSchedule src c => Sys2Proof.Machine.execTerraceSetSchedule src c s
  | .keyInstall src c blob => Sys2Proof.Machine.execKeyInstall src c blob s
  | .lifecycleAdvance src c => Sys2Proof.Machine.execLifecycleAdvance src c s
  | .otpAdvAck w1 w2 => Sys2Proof.Machine.execOtpAdvAck w1 w2 s
  | .otpAdvTimeout w1 w2 => Sys2Proof.Machine.execOtpAdvTimeout w1 w2 s
  | .lifecycleReset straps => Sys2Proof.Machine.execLifecycleReset straps s
  | .powerSet src c => Sys2Proof.Machine.execPowerSet src c s
  | .powerSleep src c => Sys2Proof.Machine.execPowerSleep src c s
  | .quiesceDone => Sys2Proof.Machine.execQuiesceDone s
  | .quiesceTimeout => Sys2Proof.Machine.execQuiesceTimeout s
  | .countersReadCounters src c => Sys2Proof.Machine.execCountersReadCounters src c s
  | .countersReadFaults src c => Sys2Proof.Machine.execCountersReadFaults src c s
  | .countersClear src c => Sys2Proof.Machine.execCountersClear src c s
  | .stepPortConfigSet src c => Sys2Proof.Machine.execStepPortConfigSet src c s
  | .stepPortConfigResume src c => Sys2Proof.Machine.execStepPortConfigResume src c s
  | .stepPortConfigQuery src c => Sys2Proof.Machine.execStepPortConfigQuery src c s
  | .poolConfigCreate src c => Sys2Proof.Machine.execPoolConfigCreate src c s
  | .poolConfigAddRange src c => Sys2Proof.Machine.execPoolConfigAddRange src c s
  | .poolConfigDelete src c => Sys2Proof.Machine.execPoolConfigDelete src c s
  | .objCreate src c hdr => Sys2Proof.Machine.execObjCreate src c hdr s
  | .objLoad src c => Sys2Proof.Machine.execObjLoad src c s
  | .objSeal src c => Sys2Proof.Machine.execObjSeal src c s
  | .objReplace src c => Sys2Proof.Machine.execObjReplace src c s
  | .objDestroy src c => Sys2Proof.Machine.execObjDestroy src c s
  | .objHint src c => Sys2Proof.Machine.execObjHint src c s
  | .objQuery src c => Sys2Proof.Machine.execObjQuery src c s
  | .reloadLimitExpiry t obj ver => Sys2Proof.Machine.execReloadLimitExpiry t obj ver s
  | .tok src c => Sys2Proof.Machine.execTok src c s
  | .tokDone task => Sys2Proof.Machine.execTokDone task s
  | .tokStreamOpen src c => Sys2Proof.Machine.execTokStreamOpen src c s
  | .tokStreamPut src c => Sys2Proof.Machine.execTokStreamPut src c s
  | .tokStreamClose src c => Sys2Proof.Machine.execTokStreamClose src c s
  | .detok src c => Sys2Proof.Machine.execDetok src c s
  | .pack src c desc => Sys2Proof.Machine.execPack src c desc s
  | .pair src c desc => Sys2Proof.Machine.execPair src c desc s
  | .reqSubmit src c rd => Sys2Proof.Machine.execReqSubmit src c rd s
  | .intakeComplete t idx => Sys2Proof.Machine.execIntakeComplete t idx s
  | .reqCancel src c => Sys2Proof.Machine.execReqCancel src c s
  | .reqAmend src c => Sys2Proof.Machine.execReqAmend src c s
  | .reqQuery src c => Sys2Proof.Machine.execReqQuery src c s
  | .starterCreateSpan src c toks => Sys2Proof.Machine.execStarterCreateSpan src c toks s
  | .starterCreateFromRequest src c => Sys2Proof.Machine.execStarterCreateFromRequest src c s
  | .starterRelease src c => Sys2Proof.Machine.execStarterRelease src c s
  | .streamOpen src c => Sys2Proof.Machine.execStreamOpen src c s
  | .streamClose src c => Sys2Proof.Machine.execStreamClose src c s
  | .streamCredit src c => Sys2Proof.Machine.execStreamCredit src c s
  | .syncCreate src c => Sys2Proof.Machine.execSyncCreate src c s
  | .syncSignalAdd src c => Sys2Proof.Machine.execSyncSignalAdd src c s
  | .syncSignalAdvanceTo src c => Sys2Proof.Machine.execSyncSignalAdvanceTo src c s
  | .syncWait src c => Sys2Proof.Machine.execSyncWait src c s
  | .syncWaitTimeout t idx => Sys2Proof.Machine.execSyncWaitTimeout t idx s
  | .syncDestroy src c => Sys2Proof.Machine.execSyncDestroy src c s
  | .doorbell mb v => Sys2Proof.Machine.execDoorbell mb v s
  | .mbCqHeadWrite mb v => Sys2Proof.Machine.execMbCqHeadWrite mb v s
  | .mbEnable mb => Sys2Proof.Machine.execMbEnable mb s
  | .mbDisable mb => Sys2Proof.Machine.execMbDisable mb s
  | .mbIrqWrite mb v => Sys2Proof.Machine.execMbIrqWrite mb v s
  | .mbCoalTimer mb => Sys2Proof.Machine.execMbCoalTimer mb s
  | .irqStatusWrite v raised => Sys2Proof.Machine.execIrqStatusWrite v raised s
  | .irqMaskWrite v => Sys2Proof.Machine.execIrqMaskWrite v s
  | .irqModeWrite v => Sys2Proof.Machine.execIrqModeWrite v s
  | .timebaseLoRead port => Sys2Proof.Machine.execTimebaseLoRead port s
  | .cntSelectWrite v => Sys2Proof.Machine.execCntSelectWrite v s
  | .cntSnapshotDone => Sys2Proof.Machine.execCntSnapshotDone s
  | .registerWrite a => Sys2Proof.Machine.execRegisterWrite a s
  | .sbPrivateWrite ptr data => Sys2Proof.Machine.execSbPrivateWrite ptr data s
  | .sbGo => Sys2Proof.Machine.execSbGo s
  | .sbAck => Sys2Proof.Machine.execSbAck s
  | .sidebandWake => Sys2Proof.Machine.execSidebandWake s
  | .entdaa addr => Sys2Proof.Machine.execEntdaa addr s
  | .setdasa stat addr => Sys2Proof.Machine.execSetdasa stat addr s
  | .setnewda addr => Sys2Proof.Machine.execSetnewda addr s
  | .rstdaa => Sys2Proof.Machine.execRstdaa s
  | .getpid => Sys2Proof.Machine.execGetpid s
  | .getbcr => Sys2Proof.Machine.execGetbcr s
  | .getdcr => Sys2Proof.Machine.execGetdcr s
  | .getstatus => Sys2Proof.Machine.execGetstatus s
  | .idcode => Sys2Proof.Machine.execIdcode s
  | .bypass => Sys2Proof.Machine.execBypass s
  | .dbgStatus => Sys2Proof.Machine.execDbgStatus s
  | .dbgChallenge => Sys2Proof.Machine.execDbgChallenge s
  | .dbgResponse dr => Sys2Proof.Machine.execDbgResponse dr s
  | .debugEraseDone => Sys2Proof.Machine.execDebugEraseDone s
  | .dbgAccess dr => Sys2Proof.Machine.execDbgAccess dr s
  | .dbgClose => Sys2Proof.Machine.execDbgClose s
  | .trstN => Sys2Proof.Machine.execTrstN s
  | .aonResetN straps => Sys2Proof.Machine.execAonResetN straps s
  | .sysResetN straps => Sys2Proof.Machine.execSysResetN straps s
  | .watchdogReset straps parity => Sys2Proof.Machine.execWatchdogReset straps parity s
  | .otpRvalid w => Sys2Proof.Machine.execOtpRvalid w s
  | .otpReadTimeout => Sys2Proof.Machine.execOtpReadTimeout s
  | .fwReady => Sys2Proof.Machine.execFwReady s
  | .firmwareStartTimeout => Sys2Proof.Machine.execFirmwareStartTimeout s
  | .t2MountDone => Sys2Proof.Machine.execT2MountDone s
  | .t2MountTimeout => Sys2Proof.Machine.execT2MountTimeout s
  | .ppVack level => Sys2Proof.Machine.execPpVack level s
  | .ppFack level => Sys2Proof.Machine.execPpFack level s
  | .biasSettled => Sys2Proof.Machine.execBiasSettled s
  | .ppAckTimeout => Sys2Proof.Machine.execPpAckTimeout s
  | .ppClkack v => Sys2Proof.Machine.execPpClkack v s
  | .autoLevelTick busy total => Sys2Proof.Machine.execAutoLevelTick busy total s
  | .autoS1Entry => Sys2Proof.Machine.execAutoS1Entry s
  | .s1Wake cause => Sys2Proof.Machine.execS1Wake cause s
  | .wakeAlarm => Sys2Proof.Machine.execWakeAlarm s
  | .spAttn => Sys2Proof.Machine.execSpAttn s
  | .wakeRestoreDone => Sys2Proof.Machine.execWakeRestoreDone s
  | .bounds m => Sys2Proof.Machine.execBounds m s
  | .tiles m => Sys2Proof.Machine.execTiles m s
  | .rowsFull m => Sys2Proof.Machine.execRowsFull m s
  | .attnStepDone m => Sys2Proof.Machine.execAttnStepDone m s
  | .attnDrafts m => Sys2Proof.Machine.execAttnDrafts m s
  | .attnAbort m => Sys2Proof.Machine.execAttnAbort m s
  | .spReservedMessage m => Sys2Proof.Machine.execSpReservedMessage m s
  | .stepTimeout t => Sys2Proof.Machine.execStepTimeout t s
  | .rowWithdrawTimeout t row => Sys2Proof.Machine.execRowWithdrawTimeout t row s
  | .stepBoundary t parity => Sys2Proof.Machine.execStepBoundary t parity s
  | .idleBoundary t parity => Sys2Proof.Machine.execIdleBoundary t parity s
  | .slotEnd => Sys2Proof.Machine.execSlotEnd s
  | .taskDispatch bay parity => Sys2Proof.Machine.execTaskDispatch bay parity s
  | .hfpReadResponse op d => Sys2Proof.Machine.execHfpReadResponse op d s
  | .hfpWriteAck op resp => Sys2Proof.Machine.execHfpWriteAck op resp s
  | .hfpResponseTimeout op => Sys2Proof.Machine.execHfpResponseTimeout op s
  | .mpReadResponse op resp tagOk d => Sys2Proof.Machine.execMpReadResponse op resp tagOk d s
  | .mpWriteAck op resp => Sys2Proof.Machine.execMpWriteAck op resp s
  | .mpCtrlReady port level => Sys2Proof.Machine.execMpCtrlReady port level s
  | .fillWatchdog op => Sys2Proof.Machine.execFillWatchdog op s
  | .journalBaseWrite t => Sys2Proof.Machine.execJournalBaseWrite t s
  | .riddleCompaction t region => Sys2Proof.Machine.execRiddleCompaction t region s
  | .echoRowCleanup t => Sys2Proof.Machine.execEchoRowCleanup t s
  | .streamCoalTimer t idx => Sys2Proof.Machine.execStreamCoalTimer t idx s
  | .springHealthFail raw => Sys2Proof.Machine.execSpringHealthFail raw s
  | .springRetryTimer raw => Sys2Proof.Machine.execSpringRetryTimer raw s
  | .drbgInstantiateDone t => Sys2Proof.Machine.execDrbgInstantiateDone t s
  | .drbgGenerate t => Sys2Proof.Machine.execDrbgGenerate t s
  | .drbgReseed t => Sys2Proof.Machine.execDrbgReseed t s
  | .fpRbReady chan target ok => Sys2Proof.Machine.execFpRbReady chan target ok s
  | .fpReadData chan data retry => Sys2Proof.Machine.execFpReadData chan data retry s
  | .fpPhyReady chan level => Sys2Proof.Machine.execFpPhyReady chan level s
  | .ftlBackground work => Sys2Proof.Machine.execFtlBackground work s
  | .pdWhRestoreDone => Sys2Proof.Machine.execPdWhRestoreDone s
  | .sramClearDone => Sys2Proof.Machine.execSramClearDone s
  | .privilegedDomainReady te => Sys2Proof.Machine.execPrivilegedDomainReady te s
  | .vddAonOff straps => Sys2Proof.Machine.execVddAonOff straps s

end Sys2Proof.Machine
end

