-- ==== Sys2Proof/Machine/Waits.lean ====
section
/-! DEFINITION. Waiting that is counted tick by tick or cycle by cycle (R146, R154, R155, R214, R297, R381, R474, R502, R538). -/

namespace Sys2Proof.Machine

/-! ### Request entries and rows -/

/-- The entry spends this tick in STALLED or SPILLED (R266, R297). -/
def Req.idleTick (r : Req) : Bool := r.state == rsSTALLED || r.state == rsSPILLED

/-- STALL_TICKS of every entry, which runs on while the block sleeps. DEDUCED, log entry 110. -/
def State.stallTick (s : State) : State :=
  s.forEach s.terr (fun s x =>
    let n := (x.2.reqs.filter (fun r => r.2.idleTick)).length
    if n = 0 then s
    else (s.count cSTALL_TICKS x.1 locBlock n).modT x.1 (fun te =>
      { te with reqs := te.reqs.mapVals (fun _ (r : Req) => if r.idleTick then { r with stallTicks := r.stallTicks + 1 } else r) }))

/-- Rows of the step in flight that wait under a code. -/
def Terrace.waitRows (te : Terrace) (code : Nat) : Nat :=
  match te.sp.flight with
  | some f => (f.rows.filter (fun r => (r.waitAt.map (·.2)) == some code)).length
  | none => 0

/-- Entries stalled under a cause (R287). -/
def Terrace.stalledBy (te : Terrace) (code : Nat) : Nat :=
  (te.reqs.filter (fun r => r.2.state == rsSTALLED && r.2.stall == code)).length

/-- Cycles of eclk in the tick that ends at tick `n` (R480). -/
def State.eclkCycles (s : State) (n : Nat) : Nat :=
  let e := eclk10 s.pwr.level
  n * e / 10 - (n - 1) * e / 10

/-! ### Tasks and token streams -/

/-- Its inputs are read and it has no core, because a version it reads is quarantined, or promoting. DEDUCED, log entry 111. -/
def State.taskHeld (s : State) (k : Task) (promoting : Bool) : Bool :=
  k.input.isSome && k.core.isNone && k.result.isNone && !(s.taskPins k).all (fun p => s.atHand p.1 p.2) &&
    promoting == (s.taskPins k).any (fun p => ((s.obj p.1).map (·.promoting)).getD false)

/-- Cores whose tasks wait for a line; the flag is clear where its version is quarantined (R240, R241). -/
def State.lateTasks (s : State) (t : Nat) : List (Nat × Bool) :=
  s.tasks.filterMap (fun k => match k.core, k.todo with
    | some c, some (n :: _) => if k.terr = t && !k.ran && !s.rbHolds k.id then some (c, s.lineReadable t n.line) else none
    | _, _ => none)

def State.tasksHeld (s : State) (t : Nat) (promoting : Bool) : Nat :=
  (s.tasks.filter (fun k => k.terr = t && s.taskHeld k promoting)).length

/-- A window is formed and its slot is not released (R214). DEDUCED, log entry 110. DEDUCED, log entry 112. -/
def State.slotWait (s : State) (x : TokStream) : Bool :=
  x.err.isNone && x.nextWindow.isSome && !s.slotReleased x x.win

/-! ### A tick of one terrace -/

/-- A boundary is due but for the journal's acknowledgement (R538). -/
def State.journalWaits (s : State) (t : Nat) (te : Terrace) : Bool :=
  te.journal.unacked && te.sp.closing.isNone &&
    match te.sp.flight with
    | some f => f.complete
    | none => !te.reqs.isEmpty && !te.idleDone && s.sched.turn == some t

/-- Does some port leave slots of the terrace's reservation to another terrace: with turns unsealed, the terrace has nothing
outstanding on it and another has (R463)? Ports 0 and 1 are the memory ports, 2 the host fabric initiator. -/
def State.lends (s : State) (t : Nat) (te : Terrace) : Bool :=
  let on := fun p => if p = 2 then s.hfp.map (fun o => some o.terr)
    else (s.mp.filter (fun o => o.port = p)).map (fun o => o.kind.terr s)
  !s.sched.sealed && (List.range 3).any (fun p => te.bw p ≠ 0 && !(on p).contains (some t) &&
    (on p).any (fun o => o.any (fun u => decide (u < 16))))

/-- Slots of the terrace's reservations that are lent in the tick. DESIGN CHOICE, log entry 151. -/
def State.lentTick (s : State) (t : Nat) (te : Terrace) : State :=
  if s.lends t te then { s with fresh := s.fresh + 1 }.count cSLOT_LENT t locBlock (Config.slotsLent s.fresh) else s

def State.terraceTick (s : State) (t : Nat) (te : Terrace) : State :=
  let work := s.turnWork t
  let turn := s.sched.turn == some t
  let wait := work && !turn
  let e := s.eclkCycles (s.tick + 1)
  let core := locCore (s.stepCore t)
  let s := s.count cJOURNAL_WAIT t locBlock (b2n (s.journalWaits t te))
  let s := s.count cTURN_TICKS_USED t locBlock (b2n (turn && (work || s.sched.worked)))
  let s := s.count cTURN_WAIT t locBlock (b2n wait)
  let s := s.lentTick t te
  let s := if wait then s.modT t (fun te => { te with lateAuto := true }) else s
  let s := s.forEach (te.toks.filter (fun x => s.slotWait x.2)) (fun s x => s.count cWINDOW_WAIT t (locCore x.2.core) 1)
  let s := s.count cT2_PROMOTE t locBlock (te.waitRows 6 + s.tasksHeld t true)
  let s := s.count cOBJ_QUARANTINE t core (te.waitRows scOBJ_QUARANTINE)
  let s := s.count cOBJ_QUARANTINE t locBlock (te.stalledBy scOBJ_QUARANTINE + s.tasksHeld t false)
  let s := s.count cMASK_LATE t (locBay (s.stepBay t)) (e * te.waitRows 0)
  let s := s.count cFILL_LATE t core (e * (te.waitRows scFILL_LATE + te.waitRows 7))
  let s := s.forEach (s.lateTasks t) (fun s x => if x.2 then s.count cFILL_LATE t (locCore x.1) e
    else s.count cOBJ_QUARANTINE t (locCore x.1) 1)
  (s.goTasks t).runRows t

/-- What waits while the block runs. DEDUCED, log entry 110. -/
def State.waitTick (s : State) : State :=
  if !s.tableRuns then s
  else
    let s := s.forEach s.terr (fun s x => s.terraceTick x.1 x.2)
    let s := s.count cON_DEMAND_WAKE noTerr locBlock (b2n s.sleep.teWait.isSome + b2n s.sleep.rbWait.isSome)
    let s := { s with sched := { s.sched with worked := false } }
    if s.idle then s else { s with sleep := { s.sleep with idleSince := s.tick + 1 } }

end Sys2Proof.Machine
end

