-- ==== Sys2Proof/Machine/Tick.lean ====
section
/-! DEFINITION. One tick of the timebase, which is what a step does on an empty queue (log entry 13). -/

namespace Sys2Proof.Machine

/-- A tick passes: its SYNC_SIGNALs and time-outs act (R121, R122), waiting is counted, the timebase advances modulo 2^64
(R23), a sleep entry moves by a step (R492), and a power request whose acknowledgement has fallen is raised (R594). DESIGN
CHOICE, log entry 13. DEDUCED, log entry 124. -/
def State.tickOn (s : State) : State :=
  let s := s.syncTick.stallTick.waitTick
  let s := { s with tick := (s.tick + 1) % 2 ^ 64, cnt := { s.cnt with recent := [] } }
  (s.sleepTick).modPwr (fun p => p.ask s.tick)

end Sys2Proof.Machine
end

