-- ==== Sys2Proof/Machine/Step.lean ====
section
/-! DEFINITION. One step: the command at the front of the queue, or one tick of the timebase on an empty queue. -/

namespace Sys2Proof.Machine

/-- The command at the front of `pending` is taken off and runs on the rest (DESIGN CHOICE, log entry 13). -/
def step (s : State) : Host.Outcome State Fault Refusal :=
  match s.pending with
  | [] => .next s.tickOn
  | c :: r => exec c { s with pending := r }

/-- No row of the opcode table has bits, so no word spells a command and the queue is unchanged. DESIGN CHOICE, log entry
123. -/
def State.withFetchWord (s : State) (nbits w : Nat) : State :=
  match Sys2Proof.decodeTableWord nbits w with
  | some c => { s with pending := c :: s.pending }
  | none => s

end Sys2Proof.Machine
end

