-- ==== Sys2Proof/WellFormed.lean ====
section
/-! DEFINITION. Which commands are well formed: operands of the size the manual gives them. A command that is not well
formed names no event of the block's ports; statements about all commands take it as a premise where they need it. -/

namespace Sys2Proof

/-- A command of R89 has 64 bytes; a terrace mailbox is numbered 0 to 15 (R72, R89). -/
def entryOk (src : Src) (c : Bytes) : Bool :=
  c.length == 64 && (match src with | .terrace n => decide (n < 16) | .mgmt | .sideband => true)

/-- A message arrives in beats of 256 bytes, the first of which is its header (R339, R343). -/
def SpMsg.wf (m : SpMsg) : Bool := m.head.length == 256 && 1 ≤ m.beats && m.payload.length == 256 * (m.beats - 1)

/-- Operand sizes and ranges, command by command. -/
def Instr.wf (i : Instr) : Bool :=
  match i with
  | .fwQuery src c | .commandUnassigned src c | .terraceCreate src c _ | .terraceDestroy src c
  | .terraceSetTerrace src c | .terraceSetSchedule src c | .keyInstall src c _ | .lifecycleAdvance src c
  | .powerSet src c | .powerSleep src c | .countersReadCounters src c | .countersReadFaults src c
  | .countersClear src c | .stepPortConfigSet src c | .stepPortConfigResume src c | .stepPortConfigQuery src c
  | .poolConfigCreate src c | .poolConfigAddRange src c | .poolConfigDelete src c | .objCreate src c _
  | .objLoad src c | .objSeal src c | .objReplace src c | .objDestroy src c | .objHint src c | .objQuery src c
  | .tok src c | .tokStreamOpen src c | .tokStreamPut src c | .tokStreamClose src c | .detok src c | .pack src c _
  | .pair src c _ | .reqSubmit src c _ | .reqCancel src c | .reqAmend src c | .reqQuery src c
  | .starterCreateSpan src c _ | .starterCreateFromRequest src c | .starterRelease src c | .streamOpen src c
  | .streamClose src c | .streamCredit src c | .syncCreate src c | .syncSignalAdd src c | .syncSignalAdvanceTo src c
  | .syncWait src c | .syncDestroy src c => entryOk src c
  | .terraceDestroyDone t | .destroyDiscardTimer t | .reloadLimitExpiry t _ _ | .intakeComplete t _
  | .syncWaitTimeout t _ | .stepTimeout t | .rowWithdrawTimeout t _ | .stepBoundary t _ | .idleBoundary t _
  | .journalBaseWrite t | .riddleCompaction t _ | .echoRowCleanup t | .streamCoalTimer t _ | .drbgInstantiateDone t
  | .drbgGenerate t | .drbgReseed t => decide (t < 16)
  | .doorbell mb _ | .mbCqHeadWrite mb _ | .mbEnable mb | .mbDisable mb | .mbIrqWrite mb _ | .mbCoalTimer mb => decide (mb ≤ 16)
  | .timebaseLoRead port => decide (port < 4096)
  | .registerWrite a => decide (a.off < 2 ^ 20)
  | .dbgResponse dr => dr.length == 192
  | .autoLevelTick busy total => decide (busy ≤ total)
  | .bounds m | .tiles m | .rowsFull m | .attnStepDone m | .attnDrafts m | .attnAbort m | .spReservedMessage m => m.wf
  | .taskDispatch bay _ => decide (bay < 4)
  | .mpCtrlReady port _ => decide (port < 2)
  | .fpRbReady chan target _ => chan < 8 && target < 4
  | .fpReadData chan _ _ | .fpPhyReady chan _ => decide (chan < 8)
  | .t1ClearDone .. | .otpAdvAck .. | .otpAdvTimeout .. | .lifecycleReset .. | .quiesceDone | .quiesceTimeout
  | .tokDone .. | .irqStatusWrite .. | .irqMaskWrite .. | .irqModeWrite .. | .cntSelectWrite .. | .cntSnapshotDone
  | .sbPrivateWrite .. | .sbGo | .sbAck | .sidebandWake | .entdaa .. | .setdasa .. | .setnewda .. | .rstdaa | .getpid
  | .getbcr | .getdcr | .getstatus | .idcode | .bypass | .dbgStatus | .dbgChallenge | .debugEraseDone | .dbgAccess ..
  | .dbgClose | .trstN | .aonResetN .. | .sysResetN .. | .watchdogReset .. | .otpRvalid .. | .otpReadTimeout
  | .fwReady | .firmwareStartTimeout | .t2MountDone | .t2MountTimeout | .ppVack .. | .ppFack .. | .biasSettled
  | .ppAckTimeout | .ppClkack .. | .autoS1Entry | .s1Wake .. | .wakeAlarm | .spAttn | .wakeRestoreDone | .slotEnd
  | .hfpReadResponse .. | .hfpWriteAck .. | .hfpResponseTimeout .. | .mpReadResponse .. | .mpWriteAck ..
  | .fillWatchdog .. | .springHealthFail .. | .springRetryTimer .. | .ftlBackground .. | .pdWhRestoreDone
  | .sramClearDone | .privilegedDomainReady .. | .vddAonOff .. => true

/-- The 64 bytes of a ring or sideband command, and where it is taken from (R89, R108). -/
def Instr.entry (i : Instr) : Option (Src × Bytes) :=
  match i with
  | .fwQuery src c | .commandUnassigned src c | .terraceCreate src c _ | .terraceDestroy src c
  | .terraceSetTerrace src c | .terraceSetSchedule src c | .keyInstall src c _ | .lifecycleAdvance src c
  | .powerSet src c | .powerSleep src c | .countersReadCounters src c | .countersReadFaults src c
  | .countersClear src c | .stepPortConfigSet src c | .stepPortConfigResume src c | .stepPortConfigQuery src c
  | .poolConfigCreate src c | .poolConfigAddRange src c | .poolConfigDelete src c | .objCreate src c _
  | .objLoad src c | .objSeal src c | .objReplace src c | .objDestroy src c | .objHint src c | .objQuery src c
  | .tok src c | .tokStreamOpen src c | .tokStreamPut src c | .tokStreamClose src c | .detok src c | .pack src c _
  | .pair src c _ | .reqSubmit src c _ | .reqCancel src c | .reqAmend src c | .reqQuery src c
  | .starterCreateSpan src c _ | .starterCreateFromRequest src c | .starterRelease src c | .streamOpen src c
  | .streamClose src c | .streamCredit src c | .syncCreate src c | .syncSignalAdd src c | .syncSignalAdvanceTo src c
  | .syncWait src c | .syncDestroy src c => some (src, c)
  | .terraceDestroyDone .. | .t1ClearDone .. | .destroyDiscardTimer .. | .otpAdvAck .. | .otpAdvTimeout ..
  | .lifecycleReset .. | .quiesceDone | .quiesceTimeout | .reloadLimitExpiry .. | .tokDone .. | .intakeComplete ..
  | .syncWaitTimeout .. | .doorbell .. | .mbCqHeadWrite .. | .mbEnable .. | .mbDisable .. | .mbIrqWrite ..
  | .mbCoalTimer .. | .irqStatusWrite .. | .irqMaskWrite .. | .irqModeWrite .. | .timebaseLoRead ..
  | .cntSelectWrite .. | .cntSnapshotDone | .registerWrite .. | .sbPrivateWrite .. | .sbGo | .sbAck | .sidebandWake
  | .entdaa .. | .setdasa .. | .setnewda .. | .rstdaa | .getpid | .getbcr | .getdcr | .getstatus | .idcode | .bypass
  | .dbgStatus | .dbgChallenge | .dbgResponse .. | .debugEraseDone | .dbgAccess .. | .dbgClose | .trstN
  | .aonResetN .. | .sysResetN .. | .watchdogReset .. | .otpRvalid .. | .otpReadTimeout | .fwReady
  | .firmwareStartTimeout | .t2MountDone | .t2MountTimeout | .ppVack .. | .ppFack .. | .biasSettled | .ppAckTimeout
  | .ppClkack .. | .autoLevelTick .. | .autoS1Entry | .s1Wake .. | .wakeAlarm | .spAttn | .wakeRestoreDone
  | .bounds .. | .tiles .. | .rowsFull .. | .attnStepDone .. | .attnDrafts .. | .attnAbort .. | .spReservedMessage ..
  | .stepTimeout .. | .rowWithdrawTimeout .. | .stepBoundary .. | .idleBoundary .. | .slotEnd | .taskDispatch ..
  | .hfpReadResponse .. | .hfpWriteAck .. | .hfpResponseTimeout .. | .mpReadResponse .. | .mpWriteAck ..
  | .mpCtrlReady .. | .fillWatchdog .. | .journalBaseWrite .. | .riddleCompaction .. | .echoRowCleanup ..
  | .streamCoalTimer .. | .springHealthFail .. | .springRetryTimer .. | .drbgInstantiateDone .. | .drbgGenerate ..
  | .drbgReseed .. | .fpRbReady .. | .fpReadData .. | .fpPhyReady .. | .ftlBackground .. | .pdWhRestoreDone
  | .sramClearDone | .privilegedDomainReady .. | .vddAonOff .. => none

/-- The step-port message of an ingress command (R343). -/
def Instr.message (i : Instr) : Option SpMsg :=
  match i with
  | .bounds m | .tiles m | .rowsFull m | .attnStepDone m | .attnDrafts m | .attnAbort m | .spReservedMessage m => some m
  | .fwQuery .. | .commandUnassigned .. | .terraceCreate .. | .terraceDestroy .. | .terraceDestroyDone ..
  | .t1ClearDone .. | .destroyDiscardTimer .. | .terraceSetTerrace .. | .terraceSetSchedule .. | .keyInstall ..
  | .lifecycleAdvance .. | .otpAdvAck .. | .otpAdvTimeout .. | .lifecycleReset .. | .powerSet .. | .powerSleep ..
  | .quiesceDone | .quiesceTimeout | .countersReadCounters .. | .countersReadFaults .. | .countersClear ..
  | .stepPortConfigSet .. | .stepPortConfigResume .. | .stepPortConfigQuery .. | .poolConfigCreate ..
  | .poolConfigAddRange .. | .poolConfigDelete .. | .objCreate .. | .objLoad .. | .objSeal .. | .objReplace ..
  | .objDestroy .. | .objHint .. | .objQuery .. | .reloadLimitExpiry .. | .tok .. | .tokDone .. | .tokStreamOpen ..
  | .tokStreamPut .. | .tokStreamClose .. | .detok .. | .pack .. | .pair .. | .reqSubmit .. | .intakeComplete ..
  | .reqCancel .. | .reqAmend .. | .reqQuery .. | .starterCreateSpan .. | .starterCreateFromRequest ..
  | .starterRelease .. | .streamOpen .. | .streamClose .. | .streamCredit .. | .syncCreate .. | .syncSignalAdd ..
  | .syncSignalAdvanceTo .. | .syncWait .. | .syncWaitTimeout .. | .syncDestroy .. | .doorbell .. | .mbCqHeadWrite ..
  | .mbEnable .. | .mbDisable .. | .mbIrqWrite .. | .mbCoalTimer .. | .irqStatusWrite .. | .irqMaskWrite ..
  | .irqModeWrite .. | .timebaseLoRead .. | .cntSelectWrite .. | .cntSnapshotDone | .registerWrite ..
  | .sbPrivateWrite .. | .sbGo | .sbAck | .sidebandWake | .entdaa .. | .setdasa .. | .setnewda .. | .rstdaa | .getpid
  | .getbcr | .getdcr | .getstatus | .idcode | .bypass | .dbgStatus | .dbgChallenge | .dbgResponse ..
  | .debugEraseDone | .dbgAccess .. | .dbgClose | .trstN | .aonResetN .. | .sysResetN .. | .watchdogReset ..
  | .otpRvalid .. | .otpReadTimeout | .fwReady | .firmwareStartTimeout | .t2MountDone | .t2MountTimeout | .ppVack ..
  | .ppFack .. | .biasSettled | .ppAckTimeout | .ppClkack .. | .autoLevelTick .. | .autoS1Entry | .s1Wake ..
  | .wakeAlarm | .spAttn | .wakeRestoreDone | .stepTimeout .. | .rowWithdrawTimeout .. | .stepBoundary ..
  | .idleBoundary .. | .slotEnd | .taskDispatch .. | .hfpReadResponse .. | .hfpWriteAck .. | .hfpResponseTimeout ..
  | .mpReadResponse .. | .mpWriteAck .. | .mpCtrlReady .. | .fillWatchdog .. | .journalBaseWrite ..
  | .riddleCompaction .. | .echoRowCleanup .. | .streamCoalTimer .. | .springHealthFail .. | .springRetryTimer ..
  | .drbgInstantiateDone .. | .drbgGenerate .. | .drbgReseed .. | .fpRbReady .. | .fpReadData .. | .fpPhyReady ..
  | .ftlBackground .. | .pdWhRestoreDone | .sramClearDone | .privilegedDomainReady .. | .vddAonOff .. => none

end Sys2Proof
end

