-- ==== Sys2Proof/Safety.lean ====
section
/-! DEFINITION. The terms statements use: which commands of the rings are taken, refused or accepted, and the form that every
step keeps. -/

namespace Sys2Proof.Machine

/-! ### Commands of the rings and of the sideband -/

/-- A row of the opcode table that is a command of R89: its shape, whether the bytes are those of this row, where it is taken
from, its bytes, and the checks the row adds to those of R95. -/
structure RingRow where
  sh  : Shape
  row : Bool
  src : Src
  c   : Bytes
  own : State → Chk

/-- The ring row of a command; an event or a port command has none. -/
def State.ringRow (s : State) (i : Instr) : Option RingRow :=
  match i with
  | .fwQuery src c => some ⟨shFW_QUERY, shFW_QUERY.row c, src, c, fun _ => none⟩
  | .terraceCreate src c _ => some ⟨shTERRACE_CREATE, shTERRACE_CREATE.row c,
      src, c, fun _ => field (rd c 16 8 % 8 == 0) 16⟩
  | .terraceDestroy src c => some ⟨shTERRACE_DESTROY, shTERRACE_DESTROY.row c, src, c, fun _ => none⟩
  | .terraceSetTerrace src c => some ⟨shTERRACE_SET, shTERRACE_SET.row c && rd c 16 1 != 1,
      src, c, fun s => s.chkSetTerrace c⟩
  | .terraceSetSchedule src c => some ⟨shTERRACE_SET, shTERRACE_SET.row c && rd c 16 1 == 1,
      src, c, fun _ => chkSetSchedule c⟩
  | .keyInstall src c _ => some ⟨shKEY_INSTALL, shKEY_INSTALL.row c, src, c, fun _ => field (rd c 16 8 % 8 == 0) 16⟩
  | .lifecycleAdvance src c => some ⟨shLIFECYCLE_ADVANCE, shLIFECYCLE_ADVANCE.row c, src, c, fun s => s.chkAdvance c⟩
  | .powerSet src c => some ⟨shPOWER_SET, shPOWER_SET.row c, src, c, fun _ => chkPowerSet c⟩
  | .powerSleep src c => some ⟨shPOWER_SLEEP, shPOWER_SLEEP.row c, src, c, fun s => s.chkSleep c⟩
  | .countersReadCounters src c => some ⟨shCOUNTERS_READ, shCOUNTERS_READ.row c && crMode c != 1,
      src, c, fun s => s.chkCountersRead c⟩
  | .countersReadFaults src c => some ⟨shCOUNTERS_READ, shCOUNTERS_READ.row c && crMode c == 1,
      src, c, fun s => s.chkCountersRead c⟩
  | .countersClear src c => some ⟨shCOUNTERS_CLEAR, shCOUNTERS_CLEAR.row c,
      src, c, fun s => field (rd c 16 1 == 0x1E || s.terrOk (rd c 16 1)) 16⟩
  | .stepPortConfigSet src c => some ⟨shSTEP_PORT_CONFIG, shSTEP_PORT_CONFIG.row c && rd c 16 1 != 1 && rd c 16 1 != 2,
      src, c, fun _ => none⟩
  | .stepPortConfigResume src c => some ⟨shSTEP_PORT_CONFIG, shSTEP_PORT_CONFIG.row c && rd c 16 1 == 1,
      src, c, fun _ => none⟩
  | .stepPortConfigQuery src c => some ⟨shSTEP_PORT_CONFIG, shSTEP_PORT_CONFIG.row c && rd c 16 1 == 2,
      src, c, fun _ => none⟩
  | .poolConfigCreate src c => some ⟨shPOOL_CONFIG, shPOOL_CONFIG.row c && (rd c 16 1 != 1 && rd c 16 1 != 2),
      src, c, fun _ => chkPoolConfig c⟩
  | .poolConfigAddRange src c => some ⟨shPOOL_CONFIG, shPOOL_CONFIG.row c && rd c 16 1 == 1,
      src, c, fun _ => chkPoolConfig c⟩
  | .poolConfigDelete src c => some ⟨shPOOL_CONFIG, shPOOL_CONFIG.row c && rd c 16 1 == 2,
      src, c, fun _ => chkPoolConfig c⟩
  | .objCreate src c _ => some ⟨shOBJ_CREATE, shOBJ_CREATE.row c, src, c, fun s => s.chkObjCreate c⟩
  | .objLoad src c => some ⟨shOBJ_LOAD, shOBJ_LOAD.row c && !s.objBusy src (cHandle c), src, c, fun s => s.chkObjLoad c⟩
  | .objSeal src c => some ⟨shOBJ_SEAL, shOBJ_SEAL.row c && !s.objBusy src (cHandle c),
      src, c, fun s => chkBacking s.cfg c 16 24⟩
  | .objReplace src c => some ⟨shOBJ_REPLACE, shOBJ_REPLACE.row c && !s.objBusy src (cHandle c),
      src, c, fun s => chkBacking s.cfg c 24 32⟩
  | .objDestroy src c => some ⟨shOBJ_DESTROY, shOBJ_DESTROY.row c && !s.objBusy src (cHandle c), src, c, fun _ => none⟩
  | .objHint src c => some ⟨shOBJ_HINT, shOBJ_HINT.row c && !s.objBusy src (cHandle c),
      src, c, fun s => field (rd c 16 1 != 3 || s.cfg.hasFlash) 16⟩
  | .objQuery src c => some ⟨shOBJ_QUERY, shOBJ_QUERY.row c, src, c, fun _ => none⟩
  | .tok src c => some ⟨shTOK, shTOK.row c, src, c, fun _ => chkTok c⟩
  | .tokStreamOpen src c => some ⟨shTOK_STREAM_OPEN, shTOK_STREAM_OPEN.row c, src, c, fun s => s.chkTokStreamOpen c⟩
  | .tokStreamPut src c => some ⟨shTOK_STREAM_PUT, shTOK_STREAM_PUT.row c,
      src, c, fun _ => field (rd c 24 3 != 0 || bit (rd c 27 1) 0) 24⟩
  | .tokStreamClose src c => some ⟨shTOK_STREAM_CLOSE, shTOK_STREAM_CLOSE.row c, src, c, fun s => s.chkTokStreamClose c⟩
  | .detok src c => some ⟨shDETOK, shDETOK.row c, src, c, fun _ => chkDetok c⟩
  | .pack src c _ => some ⟨shPACK, shPACK.row c, src, c, fun _ => chkPackBody c⟩
  | .pair src c _ => some ⟨shPAIR, shPAIR.row c, src, c, fun _ => chkPackBody c⟩
  | .reqSubmit src c _ => some ⟨shREQ_SUBMIT, shREQ_SUBMIT.row c, src, c, fun _ => chkReqSubmit c⟩
  | .reqCancel src c => some ⟨shREQ_CANCEL, shREQ_CANCEL.row c, src, c, fun _ => none⟩
  | .reqAmend src c => some ⟨shREQ_AMEND, shREQ_AMEND.row c, src, c, fun _ => chkReqAmend c⟩
  | .reqQuery src c => some ⟨shREQ_QUERY, shREQ_QUERY.row c, src, c, fun _ => field (rd c 16 8 % 64 == 0) 16⟩
  | .starterCreateSpan src c _ => some ⟨shSTARTER_CREATE, shSTARTER_CREATE.row c && !isFrom c, src, c, fun _ => chkSpan c⟩
  | .starterCreateFromRequest src c => some ⟨shSTARTER_CREATE, shSTARTER_CREATE.row c && isFrom c,
      src, c, fun _ => field (rd c 32 4 ≤ maxPos) 32⟩
  | .starterRelease src c => some ⟨shSTARTER_RELEASE, shSTARTER_RELEASE.row c, src, c, fun _ => none⟩
  | .streamOpen src c => some ⟨shSTREAM_OPEN, shSTREAM_OPEN.row c, src, c, fun _ => chkStreamOpen c⟩
  | .streamClose src c => some ⟨shSTREAM_CLOSE, shSTREAM_CLOSE.row c, src, c, fun _ => none⟩
  | .streamCredit src c => some ⟨shSTREAM_CREDIT, shSTREAM_CREDIT.row c, src, c, fun s => s.chkStreamCredit c⟩
  | .syncCreate src c => some ⟨shSYNC_CREATE, shSYNC_CREATE.row c, src, c, fun s => s.chkSyncCreate c⟩
  | .syncSignalAdd src c => some ⟨shSYNC_SIGNAL, shSYNC_SIGNAL.row c && rd c 24 1 != 1, src, c, fun _ => none⟩
  | .syncSignalAdvanceTo src c => some ⟨shSYNC_SIGNAL, shSYNC_SIGNAL.row c && rd c 24 1 == 1, src, c, fun _ => none⟩
  | .syncWait src c => some ⟨shSYNC_WAIT, shSYNC_WAIT.row c, src, c, fun _ => none⟩
  | .syncDestroy src c => some ⟨shSYNC_DESTROY, shSYNC_DESTROY.row c, src, c, fun _ => none⟩
  | .commandUnassigned .. | .terraceDestroyDone .. | .t1ClearDone .. | .destroyDiscardTimer .. | .otpAdvAck ..
  | .otpAdvTimeout .. | .lifecycleReset .. | .quiesceDone | .quiesceTimeout | .reloadLimitExpiry .. | .tokDone ..
  | .intakeComplete .. | .syncWaitTimeout .. | .doorbell .. | .mbCqHeadWrite .. | .mbEnable .. | .mbDisable ..
  | .mbIrqWrite .. | .mbCoalTimer .. | .irqStatusWrite .. | .irqMaskWrite .. | .irqModeWrite .. | .timebaseLoRead ..
  | .cntSelectWrite .. | .cntSnapshotDone | .registerWrite .. | .sbPrivateWrite .. | .sbGo | .sbAck | .sidebandWake
  | .entdaa .. | .setdasa .. | .setnewda .. | .rstdaa | .getpid | .getbcr | .getdcr | .getstatus | .idcode | .bypass
  | .dbgStatus | .dbgChallenge | .dbgResponse .. | .debugEraseDone | .dbgAccess .. | .dbgClose | .trstN
  | .aonResetN .. | .sysResetN .. | .watchdogReset .. | .otpRvalid .. | .otpReadTimeout | .fwReady
  | .firmwareStartTimeout | .t2MountDone | .t2MountTimeout | .ppVack .. | .ppFack .. | .biasSettled | .ppAckTimeout
  | .ppClkack .. | .autoLevelTick .. | .autoS1Entry | .s1Wake .. | .wakeAlarm | .spAttn | .wakeRestoreDone
  | .bounds .. | .tiles .. | .rowsFull .. | .attnStepDone .. | .attnDrafts .. | .attnAbort .. | .spReservedMessage ..
  | .stepTimeout .. | .rowWithdrawTimeout .. | .stepBoundary .. | .idleBoundary .. | .slotEnd | .taskDispatch ..
  | .hfpReadResponse .. | .hfpWriteAck .. | .hfpResponseTimeout .. | .mpReadResponse .. | .mpWriteAck ..
  | .mpCtrlReady .. | .fillWatchdog .. | .journalBaseWrite .. | .riddleCompaction .. | .echoRowCleanup ..
  | .streamCoalTimer .. | .springHealthFail .. | .springRetryTimer .. | .drbgInstantiateDone .. | .drbgGenerate ..
  | .drbgReseed .. | .fpRbReady .. | .fpReadData .. | .fpPhyReady .. | .ftlBackground .. | .pdWhRestoreDone
  | .sramClearDone | .privilegedDomainReady .. | .vddAonOff .. => none

/-- It can be taken now: the bytes are those of the row, and the entry is next in its mailbox's slot (R79, R104). -/
def State.canTake (s : State) (r : RingRow) : Bool := r.row && s.takeable r.src r.c

/-- The first failing check of R95, on the state behind the taking of the entry. -/
def State.firstFailure (s : State) (r : RingRow) : Chk :=
  match (s.take r.src).intakeChk r.src r.sh r.c with
  | some e => some e
  | none => r.own (s.take r.src)

/-- The command is taken and passes every check of R95: what is left is its own effect. -/
def State.accepts (s : State) (i : Instr) : Bool :=
  match s.ringRow i with
  | some r => s.canTake r && !s.domainMissing r.src r.sh.op && s.firstFailure r == none
  | none => false

/-! ### The form that every step keeps -/

/-- Reserved bits of a mailbox's registers read 0 (R74, R76). -/
def Mailbox.formed (m : Mailbox) : Prop :=
  m.sqBaseLo &&& 0x3F = 0 ∧ m.cqBaseLo &&& 0x3F = 0 ∧ m.sqSize &&& 0xFFFFFFE0 = 0 ∧ m.cqSize &&& 0xFFFFFFE0 = 0 ∧
    m.sqTail.toNat < 65536 ∧ m.cqHead.toNat < 65536 ∧ m.irq &&& 0xFC = 0 ∧ m.msiLo &&& 0x3 = 0

/-- Reserved bits of the interrupt registers read 0, and each of sources 17 to 23 has its data register (R565 to R568). -/
def Irq.formed (q : Irq) : Prop :=
  q.status &&& 0xFF000000 = 0 ∧ q.mask &&& 0xFF000000 = 0 ∧ q.mode &&& 0xFF01FFFF = 0 ∧ q.msiLo &&& 0x3 = 0 ∧
    q.msiData.length = 7

/-- The logs hold no more than their 1,024 and 64 records (R545). -/
def Faults.formed (f : Faults) : Prop := f.blockLog.length ≤ 1024 ∧ ∀ e ∈ f.terrLogs, e.2.length ≤ 64

/-- The form: seventeen mailboxes (R72), reserved register bits that read 0, the timebase within 64 bits (R23), logs within
their depth, one dispatcher pointer per bay (R34, R456), and each terrace listed once, numbers rising. -/
structure State.Formed (s : State) : Prop where
  pages  : s.mbs.length = 17
  boxes  : ∀ m ∈ s.mbs, m.formed
  irq    : s.irq.formed
  tick   : s.tick < 2 ^ 64
  logs   : s.faults.formed
  select : s.cntWin.select &&& 0xE000 = 0
  bays   : s.rrBay.length = 4
  table  : s.terr.wf

end Sys2Proof.Machine
end

