-- ==== Sys2Proof/Certificates/Slice0/Obligations.lean ====
section
/-! DEFINITION. The statements for the provers, one definition each. Each docstring names the rules of the specification or the
log entries the statement rests on. -/

open Sys2Proof Sys2Proof.Machine

/-- A step takes the command at the front of the queue and runs it on the queue's rest. The queue and the order of its commands are
the model's (log entry 13); that a command reaches the block at a port of its own is R36. -/
def Obligations.StepRunsFrontCommand : Prop :=
  ∀ (s : State) (c : Instr) (r : List Instr), s.pending = c :: r → step s = exec c { s with pending := r }

/-- With nothing commanded and nothing in progress, one tick of the 64-bit timebase passes. That the tick is what a step on an
empty queue does is the model's choice (log entry 13). -/
def Obligations.IdleStepAdvancesTimebase : Prop :=
  ∀ s : State, s.pending = [] → s.sleep.phase = .awake → s.signals = [] → s.syncEnds = [] → s.tasks = [] →
    (∀ n te, s.terrace n = some te → te.sp.flight = none) →
    ∃ t, step s = .next t ∧ t.tick = (s.tick + 1) % 2 ^ 64 ∧ t.mbs = s.mbs ∧ t.irq = s.irq ∧ t.hfp = s.hfp ∧ t.faults = s.faults ∧
      t.pending = []

/-- No command and no tick leaves the form: reserved bits of the registers read 0, the logs keep their depth, and the timebase keeps
its width. -/
def Obligations.EveryStepKeepsForm : Prop :=
  ∀ s t : State, s.Formed → step s = .next t → t.Formed

/-- Reset leaves the block in the form that `EveryStepKeepsForm` carries on. -/
def Obligations.ResetHasForm : Prop :=
  State.reset.Formed

/-- What the register window holds after reset: every mailbox page reads 0, and of the interrupt registers only IRQ_MASK holds bits. -/
def Obligations.ResetRegisterValues : Prop :=
  (∀ mb off, (State.reset.mailbox mb).reg off = 0) ∧
    ∀ port : Nat, State.reset.regValue port 0x024 = 0 ∧ State.reset.regValue port 0x028 = 0xBFFFFF ∧
      State.reset.regValue port 0x02C = 0 ∧ State.reset.regValue port 0x040 = 0 ∧ State.reset.regValue port 0x044 = 0 ∧
      (∀ n, n < 7 → State.reset.regValue port (0x048 + 4 * n) = 0) ∧ State.reset.regValue port 0x40000 = 0 ∧
      State.reset.regValue port 0x40004 = 0

/-- The table of R561, for every state of each configuration. -/
def Obligations.CapabilityRegistersRead : Prop :=
  ∀ (s : State) (port : Nat),
    (s.cfg = .S → s.regValue port 0x008 = 0x01280110 ∧ s.regValue port 0x00C = 0x08001000 ∧
      s.regValue port 0x010 = 0x10000800 ∧ s.regValue port 0x014 = 0x06088010) ∧
    (s.cfg = .M → s.regValue port 0x008 = 0x01500220 ∧ s.regValue port 0x00C = 0x10002000 ∧
      s.regValue port 0x010 = 0x20001000 ∧ s.regValue port 0x014 = 0x0C110020) ∧
    (s.cfg = .L → s.regValue port 0x008 = 0x00D00440 ∧ s.regValue port 0x00C = 0x20004000 ∧
      s.regValue port 0x010 = 0x40002000 ∧ s.regValue port 0x014 = 0x141A0040)

/-- KDV_ID reads its constant in every configuration, before READY and in every sleep state too. -/
def Obligations.KdvIdReadsInEveryState : Prop :=
  ∀ (s : State) (a : Access), a.off = 0 → a.write = false →
    ∃ t, exec (.registerWrite a) s = .next t ∧ t.rsp = 0x4B444D01

/-- REGISTER_WRITE in every case that R555 lets through: a bad alignment or strobe, a write of each register (one with a row of its
own acts as that row), and a read. Before READY, asleep and in S1 a write does what R495, R496 and R509 say; that it wakes S1 as an
HFP access, and what the debug window holds, are the model's readings (log entries 96 and 6). -/
def Obligations.RingRegisterWrites : Prop :=
  ∀ (s r : State) (a : Access) (off : Nat) (v : Word), off = a.off % 2 ^ 20 → v = a.data → r = { s with rsp := 0 } →
    a.priv = true ∨ privRange off = false ∨ (a.write = false ∧ off < 0x018) →
    (off % 4 ≠ 0 ∨ (a.write = true ∧ a.strb ≠ 0xF) →
      exec (.registerWrite a) s = .next (if s.sleep.phase = .s1 then r.latchWake 16 else r)) ∧
    (off % 4 = 0 → a.write = true → a.strb = 0xF →
      (∀ mb o, s.pageOf off = some mb → o = off % 0x1000 →
        (o = 0x00C → exec (.registerWrite a) s = exec (.doorbell mb v) r) ∧
        (o = 0x01C → exec (.registerWrite a) s = exec (.mbCqHeadWrite mb v) r) ∧
        (o = 0x020 → exec (.registerWrite a) s = (if v.getLsbD 0 then exec (.mbEnable mb) r else exec (.mbDisable mb) r)) ∧
        (o = 0x024 → exec (.registerWrite a) s = exec (.mbIrqWrite mb v) r)) ∧
      (s.pageOf off = none →
        (off = 0x024 → exec (.registerWrite a) s = exec (.irqStatusWrite v 0) r) ∧
        (off = 0x028 → exec (.registerWrite a) s = exec (.irqMaskWrite v) r) ∧
        (off = 0x02C → exec (.registerWrite a) s = exec (.irqModeWrite v) r) ∧
        (off = 0x40000 → exec (.registerWrite a) s = exec (.cntSelectWrite v) r)) ∧
      ((∃ mb, s.pageOf off = some mb ∧ off % 0x1000 ∉ [0x00C, 0x01C, 0x020, 0x024]) ∨
        (s.pageOf off = none ∧ off ∉ [0x024, 0x028, 0x02C, 0x40000]) →
        (s.lcs.ready = false → exec (.registerWrite a) s = .next r) ∧
        (s.lcs.ready = true → s.frontEnd = true → exec (.registerWrite a) s = .next (r.count cSLEEP_WRITE_DROP noTerr locBlock 1)) ∧
        (s.lcs.ready = true → s.frontEnd = false → ∀ u : State, u = (if s.sleep.phase = .s1 then r.latchWake 16 else r) →
          (∀ mb o, s.pageOf off = some mb → o = off % 0x1000 → exec (.registerWrite a) s = .next (u.modMb mb (fun m =>
            if m.enable then m
            else if o = 0x000 then { m with sqBaseLo := v &&& 0xFFFFFFC0 }
            else if o = 0x004 then { m with sqBaseHi := v }
            else if o = 0x008 then { m with sqSize := v &&& 0x1F }
            else if o = 0x010 then { m with cqBaseLo := v &&& 0xFFFFFFC0 }
            else if o = 0x014 then { m with cqBaseHi := v }
            else if o = 0x018 then { m with cqSize := v &&& 0x1F }
            else if o = 0x028 then { m with msiLo := v &&& 0xFFFFFFFC }
            else if o = 0x02C then { m with msiHi := v }
            else if o = 0x030 then { m with msiData := v } else m))) ∧
          (s.pageOf off = none →
            (off = 0x040 → exec (.registerWrite a) s = .next { u with irq := { u.irq with msiLo := v &&& 0xFFFFFFFC } }) ∧
            (off = 0x044 → exec (.registerWrite a) s = .next { u with irq := { u.irq with msiHi := v } }) ∧
            (∀ n, n < 7 → off = 0x048 + 4 * n → exec (.registerWrite a) s = .next { u with
              irq := { u.irq with msiData := setAt n (fun _ => v) u.irq.msiData } }) ∧
            (0x80000 ≤ off → exec (.registerWrite a) s = .next (if u.lcs.debugOpen then { u with
              tap := { u.tap with window := ((off - 0x80000) / 4, v) :: u.tap.window } } else u)) ∧
            (off < 0x040 ∨ (0x064 ≤ off ∧ off < 0x80000) → exec (.registerWrite a) s = .next u))))) ∧
    (off % 4 = 0 → a.write = false → ∀ u : State, u = (if s.sleep.phase = .s1 then r.latchWake 16 else r) →
      (u.readable off = false → exec (.registerWrite a) s = .next { u with rsp := 0 }) ∧
      (u.readable off = true →
        (off = 0x030 → exec (.registerWrite a) s = .next { u with
          tbLatch := u.tbLatch.put a.port (u.tick / 2 ^ 32), rsp := BitVec.ofNat 32 u.tick }) ∧
        (0x80000 ≤ off → exec (.registerWrite a) s = .next (if u.lcs.debugOpen then
          { u with fresh := u.fresh + 1, rsp := Config.debugWindow u.fresh } else { u with rsp := 0 })) ∧
        (off ≠ 0x030 → off < 0x80000 → exec (.registerWrite a) s = .next { u with rsp := u.regValue a.port off })))

/-- Privilege of the register window: reads return zero, writes have no effect, and the access is counted; it wakes S1 as every access
does (R495; that it wakes as an HFP access is the model's reading, log entry 96). -/
def Obligations.UnprivilegedAccessDenied : Prop :=
  ∀ (s : State) (a : Access), a.priv = false → (a.off % 2 ^ 20 < 0x2000 ∨ 0x40000 ≤ a.off % 2 ^ 20) →
    (a.write = true ∨ 0x018 ≤ a.off % 2 ^ 20) →
    ∀ r u : State, r = { s with rsp := 0 } → u = (if s.sleep.phase = .s1 then r.latchWake 16 else r) →
      exec (.registerWrite a) s = .next (u.count cPRIV_DENIED noTerr locBlock 1)

/-- The whole of R10. The TERRACE_CREATE is one that passes the checks before its own; its BAD_FIELD names TERRACE at offset 24. The
handle is one whose generation is not 0, which check 5 rejects first under another name. -/
def Obligations.KidevonSHasEightTerraces : Prop :=
  ∀ s : State, s.cfg = .S →
    (∀ port off, 0x18000 ≤ off → off < 0x20000 → s.regValue port off = 0) ∧
    (∀ a : Access, 0x18000 ≤ a.off → a.off < 0x20000 → a.write = true → s.lcs.ready = true →
      s.sleep.phase = .awake → exec (.registerWrite a) s = .next { s with rsp := 0 }) ∧
    (∀ (src : Src) (c d : Bytes), s.accepts (.terraceCreate src c (.okay d)) = true → s.lcs.letsTerraces = true →
      8 ≤ rd c 24 1 → rd c 24 1 < 16 →
      exec (.terraceCreate src c (.okay d)) s = .next ((s.take src).refuse (ticketOf src c) stBAD_FIELD 24)) ∧
    ∀ (own : Option Nat) (f : HField) (h : Nat), 8 ≤ hTerr h → hGen h ≠ 0 →
      s.checkHandle own f h = some (stSTALE_HANDLE, 0xFFFF)

/-- DOORBELL and MB_CQ_HEAD_WRITE in every case. What ERROR leaves of either write, and the shadows' order, are the model's
readings (log entries 128 and 96). -/
def Obligations.DoorbellsAndHeads : Prop :=
  ∀ (s : State) (mb t : Nat) (v : Word), t = v.toNat % 65536 →
    (s.lcs.ready = false ∨ s.mbExists mb = false →
      exec (.doorbell mb v) s = .next s ∧ exec (.mbCqHeadWrite mb v) s = .next s) ∧
    (s.lcs.ready = true → s.mbExists mb = true →
      (s.clocked = false →
        exec (.doorbell mb v) s = .next ((s.modMb mb (fun m => { m with shTail := m.shTail ++ [(v, s.tick)] })).latchWake
          (if s.sleep.phase = .s1 then 17 else 1)) ∧
        ∀ u : State, u = s.modMb mb (fun m => { m with shHead := some v }) →
          exec (.mbCqHeadWrite mb v) s = .next (if s.sleep.phase = .s1 then u.latchWake 16 else u)) ∧
      (s.clocked = true → ∀ u w : State,
        u = s.modMb mb (fun m => { m with sqTail := BitVec.ofNat 32 t }) →
        w = s.modMb mb (fun m => { m with cqHead := BitVec.ofNat 32 t }) →
        ((s.mailbox mb).enable = false ∨ (s.mailbox mb).error = true →
          exec (.doorbell mb v) s = .next (u.latchWake 1) ∧ exec (.mbCqHeadWrite mb v) s = .next w) ∧
        ((s.mailbox mb).enable = true → (s.mailbox mb).error = false →
          (2 ^ (s.mailbox mb).sqLog ≤ t → exec (.doorbell mb v) s = .next ((u.mbError mb 1).latchWake 1)) ∧
          (t < 2 ^ (s.mailbox mb).sqLog → t = (s.mailbox mb).sqTail.toNat →
            exec (.doorbell mb v) s = .next (u.latchWake 1)) ∧
          (t < 2 ^ (s.mailbox mb).sqLog → t ≠ (s.mailbox mb).sqTail.toNat →
            exec (.doorbell mb v) s = .next (((s.modMb mb (fun m => { m with
              sqTail := BitVec.ofNat 32 t
              ahead := m.ahead.filter (fun e => m.ahead_ e.1 < m.ahead_ t)
              readNext := if m.ahead_ m.readNext < m.ahead_ t then m.readNext else t
              bells := m.bells.filter (fun b => m.ahead_ b.1 ≤ m.ahead_ t) ++ [(t, s.tick)] })).readAhead mb 16).latchWake 1)) ∧
          ∀ n, n = (t + 2 ^ (s.mailbox mb).cqLog - (s.mailbox mb).cqHead.toNat % 2 ^ (s.mailbox mb).cqLog)
              % 2 ^ (s.mailbox mb).cqLog →
            (t < 2 ^ (s.mailbox mb).cqLog → n ≤ (s.mailbox mb).used →
              exec (.mbCqHeadWrite mb v) s = .next (((s.modMb mb (fun m => { m with
                  cqHead := BitVec.ofNat 32 t, used := m.used - n, outQ := m.outQ.drop n })).forEach
                ((((s.mailbox mb).outQ.take n).map (·.2)).filter (· ≠ 0)) State.passProgress).roomMade mb)) ∧
            (2 ^ (s.mailbox mb).cqLog ≤ t ∨ (s.mailbox mb).used < n →
              exec (.mbCqHeadWrite mb v) s = .next (w.mbError mb 2))))) ∧
    ∀ u : State, u.sleep.phase = .awake → u.latchWake 1 = u

/-- MB_ENABLE and MB_DISABLE in every case: before READY, asleep, on a mailbox that does not exist, and on one that does. What an
ENABLE with a bad setting leaves besides the error is the model's reading (log entry 113). -/
def Obligations.MailboxEnableAndDisable : Prop :=
  ∀ (s : State) (mb sl cl sb cb : Nat),
    (s.lcs.ready = false → exec (.mbEnable mb) s = .next s ∧ exec (.mbDisable mb) s = .next s) ∧
    (s.lcs.ready = true → s.frontEnd = true →
      exec (.mbEnable mb) s = .next (s.count cSLEEP_WRITE_DROP noTerr locBlock 1) ∧
      exec (.mbDisable mb) s = .next (s.count cSLEEP_WRITE_DROP noTerr locBlock 1)) ∧
    (s.lcs.ready = true → s.frontEnd = false → ∀ w : State, w = (if s.sleep.phase = .s1 then s.latchWake 16 else s) →
      (w.mbExists mb = false → exec (.mbEnable mb) s = .next w ∧ exec (.mbDisable mb) s = .next w) ∧
      (w.mbExists mb = true →
        exec (.mbDisable mb) s = .next (w.modMb mb (fun m => { m with
          enable := false, error := false, errCode := 0, ahead := [], bells := [] })) ∧
        ((w.mailbox mb).enable = true → exec (.mbEnable mb) s = .next w) ∧
        ((w.mailbox mb).enable = false → sl = (w.mailbox mb).sqSize.toNat % 32 → cl = (w.mailbox mb).cqSize.toNat % 32 →
          sb = ringBase (w.mailbox mb).sqBaseLo (w.mailbox mb).sqBaseHi →
          cb = ringBase (w.mailbox mb).cqBaseLo (w.mailbox mb).cqBaseHi →
          ∀ u : State, u = (w.modMb mb (fun m => { m with
            enable := true, sqBase := sb, sqLog := sl, cqBase := cb, cqLog := cl, sqHead := 0, cqTail := 0, phase := true
            sqTail := 0, cqHead := 0, used := 0, outQ := [], ahead := [], readNext := 0, bells := [], epoch := m.epoch + 1 })).forEach
              (((w.mailbox mb).outQ.map (·.2)).filter (· ≠ 0)) State.passProgress →
          (1 ≤ sl → sl ≤ 16 → 1 ≤ cl → cl ≤ 16 → sb ≠ 0 → cb ≠ 0 →
            ((w.mailbox mb).held.length + 2 ≤ 2 ^ cl → exec (.mbEnable mb) s = .next (u.roomMade mb)) ∧
            (2 ^ cl < (w.mailbox mb).held.length + 2 → exec (.mbEnable mb) s = .next (u.mbError mb 6))) ∧
          (sl = 0 ∨ 16 < sl ∨ cl = 0 ∨ 16 < cl ∨ sb = 0 ∨ cb = 0 → exec (.mbEnable mb) s = .next (u.mbError mb 3)))))

/-- MB_IRQ_WRITE and MB_COAL_TIMER in every case: what the register keeps, the two conditions of R115, and a newly set MSG_MODE. A
timer row before its tick changes nothing (log entry 24). -/
def Obligations.MailboxInterruptCoalescing : Prop :=
  ∀ (s : State) (mb : Nat) (v : Word),
    (s.lcs.ready = false → exec (.mbIrqWrite mb v) s = .next s) ∧
    (s.lcs.ready = true → s.frontEnd = true → exec (.mbIrqWrite mb v) s = .next (s.count cSLEEP_WRITE_DROP noTerr locBlock 1)) ∧
    (s.lcs.ready = true → s.frontEnd = false → ∀ u : State, u = (if s.sleep.phase = .s1 then s.latchWake 16 else s) →
      (u.mbExists mb = false → exec (.mbIrqWrite mb v) s = .next u) ∧
      (u.mbExists mb = true → ∀ (w x : State) (m : Mailbox), w = u.modMb mb (fun m => { m with irq := v &&& 0xFFFFFF03 }) →
        m = w.mailbox mb →
        x = (if m.irq.getLsbD 0 = true ∧ 0 < m.unann ∧ (max 1 (coalCount m.irq) ≤ m.unann ∨
            (coalTime m.irq ≠ 0 ∧ m.firstAt + 16 * coalTime m.irq ≤ w.tick))
          then (w.modMb mb (fun m => { m with unann := 0 })).raise mb else w) →
        exec (.mbIrqWrite mb v) s = .next (if u.msgMode mb = false ∧ x.msgMode mb = true then x.unmaskMsg mb else x))) ∧
    ∀ m : Mailbox, m = s.mailbox mb →
      (s.clocked = true → coalTime m.irq ≠ 0 → m.irq.getLsbD 0 = true → 0 < m.unann →
        max 1 (coalCount m.irq) ≤ m.unann ∨ m.firstAt + 16 * coalTime m.irq ≤ s.tick →
        exec (.mbCoalTimer mb) s = .next ((s.modMb mb (fun m => { m with unann := 0 })).raise mb)) ∧
      (s.clocked = false ∨ coalTime m.irq = 0 ∨ m.irq.getLsbD 0 = false ∨ m.unann = 0 ∨
        (m.unann < max 1 (coalCount m.irq) ∧ s.tick < m.firstAt + 16 * coalTime m.irq) →
        exec (.mbCoalTimer mb) s = .next s)

/-- IRQ_STATUS_WRITE, IRQ_MASK_WRITE and IRQ_MODE_WRITE in every case; a source that the mask or the mode opens writes the message
that waits. -/
def Obligations.InterruptRegisterWrites : Prop :=
  ∀ (s : State) (v raised : Word),
    (s.lcs.ready = false → exec (.irqStatusWrite v raised) s = .next s ∧ exec (.irqMaskWrite v) s = .next s ∧
      exec (.irqModeWrite v) s = .next s) ∧
    (s.lcs.ready = true → s.frontEnd = true →
      exec (.irqModeWrite v) s = .next (s.count cSLEEP_WRITE_DROP noTerr locBlock 1)) ∧
    (s.lcs.ready = true → ∀ u : State, u = (if s.sleep.phase = .s1 then s.latchWake 16 else s) →
      exec (.irqStatusWrite v raised) s = .next { u with irq := { u.irq with
        status := u.irq.status &&& ~~~(v &&& 0xFFFFFF &&& ~~~raised) } } ∧
      exec (.irqMaskWrite v) s = .next (State.forEach { u with irq := { u.irq with mask := v &&& 0xFFFFFF } }
        (sourcesOf (u.irq.mask &&& ~~~v)) State.unmaskMsg) ∧
      (s.frontEnd = false → exec (.irqModeWrite v) s = .next (State.forEach { u with irq := { u.irq with mode := v &&& 0xFE0000 } }
        (sourcesOf (v &&& 0xFE0000 &&& ~~~u.irq.mode)) State.unmaskMsg)) ∧
      (s.sleep.phase = .awake → s.irq.status = 0 →
        exec (.irqMaskWrite v) s = .next { s with irq := { s.irq with mask := v &&& 0xFFFFFF } } ∧
        exec (.irqModeWrite v) s = .next { s with irq := { s.irq with mode := v &&& 0xFE0000 } }))

/-- TIMEBASE_LO_READ, CNT_SELECT_WRITE and CNT_SNAPSHOT_DONE in every case. A snapshot row without a snapshot under way changes
nothing (log entry 24). -/
def Obligations.TimebaseAndCounterWindow : Prop :=
  ∀ (s : State) (port : Nat) (v : Word) (u : State), u = (if s.sleep.phase = .s1 then s.latchWake 16 else s) →
    exec (.timebaseLoRead port) s = .next { u with
      tbLatch := u.tbLatch.put port (u.tick / 2 ^ 32), rsp := BitVec.ofNat 32 u.tick } ∧
    (s.lcs.ready = false → exec (.cntSelectWrite v) s = .next s) ∧
    (s.lcs.ready = true → s.frontEnd = true → exec (.cntSelectWrite v) s = .next (s.count cSLEEP_WRITE_DROP noTerr locBlock 1)) ∧
    (s.lcs.ready = true → s.frontEnd = false →
      (u.cntWin.busy = true → exec (.cntSelectWrite v) s = .next u) ∧
      (u.cntWin.busy = false → ∀ ok : Bool,
        ok = (assignedGroup (v.toNat % 256) && u.terrOk (v.toNat / 256 % 32) && locOk u.cfg (v.toNat / 65536)) →
        exec (.cntSelectWrite v) s = .next { u with cntWin := { u.cntWin with
          select := v &&& 0xFFFF1FFF, err := !ok, busy := ok, since := u.tick } })) ∧
    (s.cntWin.busy = false ∨ s.clocked = false → exec .cntSnapshotDone s = .next s) ∧
    (s.cntWin.busy = true → s.clocked = true → ∀ g t l, g = s.cntWin.select.toNat % 256 →
      t = s.cntWin.select.toNat / 256 % 32 → l = s.cntWin.select.toNat / 65536 →
      exec .cntSnapshotDone s = .next { s with cntWin := { s.cntWin with
        busy := false, valid := true, sample := s.tick, clear := s.clearTick t g, newest := newestSeq s.faults.blockLog
        vals := (List.range 255).map (fun i => s.counter ⟨g, i + 1, t, l⟩) } })

/-- Every command of R89 waits, without effect, until it can be taken. That a row sent in a state where it cannot be taken
changes nothing is the model's reading (log entries 12 and 24). -/
def Obligations.RingCommandsWaitTheirTurn : Prop :=
  ∀ (s : State) (i : Instr) (r : RingRow), s.ringRow i = some r → s.canTake r = false → exec i s = .next s

/-- The checks of R95 for every command of R89, in their order, with the row's own checks behind them. The place of the
sideband's and the erased mode's conditions among the checks, and the offsets of reserved bytes, are the model's readings
(log entries 11 and 18 to 22). -/
def Obligations.RingCommandsAreCheckedInOrder : Prop :=
  ∀ (s : State) (i : Instr) (r : RingRow) (st off : Nat), s.ringRow i = some r → s.canTake r = true →
    s.domainMissing r.src r.sh.op = false → s.firstFailure r = some (st, off) →
    exec i s = .next ((s.take r.src).refuse (ticketOf r.src r.c) st off)

/-- The first access to a privileged domain after a wake waits for it. Which opcodes access which domain is the model's reading (log
entry 97). -/
def Obligations.RingCommandsAwaitDomains : Prop :=
  ∀ (s : State) (i : Instr) (r : RingRow), s.ringRow i = some r → s.canTake r = true →
    s.domainMissing r.src r.sh.op = true →
    ∃ l : Sleep, exec i s = .next { s with sleep := l } ∧ l.phase = s.sleep.phase ∧ l.teOn = s.sleep.teOn ∧ l.rbOn = s.sleep.rbOn ∧
      (l.teWait.isSome = true ∨ l.rbWait.isSome = true)

/-- The 32 bytes of a completion, read back field by field. -/
def Obligations.CompletionLayout : Prop :=
  ∀ (c : Cpl) (phase : Bool) (head : Nat), c.tag < 2 ^ 32 → c.handle < 2 ^ 32 → c.status < 256 → c.opcode < 256 →
    c.kind < 256 → c.flags < 255 → c.flags % 2 = 0 → head < 65536 → c.fieldOff < 65536 → c.res0 < 2 ^ 64 → c.res1 < 2 ^ 64 →
    (c.bytes phase head).length = 32 ∧ rd (c.bytes phase head) 0 4 = c.tag ∧ rd (c.bytes phase head) 4 4 = c.handle ∧
      rd (c.bytes phase head) 8 1 = c.status ∧ rd (c.bytes phase head) 9 1 = c.opcode ∧
      rd (c.bytes phase head) 10 1 = c.kind ∧ rd (c.bytes phase head) 11 1 = c.flags + (if phase then 1 else 0) ∧
      rd (c.bytes phase head) 12 2 = head ∧ rd (c.bytes phase head) 14 2 = c.fieldOff ∧
      rd (c.bytes phase head) 16 8 = c.res0 ∧ rd (c.bytes phase head) 24 8 = c.res1

/-- What producing a completion does, on a ring and on the sideband. That a completion without a slot is held, that one waits
behind an earlier command's open ONLY, and that INTERNAL files its report first are the model's readings (log entries 33, 12 and
150). -/
def Obligations.CompletionTakesOneSlot : Prop :=
  ∀ (s u : State) (tk : Ticket) (kind st h fl off r0 r1 : Nat), u = s.inconsistent tk st h → ∀ c : Cpl,
    c = ⟨tk.tag, h, st, tk.opcode, kind, fl, off, r0 % 2 ^ 64, r1 % 2 ^ 64, tk.noIrq, u.nextId, u.tick⟩ → ∀ mb, mb = srcMb tk.src →
    (st ≠ stINTERNAL → u = s) ∧
    (tk.src ≠ .sideband → (u.mailbox mb).openOnly = [] → (u.mailbox mb).canWrite = true → mb < s.mbs.length →
      ∃ t, s.complete tk kind st h fl off r0 r1 = t ∧
        t.hfp = u.hfp ++ [⟨u.nextId + 1, srcTerr mb, u.tick, .cplWrite mb (u.mailbox mb).epoch (u.mailbox mb).cqTail
          (u.mailbox mb).phase (u.mailbox mb).sqHead c⟩] ∧
        (t.mailbox mb).used = (u.mailbox mb).used + 1 ∧
        (t.mailbox mb).cqTail = (if (u.mailbox mb).cqTail + 1 = 2 ^ (u.mailbox mb).cqLog then 0 else (u.mailbox mb).cqTail + 1) ∧
        (t.mailbox mb).phase = (if (u.mailbox mb).cqTail + 1 = 2 ^ (u.mailbox mb).cqLog then !(u.mailbox mb).phase
          else (u.mailbox mb).phase) ∧ ∀ k, k ≠ mb → t.mailbox k = s.mailbox k) ∧
    (tk.src ≠ .sideband → (u.mailbox mb).openOnly = [] → (u.mailbox mb).canWrite = false →
      s.complete tk kind st h fl off r0 r1 =
        { u with nextId := u.nextId + 1 }.modMb mb (fun m => { m with held := holdCpl c m.held })) ∧
    (tk.src ≠ .sideband → kind = kONLY ∨ kind = kFIRST → ∀ l o ws, (u.mailbox mb).openOnly = l ++ [(o, ws)] →
      s.complete tk kind st h fl off r0 r1 =
        u.modMb mb (fun m => { m with openOnly := l ++ [(o, ws ++ [{ c with seq := 0, at_ := 0 }])] })) ∧
    (tk.src = .sideband → kind = kONLY ∨ kind = kFINAL →
      s.complete tk kind st h fl off r0 r1 = ((({ u with sb := { u.sb with
        cpl := c.bytes true 0, busy := false, done := true } }).modMb 16 (fun m => { m with live := m.live - 1 })).raise 17))

/-- FW_QUERY and COMMAND_UNASSIGNED. -/
def Obligations.FirmwareQueryAnswers : Prop :=
  ∀ (s : State) (src : Src) (c : Bytes),
    (s.accepts (.fwQuery src c) = true →
      exec (.fwQuery src c) s = .next ((s.take src).only (ticketOf src c) stOK 0
        (s.boot.ifMinor + 2 ^ 8 * s.boot.ifMajor + 2 ^ 16 * s.boot.fwBuild + 2 ^ 32 * s.boot.objMinor + 2 ^ 40 * s.boot.objMajor
          + 2 ^ 48 * (s.lcs.word.toNat % 256)) (2 ^ 32 * s.boot.imageId))) ∧
    (opWhere (cOp c) = none → s.takeable src c = true →
      exec (.commandUnassigned src c) s = .next ((s.take src).refuse (ticketOf src c) stBAD_COMMAND 0xFFFF))

/-- TERRACE_CREATE. TURN_TICKS 0 stands for 5,000. The place of the T1 quota and the keys are free values (log entries 78
and 82). -/
def Obligations.TerraceCreateMakesTerrace : Prop :=
  ∀ (s : State) (src : Src) (c d : Bytes),
    (∀ (desc : HostRead) (st off : Nat), s.accepts (.terraceCreate src c desc) = true →
      (s.take src).createChk (rd c 24 1) desc = some (st, off) →
      exec (.terraceCreate src c desc) s = .next ((s.take src).refuse (ticketOf src c) st off)) ∧
    (s.accepts (.terraceCreate src c (.okay d)) = true → (s.take src).createChk (rd c 24 1) (.okay d) = none →
    ∃ (u : State) (te : Terrace), exec (.terraceCreate src c (.okay d)) s = .next (u.only (ticketOf src c) stOK (u.terrHandle (rd c 24 1))
        (parseDesc d).dataBytes (parseDesc d).liveSlots) ∧
      u.terrace (rd c 24 1) = some te ∧ (∀ n, n ≠ rd c 24 1 → u.terrace n = s.terrace n) ∧
      te.desc = { parseDesc d with turn := if (parseDesc d).turn = 0 then 5000 else (parseDesc d).turn } ∧
      te.expert = bit (rd c 25 1) 0 ∧ te.keys.length = 96 ∧ te.drbg.live = true ∧ te.reqs = [] ∧ te.objs = [] ∧ te.syncs = [] ∧
      te.starters = [] ∧ te.toks = [] ∧ te.streams = [] ∧ te.pool = none ∧ te.destroying = none ∧
      u.tasks = s.tasks ∧ u.mp = s.mp ∧ u.irq = s.irq ∧ u.mbs = (s.take src).mbs ∧ u.hfp = (s.take src).hfp)

/-- TERRACE_SET_TERRACE, TERRACE_SET_SCHEDULE and KEY_INSTALL. -/
def Obligations.TerraceSettingsAndKeys : Prop :=
  ∀ (s : State) (src : Src) (c : Bytes),
    (s.accepts (.terraceSetTerrace src c) = true →
      exec (.terraceSetTerrace src c) s = .next (((s.take src).modT (hTerr (cHandle c)) (fun te => { te with
        expert := if bit (rd c 17 1) 1 then bit (rd c 18 1) 0 else te.expert
        desc := { te.desc with
          weights := if bit (rd c 17 1) 0 then rd c 20 4 else te.desc.weights
          holeH := if bit (rd c 17 1) 2 then rd c 19 1 else te.desc.holeH
          reserve := if bit (rd c 17 1) 4 then rd c 28 4 else te.desc.reserve
          budget := if bit (rd c 17 1) 5 then rd c 32 4 else te.desc.budget }
        nextTurn := if bit (rd c 17 1) 3 then some (rd c 24 4) else te.nextTurn
        nextBw := if bit (rd c 17 1) 6 then some (rd c 36 1, rd c 37 1, rd c 38 1) else te.nextBw })).only
          (ticketOf src c) stOK (cHandle c) 0 0)) ∧
    (s.accepts (.terraceSetSchedule src c) = true →
      exec (.terraceSetSchedule src c) s = .next ({ s.take src with sched := { (s.take src).sched with
        posted := some (rd c 20 4, bit (rd c 18 1) 0) } }.only (ticketOf src c) stOK 0 0 0)) ∧
    ∀ (te : Terrace) (blob : HostRead), s.accepts (.keyInstall src c blob) = true → s.terrace (hTerr (cHandle c)) = some te →
      (s.fuses.rootKey = none ∨ te.objs ≠ [] ∨ te.reqs ≠ [] ∨ te.starters ≠ [] →
        exec (.keyInstall src c blob) s = .next ((s.take src).refuse (ticketOf src c) stNOT_PERMITTED 0xFFFF)) ∧
      ∀ root : Bytes, s.fuses.rootKey = some root → te.objs = [] → te.reqs = [] → te.starters = [] →
        (blob = .error → exec (.keyInstall src c blob) s = .next ((s.take src).refuse (ticketOf src c) stDATA_ERROR 0xFFFF)) ∧
        ∀ b : Bytes, blob = .okay b →
          (aesUnwrap (tkek root (hTerr (cHandle c)) s.lcs.state) (b.take 104) = none →
            exec (.keyInstall src c blob) s = .next ((s.take src).refuse (ticketOf src c) stBAD_FORMAT 0xFFFF)) ∧
          ∀ k, aesUnwrap (tkek root (hTerr (cHandle c)) s.lcs.state) (b.take 104) = some k →
            exec (.keyInstall src c blob) s = .next (((s.take src).modT (hTerr (cHandle c)) (fun te => { te with keys := k })).only
              (ticketOf src c) stOK (cHandle c) 0 0)

/-- TERRACE_DESTROY, DESTROY_DISCARD_TIMER, TERRACE_DESTROY_DONE and T1_CLEAR_DONE. What the discard takes from the mailbox is
stated of a terrace whose streams are closed. The base of the discard's millisecond is the model's reading (log entry 84). -/
def Obligations.TerraceDestroyRunsToFree : Prop :=
  ∀ (s : State) (src : Src) (c : Bytes) (t job : Nat) (te : Terrace) (tk : Ticket),
    (s.accepts (.terraceDestroy src c) = true →
      exec (.terraceDestroy src c) s = .next (((s.take src).first (ticketOf src c) (cHandle c)).modT (hTerr (cHandle c)) (fun te =>
        { te with destroying := some (ticketOf src c), destroyStep := 1, destroyAt := s.tick, nextTurn := none, nextBw := none }))) ∧
    (s.terrace t = some te → te.destroying = some tk →
      exec (.destroyDiscardTimer t) s = .next ((s.forEach te.streams (fun s x =>
        s.discardRecords te (mkHandle t tyStream x.1 x.2.gen) x.2)).discardHeld t te)) ∧
    (s.terrace t = some te → te.destroying = some tk → te.streams = [] →
      (∀ x ∈ (s.mailbox t).held, max x.at_ te.destroyAt + 100000 ≤ s.tick) →
      exec (.destroyDiscardTimer t) s = .next ((s.modMb t (fun m => { m with
        held := [], live := m.live - ((s.mailbox t).held.filter (fun x => x.kind = kONLY || x.kind = kFINAL)).length })).count
          cDESTROY_DISCARD t locBlock (s.mailbox t).held.length)) ∧
    (s.terrace t = some te → te.destroying = some tk → s.destroyDrained t te = true → t < s.mbs.length →
      ∃ u : State, u = s.clearTerrace t te ∧ exec (.terraceDestroyDone t) s = .next (u.final tk stOK tk.handle 0 0xFFFF 0 0) ∧
        u.terrace t = none ∧ (∀ n, n ≠ t → u.terrace n = s.terrace n) ∧ u.mailbox t = { epoch := (s.mailbox t).epoch + 1 } ∧
        (∀ n, n ≠ t → u.mailbox n = s.mailbox n) ∧ ∀ k, k ∈ u.tasks ↔ k ∈ s.tasks ∧ k.terr ≠ t) ∧
    (s.terrace t = some te → te.destroying = some tk → s.destroyDrained t te = false →
      exec (.terraceDestroyDone t) s = .next s) ∧
    ((∀ x, s.terrace t = some x → x.destroying = none) →
      exec (.destroyDiscardTimer t) s = .next s ∧ exec (.terraceDestroyDone t) s = .next s) ∧
    exec (.t1ClearDone job) s = .next { s with clearing := s.clearing.filter (fun j => j.id ≠ job) }

/-- LIFECYCLE_ADVANCE, OTP_ADV_ACK, OTP_ADV_TIMEOUT and LIFECYCLE_RESET. Two readings that differ count as no legal state by
the model's reading (log entry 91). A ring's FINAL raises source 22 once it is visible, the sideband's at once. -/
def Obligations.LifecycleAdvanceBurnsAndResets : Prop :=
  ∀ (s : State) (src : Src) (c : Bytes) (a : Advance) (w1 w2 : Word) (straps : Straps),
    (s.accepts (.lifecycleAdvance src c) = true →
      exec (.lifecycleAdvance src c) s = .next { (s.take src).first (ticketOf src c) 0 with
        intakeClosed := true
        advance := some { ticket := ticketOf src c, old := s.lcs.state, target := rd c 16 1, nibble := s.lcs.state
                          since := s.tick } }) ∧
    (s.advance = some a → a.done = false → ∀ r, r = (if w1 = w2 then lifecycleOf w1 else lcINVALID) →
      (r = a.nibble + 1 → r < a.target →
        exec (.otpAdvAck w1 w2) s = .next { s with advance := some { a with nibble := r, since := s.tick } }) ∧
      (∀ z : State → State, (z = fun w => if a.ticket.src = .sideband then
          { w.raise 22 with advance := some { a with done := true, ended := some w.tick } } else w) →
        (r = a.target → exec (.otpAdvAck w1 w2) s =
          .next (z ({ s with advance := some { a with done := true } }.final a.ticket stOK 0 0 0xFFFF a.target 0))) ∧
        (r = a.old → a.old ≠ a.target → a.old ≠ a.nibble + 1 → exec (.otpAdvAck w1 w2) s =
          .next ({ s with advance := none, intakeClosed := false }.final a.ticket stDATA_ERROR 0 0 0xFFFF 0 0)) ∧
        (r ≠ a.old → r ≠ a.target → r ≠ a.nibble + 1 → exec (.otpAdvAck w1 w2) s =
          .next (z ({ s with advance := some { a with done := true } }.final a.ticket stDATA_ERROR 0 0 0xFFFF r 0)))) ∧
      (a.since + 10000000 ≤ s.tick → exec (.otpAdvTimeout w1 w2) s = exec (.otpAdvAck w1 w2) s) ∧
      (s.tick < a.since + 10000000 → exec (.otpAdvTimeout w1 w2) s = .next s)) ∧
    ((∀ x, s.advance = some x → x.done = true) →
      exec (.otpAdvAck w1 w2) s = .next s ∧ exec (.otpAdvTimeout w1 w2) s = .next s) ∧
    ((∀ x, s.advance = some x → x.ended = none) → exec (.lifecycleReset straps) s = .next s) ∧
    ∀ e, s.advance = some a → a.ended = some e →
      (e + 1000 ≤ s.tick → ∃ t, exec (.lifecycleReset straps) s = .next t ∧ t = s.sysReset 2 straps ∧ t.lcs.resetCause = 2 ∧
        t.lcs.ready = false ∧ t.terr = [] ∧ t.tick = s.tick ∧ t.advance = none ∧ t.boot.straps = straps) ∧
      (s.tick < e + 1000 → exec (.lifecycleReset straps) s = .next s)

/-- POWER_SET, POWER_SLEEP, QUIESCE_DONE and QUIESCE_TIMEOUT. The answer of POWER_SET is stated where no change is in progress:
it comes at once where the level asked for stands, and the change to it begins otherwise. That quiesce does not wait for a level
change is the model's reading (log entry 108). -/
def Obligations.PowerCommandsStart : Prop :=
  ∀ (s u : State) (src : Src) (c : Bytes) (tk : Ticket), u = s.take src → tk = ticketOf src c →
    (s.accepts (.powerSet src c) = true → ∀ v : State, v = (u.defer tk).modPwr (fun p => { p with
        s1Idle := rd c 20 4, auto := rd c 16 1 == 1, levelHi := rd c 17 1, levelLo := rd c 18 1, setBy := some tk }) →
      (s.pwr.phase ≠ .idle → exec (.powerSet src c) s = .next v) ∧
      (s.pwr.phase = .idle → s.pwr.level = v.desiredLevel → exec (.powerSet src c) s = .next ((v.modPwr (fun p =>
        { p with setBy := none })).finish tk stOK 0 0xFFFF (s.pwr.level + 256 * (if rd c 16 1 = 1 then 1 else 0)) 0)) ∧
      (s.pwr.phase = .idle → s.pwr.level ≠ v.desiredLevel →
        exec (.powerSet src c) s = .next (v.beginChange v.desiredLevel true))) ∧
    (s.accepts (.powerSleep src c) = true → ∀ v : State, v = u.first tk 0 → ∀ l : Sleep, l = { v.sleep with
        ticket := some tk, goal := rd c 16 1, attnWake := bit (rd c 17 1) 0, retMask := BitVec.ofNat 32 (rd c 20 4)
        alarm := rd c 24 8, limit := if rd c 32 4 = 0 then 1000000 else rd c 32 4, since := s.tick, spilled := [], code := 4
        wakeSrc := 0, wakeAt := none, failed := false, phase := .quiesce } →
      (rd c 16 1 ≠ 1 → exec (.powerSleep src c) s = .next { v with sleep := l }) ∧
      (rd c 16 1 = 1 → exec (.powerSleep src c) s = .next { v with sleep := { l with phase := .entering, stage := 1 } })) ∧
    (s.sleep.phase = .quiesce → s.quiet = true →
      (s.sleep.wakeAt = none →
        exec .quiesceDone s = .next { s with sleep := { s.sleep with phase := .entering, stage := 1, code := 4 } }) ∧
      (s.sleep.wakeAt ≠ none → exec .quiesceDone s =
        .next ({ s with sleep := { s.sleep with phase := .entering, stage := 1, code := 4 } }.abandon))) ∧
    (s.sleep.phase ≠ .quiesce ∨ s.quiet = false → exec .quiesceDone s = .next s) ∧
    (s.sleep.phase = .quiesce → s.sleep.since + s.sleep.limit ≤ s.tick →
      exec .quiesceTimeout s = .next (s.sleepStop stPOWER_STATE 0)) ∧
    (s.sleep.phase ≠ .quiesce ∨ s.tick < s.sleep.since + s.sleep.limit → exec .quiesceTimeout s = .next s)

/-- COUNTERS_READ_COUNTERS, COUNTERS_READ_FAULTS and COUNTERS_CLEAR. `u` is the state behind the taking of the entry. -/
def Obligations.CounterCommandsAnswer : Prop :=
  ∀ (s u : State) (src : Src) (c : Bytes) (tk : Ticket), u = s.take src → tk = ticketOf src c →
    (s.accepts (.countersReadCounters src c) = true → rd c 16 8 = 0 →
      exec (.countersReadCounters src c) s = .next (u.only tk stOK 0
        (u.counter ⟨rd c 29 1, rd c 28 1, rd c 25 1 % 32, rd c 26 2⟩) s.tick)) ∧
    (s.accepts (.countersReadCounters src c) = true → rd c 16 8 ≠ 0 →
      exec (.countersReadCounters src c) s = .next ((u.defer tk).hfpIssue (srcTerr (srcMb src)) (.queryWrite tk (rd c 16 8)
        (le 8 s.tick ++ le 8 (u.clearTick (rd c 25 1 % 32) (rd c 29 1)) ++ le 4 (rd c 30 2) ++ le 4 (newestSeq (u.logOf src).1)
          ++ zeros 8 ++ (List.range (rd c 30 2)).flatMap (fun i =>
            le 8 (u.counter ⟨rd c 29 1, rd c 28 1 + i, rd c 25 1 % 32, rd c 26 2⟩))) s.tick (rd c 30 2)))) ∧
    (s.accepts (.countersReadFaults src c) = true → rd c 16 8 = 0 →
      (∀ r l, (u.logOf src).1 = r :: l → exec (.countersReadFaults src c) s = .next (u.only tk stOK 0
        (r.seq + 2 ^ 32 * r.cls + 2 ^ 40 * r.cause) r.tick)) ∧
      ((u.logOf src).1 = [] → exec (.countersReadFaults src c) s = .next (u.only tk stOK 0 0 0))) ∧
    (s.accepts (.countersReadFaults src c) = true → rd c 16 8 ≠ 0 → ∀ recs : List FaultRec,
      recs = ((u.logOf src).1.reverse.filter (fun r => rd c 32 4 ≤ r.seq)).take (rd c 30 2) →
      exec (.countersReadFaults src c) s = .next ((u.defer tk).hfpIssue (srcTerr (srcMb src)) (.queryWrite tk (rd c 16 8)
        (le 8 s.tick ++ le 8 (u.logOf src).2 ++ le 4 recs.length ++ le 4 (newestSeq (u.logOf src).1) ++ zeros 8
          ++ recs.flatMap FaultRec.bytes) s.tick recs.length))) ∧
    (s.accepts (.countersClear src c) = true →
      exec (.countersClear src c) s = .next ({ u with
        cnt := u.cnt.clear (rd c 16 1) (rd c 17 1) s.tick
        faults := if bit (rd c 18 1) 0 then u.faults.clearLogs (rd c 16 1) s.tick else u.faults }.only tk stOK 0 s.tick 0))

/-- STEP_PORT_CONFIG_SET, _RESUME and _QUERY on a live terrace: SET posts its settings for the next boundary, or answers what
its checks or the staging SRAM refuse; RESUME clears the halt; each answers the settings in force. -/
def Obligations.StepPortConfigActs : Prop :=
  ∀ (s u : State) (src : Src) (c : Bytes) (te : Terrace) (tk : Ticket), s.terrace (hTerr (cHandle c)) = some te →
    u = s.take src → tk = ticketOf src c →
    (s.accepts (.stepPortConfigSet src c) = true →
      (∀ st off, u.spSetChk te (cSpSet c) = some (st, off) →
        exec (.stepPortConfigSet src c) s = .next (u.refuse tk st off)) ∧
      (u.spSetChk te (cSpSet c) = none → s.cfg.stagingKiB < s.stagingUsed (hTerr (cHandle c)) + rd c 28 2 →
        exec (.stepPortConfigSet src c) s = .next (u.refuse tk stNO_RESOURCE noField)) ∧
      (u.spSetChk te (cSpSet c) = none → s.stagingUsed (hTerr (cHandle c)) + rd c 28 2 ≤ s.cfg.stagingKiB →
        exec (.stepPortConfigSet src c) s = .next ((u.modT (hTerr (cHandle c)) (fun x => { x with
          sp := { x.sp with posted := some (cSpSet c) } })).only tk stOK (cHandle c) te.sp.result0 te.sp.result1))) ∧
    (s.accepts (.stepPortConfigResume src c) = true → ∀ p : StepPort → StepPort,
      (p = fun x => if x.halted then { x with halted := false, failures := 0 } else x) →
      exec (.stepPortConfigResume src c) s = .next ((u.modT (hTerr (cHandle c)) (fun x => { x with sp := p x.sp })).only tk stOK
        (cHandle c) (p te.sp).result0 (p te.sp).result1)) ∧
    (s.accepts (.stepPortConfigQuery src c) = true →
      exec (.stepPortConfigQuery src c) s = .next (u.only tk stOK (cHandle c) te.sp.result0 te.sp.result1))

/-- POOL_CONFIG_CREATE, _ADD_RANGE and _DELETE on a live terrace. -/
def Obligations.PoolConfigActs : Prop :=
  ∀ (s u : State) (src : Src) (c : Bytes) (t : Nat) (tk : Ticket) (te : Terrace), u = s.take src → tk = ticketOf src c →
    t = hTerr (cHandle c) → s.terrace t = some te →
    (∀ st off, u.poolFail te c = some (st, off) →
      (s.accepts (.poolConfigCreate src c) = true → exec (.poolConfigCreate src c) s = .next (u.refuse tk st off)) ∧
      (s.accepts (.poolConfigAddRange src c) = true → exec (.poolConfigAddRange src c) s = .next (u.refuse tk st off)) ∧
      (s.accepts (.poolConfigDelete src c) = true → exec (.poolConfigDelete src c) s = .next (u.refuse tk st off))) ∧
    (u.poolFail te c = none →
      (∀ p : Pool, s.accepts (.poolConfigCreate src c) = true →
        p = ⟨s.genOf t tyPool 0, rd c 17 1, [cRun c], [], rd c 28 4⟩ →
        exec (.poolConfigCreate src c) s = .next ((u.modT t (fun te => { te with pool := some p })).only tk stOK
          (s.handleOf t tyPool 0) (runsCount [cRun c]) { te with pool := some p }.freePages)) ∧
      (∀ p q : Pool, s.accepts (.poolConfigAddRange src c) = true → te.pool = some p →
        q = { p with newRanges := p.newRanges ++ [cRun c], runs := p.runs + rd c 28 4 } →
        exec (.poolConfigAddRange src c) s = .next ((u.modT t (fun x => { x with pool := x.pool.map (fun p =>
          { p with newRanges := p.newRanges ++ [cRun c], runs := p.runs + rd c 28 4 }) })).only tk stOK
          (s.handleOf t tyPool 0) (runsCount q.all) { te with pool := some q }.freePages)) ∧
      (s.accepts (.poolConfigDelete src c) = true →
        exec (.poolConfigDelete src c) s = .next (((u.modT t (fun te => { te with pool := none })).bumpGen t tyPool 0).only tk
          stOK (s.handleOf t tyPool 0) 0 0)))

/-- OBJ_CREATE, OBJ_LOAD, OBJ_SEAL and OBJ_REPLACE: what each command does when it is taken, or which status it is refused
with; the rest of each is the answer of the fabric and of the memory port. That the image of OBJ_REPLACE is read as one operation
is the model's reading (log entry 116). -/
def Obligations.ObjectLoadingStarts : Prop :=
  ∀ (s u : State) (src : Src) (c : Bytes) (tk : Ticket) (g : Handle), u = s.take src → tk = ticketOf src c → g = cHandle c →
    (∀ (te : Terrace) (t : Nat), t = hTerr g → u.terrace t = some te →
      (s.accepts (.objCreate src c .error) = true → exec (.objCreate src c .error) s = .next (u.refuse tk stDATA_ERROR noField)) ∧
      ∀ b, s.accepts (.objCreate src c (.okay b)) = true →
        (∀ st off, u.headerChk te b (rd c 24 4) = some (st, off) →
          exec (.objCreate src c (.okay b)) s = .next (u.refuse tk st off)) ∧
        (∀ (h : Handle) (o : Obj), u.headerChk te b (rd c 24 4) = none → h = u.handleOf t (hdKind b) (te.freshObj t (hdKind b)) →
          o = { kind := hdKind b, gen := hGen h, state := osLOADING, overlay := hdOverlay b, uid := hdUid b, dep := hdDep b
                base := rd c 24 4, hint := rd c 28 1, cur := 0, nextVer := 1, versions := [], header := b, chunks := []
                t0Kib := 0, pinned := false, cold := rd c 28 1 = 3, t1Gone := false, ticket := none, sealing := none } →
          exec (.objCreate src c (.okay b)) s = .next ((u.modT t (fun te => { te with
            objs := te.objs.put (hKey h) o })).only tk stOK h (t1Bytes (hdLines b)) 0))) ∧
    (∀ o i, u.obj g = some o → osDESTROYING < o.state → i ∈ [Instr.objLoad src c, .objSeal src c, .objReplace src c] →
      s.accepts i = true → exec i s = .next (u.refuse tk stINTERNAL noField)) ∧
    ∀ o, u.obj g = some o → o.state ≤ osDESTROYING →
      (s.accepts (.objLoad src c) = true →
        (o.loadable = false → exec (.objLoad src c) s = .next (u.refuse tk stNOT_PERMITTED noField)) ∧
        (o.loadable = true → exec (.objLoad src c) s = .next (((u.first tk g).addTask (hTerr g) 3 4 (hIndex g) tk
          (.objLoad g (rd c 24 8) (rd c 32 4)) none).hfpIssue (hTerr g)
            (.taskRead (u.first tk g).nextId [(rd c 16 8, rd c 32 4)])))) ∧
      (s.accepts (.objSeal src c) = true →
        (o.loadable = false ∨ allLoaded o.chunks (hdSize o.hdr) = false →
          exec (.objSeal src c) s = .next (u.refuse tk stNOT_PERMITTED noField)) ∧
        (o.loadable = true → allLoaded o.chunks (hdSize o.hdr) = true →
          exec (.objSeal src c) s = .next (((u.modObj g (fun o => { o with
            state := if o.state = osLOADING then osSEALING else o.state, ticket := some tk
            sealing := some (rd c 16 1, rd c 24 8, rd c 32 4) })).defer tk).mpOwn (hTerr g) (.sealRead g)))) ∧
      (s.accepts (.objReplace src c) = true →
        (o.state ≠ osREADY ∨ (o.kind = tyVocab ∧ o.overlay = false) →
          exec (.objReplace src c) s = .next (u.refuse tk stNOT_PERMITTED noField)) ∧
        (o.state = osREADY → (o.kind ≠ tyVocab ∨ o.overlay = true) →
          exec (.objReplace src c) s = .next (((u.first tk g).addTask (hTerr g) 3 4 (hIndex g) tk
            (.objReplace g (rd c 24 1) (rd c 28 4) (rd c 32 8) (cExp c && bit (rd c 48 4) 0)) none).hfpIssue
              (hTerr g) (.taskRead (u.first tk g).nextId [(rd c 16 8, 0)]))))

/-- OBJ_DESTROY, OBJ_HINT, OBJ_QUERY and RELOAD_LIMIT_EXPIRY in every state of the object. T0_RESIDENT of an object that is not
pinned is a free value. A timer row before its tick changes nothing (log entry 24). -/
def Obligations.ObjectEndsHintsAndQueries : Prop :=
  ∀ (s u : State) (src : Src) (c : Bytes) (tk : Ticket) (g : Handle) (o : Obj) (te : Terrace), u = s.take src →
    tk = ticketOf src c → g = cHandle c →
    (∀ i, u.terrace (hTerr g) = some te → u.obj g = some o → osDESTROYING < o.state → i ∈ [Instr.objDestroy src c, .objHint src c] →
      s.accepts i = true → exec i s = .next (u.refuse tk stINTERNAL noField)) ∧
    (u.terrace (hTerr g) = some te → u.obj g = some o → o.state ≤ osDESTROYING → s.accepts (.objDestroy src c) = true →
      (te.isBase g = true → exec (.objDestroy src c) s = .next (u.refuse tk stNOT_PERMITTED noField)) ∧
      (te.isBase g = false → ∀ v : State, v = u.first tk g →
        (o.ostate = osLOADING →
          exec (.objDestroy src c) s = .next ((v.freeObj g).final tk stOK g 0 noField 0 0)) ∧
        (o.ostate = osLOST → exec (.objDestroy src c) s = .next
          (((v.forEach o.versions (fun s x => s.endUsers g x.num stOBJECT_LOST)).freeObj g).final tk stOK g 0 noField 0 0)) ∧
        (o.ostate ≠ osLOADING → o.ostate ≠ osLOST →
          exec (.objDestroy src c) s = .next ((v.modObj g (fun o => { o with
            state := osDESTROYING, ticket := some tk })).settleObj g)))) ∧
    (u.terrace (hTerr g) = some te → u.obj g = some o → o.state ≤ osDESTROYING → s.accepts (.objHint src c) = true →
      (o.state = osLOADING → exec (.objHint src c) s = .next ((u.modObj g (fun o => { o with
        hint := rd c 16 1, cold := rd c 16 1 = 3 })).only tk stOK g 0 0)) ∧
      (o.state ≠ osLOADING → rd c 16 1 = 1 → o.pinned = false → te.pinFits o.kind o.t0Need = false →
        exec (.objHint src c) s = .next (u.refuse tk stNO_RESOURCE noField)) ∧
      (o.state ≠ osLOADING → rd c 16 1 = 1 → o.t1Gone = false → o.pinned = false → te.pinFits o.kind o.t0Need = true →
        o.t0Need ≠ 0 → exec (.objHint src c) s = .next (((u.defer tk).modObj g (fun o => { o with
          ticket := some tk, hint := 1, cold := false })).pinFill g o)) ∧
      (o.state ≠ osLOADING → rd c 16 1 ≠ 3 → o.t1Gone = false →
        (rd c 16 1 = 1 → o.pinned = true ∨ (o.t0Need = 0 ∧ te.pinFits o.kind o.t0Need = true)) →
        exec (.objHint src c) s = .next (((u.defer tk).modObj g (fun o => { applyHint (rd c 16 1) o with
          ticket := none })).finish tk stOK g noField 0 0)) ∧
      (o.state ≠ osLOADING → rd c 16 1 ≠ 3 → (rd c 16 1 = 1 → o.pinned = true ∨ te.pinFits o.kind o.t0Need = true) →
        o.t1Gone = true → s.boot.t2Failed = true →
        exec (.objHint src c) s = .next (u.refuse tk stDATA_ERROR noField)) ∧
      (o.state ≠ osLOADING → rd c 16 1 ≠ 3 → (rd c 16 1 = 1 → o.pinned = true ∨ te.pinFits o.kind o.t0Need = true) →
        o.t1Gone = true → s.boot.t2Failed = false →
        exec (.objHint src c) s = .next (if te.t1Free < o.coldLines then u.refuse tk stNO_RESOURCE noField
          else ((u.modObj g (fun o => { o with ticket := some tk, t1Gone := false, promoting := true })).defer tk).flashAsk
            (.warmHint g tk (rd c 16 1)))) ∧
      (o.state ≠ osLOADING → rd c 16 1 = 3 → o.cold = true →
        exec (.objHint src c) s = .next ((u.modObj g (applyHint 3)).only tk stOK g 0 0)) ∧
      (o.state ≠ osLOADING → rd c 16 1 = 3 → o.cold = false → s.boot.t2Failed = true →
        exec (.objHint src c) s = .next (u.refuse tk stDATA_ERROR noField)) ∧
      (o.state ≠ osLOADING → rd c 16 1 = 3 → o.cold = false → s.boot.t2Failed = false →
        exec (.objHint src c) s = .next (if te.t2Fits (hdSize o.hdr)
          then ((u.modObj g (fun o => { o with ticket := some tk })).defer tk).flashAsk (.coldHint g tk)
          else u.refuse tk stNO_RESOURCE noField))) ∧
    (s.accepts (.objQuery src c) = true → u.obj g = some o →
      exec (.objQuery src c) s = .next ({ u with fresh := u.fresh + 1 }.only tk stOK g
        (o.ostate + 256 * (if o.cold then 2 else if o.pinned then 1 else 0) + 2 ^ 16 * o.cur + 2 ^ 32 * o.users)
        ((if o.pinned then o.t0Kib else if o.versions = [] then 0 else Config.t0Resident u.fresh % (hdT0 o.hdr + 1))
          + 2 ^ 32 * o.versions.length + 2 ^ 40 * o.hint))) ∧
    (∀ t i ver v, (s.terrace t).bind (fun te => te.objs.get i) = some o → o.ver ver = some v → v.quarantine = true →
      v.backing = 0 →
      (v.quarAt + 100 * (if v.limit = 0 then 100000 else v.limit) ≤ s.tick →
        exec (.reloadLimitExpiry t i ver) s = .next (s.loseVersion (mkHandle t (i / 2 ^ 18) (i % 2 ^ 18) o.gen) ver)) ∧
      (s.tick < v.quarAt + 100 * (if v.limit = 0 then 100000 else v.limit) →
        exec (.reloadLimitExpiry t i ver) s = .next s)) ∧
    ∀ t i ver, (∀ (x : Obj) (v : Version), (s.terrace t).bind (fun te => te.objs.get i) = some x → x.ver ver = some v →
      v.quarantine = false ∨ v.backing ≠ 0) → exec (.reloadLimitExpiry t i ver) s = .next s

/-- TOK, DETOK and TOK_DONE: FIRST is written, the version pinned and the text read, or a version that is not usable ends the
command; the end of TOK's task writes FINAL. The class of DETOK's task is the model's reading (log entry 40). -/
def Obligations.TokenizeAndDetokenizeStart : Prop :=
  ∀ (s u : State) (src : Src) (c : Bytes) (tk : Ticket) (v : Handle), u = s.take src → tk = ticketOf src c → v = cHandle c →
    (s.accepts (.tok src c) = true →
      (∀ st r0, u.usable [v] = some (st, r0) → exec (.tok src c) s = .next (u.complete tk kONLY st v 0 noField r0 0)) ∧
      (u.usable [v] = none →
        exec (.tok src c) s = .next ((((u.engage v).first tk v).addTask (hTerr v) 1 4 (hIndex v) tk
          (.tok v (u.curVer v) (rd c 24 8) (rd c 32 8) (rd c 44 4) (bit (rd c 43 1) 0)) none).hfpIssue (hTerr v)
            (.taskRead ((u.engage v).first tk v).nextId [(rd c 16 8, rd c 40 3)])))) ∧
    (s.accepts (.detok src c) = true →
      (∀ st r0, u.usable [v] = some (st, r0) → exec (.detok src c) s = .next (u.complete tk kONLY st v 0 noField r0 0)) ∧
      (u.usable [v] = none →
        exec (.detok src c) s = .next ((((u.engage v).first tk v).addTask (hTerr v) 1 4 (hIndex v) tk
          (.detok v (u.curVer v) (rd c 24 8) (rd c 36 4) (bit (rd c 40 1) 0) (bit (rd c 40 1) 1)) none).hfpIssue (hTerr v)
            (.taskRead ((u.engage v).first tk v).nextId [(rd c 16 8, 4 * rd c 32 4)])))) ∧
    (∀ id k vo ve oa fa cap rj, s.task id = some k → k.kind = .tok vo ve oa fa cap rj →
      (∀ st r0 r1 off, k.result = some (st, r0, r1, off) → k.outs = 0 → exec (.tokDone id) s =
        .next ((((s.chargeTask k).dropTask k.id).unpin vo ve).final k.ticket st k.ticket.handle 0 off r0 r1)) ∧
      (k.result = none ∨ k.outs ≠ 0 → exec (.tokDone id) s = .next s)) ∧
    ∀ id, (∀ k, s.task id = some k → ∀ vo ve oa fa cap rj, k.kind ≠ .tok vo ve oa fa cap rj) →
      exec (.tokDone id) s = .next s

/-- PACK and PAIR: every check in its order, then FIRST and the reading of the host text the descriptor names, which is skipped
where it names none. -/
def Obligations.PackAndPairStart : Prop :=
  ∀ (s u : State) (src : Src) (c : Bytes) (tk : Ticket) (te : Terrace) (pair : Bool) (row : HostRead → Instr), u = s.take src →
    tk = ticketOf src c → u.terrace (hTerr (cHandle c)) = some te →
    (row = if pair then fun x => .pair src c x else fun x => .pack src c x) →
    (∀ x st r0, s.accepts (row x) = true → u.usable [cHandle c, rd c 32 4, rd c 36 4] = some (st, r0) →
      exec (row x) s = .next (u.complete tk kONLY st (cHandle c) 0 noField r0 0)) ∧
    (∀ x st off, s.accepts (row x) = true → u.usable [cHandle c, rd c 32 4, rd c 36 4] = none →
      te.packHandles c = some (st, off) → exec (row x) s = .next (u.refuse tk st off)) ∧
    (s.accepts (row .error) = true → u.usable [cHandle c, rd c 32 4, rd c 36 4] = none → te.packHandles c = none →
      exec (row .error) s = .next (u.refuse tk stDATA_ERROR noField)) ∧
    ∀ d, s.accepts (row (.okay d)) = true → u.usable [cHandle c, rd c 32 4, rd c 36 4] = none → te.packHandles c = none →
      (∀ st off, te.packDesc pair c d = some (st, off) → exec (row (.okay d)) s = .next (u.refuse tk st off)) ∧
      ∀ (v : State) (k : TaskKind) (reads : List (Nat × Nat)), te.packDesc pair c d = none →
        v = (([cHandle c, rd c 32 4, rd c 36 4].filter (· ≠ 0)).foldl State.engage u).first tk (cHandle c) →
        k = .pack pair (cHandle c) (rd c 32 4) (rd c 36 4) (rd c 44 4) (u.curVer (cHandle c)) (u.curVer (rd c 32 4))
          (u.curVer (rd c 36 4)) (rd c 24 8) (rd c 40 4) (parseAsm d (te.slotNames (cHandle c))) →
        reads = asmReads d (te.slotNames (cHandle c)) true →
        (reads = [] → exec (row (.okay d)) s =
          .next (v.addTask (hTerr (cHandle c)) 2 4 (hIndex (cHandle c)) tk k (some []))) ∧
        (reads ≠ [] → exec (row (.okay d)) s =
          .next ((v.addTask (hTerr (cHandle c)) 2 4 (hIndex (cHandle c)) tk k none).hfpIssue (hTerr (cHandle c))
            (.taskRead v.nextId reads)))

/-- TOK_STREAM_OPEN, TOK_STREAM_PUT and TOK_STREAM_CLOSE, with each of their refusals. A close's own ONLY follows OPEN's FINAL.
The order within a stream is the model's reading (log entry 35). -/
def Obligations.TokenStreamCommandsAct : Prop :=
  ∀ (s u : State) (src : Src) (c : Bytes) (tk : Ticket) (g : Handle), u = s.take src → tk = ticketOf src c → g = cHandle c →
    (s.accepts (.tokStreamOpen src c) = true →
      (∀ st r0, u.usable [g] = some (st, r0) →
        exec (.tokStreamOpen src c) s = .next (u.complete tk kONLY st g 0 noField r0 0)) ∧
      ∀ te, u.usable [g] = none → u.terrace (hTerr g) = some te →
        (64 ≤ te.toks.length → exec (.tokStreamOpen src c) s = .next (u.refuse tk stNO_RESOURCE noField)) ∧
        ∀ (i : Nat) (h : Handle) (x : TokStream), te.toks.length < 64 → i = Tbl.fresh te.toks →
          h = u.handleOf (hTerr g) tyTok i →
          x = { gen := hGen h, ticket := { tk with handle := h }, vocab := g, ver := u.curVer g, dest := rd c 16 8
                kind := rd c 40 1, sync := rd c 24 4, release := rd c 28 4, w := rd c 32 2, o := rd c 34 2
                slots := rd c 36 4, prefer := rd c 41 1, reject := bit (rd c 42 1) 0, core := te.firstCore } →
          exec (.tokStreamOpen src c) s = .next (((u.modT (hTerr g) (fun te => { te with
            toks := te.toks.put i x })).engage g).first tk h)) ∧
    (∀ x, s.accepts (.tokStreamPut src c) = true → u.tokStream g = some x →
      (64 ≤ x.puts.length → exec (.tokStreamPut src c) s = .next (u.refuse tk stNO_RESOURCE noField)) ∧
      (x.puts.length < 64 → rd c 24 3 ≠ 0 →
        exec (.tokStreamPut src c) s = .next (((u.newId.modTok g (fun y => { y with
          puts := y.puts ++ [{ id := u.nextId, ticket := tk, text := none, docEnd := bit (rd c 27 1) 0, ready := false }] })).first tk g).hfpIssue (hTerr g)
            (.putRead g u.nextId (rd c 16 8) (rd c 24 3)))) ∧
      (x.puts.length < 64 → rd c 24 3 = 0 →
        exec (.tokStreamPut src c) s = .next (((u.newId.modTok g (fun y => { y with
          puts := y.puts ++ [{ id := u.nextId, ticket := tk, text := some [], docEnd := bit (rd c 27 1) 0, ready := false }] })).first tk g).addTask (hTerr g) 1 4
            (hIndex g) tk (.streamPut g u.nextId) (some [])))) ∧
    ∀ x, s.accepts (.tokStreamClose src c) = true → u.tokStream g = some x →
      (∀ e, x.err = some e → exec (.tokStreamClose src c) s = .next (((u.only tk stOK g 0 0).modT (hTerr g) (fun te => { te with
        toks := te.toks.del (hIndex g) })).bumpGen (hTerr g) tyTok (hIndex g))) ∧
      (x.err = none → bit (rd c 16 1) 0 = false →
        exec (.tokStreamClose src c) s = .next (((u.defer tk).modTok g (fun y => { y with
          closing := true, abandon := false, closer := some tk })).tokRun g)) ∧
      (x.err = none → bit (rd c 16 1) 0 = true →
        exec (.tokStreamClose src c) s = .next (((u.defer tk).modTok g (fun y => { y with
          closing := true, abandon := true, closer := some tk })).tokFail g none stCANCELLED 0 stCANCELLED stCANCELLED))

/-- REQ_SUBMIT: admitted, the entry is made and intake starts; each check, in its order, refuses it otherwise. The offset of an
input mismatch and the rounding of predictions are the model's readings (log entries 46 and 47). -/
def Obligations.RequestsAreAdmitted : Prop :=
  ∀ (s u : State) (src : Src) (c : Bytes) (tk : Ticket) (rd_ : SubmitReads) (te : Terrace) (b : Sub) (t i : Nat) (h : Handle)
    (r : Req) (row : Instr), u = s.take src → tk = ticketOf src c → t = hTerr (cHandle c) → row = .reqSubmit src c rd_ →
    s.accepts row = true → u.terrace t = some te → b = mkSub c rd_ → i = Tbl.fresh te.reqs → h = u.handleOf t tyReq i →
    r = u.mkReq te src b h (s.arrival src) →
    (subReadError rd_ = true → exec row s = .next (u.refuse tk stDATA_ERROR noField)) ∧
    (subReadError rd_ = false →
      (∀ st off, u.subChk2 te src b = some (st, off) → exec row s = .next (u.refuse tk st off)) ∧
      (u.subChk2 te src b = none →
        (∀ st off r0, te.subTokens (u.curVer b.vocab) b = some (st, off, r0) →
          exec row s = .next (u.complete tk kONLY st (cHandle c) 0 off r0 0)) ∧
        (te.subTokens (u.curVer b.vocab) b = none →
          (∀ st off, te.subChk3 b = some (st, off) → exec row s = .next (u.refuse tk st off)) ∧
          (te.subChk3 b = none →
            (∀ st r0, u.subChk4 te b = some (st, r0) →
              exec row s = .next ((u.admitFail t st).complete tk kONLY st (cHandle c) 0 noField r0 0)) ∧
            (u.subChk4 te b = none →
              (∀ st r0, u.admission te i h r = .error (st, r0) → exec row s = .next
                (((u.stopFull te i h r).admitFail t st).complete tk kONLY st (cHandle c) 0 noField r0 0)) ∧
              ∀ reg moved, u.admission te i h r = .ok (reg, moved) →
                exec row s = .next ((((b.objects.filter (· ≠ 0)).foldl State.engage
                  (((u.modT t (fun te => { te.modRegion rkSTOP (fun _ => reg) with
                    reqs := te.reqs.put i r
                    starters := if r.starter = 0 then te.starters
                      else te.starters.mod (hIndex r.starter) (fun x => { x with users := x.users + 1 }) })).count cRIDDLE_MOVE t
                        te.quadLoc moved).tally cREQ_ADMITTED t)).first tk h).startIntake h b
                      (te.slotNames (rqTemplate b.d)))))))) ∧
    r.state = rsADMIT_WAIT ∧ r.priority = rd c 44 1 ∧ r.maxNew = rd c 32 4 ∧ r.vocab = cHandle c ∧ r.profile = rd c 24 4 ∧
    r.stream = rd c 28 4 ∧ r.tag = cTag c ∧ r.stops = b.stops ∧ r.arrival = s.arrival src ∧
    r.dlFirst = (if rd c 36 4 = 0 then 0 else s.arrival src + rd c 36 4) ∧
    r.dlEnd = (if rd c 40 4 = 0 then 0 else s.arrival src + rd c 40 4) ∧
    r.promptLen = te.starterLen (rqStarter b.d) + te.promptBound b

/-- INTAKE_COMPLETE of a request of any input kind: the entry moves to QUEUED with its prompt and its grammar's start state, or
ends with the status of what failed; before its intake is ready nothing happens. That a failure's record follows at the next
boundary is the model's reading (log entry 49). -/
def Obligations.IntakeCompletes : Prop :=
  (∀ (s : State) (t idx : Nat), (∀ x r, s.terrace t = some x → x.reqs.get idx = some r → r.build ≠ none) →
    exec (.intakeComplete t idx) s = .next s) ∧
  ∀ (s : State) (t idx : Nat) (te : Terrace) (r : Req) (h : Handle) (core : Nat) (v : State),
    s.terrace t = some te → te.reqs.get idx = some r → r.build = none → h = mkHandle t tyReq idx r.gen →
    core = ((s.tasks.find? (Task.isIntake h)).bind (·.core)).getD te.firstCore →
    v = s.promptCount t core (te.promptTokens r) →
    (r.state ≠ rsADMIT_WAIT ∨ r.cancel = true ∨ s.intakeReady h r = false → exec (.intakeComplete t idx) s = .next s) ∧
    (r.state = rsADMIT_WAIT → r.cancel = false → s.intakeReady h r = true →
      (∀ st off x, (te.promptTokens r).fail = some (st, off, x) →
        exec (.intakeComplete t idx) s = .next (v.intakeFail h st off)) ∧
      ∀ ts n, (te.promptTokens r).fail = none → ts = (te.promptTokens r).toks → n = te.starterLen r.starter + ts.length →
        (∀ st off, r.promptFail n = some (st, off) → exec (.intakeComplete t idx) s = .next (v.intakeFail h st off)) ∧
        (r.promptFail n = none → ∀ (y : State) (start : Nat),
          start = ((te.automaton r.grammar r.pins.grammar).map (fun a => if r.grammar = 0 then 0 else gStart a.1.header)).getD 0 →
          y = (v.stopIntake h).modReq h (fun r => { r with
              state := rsQUEUED, prompt := ts, promptLen := te.starterLen r.starter + ts.length, gstate := start, intake := .none }) →
          exec (.intakeComplete t idx) s = .next (if start = 0 then y
            else y.maskFill r.grammar r.pins.grammar start (y.aheadBay t r) 0) ∧
          (t < 16 → idx < 2 ^ 18 → r.gen < 64 → ∃ (te' : Terrace) (r' : Req), y.terrace t = some te' ∧
            te'.reqs.get idx = some r' ∧ r'.state = rsQUEUED ∧ r'.prompt = ts ∧ r'.promptLen = n ∧ r'.gstate = start ∧
            r'.priority = r.priority ∧ ∀ k, k ≠ idx → te'.reqs.get k = te.reqs.get k)))

/-- REQ_CANCEL, REQ_AMEND and REQ_QUERY: the mark is set and the request's intake stops; the change waits for the next boundary;
the entry's 64 bytes are answered or written. The page root in them is a free value. When CANCEL_PENDING shows in the
entry is the model's reading (log entry 29). -/
def Obligations.RequestCommandsAnswer : Prop :=
  ∀ (s u : State) (src : Src) (c : Bytes) (tk : Ticket) (h : Handle), u = s.take src → tk = ticketOf src c → h = cHandle c →
    (s.accepts (.reqCancel src c) = true → ∀ w : State,
      w = (u.stopIntake h).modReq h (fun r => { r with cancel := true }) →
      exec (.reqCancel src c) s = .next (w.only tk stOK h 0 0) ∧
      w.req h = (u.req h).map (fun r => { r with cancel := true }) ∧ w.mbs = u.mbs ∧ w.hfp = u.hfp ∧ w.sb = u.sb ∧
      (∀ k ∈ w.tasks, k ∈ u.tasks ∧ k.kind ≠ .intake h) ∧
      ∀ n te, u.terrace n = some te → ∃ te', w.terrace n = some te' ∧ (n ≠ hTerr h → te'.reqs = te.reqs) ∧
        te' = { te with reqs := te'.reqs, used := te'.used, usedAt := te'.usedAt, pantry := te'.pantry }) ∧
    (s.accepts (.reqAmend src c) = true →
      exec (.reqAmend src c) s = .next ((u.first tk h).modReq h (fun r => { r with amends := r.amends ++
        [{ ticket := { tk with handle := h }, mask := rd c 16 1 % 16, priority := rd c 17 1, dlFirst := rd c 24 8
           dlEnd := rd c 32 8, maxNew := rd c 40 4, setDrop := cExp c && bit (rd c 48 4) 0, drop := bit (rd c 48 4) 1 }] }))) ∧
    ∀ r, s.accepts (.reqQuery src c) = true → u.req h = some r → ∀ (b : Bytes) (r0 r1 : Nat), b = r.entry h →
      r0 = rd b 4 1 + 256 * rd b 6 1 + 2 ^ 16 * rd b 7 1 + 2 ^ 32 * rd b 32 4 → r1 = rd b 16 4 + 2 ^ 32 * rd b 44 4 →
      (rd c 16 8 = 0 → exec (.reqQuery src c) s = .next (u.only tk stOK h r0 r1)) ∧
      (rd c 16 8 ≠ 0 → exec (.reqQuery src c) s = .next ((u.defer tk).hfpIssue (hTerr h) (.queryWrite tk (rd c 16 8) b r0 r1)))

/-- STARTER_CREATE_SPAN, STARTER_CREATE_FROM_REQUEST and STARTER_RELEASE: a SPAN matches a Starter of the same digest or starts a
build that holds a request entry; a Starter from a request waits for its capture; a release gives the holder's hold back or
cancels the build. Each check, in its order, refuses otherwise. The points R313 to R316 leave open are the model's readings (log
entry 54). -/
def Obligations.StarterCommandsAct : Prop :=
  ∀ (s u : State) (src : Src) (c : Bytes) (tk : Ticket) (v : Handle) (t : Nat) (te : Terrace), u = s.take src →
    tk = ticketOf src c → v = cHandle c → t = hTerr v → u.terrace t = some te →
    (∀ (x : HostRead) (y : State), s.accepts (.starterCreateSpan src c x) = true → y = u.heal t →
      (∀ st r0, u.usable [v] = some (st, r0) →
        exec (.starterCreateSpan src c x) s = .next (u.complete tk kONLY st v 0 noField r0 0)) ∧
      (u.usable [v] = none → te.pool = none →
        exec (.starterCreateSpan src c x) s = .next (y.refuse tk stNOT_PERMITTED noField)) ∧
      (u.usable [v] = none → te.pool ≠ none → x = .error →
        exec (.starterCreateSpan src c x) s = .next (y.refuse tk stDATA_ERROR noField)) ∧
      ∀ (b : Bytes) (vb : Vocab) (ts : List Tok), u.usable [v] = none → te.pool ≠ none → x = .okay b →
        te.vocab v (y.curVer v) = some vb → ts = (toTokens b).take (rd c 32 4) →
        (∀ p, badToken vb ts = some p →
          exec (.starterCreateSpan src c x) s = .next (y.complete tk kONLY stBAD_FIELD v 0 24 p 0)) ∧
        ∀ (d : Bytes) (f : State × Option Nat), badToken vb ts = none → d = te.digestOf v (y.curVer v) ts →
          f = y.findStarter t d →
          (∀ i, f.2 = some i →
            (f.1.matchStarter t i = none →
              exec (.starterCreateSpan src c x) s = .next (f.1.refuse tk stNO_RESOURCE noField)) ∧
            ∀ w, f.1.matchStarter t i = some w →
              exec (.starterCreateSpan src c x) s = .next ((w.first tk (w.handleOf t tyStarter i)).starterFinal t i
                { tk with handle := w.handleOf t tyStarter i } true)) ∧
          (f.2 = none →
            (∀ st r0, f.1.spanFail te ts.length = some (st, r0) →
              exec (.starterCreateSpan src c x) s = .next (f.1.complete tk kONLY st v 0 noField r0 0)) ∧
            ∀ (i j ver : Nat) (h : Handle), f.1.spanFail te ts.length = none → i = Tbl.fresh te.starters →
              j = Tbl.fresh te.reqs → ver = f.1.curVer v → h = f.1.handleOf t tyStarter i →
              exec (.starterCreateSpan src c x) s = .next ((((f.1.modT t (fun tf => { tf with
                starters := tf.starters.put i { gen := hGen h, state := stBUILDING, holds := 1, users := 0, vocab := v, ver := ver
                                                toks := ts, link := none, runs := [], digest := d
                                                ticket := some { tk with handle := h }, fromReq := none, cancel := false }
                reqs := tf.reqs.put j { gen := f.1.genOf t tyReq j, state := rsQUEUED, priority := rd c 17 1
                                        promptLen := ts.length, maxNew := 0, arrival := f.1.tick, vocab := v
                                        pins := { vocab := ver }, prompt := ts, ticket := { tk with handle := h }, build := some i
                                        pageNeed := ceilDiv ts.length te.pageSize } })).engage v).pinStarter v ver).first
                  { tk with handle := h } h))) ∧
    (∀ (q : Handle) (r : Req), s.accepts (.starterCreateFromRequest src c) = true → q = rd c 20 4 → u.req q = some r →
      (te.pool = none → exec (.starterCreateFromRequest src c) s = .next (u.refuse tk stNOT_PERMITTED noField)) ∧
      (te.pool ≠ none → r.vocab ≠ v → exec (.starterCreateFromRequest src c) s = .next (u.refuse tk stBAD_FIELD 20)) ∧
      (te.pool ≠ none → r.vocab = v → r.capture ≠ none →
        exec (.starterCreateFromRequest src c) s = .next (u.refuse tk stNOT_PERMITTED noField)) ∧
      (te.pool ≠ none → r.vocab = v → r.capture = none → r.starter ≠ 0 → 8 ≤ te.chainLen (hIndex r.starter) →
        exec (.starterCreateFromRequest src c) s = .next (u.refuse tk stBAD_FIELD 20)) ∧
      (te.pool ≠ none → r.vocab = v → r.capture = none → (r.starter = 0 ∨ te.chainLen (hIndex r.starter) < 8) →
        (te.desc.starterQuota ≤ te.starters.length →
          exec (.starterCreateFromRequest src c) s = .next (u.refuse tk stNO_RESOURCE noField)) ∧
        ∀ (i : Nat) (h : Handle), te.starters.length < te.desc.starterQuota → i = Tbl.fresh te.starters →
          h = u.handleOf t tyStarter i →
          exec (.starterCreateFromRequest src c) s = .next (((((u.modT t (fun te => { te with starters := (te.starters.put i
            { gen := hGen h, state := stBUILDING, holds := 1, users := 0, vocab := r.vocab, ver := r.pins.vocab, toks := []
              link := none, runs := [], digest := [], ticket := some { tk with handle := h }
              fromReq := some (hIndex q), cancel := false }) })).modReq q (fun r =>
                { r with capture := some (i, rd c 32 4, { tk with handle := h }) })).pinStarter r.vocab r.pins.vocab).first
                  { tk with handle := h } h)))) ∧
    ∀ (i : Nat) (x : Starter) (y : State), s.accepts (.starterRelease src c) = true → i = te.starterIx (hIndex v) →
      te.starters.get i = some x → y = u.only tk stOK v (x.holds - 1) x.users →
      (x.state = stBUILDING → exec (.starterRelease src c) s = .next (y.cancelBuild t i x)) ∧
      (x.state ≠ stBUILDING → exec (.starterRelease src c) s = .next (y.dropHold t i x))

/-- STREAM_OPEN, STREAM_CLOSE, STREAM_CREDIT and STREAM_COAL_TIMER. A timer row before its tick changes nothing (log entry
24). -/
def Obligations.StreamCommandsAct : Prop :=
  ∀ (s u : State) (src : Src) (c : Bytes) (tk : Ticket) (t : Nat), u = s.take src → tk = ticketOf src c → t = hTerr (cHandle c) →
    (∀ te i, s.accepts (.streamOpen src c) = true → u.terrace t = some te → i = Tbl.fresh te.streams →
      (te.streams.length < 256 → exec (.streamOpen src c) s = .next ((u.modT t (fun te => { te with streams := (te.streams.put i
        { gen := hGen (u.handleOf t tyStream i), ring := rd c 16 8, log2 := rd c 24 1, irqEn := bit (rd c 25 1) 0
          ctrl := bit (rd c 25 1) 1, coalCount := rd c 26 2, coalTime := rd c 28 2, sync := rd c 32 4 }) })).only
            tk stOK (u.handleOf t tyStream i) 0 0)) ∧
      (256 ≤ te.streams.length → exec (.streamOpen src c) s = .next (u.refuse tk stNO_RESOURCE noField))) ∧
    (s.accepts (.streamClose src c) = true →
      exec (.streamClose src c) s = .next (((u.first tk (cHandle c)).modStream (cHandle c) (fun x =>
        { x with closing := some tk })).settleStream (cHandle c))) ∧
    (∀ x, s.accepts (.streamCredit src c) = true → u.rstream (cHandle c) = some x →
      exec (.streamCredit src c) s = .next (((u.modStream (cHandle c) (fun x =>
        { x with consumed := rd c 16 8, creditAt := u.tick })).only tk stOK (cHandle c) x.produced
          (2 ^ x.log2 - (x.produced - rd c 16 8))).runStream (cHandle c))) ∧
    (∀ n idx x h, (s.terrace n).bind (fun te => te.streams.get idx) = some x → h = mkHandle n tyStream idx x.gen →
      s.rstream h = some x →
      (x.irqEn = true → 0 < x.unann → x.coalTime ≠ 0 → x.firstAt + 16 * x.coalTime ≤ s.tick →
        exec (.streamCoalTimer n idx) s = .next ((s.modStream h (fun y => { y with unann := 0 })).raise (hTerr h))) ∧
      (x.irqEn = false ∨ x.unann = 0 ∨ x.coalTime = 0 ∨
        ((x.unann < max 1 x.coalCount ∨ (x.coalCount ≤ 1 ∧ x.out ≠ 0)) ∧ s.tick < x.firstAt + 16 * x.coalTime) →
        exec (.streamCoalTimer n idx) s = .next s)) ∧
    ∀ n idx, (s.terrace n).bind (fun te => te.streams.get idx) = none → exec (.streamCoalTimer n idx) s = .next s

/-- SYNC_CREATE, SYNC_SIGNAL_ADD, SYNC_SIGNAL_ADVANCE_TO, SYNC_WAIT, SYNC_WAIT_TIMEOUT and SYNC_DESTROY. A signal is noted when it
is taken and acts when its tick ends, behind the block's own changes, and time-outs act behind the signals (the model's reading,
log entry 135): the clauses on `applySignal`, `syncTimeout` and `syncTick` say what they do then. What a wait's ONLY and its
CANCELLED FINAL show, and that a stream ended by an error is not open, are the model's choices (log entry 136). -/
def Obligations.SyncCommandsAct : Prop :=
  ∀ (s u : State) (src : Src) (c : Bytes) (tk : Ticket) (h : Handle) (t : Nat), u = s.take src → tk = ticketOf src c →
    h = cHandle c → t = hTerr h →
    (∀ te i, s.accepts (.syncCreate src c) = true → u.terrace t = some te → i = Tbl.fresh te.syncs →
      (te.syncs.length < te.desc.syncQuota → exec (.syncCreate src c) s = .next ((u.modT t (fun te => { te with
        syncs := (te.syncs.put i ⟨hGen (u.handleOf t tySync i), rd c 16 8, rd c 32 1, rd c 24 8, false, []⟩) })).only tk stOK
          (u.handleOf t tySync i) 0 0)) ∧
      (te.desc.syncQuota ≤ te.syncs.length → exec (.syncCreate src c) s = .next (u.refuse tk stNO_RESOURCE noField))) ∧
    (s.accepts (.syncSignalAdd src c) = true →
      exec (.syncSignalAdd src c) s = .next { u.defer tk with signals := u.signals ++ [⟨tk, h, 0, rd c 16 8⟩] }) ∧
    (s.accepts (.syncSignalAdvanceTo src c) = true →
      exec (.syncSignalAdvanceTo src c) s = .next { u.defer tk with signals := u.signals ++ [⟨tk, h, 1, rd c 16 8⟩] }) ∧
    (∀ (g : Signal) (x : SyncObj), s.sync g.handle = some x →
      (x.err = true → s.applySignal g = s.finish g.ticket stDATA_ERROR g.ticket.handle noField 0 0) ∧
      (x.err = false → g.mode = 0 → 2 ^ 64 ≤ x.value + g.value →
        s.applySignal g = s.finish g.ticket stBAD_FIELD g.ticket.handle 16 0 0) ∧
      ∀ v, x.err = false → (v = if g.mode = 0 then x.value + g.value else max x.value g.value) → (g.mode = 0 → v < 2 ^ 64) →
        s.applySignal g = ((if v = x.value then s else s.syncSet g.handle v).finish g.ticket stOK g.handle noField v 0).tokRunAll
          (hTerr g.handle)) ∧
    (∀ x, s.accepts (.syncWait src c) = true → u.sync h = some x →
      (x.err = true → exec (.syncWait src c) s = .next (u.refuse tk stDATA_ERROR noField)) ∧
      (x.err = false → rd c 16 8 ≤ x.value → exec (.syncWait src c) s = .next (u.only tk stOK h x.value 0)) ∧
      (x.err = false → x.value < rd c 16 8 → x.waiters.length < 256 →
        exec (.syncWait src c) s = .next ((u.modSync h (fun y => { y with
          waiters := y.waiters ++ [⟨tk, rd c 16 8, rd c 24 8⟩] })).first tk h)) ∧
      (x.err = false → x.value < rd c 16 8 → 256 ≤ x.waiters.length →
        exec (.syncWait src c) s = .next (u.refuse tk stNO_RESOURCE noField))) ∧
    (∀ n idx, exec (.syncWaitTimeout n idx) s = .next { s with syncEnds := s.syncEnds ++ [(n, idx)] }) ∧
    (∀ n idx x g, (s.terrace n).bind (fun te => te.syncs.get idx) = some x → g = mkHandle n tySync idx x.gen →
      s.syncTimeout n idx = (s.modSync g (fun y => { y with
        waiters := y.waiters.filter (fun w => !(w.timeout ≠ 0 && w.timeout ≤ s.tick)) })).forEach
          (x.waiters.filter (fun w => w.timeout ≠ 0 && w.timeout ≤ s.tick)) (fun s w =>
            s.final w.ticket stOK g 0 noField x.value 1)) ∧
    s.syncTick = ({ s with signals := [], syncEnds := [] }.forEach s.signals State.applySignal).forEach s.syncEnds
      (fun s x => s.syncTimeout x.1 x.2) ∧
    ∀ te, s.accepts (.syncDestroy src c) = true → u.terrace t = some te →
      (te.syncNamed h = true → exec (.syncDestroy src c) s = .next (u.refuse tk stNOT_PERMITTED noField)) ∧
      (te.syncNamed h = false → exec (.syncDestroy src c) s = .next ((((u.syncCancel h).modT t (fun te =>
        { te with syncs := te.syncs.del (hIndex h) })).bumpGen t tySync (hIndex h)).only tk stOK h 0 0))

/-- SB_PRIVATE_WRITE, SB_GO and SB_ACK. Each byte of a private write acts at its own address. That each row is an access to the
block's own address is the model's reading (log entry 101). -/
def Obligations.SidebandRegisters : Prop :=
  ∀ s : State,
    (∀ ptr : Byte, exec (.sbPrivateWrite ptr []) s = .next { s with sb := { s.sb with ptr := ptr } }) ∧
    (∀ (ptr : Byte) (data : Bytes), ∃ u : State, exec (.sbPrivateWrite ptr data) s = .next u ∧ u.sb.ptr = ptr) ∧
    (∀ (ptr : Byte) (data : Bytes) (v : Byte) (u : State) (a : Nat), exec (.sbPrivateWrite ptr data) s = .next u →
      a = (ptr.toNat + data.length) % 256 →
      (a < 64 → u.sb.busy = false → exec (.sbPrivateWrite ptr (data ++ [v])) s = .next { u with
        sb := { u.sb with cmd := setAt a (fun _ => v) u.sb.cmd } }) ∧
      (a = 64 → v = 1 → exec (.sbPrivateWrite ptr (data ++ [v])) s = exec .sbGo u) ∧
      (a = 64 → v = 2 → exec (.sbPrivateWrite ptr (data ++ [v])) s = exec .sbAck u) ∧
      ((a < 64 → u.sb.busy = true) → (a = 64 → v ≠ 1 ∧ v ≠ 2) → exec (.sbPrivateWrite ptr (data ++ [v])) s = .next u)) ∧
    (∀ (ptr : Byte) (data : Bytes), s.sb.cmd.length = 64 → ptr.toNat + data.length ≤ 64 →
      ∃ cmd : Bytes, exec (.sbPrivateWrite ptr data) s = .next { s with sb := { s.sb with ptr := ptr, cmd := cmd } } ∧
        cmd = if s.sb.busy then s.sb.cmd
          else s.sb.cmd.take ptr.toNat ++ data ++ s.sb.cmd.drop (ptr.toNat + data.length)) ∧
    (s.sb.busy = false → s.sb.done = false → s.tap.erasing = none → s.boot.step ≠ .failed →
      exec .sbGo s = .next { s with sb := { s.sb with busy := true, queued := true, goAt := s.tick, refused := false } }) ∧
    (s.sb.busy = true ∨ s.sb.done = true ∨ s.tap.erasing.isSome = true ∨ s.boot.step = .failed →
      exec .sbGo s = .next { s with sb := { s.sb with refused := true } }) ∧
    exec .sbAck s = .next { s with sb := { s.sb with done := false } }

/-- ENTDAA, SETDASA, SETNEWDA, RSTDAA, GETPID, GETBCR, GETDCR and GETSTATUS. That each row is an access to the block's own
address is the model's reading (log entry 101). -/
def Obligations.SidebandAddressing : Prop :=
  ∀ (s : State) (stat addr : BitVec 7) (id : Nat),
    id = 0x0D9E * 2 ^ 33 + 0x4B44 * 2 ^ 16 + s.fuses.sbInstance.toNat * 2 ^ 12 + 0x072 →
    exec (.entdaa addr) s = .next { s with sb := { s.sb with answer := be 6 id ++ [0, 0], dynAddr := addr, dynValid := true } } ∧
    exec (.setdasa stat addr) s = .next (if s.lcs.otpValid = true ∧ s.fuses.sbValid = true ∧ stat = s.fuses.sbStatic then
      { s with sb := { s.sb with dynAddr := addr, dynValid := true } } else s) ∧
    exec (.setnewda addr) s = .next (if s.sb.dynValid = true then { s with sb := { s.sb with dynAddr := addr } } else s) ∧
    exec .rstdaa s = .next { s with sb := { s.sb with dynAddr := 0, dynValid := false } } ∧
    exec .getpid s = .next { s with sb := { s.sb with answer := be 6 id } } ∧
    exec .getbcr s = .next { s with sb := { s.sb with answer := [0] } } ∧
    exec .getdcr s = .next { s with sb := { s.sb with answer := [0] } } ∧
    exec .getstatus s = .next { s with sb := { s.sb with answer := [0, 0] } }

/-- IDCODE, BYPASS, DBG_ACCESS, DBG_CLOSE and TRST_N. What a read of the window answers is a free value. -/
def Obligations.TapInstructionsAnswer : Prop :=
  ∀ s : State,
    exec .idcode s = .next { s with tap := { s.tap with ir := 0x01, dr := 0x74B4454F } } ∧
    exec .bypass s = .next { s with tap := { s.tap with ir := 0xFF, dr := 0 } } ∧
    (∀ dr : BitVec 128,
      (s.lcs.debugOpen = true → dr.toNat % 4 = 2 → dr.toNat / 4 % 2 ^ 30 < 0x20000 →
        exec (.dbgAccess dr) s = .next { s with tap := { s.tap with ir := 0x13, dr := 0
                                                                    window := (dr.toNat / 4 % 2 ^ 30,
          BitVec.ofNat 32 (dr.toNat / 2 ^ 32)) :: s.tap.window } }) ∧
      (s.lcs.debugOpen = true → dr.toNat % 4 = 1 → dr.toNat / 4 % 2 ^ 30 < 0x20000 →
        exec (.dbgAccess dr) s = .next { s with fresh := s.fresh + 1, tap := { s.tap with
          ir := 0x13, dr := BitVec.ofNat 256 (2 ^ 32 * (Config.debugWindow s.fresh).toNat) } }) ∧
      (s.lcs.debugOpen = true → dr.toNat % 4 = 1 ∨ dr.toNat % 4 = 2 → 0x20000 ≤ dr.toNat / 4 % 2 ^ 30 →
        exec (.dbgAccess dr) s = .next { s with tap := { s.tap with ir := 0x13, dr := BitVec.ofNat 256 (2 ^ 64) } }) ∧
      (s.lcs.debugOpen = true → dr.toNat % 4 = 0 ∨ dr.toNat % 4 = 3 →
        exec (.dbgAccess dr) s = .next { s with tap := { s.tap with ir := 0x13, dr := 0 } }) ∧
      (s.lcs.debugOpen = false → exec (.dbgAccess dr) s = .next { s with tap := { s.tap with ir := 0xFF, dr := 0 } })) ∧
    (s.lcs.debugOpen = false → exec .dbgClose s = .next { s with tap := { s.tap with ir := 0xFF, dr := 0 } } ∧
      exec .trstN s = .next { s with tap := { s.tap with ir := 0x01, dr := 0 } }) ∧
    (s.lcs.debugOpen = true →
      exec .dbgClose s = .next ({ s with tap := { s.tap with ir := 0x14, dr := 0 }
                                         lcs := { s.lcs with debugOpen := false } }.raise 22) ∧
      exec .trstN s = .next ({ s with tap := { s.tap with ir := 0x01, dr := 0 }
                                      lcs := { s.lcs with debugOpen := false } }.raise 22))

/-- DBG_STATUS: only the TAP's instruction and data register change, and the data register holds the layout of R525, read back
field by field, and DEVICE_UID behind it. -/
def Obligations.DebugStatusWordIsRead : Prop :=
  ∀ s : State, ∃ dr, exec .dbgStatus s = .next { s with tap := { s.tap with ir := 0x10, dr := dr } } ∧
    (s.lcs.state < 8 → s.tap.attempts ≤ 3 → s.tap.result < 16 → s.fuses.uid.length = 16 →
      (dr.extractLsb' 0 3).toNat = s.lcs.state ∧ dr.getLsbD 3 = s.lcs.debugOpen ∧
      dr.getLsbD 4 = s.tap.nonce.isSome ∧ (dr.extractLsb' 5 2).toNat = s.tap.attempts ∧
      dr.getLsbD 7 = s.tap.locked ∧ (dr.extractLsb' 8 4).toNat = s.tap.result ∧
      (dr.extractLsb' 12 20).toNat = 0 ∧ (dr.extractLsb' 32 128).toNat = leVal 16 s.fuses.uid)

/-- DBG_CHALLENGE, DBG_RESPONSE and DEBUG_ERASE_DONE in every state. A nonce is a free value. The codes of closed states and the
tick at which the erasure's effect stands are the model's readings (log entries 99 and 100). -/
def Obligations.DebugOpening : Prop :=
  ∀ s v : State, v = { s with tap := { s.tap with ir := 0x12, dr := 0 } } →
    (∀ r : Nat → State, (∀ k, r k = { s with tap := { s.tap with ir := 0x11, dr := 0, result := k } }) →
      (s.lcs.state = lcSCRAPPED ∨ s.lcs.state = lcINVALID →
        exec .dbgChallenge s = .next { s with tap := { s.tap with ir := 0xFF, dr := 0, result := 8 } }) ∧
      (s.lcs.state ≠ lcSCRAPPED → s.lcs.state ≠ lcINVALID →
        (s.lcs.ready = false → exec .dbgChallenge s = .next (r 6)) ∧
        (s.lcs.ready = true → s.clocked = false → exec .dbgChallenge s = .next (r 5)) ∧
        (s.lcs.ready = true → s.clocked = true → s.spring.failed = true → exec .dbgChallenge s = .next (r 7)) ∧
        (s.lcs.ready = true → s.clocked = true → s.spring.failed = false →
          ∃ n : BitVec 256, n = saltAt s.fresh ++ saltAt (s.fresh + 2) ∧
            exec .dbgChallenge s = .next ({ s with fresh := s.fresh + 4, tap := { s.tap with
              ir := 0x11, dr := n, nonce := some (n, s.tick) } }.tally cDEBUG_CHALLENGE noTerr)))) ∧
    (∀ dr,
      (s.lcs.otpValid = false ∨ s.lcs.state = lcSCRAPPED ∨ s.lcs.state = lcINVALID →
        exec (.dbgResponse dr) s = .next { s with tap := { s.tap with ir := 0xFF, dr := 0, result := 8 } }) ∧
      (s.lcs.otpValid = true → s.lcs.state ≠ lcSCRAPPED → s.lcs.state ≠ lcINVALID →
        (s.lcs.debugOpen = true ∨ s.tap.erasing.isSome = true → exec (.dbgResponse dr) s = .next v) ∧
        (s.lcs.debugOpen = false → s.tap.erasing = none →
          (s.lcs.state ≠ lcPROVISIONED → s.lcs.state ≠ lcDEPLOYED →
            exec (.dbgResponse dr) s = .next ((v.openPort false).dbgResult 1)) ∧
          (s.lcs.state = lcPROVISIONED ∨ s.lcs.state = lcDEPLOYED → ∀ w : State,
            w = { v with tap := { v.tap with nonce := none } } →
            (s.tap.locked = true → exec (.dbgResponse dr) s = .next w) ∧
            (∀ r, s.tap.locked = false → v.responseChk dr = some r →
              exec (.dbgResponse dr) s = .next (w.responseFail r) ∧ (w.responseFail r).terr = s.terr ∧
              (w.responseFail r).lcs = s.lcs ∧ (w.responseFail r).tap = { w.tap with
                result := r, attempts := s.tap.attempts - (if 2 ≤ r ∧ r ≤ 4 then 1 else 0)
                locked := decide (s.tap.attempts - (if 2 ≤ r ∧ r ≤ 4 then 1 else 0) = 0) }) ∧
            (s.tap.locked = false → v.responseChk dr = none →
              (s.lcs.state = lcPROVISIONED → exec (.dbgResponse dr) s = .next ((w.openPort true).dbgResult 1)) ∧
              (s.lcs.state = lcDEPLOYED → exec (.dbgResponse dr) s = .next (w.erase.dbgResult 1))))))) ∧
    (∀ e, ∃ x : State, s.openPort e = x.raise 22 ∧ x.terr = s.terr ∧ x.tap = s.tap ∧
      x.lcs = { s.lcs with debugOpen := true, erased := s.lcs.erased || e }) ∧
    (s.erase.intakeClosed = true ∧ s.erase.terr = [] ∧ s.erase.tasks = [] ∧ s.erase.mp = [] ∧ s.erase.fuses.rootKey = none ∧
      s.erase.signals = [] ∧ s.erase.tap = { s.tap with erasing := some s.tick } ∧ s.erase.lcs = s.lcs ∧
      ∀ c ∈ s.erase.cores, c = {}) ∧
    (s.tap.erasing = none → exec .debugEraseDone s = .next s) ∧
    (s.tap.erasing ≠ none → exec .debugEraseDone s = .next ({ s with
      tap := { s.tap with erasing := none }, intakeClosed := false, erasedMode := true }.openPort true))

/-- AON_RESET_N, VDD_AON_OFF, SYS_RESET_N and WATCHDOG_RESET: the whole state behind each. The straps are those sampled at the
reset. What the logs and the timebase latch keep, and what is no state of the block, are the model's readings (log entries 10, 85
and 92). -/
def Obligations.ResetsRestart : Prop :=
  ∀ (s r : State) (straps : Straps) (parity : Option ParityErr),
    r = { State.reset with
      cfg := s.cfg, fresh := s.fresh, medium := s.medium, nextId := s.nextId, mpReady := s.mpReady, spAttn := s.spAttn
      pending := s.pending, flash := { State.reset.flash with phyReady := s.flash.phyReady }
      pwr := { State.reset.pwr with vack := s.pwr.vack, fack := s.pwr.fack, clkack := s.pwr.clkack } } →
    exec (.aonResetN straps) s = .next { r with boot := { State.reset.boot with straps := straps } } ∧
    exec (.vddAonOff straps) s = .next { r with boot := { State.reset.boot with straps := straps } } ∧
    ∀ t : Nat → Option FaultRec → State,
      (∀ cause kept, t cause kept = { r with
        tick := s.tick, lcs := { resetCause := cause }, sb := { dynAddr := s.sb.dynAddr, dynValid := s.sb.dynValid }
        faults := { kept := kept }, tbLatch := s.tbLatch, boot := { step := .voltage, straps := straps, since := s.tick }
        pwr := ({ r.pwr with vsel := s.pwr.vsel, fsel := s.pwr.fsel, bb := s.pwr.bb, clkreq := s.pwr.clkreq, iso := s.pwr.iso
                             memQuiet := s.pwr.memQuiet, vreq := false, freq := false, phase := .idle } : Power).wantVolt 4
                               s.tick }) →
      exec (.sysResetN straps) s = .next (t 1 s.faults.kept) ∧
      (s.clocked = true → parity = none → exec (.watchdogReset straps parity) s = .next (t 3 s.faults.kept)) ∧
      (∀ e, s.clocked = true → parity = some e → exec (.watchdogReset straps parity) s = .next (t 3 (some
        { seq := 0, cls := fcPARITY_LOST, terr := noTerr, location := locBlock, detail := 9, handle := 0, tick := s.tick
          cause := cPARITY_LOSS_EVT.1 * 256 + cPARITY_LOSS_EVT.2, step := 0xFFFFFFFF, info := e.word }))) ∧
      (s.clocked = false → exec (.watchdogReset straps parity) s = .next s)

/-- PD_WH_RESTORE_DONE, OTP_RVALID, OTP_READ_TIMEOUT, SRAM_CLEAR_DONE, FW_READY and FIRMWARE_START_TIMEOUT. A row outside its step
of the sequence, or before its limit, changes nothing (log entry 24). Which failures raise source 22 and the first voltage request
are the model's readings (log entries 86 to 88). -/
def Obligations.StartUpSequence : Prop :=
  ∀ s : State,
    (∀ code (x : Bool), ∃ y : State, s.bootFail code x = (if x then y.raise 22 else y) ∧ y = { s with
      lcs := { s.lcs with fwErr := code }, boot := { s.boot with step := .failed }, sleep := { s.sleep with code := 0 }
      sb := if s.sb.busy then { s.sb with busy := false, queued := false, refused := true } else s.sb }) ∧
    (s.boot.step = .pdWh →
      exec .pdWhRestoreDone s = .next { s with boot := { s.boot with step := .otp, otpWord := 0, since := s.tick } }) ∧
    (s.boot.step ≠ .pdWh → exec .pdWhRestoreDone s = .next s) ∧
    (∀ w : Word, s.boot.step = .otp →
      (s.boot.otpFirst = none →
        exec (.otpRvalid w) s = .next { s with boot := { s.boot with otpFirst := some w, since := s.tick } }) ∧
      (∀ v, s.boot.otpFirst = some v → v ≠ w → exec (.otpRvalid w) s = .next (s.bootFail 0x9 false)) ∧
      (s.boot.otpFirst = some w → ∀ f : Tbl Word, f = s.boot.otpSeen.put s.boot.otpWord w →
        (s.boot.otpWord ≠ 32 → exec (.otpRvalid w) s = .next { s with boot := { s.boot with
          otpFirst := none, otpSeen := f, otpWord := s.boot.otpWord + 1, since := s.tick } }) ∧
        (s.boot.otpWord = 32 → exec (.otpRvalid w) s = .next { s with
          fuses := loadFuses f, lcs := { s.lcs with state := lifecycleOf ((f.get 0).getD 0), otpValid := true }
          boot := { s.boot with otpFirst := none, otpSeen := f, otpWord := 33, step := .sram, since := s.tick } }))) ∧
    (∀ w, s.boot.step ≠ .otp → exec (.otpRvalid w) s = .next s) ∧
    (s.boot.step = .otp → s.boot.since + 334 ≤ s.tick → exec .otpReadTimeout s = .next (s.bootFail 0x9 false)) ∧
    (s.boot.step ≠ .otp ∨ s.tick < s.boot.since + 334 → exec .otpReadTimeout s = .next s) ∧
    (s.boot.step = .sram →
      (s.lcs.state = lcSCRAPPED ∨ s.lcs.state = lcINVALID → exec .sramClearDone s = .next (s.bootFail 0xA false)) ∧
      (s.lcs.state ≠ lcSCRAPPED → s.lcs.state ≠ lcINVALID → ∀ u : State,
        u = { s with boot := { s.boot with step := .header, since := s.tick } } →
        (s.boot.straps.bootSrc = 0 → exec .sramClearDone s = .next (u.hfpIssue noTerr .bootHeader)) ∧
        (s.boot.straps.bootSrc = 1 → exec .sramClearDone s = .next (u.mpIssue 0 .bootHeader)) ∧
        (2 ≤ s.boot.straps.bootSrc.toNat → exec .sramClearDone s = .next (u.bootFail 0x1 true)))) ∧
    (s.boot.step ≠ .sram → exec .sramClearDone s = .next s) ∧
    (s.boot.step = .firmware → ∀ u : State,
      u = { s with
        lcs := { s.lcs with ready := true, svn := rd s.boot.header 16 4 % 128 }
        boot := { s.boot with step := .running, readyAt := s.tick, restart := false }
        pwr := { s.pwr with auto := false, levelHi := 0, levelLo := 0, s1Idle := 1000, spAwake := true }
        sleep := { s.sleep with teOn := true, rbOn := true, teWait := none, rbWait := none, code := 0, idleSince := s.tick }
        programs := List.range s.cfg.quads, sched := { start := s.tick } } →
      (s.boot.restart = false ∨ s.sleep.phase ≠ .waking → exec .fwReady s = .next ((u.raise 22).refileKept)) ∧
      (s.boot.restart = true → s.sleep.phase = .waking → exec .fwReady s = .next (((u.raise 22).refileKept).finishSleep 0))) ∧
    (s.boot.step ≠ .firmware → exec .fwReady s = .next s) ∧
    (s.boot.step = .firmware → s.boot.since + 1000000 ≤ s.tick → exec .firmwareStartTimeout s = .next (s.bootFail 0x8 true)) ∧
    (s.boot.step ≠ .firmware ∨ s.tick < s.boot.since + 1000000 → exec .firmwareStartTimeout s = .next s)

/-- T2_MOUNT_DONE, T2_MOUNT_TIMEOUT, FP_RB_READY, FP_READ_DATA, FP_PHY_READY and FTL_BACKGROUND. A row that meets no operation, or
no idle turn, changes nothing (log entry 24). The unit of a flash operation and the trim are the model's readings (log entries 102
and 140), the contents of the parameter pages are free values (log entry 103). -/
def Obligations.FlashEventsAct : Prop :=
  ∀ s : State,
    (s.mounting = true →
      (∀ m : Medium, (∃ r ∈ s.flash.phyReady, r = true) → m = { s.medium with blocks := s.medium.known s.flash.fit } →
        exec .t2MountDone s = .next { s.forEach (List.range s.flash.excluded)
            (fun s _ => s.fault fcFLASH noTerr locBlock noCause 0 0 0) with
          lcs := { s.lcs with t2Ready := true }, medium := m
          flash := { s.flash with usable := min 32768 (m.good * 93 / 100 / 65536)
                                  reserve := m.good / 65536 - min 32768 (m.good * 93 / 100 / 65536)
                                  maps := s.medium.ckpt, prog := []
                                  jobs := s.flash.jobs.map (fun o => { o with at_ := s.tick }) } }) ∧
      (∀ u : State, u = (({ s with boot := { s.boot with t2Failed := true }, flash := { s.flash with jobs := [], prog := [] } }
          : State).fault fcFLASH noTerr locBlock noCause 0 0 0).forEach s.flash.jobs (fun s o => s.jobFails o.job) →
        ((∀ r ∈ s.flash.phyReady, r = false) → exec .t2MountDone s = .next u) ∧
        (s.boot.readyAt + 300000000 ≤ s.tick → exec .t2MountTimeout s = .next u)) ∧
      (s.tick < s.boot.readyAt + 300000000 → exec .t2MountTimeout s = .next s)) ∧
    (s.mounting = false → exec .t2MountDone s = .next s ∧ exec .t2MountTimeout s = .next s) ∧
    (s.lcs.t2Ready = true →
      (∀ (o : FlashOp) (n : Nat) (b : FBlock), s.flash.jobs.find? (fun o => o.job.writes) = some o → s.freeBlock = some n →
        s.medium.blocks[n]? = some b →
        exec (.fpRbReady b.chan b.target false) s = .next ((s.modBlock n FBlock.program).retireBlock n) ∧
        (∀ h v first count, (s.jobPieces o.job)[s.flash.prog.length]? = some (h, v, first, count) →
          exec (.fpRbReady b.chan b.target true) s = .next { s.modBlock n FBlock.program with
            flash := { s.flash with prog := s.flash.prog ++ [⟨h, v, first, count, n⟩] } }) ∧
        ((s.jobPieces o.job)[s.flash.prog.length]? = none →
          exec (.fpRbReady b.chan b.target true) s = .next (({ s with
            flash := { s.flash with maps := mapOver s.liveMaps s.flash.prog, prog := [] }
            medium := { s.medium with ckpt := mapOver s.liveMaps s.flash.prog } }.dropJob o).jobWritten o.job))) ∧
      ∀ (o : FlashOp) (chan retry : Nat) (data : Bytes), s.flash.jobs.find? (fun o => !o.job.writes) = some o →
        exec (.fpReadData chan data retry) s = .next (((s.readBlocks o.job.source
          (if data = [] then Config.deepestRetry else retry)).dropJob o).jobRead o.job data)) ∧
    (∀ chan target ok, (s.lcs.t2Ready = false ∨ s.flash.jobs.find? (fun o => o.job.writes) = none ∨
      (∀ n, s.freeBlock = some n → ∀ b, s.medium.blocks[n]? = some b → b.chan ≠ chan ∨ b.target ≠ target)) →
        exec (.fpRbReady chan target ok) s = .next s) ∧
    (∀ chan data retry, (s.lcs.t2Ready = false ∨ s.flash.jobs.find? (fun o => !o.job.writes) = none) →
      exec (.fpReadData chan data retry) s = .next s) ∧
    (∀ (chan : Nat) (level : Bool), exec (.fpPhyReady chan level) s = .next { s with flash := { s.flash with
      phyReady := setAt chan (fun _ => level) s.flash.phyReady } }) ∧
    (s.lcs.t2Ready = true → s.running = true → s.slotWork = false → s.flash.jobs = [] →
      (∀ n, s.wearBlock = some n → exec (.ftlBackground .staticWear) s = .next (s.moveBlock n)) ∧
      (s.wearBlock = none → exec (.ftlBackground .staticWear) s = .next s) ∧
      (∀ (w : FtlWork) (p : FBlock → Bool), (w = .disturbRefresh ∧ p = fun b : FBlock => decide (s.disturbReads ≤ b.reads)) ∨
          (w = .retentionRefresh ∧ p = fun b => b.due) →
        (∀ b, s.dataBlocks.find? (fun b => p b.2) = some b →
          exec (.ftlBackground w) s = .next (((s.moveBlock b.1).modBlock b.1 (fun x => { x with reads := 0, due := false })).count
            cT2_REFRESH noTerr locBlock 1)) ∧
        (s.dataBlocks.find? (fun b => p b.2) = none → exec (.ftlBackground w) s = .next s)) ∧
      (∀ n, s.freeBlock = some n → exec (.ftlBackground .retire) s = .next ((s.modBlock n FBlock.program).retireBlock n)) ∧
      (s.freeBlock = none → exec (.ftlBackground .retire) s = .next s)) ∧
    ∀ w, (s.lcs.t2Ready = false ∨ s.running = false ∨ s.slotWork = true ∨ s.flash.jobs ≠ []) →
      exec (.ftlBackground w) s = .next s

/-- PP_VACK, PP_FACK, BIAS_SETTLED, PP_ACK_TIMEOUT, PP_CLKACK and AUTO_LEVEL_TICK, whatever the block was doing: a level change,
start-up, the entry into S3 or a wake. A row that is not due, or that answers no request, changes no more than its own pin. The
level in force before the first acknowledgement is the model's reading (log entry 87), so are what a timeout does outside a
change (log entries 88 and 94) and a row before its tick (log entry 24). -/
def Obligations.LevelAcknowledgements : Prop :=
  ∀ s : State,
    (s.pwr.vreq = false → exec (.ppVack true) s = .next { s with pwr := { s.pwr with vack := true } }) ∧
    (s.pwr.vreq = true → ∀ u : State, u = { s with pwr := { s.pwr with vack := true, vreq := false } } →
      (s.boot.step = .voltage → exec (.ppVack true) s = .next u.bootClocks) ∧
      (s.boot.step ≠ .voltage →
        (s.sleep.phase = .s3Enter → exec (.ppVack true) s =
          .next (State.reachSleep { u with pwr := { u.pwr with phase := .idle } } .s3 3 cSLEEP_ENTER)) ∧
        (s.sleep.phase = .wakeVolt → exec (.ppVack true) s =
          .next (State.exitClocks { u with pwr := { u.pwr with vAcked := true, phase := .idle } })) ∧
        (s.sleep.phase ≠ .s3Enter → s.sleep.phase ≠ .wakeVolt →
          (s.pwr.phase = .volt → exec (.ppVack true) s = .next u.voltDone) ∧
          (s.pwr.phase ≠ .volt → exec (.ppVack true) s = .next u)))) ∧
    (s.pwr.freq = false → exec (.ppFack true) s = .next { s with pwr := { s.pwr with fack := true } }) ∧
    (s.pwr.freq = true → ∀ u : State, u = { s with pwr := { s.pwr with fack := true, freq := false } } →
      (s.pwr.phase = .freq → exec (.ppFack true) s = .next u.freqDone) ∧
      (s.pwr.phase ≠ .freq → exec (.ppFack true) s = .next u)) ∧
    (exec (.ppVack false) s = .next { s with pwr := ({ s.pwr with vack := false } : Power).ask s.tick }) ∧
    (exec (.ppFack false) s = .next { s with pwr := ({ s.pwr with fack := false } : Power).ask s.tick }) ∧
    (s.pwr.phase = .bias → s.pwr.since + 200 ≤ s.tick →
      exec .biasSettled s = .next { s with
        pwr := (if s.pwr.level ≠ s.pwr.target then s.pwr.wantFreq s.tick else s.pwr.wantVolt s.pwr.target s.tick) }) ∧
    (s.pwr.phase ≠ .bias ∨ s.tick < s.pwr.since + 200 → exec .biasSettled s = .next s) ∧
    ((s.pwr.vreq = false ∧ s.pwr.freq = false) ∨ s.tick < s.pwr.since + 10000 → exec .ppAckTimeout s = .next s) ∧
    (s.pwr.vreq = true ∨ s.pwr.freq = true → s.pwr.since + 10000 ≤ s.tick →
      (s.boot.step = .voltage → exec .ppAckTimeout s = .next { State.ackFault { s with
          pwr := { s.pwr with vreq := false, phase := .idle, changing := false } } 1 with
        boot := { s.boot with step := .failed } }) ∧
      (s.boot.step ≠ .voltage →
        (s.sleep.phase = .s3Enter → ∀ u : State,
          u = State.ackFault { s with pwr := { s.pwr with vreq := false, phase := .idle } } 1 →
          exec .ppAckTimeout s = .next (State.exitClocks { u with sleep := { u.sleep with failed := true } })) ∧
        (s.sleep.phase = .wakeVolt → exec .ppAckTimeout s =
          .next (State.ackFault { s with pwr := { s.pwr with since := s.tick } } 1)) ∧
        (s.sleep.phase ≠ .s3Enter → s.sleep.phase ≠ .wakeVolt →
          exec .ppAckTimeout s = .next (s.changeFails (if s.pwr.vreq then 1 else 2))))) ∧
    (∀ (v : BitVec 6) (u : State), u = { s with pwr := { s.pwr with clkack := v } } →
      (s.boot.step = .clocks → exec (.ppClkack v) s = .next u.bootPdWh) ∧
      (s.boot.step ≠ .clocks →
        (s.sleep.phase = .abort → u.clocksUp = true → exec (.ppClkack v) s = .next (u.finishSleep s.sleep.outcome)) ∧
        (s.sleep.phase = .wakeClk → u.clocksUp = true → exec (.ppClkack v) s = .next { u with
          sleep := { s.sleep with phase := .waking, since := s.tick } }) ∧
        ((s.sleep.phase ≠ .abort ∧ s.sleep.phase ≠ .wakeClk) ∨ u.clocksUp = false → exec (.ppClkack v) s = .next u))) ∧
    ∀ busy total : Nat,
      (s.running = false ∨ s.pwr.auto = false ∨ s.tick < s.pwr.lastAuto + 100000 →
        exec (.autoLevelTick busy total) s = .next s) ∧
      (s.running = true → s.pwr.auto = true → s.pwr.lastAuto + 100000 ≤ s.tick → ∀ (late : Bool) (u : State),
        late = s.terr.any (fun x => x.2.lateAuto) →
        u = { s with
          terr := s.terr.mapVals (fun _ te => { te with lateAuto := false }), pwr := { s.pwr with lastAuto := s.tick } } →
        (s.pwr.phase ≠ .idle → exec (.autoLevelTick busy total) s = .next u) ∧
        (s.pwr.phase = .idle →
          (s.sched.sealed = true → exec (.autoLevelTick busy total) s = .next u.powerNext) ∧
          (s.sched.sealed = false →
            (3 * total < 4 * busy ∨ late = true → exec (.autoLevelTick busy total) s = .next
              (if s.pwr.levelHi < s.pwr.level then u.beginChange (s.pwr.level - 1) false else u)) ∧
            (4 * busy ≤ 3 * total → late = false →
              (5 * busy < 2 * total → exec (.autoLevelTick busy total) s = .next
                (if s.pwr.level < s.pwr.levelLo then u.beginChange (s.pwr.level + 1) false else u)) ∧
              (2 * total ≤ 5 * busy → exec (.autoLevelTick busy total) s = .next u)))))

/-- WAKE_ALARM, SP_ATTN, SIDEBAND_WAKE, S1_WAKE, AUTO_S1_ENTRY, WAKE_RESTORE_DONE and PRIVILEGED_DOMAIN_READY in every phase.
What is latched in S1 and while SP_AWAKE is 1 is the model's reading (log entry 96), so is what counts as idle (log entry 152). -/
def Obligations.WakeEventsAreLatched : Prop :=
  ∀ s : State,
    (∀ (i : Instr) (src : Nat) (b : Bool),
      (i = .sidebandWake ∧ src = 2 ∧ b = s.spAttn) ∨
      (i = .wakeAlarm ∧ s.sleep.alarm ≠ 0 ∧ s.sleep.alarm ≤ s.tick ∧ s.sleep.phase ≠ .quiesce ∧
        src = (if s.sleep.ticket.isSome then 4 else 32) ∧ b = s.spAttn) ∨
      (i = .spAttn ∧ (s.pwr.spAwake = false ∨ s.sleep.phase = .s1) ∧ (s.sleep.attnWake = true ∨ s.sleep.ticket = none) ∧
        src = 8 ∧ b = true) ∨
      (i = .s1Wake .hfpAccess ∧ s.sleep.phase = .s1 ∧ src = 16 ∧ b = s.spAttn) ∨
      (i = .s1Wake .spIValid ∧ s.sleep.phase = .s1 ∧ src = 0 ∧ b = s.spAttn) ∨
      (i = .s1Wake .timer ∧ s.sleep.phase = .s1 ∧ s.sleep.alarm ≠ 0 ∧ s.sleep.alarm ≤ s.tick ∧ src = 32 ∧ b = s.spAttn) →
      (s.sleep.phase = .awake → exec i s = .next { s with spAttn := b }) ∧
      (s.sleep.phase ≠ .awake → ∀ u : State,
        u = { s with spAttn := b, sleep := (
          if s.sleep.wakeAt = none then { s.sleep with wakeAt := some s.tick, wakeSrc := src }
          else if s.sleep.wakeAt = some s.tick then { s.sleep with wakeSrc := s.sleep.wakeSrc ||| src }
          else s.sleep) } →
        (s.sleep.phase = .entering →
          (s.sleep.stage ≤ 4 → exec i s = .next u.abandon) ∧ (4 < s.sleep.stage → exec i s = .next u)) ∧
        (s.sleep.phase = .s1 → exec i s = .next (u.finishSleep 0)) ∧
        (s.sleep.phase = .s2 → exec i s = .next u.exitClocks) ∧
        (s.sleep.phase = .s3 → exec i s = .next u.exitVolt) ∧
        (s.sleep.phase ∉ [.entering, .s1, .s2, .s3] → exec i s = .next u))) ∧
    (s.sleep.alarm = 0 ∨ s.tick < s.sleep.alarm ∨ s.sleep.phase = .quiesce → exec .wakeAlarm s = .next s) ∧
    (s.sleep.alarm = 0 ∨ s.tick < s.sleep.alarm → exec (.s1Wake .timer) s = .next s) ∧
    ((s.pwr.spAwake = true ∧ s.sleep.phase ≠ .s1) ∨ (s.sleep.attnWake = false ∧ s.sleep.ticket.isSome = true) →
      exec .spAttn s = .next { s with spAttn := true }) ∧
    (s.sleep.phase ≠ .s1 → ∀ k, exec (.s1Wake k) s = .next s) ∧
    (s.running = true → s.sched.sealed = false → s.pwr.s1Idle ≠ 0 → s.idle = true →
      s.sleep.idleSince + s.pwr.s1Idle ≤ s.tick →
      exec .autoS1Entry s = .next { s with sleep := { s.sleep with
        ticket := none, goal := 1, attnWake := true, failed := false, alarm := (s.timers.min?).getD 0, wakeSrc := 0,
        wakeAt := none, since := s.tick, phase := .entering, stage := 1, code := 4 } }) ∧
    (s.running = false ∨ s.sched.sealed = true ∨ s.pwr.s1Idle = 0 ∨ s.idle = false ∨
      s.tick < s.sleep.idleSince + s.pwr.s1Idle → exec .autoS1Entry s = .next s) ∧
    (s.sleep.phase = .waking → ∀ u : State,
      u = ((s.forEach s.lostBanks State.rebuildBank).dropMasks.dropScratch).refillPins →
      (bit s.keptGroups 2 = true → exec .wakeRestoreDone s = .next (u.finishSleep 0)) ∧
      (bit s.keptGroups 2 = false → exec .wakeRestoreDone s = .next u.restart)) ∧
    (s.sleep.phase ≠ .waking → exec .wakeRestoreDone s = .next s) ∧
    (s.sleep.teWait.isSome = true → exec (.privilegedDomainReady true) s = .next { s with
      sleep := { s.sleep with teOn := true, teWait := none } }) ∧
    (s.sleep.rbWait.isSome = true → exec (.privilegedDomainReady false) s = .next { s with
      sleep := { s.sleep with rbOn := true, rbWait := none } }) ∧
    (s.sleep.teWait = none → exec (.privilegedDomainReady true) s = .next s) ∧
    (s.sleep.rbWait = none → exec (.privilegedDomainReady false) s = .next s)

/-- BOUNDS, TILES and ROWS_FULL: the first checks, the message's own, and what a message that passes them does. That a row's
work runs within the arriving row is the model's reading (log entry 77). -/
def Obligations.StepPortRowsArrive : Prop :=
  ∀ (s : State) (m : SpMsg) (t n : Nat) (i : Instr), t = mTerr m →
    (i = .bounds m ∧ n = 2) ∨ (i = .tiles m ∧ n = 4) ∨ (i = .rowsFull m ∧ n = 5) →
    (mType m ≠ n ∨ s.ingressOpen = false → exec i s = .next s) ∧
    (mType m = n → s.ingressOpen = true →
      (s.concernOf m = .inl none → exec i s = .next (s.count cSP_LATE_MSG t locBlock 1)) ∧
      (∀ code, s.concernOf m = .inl (some code) → exec i s = .next (s.protoErr t code false)) ∧
      ∀ (f : Step) (old : Bool), s.concernOf m = .inr (f, old) →
        (s.tready t = false → exec i s = .next (s.protoErr t 8 (!old))) ∧
        (s.tready t = true →
          (∀ e, n = 2 → boundsErr m f (f.outRow m) = some e → exec i s = .next (s.protoErr t e (!old))) ∧
          (∀ e, n ≠ 2 → tilesErr m f (n = 5) (f.outRow m) = some e → exec i s = .next (s.protoErr t e (!old))) ∧
          ∀ row, f.outRow m = some row →
            (n = 2 → boundsErr m f (some row) = none →
              exec i s = .next (((s.modRow t old (rd m.head 16 2) (fun r => { r with
                hasBounds := true, bounds := boundVals f.bfmt (rd m.head 24 4) r.nt m.payload })).maskHit t row).runRows t)) ∧
            (n ≠ 2 → tilesErr m f (n = 5) (some row) = none →
              ∀ (te : Terrace) (q : TileReq) (r : Req) (l : List (Nat × List XVal)) (br : List Nat) (u v w : State),
                s.terrace t = some te → row.req = some q → te.reqs.get row.idx = some r → l = msgTiles m f q →
                br = ((te.rowCtx f r row).breaching row l).filter (fun j => !row.breached.contains j) →
                u = ((s.modRow t old (rd m.head 16 2) (fun x => { x with
                  req := some { q with got := q.got + l.length }
                  scale := if f.lfmt = fmtQ16R then some (rd m.head 24 4) else none
                  breached := x.breached ++ br
                  breach := x.breach || (n = 4 && !br.isEmpty)
                  fetched := if x.wants then l.foldl (fun a y => a.put y.1 y.2) x.fetched else x.fetched })).count
                    cTILES_FETCHED t locBlock l.length).count cBOUND_BREACH t locBlock br.length →
                v = (if n = 5 ∧ q.got + l.length = q.list.length then u.count cFULL_ROW_FETCH t locBlock 1 else u) →
                w = (if q.round = 0xFF ∧ q.got = 0 then v.maskHit t row else v) →
                exec i s = .next ((if br = [] then w else w.breachTest t).runRows t))))

/-- ATTN_STEP_DONE, ATTN_ABORT, ATTN_DRAFTS and SP_RESERVED_MESSAGE in every case. A message of another TYPE or KIND than its
command's, or one that comes while the ingress channel takes none, changes nothing. That an error of a DRAFTS message fails no
step is the model's reading (log entry 59), and when the channel takes messages is log entry 26. -/
def Obligations.StepPortAttention : Prop :=
  ∀ (s : State) (m : SpMsg) (t : Nat), t = mTerr m →
    (mType m ≠ 8 ∨ aKind m = 2 ∨ aKind m = 3 ∨ s.ingressOpen = false → exec (.attnStepDone m) s = .next s) ∧
    (mType m ≠ 8 ∨ aKind m ≠ 3 ∨ s.ingressOpen = false → exec (.attnAbort m) s = .next s) ∧
    (mType m ≠ 8 ∨ aKind m ≠ 2 ∨ s.ingressOpen = false → exec (.attnDrafts m) s = .next s) ∧
    (mType m ∈ [2, 4, 5, 8] ∨ s.ingressOpen = false → exec (.spReservedMessage m) s = .next s) ∧
    (s.ingressOpen = true →
      (mType m ∉ [2, 4, 5, 8] → exec (.spReservedMessage m) s = .next (s.protoErr t 1 false)) ∧
      (∀ i, mType m = 8 → (i = Instr.attnStepDone m ∧ aKind m ≠ 2 ∧ aKind m ≠ 3) ∨ (i = .attnAbort m ∧ aKind m = 3) →
        (s.concernOf m = .inl none → exec i s = .next (s.count cSP_LATE_MSG t locBlock 1)) ∧
        (∀ code, s.concernOf m = .inl (some code) → exec i s = .next (s.protoErr t code false)) ∧
        ∀ (f : Step) (old : Bool), s.concernOf m = .inr (f, old) →
          (s.tready t = false → exec i s = .next (s.protoErr t 8 (!old))) ∧
          (s.tready t = true →
            (∀ e, attnErr m = some e → exec i s = .next (s.protoErr t e (!old))) ∧
            (attnErr m = none →
              (aKind m ≠ 3 → f.done = false → f.heard = true →
                exec i s = .next (s.modStep t old (fun f => { f with done := true }))) ∧
              (aKind m ≠ 3 → f.done = true ∨ f.heard = false → exec i s = .next (s.protoErr t 4 (!old))) ∧
              (aKind m = 3 → exec i s = .next ((s.modStep t old (fun f => { f with reason := rd m.head 24 4 })).protoErr
                t 10 (!old)))))) ∧
      (mType m = 8 → aKind m = 2 →
        (s.terrace t = none → exec (.attnDrafts m) s = .next (s.protoErr t 2 false)) ∧
        ∀ (te : Terrace) (h : Handle) (r : Option Req), s.terrace t = some te → h = rd m.head 20 4 →
          r = (if hTerr h = t ∧ hType h = tyReq then s.req h else none) →
          (s.tready t = false → exec (.attnDrafts m) s = .next (s.protoErr t 8 false)) ∧
          (s.tready t = true →
            (∀ e, draftsErr m ((r.map (·.draftMax)).getD 15) = some e →
              exec (.attnDrafts m) s = .next (s.protoErr t e false)) ∧
            (draftsErr m ((r.map (·.draftMax)).getD 15) = none →
              (r = none → exec (.attnDrafts m) s = .next (s.count cDRAFT_STALE t locBlock 1)) ∧
              ∀ q, r = some q →
                (q.wantDrafts = false ∨ q.draftSrc ≠ 2 ∨ q.lastStep ≠ mStep m ∨ te.vocab q.vocab q.pins.vocab = none →
                  exec (.attnDrafts m) s = .next (s.count cDRAFT_STALE t locBlock 1)) ∧
                ∀ v, te.vocab q.vocab q.pins.vocab = some v →
                  (badToken v (draftToks m) ≠ none → exec (.attnDrafts m) s = .next (s.count cDRAFT_STALE t locBlock 1)) ∧
                  (q.wantDrafts = true → q.draftSrc = 2 → q.lastStep = mStep m → badToken v (draftToks m) = none →
                    exec (.attnDrafts m) s = .next (s.modReq h (fun r => { r with
                      drafts := draftToks m, draftBase := rd m.head 24 4, hasDrafts := true, wantDrafts := false })))))))

/-- STEP_TIMEOUT and ROW_WITHDRAW_TIMEOUT in every case. A setting of 0 stands for 10,000,000 ticks. A timer row before its
tick, or of a step or row that does not wait, changes nothing (log entry 24). -/
def Obligations.StepTimersAct : Prop :=
  ∀ (s : State) (t i : Nat),
    (s.terrace t = none → exec (.stepTimeout t) s = .next s ∧ exec (.rowWithdrawTimeout t i) s = .next s) ∧
    ∀ te, s.terrace t = some te →
      (te.sp.flight = none → exec (.stepTimeout t) s = .next s ∧ exec (.rowWithdrawTimeout t i) s = .next s) ∧
      ∀ f, te.sp.flight = some f →
        (f.sent = true → f.complete = false →
          f.openAt + (if te.sp.cur.timeout = 0 then 10000000 else te.sp.cur.timeout) ≤ s.tick →
          exec (.stepTimeout t) s = .next (s.protoErr t 9 true)) ∧
        (f.sent = false ∨ f.complete = true ∨
          s.tick < f.openAt + (if te.sp.cur.timeout = 0 then 10000000 else te.sp.cur.timeout) →
          exec (.stepTimeout t) s = .next s) ∧
        (f.rows[i]? = none → exec (.rowWithdrawTimeout t i) s = .next s) ∧
        ∀ row, f.rows[i]? = some row →
          (row.waitAt = none ∨ f.failed = true ∨ row.isOver = true ∨
            (∃ r ∈ f.rows, r.idx ≠ row.idx ∧ r.isOver = false ∧ r.kind ≠ 0) →
            exec (.rowWithdrawTimeout t i) s = .next s) ∧
          ∀ at_ code, row.waitAt = some (at_, code) →
            (s.tick < at_ + 5000 ∨ (code ≠ scOBJ_QUARANTINE ∧ code ≠ scFILL_LATE) →
              exec (.rowWithdrawTimeout t i) s = .next s) ∧
            (row.isOver = false → f.failed = false → code = scOBJ_QUARANTINE ∨ code = scFILL_LATE →
              (∀ r ∈ f.rows, r.idx = row.idx ∨ r.isOver = true ∨ r.kind = 0) → at_ + 5000 ≤ s.tick →
              exec (.rowWithdrawTimeout t i) s = .next ((s.modStep t false (fun f => { f with
                rows := f.rows.map (fun r => if r.idx = row.idx then { r with st := .withdrawn } else r)
                res := f.res.del row.idx, drafts := f.drafts.del row.idx
                withdrawn := f.withdrawn.put row.idx code })).count cROW_WITHDRAWN t locBlock 1))

/-- STEP_BOUNDARY and IDLE_BOUNDARY in every case: one that is not due changes nothing, one that needs a domain that is not
awake asks for it, and any other handles the parity error it meets, closes the step, runs its parts in order and issues its
journal delta. When a boundary is due and what it waits for are log entries 17, 24 and 97, and a halted or quiescing one is log
entry 72. -/
def Obligations.BoundariesEndWithDelta : Prop :=
  ∀ (s : State) (t : Nat) (p : Option ParityErr) (i : Instr) (due idle : Bool),
    (i = .stepBoundary t p ∧ due = s.stepBoundaryDue t ∧ idle = false) ∨
      (i = .idleBoundary t p ∧ due = s.idleBoundaryDue t ∧ idle = true) →
    (due = false → exec i s = .next s) ∧
    (due = true → s.boundaryRb t = true → exec i s = .next { s with
      sleep := { s.sleep with rbWait := some (s.sleep.rbWait.getD s.tick) } }) ∧
    (due = true → s.boundaryRb t = false →
      (s.sleep.teOn = false → exec i s = .next { s with
        sleep := { s.sleep with teWait := some (s.sleep.teWait.getD s.tick) } }) ∧
      (s.sleep.teOn = true → ∀ u : State, u = State.parityFirst { s with sched := { s.sched with worked := true } } t p →
        (u.terrace t = none → exec i s =
          .next (if idle then u.modT t (fun te => { te with idleDone := true }) else u)) ∧
        ∀ (te : Terrace) (v w x : State) (b c d : Bd), u.terrace t = some te →
          v = (u.heal t).modT t (fun x => { x with
            model := x.model.measure (u.heal t).tick, sp := x.sp.leave te.sp.flight }) →
          b = { s := v, t := t, closed := te.sp.flight, held := te.streams.flatMap (fun x => x.2.waiting.map (·.req)),
                doneOld := (te.reqs.filter (fun r => r.2.state = rsDONE)).map (·.1) } →
          c = ((((b.part1.each Bd.cancel).each Bd.deadline).part4.destroy).each Bd.rollback).part6 →
          d = (if c.s.sleep.phase = .quiesce then c.openRanges.quiesce
            else if te.sp.halted then c.openRanges else c.part7.part8) →
          w = ((d.emit.s.destroyPool t).showReqs t).modT t (fun te => { te with journal := { te.journal with
            unacked := true, retried := false, boundaries := te.journal.boundaries + 1 } }) →
          x = w.mpOwn t (.journalDelta t false) →
          exec i s = .next (if idle then x.modT t (fun te => { te with idleDone := true }) else x)))

/-- SLOT_END and TASK_DISPATCH in every case. When a slot ends is the model's reading (log entry 24), and the rotation and the
overruns of sealed turns are log entry 151. -/
def Obligations.TurnsAndDispatch : Prop :=
  ∀ s : State,
    (s.slotEnds = false → exec .slotEnd s = .next s) ∧
    (s.slotEnds = true →
      (∀ (t : Nat) (te : Terrace) (u : State), s.sched.turn = none → s.sched.next = some t → s.terrace t = some te →
        u = { s with sched := { s.sched with
          turn := some t, next := some t, start := s.tick, len := te.desc.turn, worked := !te.egressQ.isEmpty, busy := 0 } } →
        exec .slotEnd s = .next (((if s.sched.sealed then u else u.modT t Terrace.idleAtStart).count cTURNS t locBlock 1).present
          t)) ∧
      (∀ (t : Nat) (u v : State), s.sched.turn = some t →
        u = (if s.sched.sealed = true ∧ s.sched.busy ≠ 0 then
          State.count { s with fresh := s.fresh + 1 } cTURN_OVERRUN t locBlock (b2n (Config.overruns s.fresh)) else s) →
        v = u.modT t Terrace.endTurn →
        (∀ n, v.nextTurnAfter (some t) = some n → exec .slotEnd s = .next (v.startMgmt (some n))) ∧
        (v.nextTurnAfter (some t) = none →
          exec .slotEnd s = .next (v.newRound.startMgmt (v.newRound.nextTurnAfter none)))) ∧
      (∀ t : Nat, s.sched.turn = none → s.sched.next = some t → s.terrace t = none →
        (∀ n, s.nextTurnAfter (some t) = some n → exec .slotEnd s = .next (s.startMgmt (some n))) ∧
        (s.nextTurnAfter (some t) = none →
          exec .slotEnd s = .next (s.newRound.startMgmt (s.newRound.nextTurnAfter none)))) ∧
      (s.sched.turn = none → s.sched.next = none →
        exec .slotEnd s = .next (s.newRound.startMgmt (s.newRound.nextTurnAfter none))) ∧
      ∃ w, exec .slotEnd s = .next w ∧ w.sched.start = s.tick ∧ w.tick = s.tick ∧ w.mbs = s.mbs ∧
        (s.sched.turn ≠ none → w.sched.turn = none)) ∧
    ∀ (bay : Nat) (p : Option ParityErr),
      (s.running = false ∨ s.grant bay = none → exec (.taskDispatch bay p) s = .next s) ∧
      (s.running = true → ∀ (t : Nat) (u : State), s.grant bay = some t →
        u = { s with rrBay := setAt bay (fun _ => (t + 1) % 16) s.rrBay } →
        (s.terrace t = none ∨ s.bayCore bay t = none → exec (.taskDispatch bay p) s = .next u) ∧
        ∀ (te : Terrace) (core : Nat) (v : State), s.terrace t = some te → s.bayCore bay t = some core →
          v = u.modT t (fun te => te.rollUse s.tick s.windowTicks) →
          (v.pick t te = none → exec (.taskDispatch bay p) s = .next v) ∧
          ∀ k, v.pick t te = some k → exec (.taskDispatch bay p) s =
            .next ((v.modTask k.id (fun _ => { k with core := some core, began := s.tick })).runWith
              { k with core := some core, began := s.tick } core p))

/-- HFP_READ_RESPONSE, HFP_WRITE_ACK and HFP_RESPONSE_TIMEOUT for every operation the block issues. A response without an
operation, or one that comes while the block hears none, is discarded by the model's reading (log entries 25 and 26), and so is a
timeout before its tick (log entry 24). -/
def Obligations.HostFabricAnswers : Prop :=
  ∀ (s : State) (op : Nat),
    (s.hfpOp op = none ∨ s.hears = false → ∀ d resp, exec (.hfpReadResponse op d) s = .next s ∧
      exec (.hfpWriteAck op resp) s = .next s ∧ exec (.hfpResponseTimeout op) s = .next s) ∧
    ∀ o, s.hfpOp op = some o →
      (o.kind.reads = true → ∀ resp, exec (.hfpWriteAck op resp) s = .next s) ∧
      (o.kind.reads = false → ∀ d, exec (.hfpReadResponse op d) s = .next s) ∧
      (s.tick < o.at_ + 100000 → exec (.hfpResponseTimeout op) s = .next s) ∧
      (o.at_ + 100000 ≤ s.tick →
        (o.kind.reads = true → exec (.hfpResponseTimeout op) s = exec (.hfpReadResponse op .error) s) ∧
        (o.kind.reads = false → exec (.hfpResponseTimeout op) s = exec (.hfpWriteAck op 2) s)) ∧
      (s.hears = true → ∀ u : State, u = s.hfpDone op →
        (∀ (d : HostData) (b : Option Bytes), b = partsOf d →
          (∀ mb ep idx m, o.kind = .sqRead mb ep idx → m = s.mailbox mb →
            (m.enable = false ∨ m.error = true ∨ m.epoch ≠ ep → exec (.hfpReadResponse op d) s = .next u) ∧
            (m.enable = true → m.error = false → m.epoch = ep →
              (b = none → exec (.hfpReadResponse op d) s = .next (u.mbError mb 4)) ∧
              ∀ x, b = some x → exec (.hfpReadResponse op d) s = .next (u.modMb mb (fun m =>
                if m.inRange idx then { m with ahead := m.ahead.put idx x } else m)))) ∧
          (∀ id as, o.kind = .taskRead id as → exec (.hfpReadResponse op d) s = .next (u.taskRead id d)) ∧
          (∀ h p a n, o.kind = .putRead h p a n → exec (.hfpReadResponse op d) s = .next (u.putRead h p d)) ∧
          (∀ h as, o.kind = .intakeRead h as → exec (.hfpReadResponse op d) s = .next (u.intakeRead h d)) ∧
          (∀ h v a, o.kind = .refetch h v a → exec (.hfpReadResponse op d) s = .next (u.refetchRead h v b)) ∧
          (o.kind = .bootHeader → exec (.hfpReadResponse op d) s = .next (u.imageHeader b.isSome (b.getD []))) ∧
          (o.kind = .bootBody → exec (.hfpReadResponse op d) s = .next (u.imageBody b.isSome (b.getD [])))) ∧
        ∀ resp : BitVec 2,
          (∀ mb ep sl ph hd c, o.kind = .cplWrite mb ep sl ph hd c →
            (resp ≠ 0 → exec (.hfpWriteAck op resp) s = .next (u.cplFailed mb ep c)) ∧
            (resp = 0 → ∀ v : State,
              v = (if c.kind = kONLY ∨ c.kind = kFINAL then u.modMb mb (fun m => { m with live := m.live - 1 }) else u).announceCpl
                mb c.noIrq →
              (c.kind = kFINAL → c.opcode = 0x08 → exec (.hfpWriteAck op resp) s = .next (v.raise 21)) ∧
              (c.kind = kFINAL → c.opcode = 0x06 → exec (.hfpWriteAck op resp) s = .next v.advanceWritten) ∧
              (c.kind ≠ kFINAL ∨ (c.opcode ≠ 0x08 ∧ c.opcode ≠ 0x06) → exec (.hfpWriteAck op resp) s = .next v))) ∧
          (∀ n a v, o.kind = .msi n a v → exec (.hfpWriteAck op resp) s = .next (if resp = 0 then u else u.setStatus n)) ∧
          (∀ t h v, o.kind = .mirror t h v →
            exec (.hfpWriteAck op resp) s = .next (if resp = 0 then u else (u.syncFail h).tokRunAll t)) ∧
          (∀ h a n ph r, o.kind = .record h a n ph r → exec (.hfpWriteAck op resp) s =
            .next (if resp = 0 then (u.recordAck h r).tokRunAll (hTerr h) else u.recordFail h)) ∧
          (∀ id a b sy, o.kind = .taskWrite id a b sy →
            exec (.hfpWriteAck op resp) s = .next ((u.taskWritten id a sy (resp = 0)).tokRunAll (hTerr sy))) ∧
          (∀ h k a b, o.kind = .window h k a b → exec (.hfpWriteAck op resp) s =
            .next ((if resp = 0 then u.tokAck h k else u.tokWriteFail h).tokRunAll (hTerr h))) ∧
          (∀ tk a b r0 r1, o.kind = .queryWrite tk a b r0 r1 → exec (.hfpWriteAck op resp) s =
            .next (if resp = 0 then u.finish tk stOK tk.handle noField r0 r1
              else u.finish tk stDATA_ERROR tk.handle noField 0 0)))

/-- MP_READ_RESPONSE, MP_WRITE_ACK, FILL_WATCHDOG and MP_CTRL_READY in every case. The address in a MEMORY record is a free value
(log entry 80). A response without an issued operation, or one that comes while the block hears none, is discarded by the model's
reading (log entries 25 and 26). -/
def Obligations.MemoryPortAnswers : Prop :=
  ∀ (s : State) (op : Nat),
    (s.mpOp op = none ∨ (∃ o, s.mpOp op = some o ∧ (s.hears = false ∨ o.issued = false)) →
      ∀ resp tagOk d, exec (.mpReadResponse op resp tagOk d) s = .next s ∧ exec (.mpWriteAck op resp) s = .next s) ∧
    (s.mpOp op = none →
      (s.flash.jobs.find? (fun o => o.id = op && !o.job.writes) = none → exec (.fillWatchdog op) s = .next s) ∧
      ∀ j, s.flash.jobs.find? (fun o => o.id = op && !o.job.writes) = some j →
        (s.lcs.t2Ready = false ∨ s.tick < j.at_ + 100000 → exec (.fillWatchdog op) s = .next s) ∧
        (s.lcs.t2Ready = true → j.at_ + 100000 ≤ s.tick → exec (.fillWatchdog op) s =
          .next (((s.count cFILL_TIMEOUT (hTerr j.job.source) locBlock 1).dropJob j).jobRead j.job []))) ∧
    (∀ (o : MpOp) (t : Nat), s.mpOp op = some o → t = s.mpTerr o.kind →
      (o.kind.reads = true → ∀ resp, exec (.mpWriteAck op resp) s = .next s) ∧
      (o.kind.reads = false → ∀ resp tagOk d, exec (.mpReadResponse op resp tagOk d) s = .next s) ∧
      (s.hears = false ∨ o.issued = false ∨ o.kind.reads = false ∨ s.tick < o.at_ + 100000 →
        exec (.fillWatchdog op) s = .next s) ∧
      (s.hears = true → o.issued = true →
        (o.kind.reads = true →
          (∀ (resp : BitVec 2) (tagOk : Bool) (d : MpData) (u : State),
            u = (if resp = 1 then (s.mpDone o.id).count cMC_CORRECTED t locBlock 1 else s.mpDone o.id) →
            (resp = 0 ∨ resp = 1 → tagOk = true ∨ o.kind.tagged = false →
              exec (.mpReadResponse op resp tagOk d) s = .next (u.mpData o.kind true noCause d)) ∧
            (resp = 0 ∨ resp = 1 → tagOk = false → o.kind.tagged = true → exec (.mpReadResponse op resp tagOk d) s =
              .next ((u.count cTAG_MISMATCH t locBlock 1).mpData o.kind false cTAG_MISMATCH d)) ∧
            (resp = 2 → exec (.mpReadResponse op resp tagOk d) s =
              .next ((u.count cMC_UNCORRECTABLE t locBlock 1).mpData o.kind false cMC_UNCORRECTABLE d)) ∧
            (resp = 3 → exec (.mpReadResponse op resp tagOk d) s =
              .next (((u.count cMC_UNCORRECTABLE t locBlock 1).memFault t o.port cMC_UNCORRECTABLE 0).mpData o.kind false
                cMC_UNCORRECTABLE d))) ∧
          (o.at_ + 100000 ≤ s.tick → exec (.fillWatchdog op) s = .next ((((s.mpDone op).count cFILL_TIMEOUT t locBlock 1).memFault
            t o.port cFILL_TIMEOUT 0).mpData o.kind false cFILL_TIMEOUT .lines))) ∧
        (o.kind.reads = false → ∀ resp, exec (.mpWriteAck op resp) s = .next ((s.mpDone op).mpWritten o (resp = 0))) ∧
        (∀ n, o.kind = .journalDelta n false →
          exec (.mpWriteAck op 0) s = .next ((s.mpDone op).modT n (fun te => { te with
            journal := { te.journal with unacked := false, retried := false } })) ∧
          exec (.mpWriteAck op 2) s = .next (((s.mpDone op).modT n (fun te => { te with
            journal := { te.journal with retried := true } })).mpIssue o.port (.journalDelta n true))) ∧
        (∀ n, o.kind = .journalBase n false →
          exec (.mpWriteAck op 0) s = .next ((s.mpDone op).modT n (fun te => { te with
            journal := { te.journal with basePass := none, degraded := false } })) ∧
          exec (.mpWriteAck op 2) s = .next ((s.mpDone op).mpIssue o.port (.journalBase n true))) ∧
        (∀ n te, o.kind = .journalDelta n true → s.terrace n = some te → te.journal.degraded = false →
          exec (.mpWriteAck op 2) s = .next (((((s.mpDone op).modT n (fun te => { te with
            journal := { te.journal with degraded := true } })).count cJOURNAL_DEGRADED n locBlock 1).memFault n o.port
              cJOURNAL_DEGRADED 0).modT n (fun te => { te with
                journal := { te.journal with unacked := false, retried := false } }))))) ∧
    ∀ port : Nat,
      exec (.mpCtrlReady port false) s = .next { s with mpReady := setAt port (fun _ => false) s.mpReady } ∧
      exec (.mpCtrlReady port true) s = .next { s with
        mpReady := setAt port (fun _ => true) s.mpReady
        mp := s.mp.map (fun o => if o.port = port && !o.issued then { o with issued := true, at_ := s.tick } else o) }

/-- JOURNAL_BASE_WRITE, RIDDLE_COMPACTION and ECHO_ROW_CLEANUP in every case. The unit of a BASE pass and the test of the cleanup
are the model's readings (log entries 104 and 105). -/
def Obligations.BackgroundWorkActs : Prop :=
  ∀ (s : State) (t i : Nat),
    (s.terrace t = none → exec (.journalBaseWrite t) s = .next s ∧ exec (.riddleCompaction t i) s = .next s ∧
      exec (.echoRowCleanup t) s = .next s) ∧
    (s.tableRuns = false ∨ s.basing t = true → exec (.journalBaseWrite t) s = .next s) ∧
    (s.idleTurn t = false → exec (.riddleCompaction t i) s = .next s ∧ exec (.echoRowCleanup t) s = .next s) ∧
    ∀ te : Terrace, s.terrace t = some te →
      (s.tableRuns = true → s.basing t = false →
        exec (.journalBaseWrite t) s = .next ((s.modT t (fun te => { te with
          journal := { te.journal with basePass := some 1 } })).mpOwn t (.journalBase t false))) ∧
      (te.regions[i]? = none → exec (.riddleCompaction t i) s = .next s) ∧
      (∀ r, te.regions[i]? = some r → r.ordered = false ∨ r.compact = false → exec (.riddleCompaction t i) s = .next s) ∧
      (s.idleTurn t = true →
        (∀ r rows moves, te.regions[i]? = some r → r.ordered = true → r.compact = true →
          compactRows te.holes r.rows = (rows, moves) →
          exec (.riddleCompaction t i) s = .next ((s.modT t (fun te => { te with
            regions := setAt i (fun r => { r with rows := rows, compact := false }) te.regions })).count cRIDDLE_MOVE t
              te.quadLoc moves)) ∧
        exec (.echoRowCleanup t) s = .next (s.modT t (fun _ => { te with
          regions := te.regions.map (fun r => if r.kind = rkECHO then { r with
            rows := r.rows.map (fun row =>
              if row.rstate = rrEMPTY || te.echoLive t r.salt row then row else row.setState rrEMPTY) } else r) })))

/-- SPRING_HEALTH_FAIL, SPRING_RETRY_TIMER, DRBG_INSTANTIATE_DONE, DRBG_GENERATE and DRBG_RESEED in every case. The noise is a
free value (log entry 3). The raw bits are an operand, and a Generate may run within a row (log entries 62 and 98). -/
def Obligations.SpringEventsAct : Prop :=
  ∀ (s : State) (raw : List Bool) (t : Nat),
    (s.springOn = false → exec (.springHealthFail raw) s = .next s ∧ exec (.springRetryTimer raw) s = .next s ∧
      exec (.drbgInstantiateDone t) s = .next s ∧ exec (.drbgGenerate t) s = .next s ∧ exec (.drbgReseed t) s = .next s) ∧
    (s.springOn = true →
      (∀ (recent : List Tick) (u : State), recent = (s.tick :: s.spring.failAt).filter (fun a => s.tick < a + 100000000) →
        u = (State.raise { s with
          spring := { failed := true, dead := s.spring.dead || 4 ≤ recent.length, failAt := recent, queue := [] }
          terr := s.terr.mapVals (fun _ (te : Terrace) => { te with drbg := { count := te.drbg.count } }) } 20).count cENTROPY_FAIL
            noTerr locBlock 1 →
        (rawFails raw = true → exec (.springHealthFail raw) s = .next u) ∧
        (s.spring.failed = true → s.spring.dead = false → s.spring.failAt.headD 0 + 100000 ≤ s.tick → 1024 ≤ raw.length →
          rawFails (raw.take 1024) = true → exec (.springRetryTimer raw) s = .next u)) ∧
      (rawFails raw = false → exec (.springHealthFail raw) s = .next s) ∧
      (s.spring.failed = true → s.spring.dead = false → s.spring.failAt.headD 0 + 100000 ≤ s.tick → 1024 ≤ raw.length →
        rawFails (raw.take 1024) = false →
        exec (.springRetryTimer raw) s = .next { s with spring := { s.spring with failed := false, queue := s.terr.keys } }) ∧
      (s.spring.failed = false ∨ s.spring.dead = true ∨ s.tick < s.spring.failAt.headD 0 + 100000 ∨ raw.length < 1024 →
        exec (.springRetryTimer raw) s = .next s) ∧
      (s.spring.failed = true ∨ s.spring.queue.head? ≠ some t → exec (.drbgInstantiateDone t) s = .next s) ∧
      (∀ q te n x, s.spring.failed = false → s.spring.queue = t :: q → s.terrace t = some te →
        n = (s.instCount.get t).getD 0 + 1 →
        x = ctrInstantiate (noiseBytes s.fresh 128) (noiseBytes (s.fresh + 16) 32) (le 4 t ++ le 4 n) →
        exec (.drbgInstantiateDone t) s = .next (State.modT { s with
          spring := { s.spring with queue := q }, instCount := s.instCount.put t n, fresh := s.fresh + 20 } t (fun te =>
            { te with drbg := ({ live := true, key := x.1, v := x.2, count := n } : Drbg).generate }))) ∧
      (∀ te, s.terrace t = some te →
        (te.drbg.live = true → te.drbg.buffer.length < 100 → exec (.drbgGenerate t) s =
          .next (State.modT { s with fresh := s.fresh + 16 } t (fun te => { te with
            drbg := (if 2 ^ 20 ≤ te.drbg.gens then te.drbg.reseed s.fresh else te.drbg).generate }))) ∧
        (te.drbg.live = false ∨ 100 ≤ te.drbg.buffer.length → exec (.drbgGenerate t) s = .next s) ∧
        (s.spring.failed = false → te.drbg.live = true → 2 ^ 20 ≤ te.drbg.gens → exec (.drbgReseed t) s =
          .next (State.modT { s with fresh := s.fresh + 16 } t (fun te => { te with drbg := te.drbg.reseed s.fresh }))) ∧
        (s.spring.failed = true ∨ te.drbg.live = false ∨ te.drbg.gens < 2 ^ 20 → exec (.drbgReseed t) s = .next s)) ∧
      (s.terrace t = none → exec (.drbgGenerate t) s = .next s ∧ exec (.drbgReseed t) s = .next s)) ∧
    ∀ d : Drbg, d.buffer.length ≤ 100 → d.generate.buffer.take d.buffer.length = d.buffer ∧ d.generate.buffer.length ≤ 100 ∧
      d.generate.gens = d.gens + 1 ∧ d.generate.count = d.count ∧ d.generate.live = d.live

/-- What the queries leave unchanged: their effect is their completion. -/
def Obligations.QueriesChangeNoTerrace : Prop :=
  ∀ (s t : State) (src : Src) (c : Bytes) (i : Instr),
    i ∈ [Instr.fwQuery src c, .commandUnassigned src c, .countersReadCounters src c, .countersReadFaults src c, .reqQuery src c,
      .stepPortConfigQuery src c] → exec i s = .next t →
    t.terr = s.terr ∧ t.tasks = s.tasks ∧ t.cnt = s.cnt ∧ t.faults = s.faults ∧ t.sched.turn = s.sched.turn ∧
      t.sched.start = s.sched.start ∧ t.lcs = s.lcs ∧ t.pwr = s.pwr ∧ t.mp = s.mp ∧ t.tick = s.tick ∧ t.fuses = s.fuses ∧
      t.gens = s.gens ∧ t.pending = s.pending
end

