-- ==== Sys2Proof/Laws/Command.lean ====
section
/-! SUPPORT. What `State.command` can do, said once: nothing while the entry cannot be taken, a wait for a privileged domain, a
refusal with the first failing check, or the row's own effect. -/

namespace Sys2Proof.Machine

variable {s : State} {r : RingRow} {i : Instr} {act : State → State}

theorem command_idle (h : s.canTake r = false) : s.command r.sh r.row r.src r.c r.own act = s := by
  simp only [State.canTake] at h
  simp [State.command, h]

theorem command_awaits (h : s.canTake r = true) (hd : s.domainMissing r.src r.sh.op = true) :
    s.command r.sh r.row r.src r.c r.own act = s.awaitDomain r.src r.sh.op := by
  simp only [State.canTake] at h
  simp only [State.command, h, hd, if_true]

theorem command_refuses {st off : Nat} (h : s.canTake r = true) (hd : s.domainMissing r.src r.sh.op = false)
    (hf : s.firstFailure r = some (st, off)) :
    s.command r.sh r.row r.src r.c r.own act = (s.take r.src).refuse (ticketOf r.src r.c) st off := by
  simp only [State.canTake] at h
  simp only [State.firstFailure] at hf
  simp only [State.command, h, hd, if_true, Bool.false_eq_true, if_false]
  split at hf <;> simp_all

theorem command_acts (h : s.canTake r = true) (hd : s.domainMissing r.src r.sh.op = false) (hf : s.firstFailure r = none) :
    s.command r.sh r.row r.src r.c r.own act = act (s.take r.src) := by
  simp only [State.canTake] at h
  simp only [State.firstFailure] at hf
  simp only [State.command, h, hd, if_true, Bool.false_eq_true, if_false]
  split at hf <;> simp_all

/-- A command of the rings is accepted exactly when it is taken, waits for no domain and fails no check. -/
theorem accepts_iff (hr : s.ringRow i = some r) :
    s.accepts i = true ↔ s.canTake r = true ∧ s.domainMissing r.src r.sh.op = false ∧ s.firstFailure r = none := by
  simp [State.accepts, hr, and_assoc]

/-- An accepted command has its own effect on the state behind the taking of its entry. -/
theorem command_accepted (hr : s.ringRow i = some r) (h : s.accepts i = true) :
    s.command r.sh r.row r.src r.c r.own act = act (s.take r.src) :=
  have h := (accepts_iff hr).1 h
  command_acts h.1 h.2.1 h.2.2

/-- The same of a row of `exec`: `exec_accepted h rfl rfl` gives an accepted command's next state. -/
theorem exec_accepted (h : s.accepts i = true) (hr : s.ringRow i = some r)
    (he : exec i s = .next (s.command r.sh r.row r.src r.c r.own act)) : exec i s = .next (act (s.take r.src)) := by
  rw [he, command_accepted hr h]

/-- A list of checks passes where each of them does. -/
theorem Chk.first_eq_none {l : List Chk} : Chk.first l = none ↔ ∀ x ∈ l, x = none := by
  induction l with
  | nil => simp [Chk.first]
  | cons a l ih => cases a <;> simp [Chk.first, ih]

/-- What an accepted command's row says of its operands: its selector holds. -/
theorem accepted_row (hr : s.ringRow i = some r) (h : s.accepts i = true) : r.row = true := by
  have h := ((accepts_iff hr).1 h).1
  simp only [State.canTake, Bool.and_eq_true] at h
  exact h.1

/-- The reserved fields of an accepted command's body pass check 3. -/
theorem accepted_body (hr : s.ringRow i = some r) (h : s.accepts i = true) : ∀ x ∈ r.sh.body r.c, x = none := by
  have h := ((accepts_iff hr).1 h).2.2
  intro x hx
  simp only [State.firstFailure] at h
  split at h
  · cases h
  · rename_i e
    exact Chk.first_eq_none.1 e x (by simp [hx])

/-- The checks of its own that an accepted command passes. -/
theorem accepted_own (hr : s.ringRow i = some r) (h : s.accepts i = true) : r.own (s.take r.src) = none := by
  have h := ((accepts_iff hr).1 h).2.2
  simp only [State.firstFailure] at h
  split at h
  · cases h
  · exact h

end Sys2Proof.Machine
end

