-- ==== Sys2Proof/Laws/State.lean ====
section
/-! SUPPORT. What each plain update of the state does to each field: one lemma per field and update, so that no proof unfolds a
record update. -/

namespace Sys2Proof.Machine

variable (s : State)

/-! ### modMb -/

@[simp] theorem State.modMb_cfg (mb : Nat) (f : Mailbox → Mailbox) : (s.modMb mb f).cfg = s.cfg := rfl
@[simp] theorem State.modMb_tick (mb : Nat) (f : Mailbox → Mailbox) : (s.modMb mb f).tick = s.tick := rfl
@[simp] theorem State.modMb_fresh (mb : Nat) (f : Mailbox → Mailbox) : (s.modMb mb f).fresh = s.fresh := rfl
@[simp] theorem State.modMb_irq (mb : Nat) (f : Mailbox → Mailbox) : (s.modMb mb f).irq = s.irq := rfl
@[simp] theorem State.modMb_lcs (mb : Nat) (f : Mailbox → Mailbox) : (s.modMb mb f).lcs = s.lcs := rfl
@[simp] theorem State.modMb_boot (mb : Nat) (f : Mailbox → Mailbox) : (s.modMb mb f).boot = s.boot := rfl
@[simp] theorem State.modMb_fuses (mb : Nat) (f : Mailbox → Mailbox) : (s.modMb mb f).fuses = s.fuses := rfl
@[simp] theorem State.modMb_advance (mb : Nat) (f : Mailbox → Mailbox) : (s.modMb mb f).advance = s.advance := rfl
@[simp] theorem State.modMb_pwr (mb : Nat) (f : Mailbox → Mailbox) : (s.modMb mb f).pwr = s.pwr := rfl
@[simp] theorem State.modMb_sleep (mb : Nat) (f : Mailbox → Mailbox) : (s.modMb mb f).sleep = s.sleep := rfl
@[simp] theorem State.modMb_sb (mb : Nat) (f : Mailbox → Mailbox) : (s.modMb mb f).sb = s.sb := rfl
@[simp] theorem State.modMb_tap (mb : Nat) (f : Mailbox → Mailbox) : (s.modMb mb f).tap = s.tap := rfl
@[simp] theorem State.modMb_mbs (mb : Nat) (f : Mailbox → Mailbox) : (s.modMb mb f).mbs = setAt mb f s.mbs := rfl
@[simp] theorem State.modMb_sched (mb : Nat) (f : Mailbox → Mailbox) : (s.modMb mb f).sched = s.sched := rfl
@[simp] theorem State.modMb_terr (mb : Nat) (f : Mailbox → Mailbox) : (s.modMb mb f).terr = s.terr := rfl
@[simp] theorem State.modMb_gens (mb : Nat) (f : Mailbox → Mailbox) : (s.modMb mb f).gens = s.gens := rfl
@[simp] theorem State.modMb_genBase (mb : Nat) (f : Mailbox → Mailbox) : (s.modMb mb f).genBase = s.genBase := rfl
@[simp] theorem State.modMb_instCount (mb : Nat) (f : Mailbox → Mailbox) : (s.modMb mb f).instCount = s.instCount := rfl
@[simp] theorem State.modMb_tasks (mb : Nat) (f : Mailbox → Mailbox) : (s.modMb mb f).tasks = s.tasks := rfl
@[simp] theorem State.modMb_cores (mb : Nat) (f : Mailbox → Mailbox) : (s.modMb mb f).cores = s.cores := rfl
@[simp] theorem State.modMb_programs (mb : Nat) (f : Mailbox → Mailbox) : (s.modMb mb f).programs = s.programs := rfl
@[simp] theorem State.modMb_rrBay (mb : Nat) (f : Mailbox → Mailbox) : (s.modMb mb f).rrBay = s.rrBay := rfl
@[simp] theorem State.modMb_hfp (mb : Nat) (f : Mailbox → Mailbox) : (s.modMb mb f).hfp = s.hfp := rfl
@[simp] theorem State.modMb_mp (mb : Nat) (f : Mailbox → Mailbox) : (s.modMb mb f).mp = s.mp := rfl
@[simp] theorem State.modMb_mpReady (mb : Nat) (f : Mailbox → Mailbox) : (s.modMb mb f).mpReady = s.mpReady := rfl
@[simp] theorem State.modMb_nextId (mb : Nat) (f : Mailbox → Mailbox) : (s.modMb mb f).nextId = s.nextId := rfl
@[simp] theorem State.modMb_egress (mb : Nat) (f : Mailbox → Mailbox) : (s.modMb mb f).egress = s.egress := rfl
@[simp] theorem State.modMb_spring (mb : Nat) (f : Mailbox → Mailbox) : (s.modMb mb f).spring = s.spring := rfl
@[simp] theorem State.modMb_faults (mb : Nat) (f : Mailbox → Mailbox) : (s.modMb mb f).faults = s.faults := rfl
@[simp] theorem State.modMb_cnt (mb : Nat) (f : Mailbox → Mailbox) : (s.modMb mb f).cnt = s.cnt := rfl
@[simp] theorem State.modMb_cntWin (mb : Nat) (f : Mailbox → Mailbox) : (s.modMb mb f).cntWin = s.cntWin := rfl
@[simp] theorem State.modMb_tbLatch (mb : Nat) (f : Mailbox → Mailbox) : (s.modMb mb f).tbLatch = s.tbLatch := rfl
@[simp] theorem State.modMb_clearing (mb : Nat) (f : Mailbox → Mailbox) : (s.modMb mb f).clearing = s.clearing := rfl
@[simp] theorem State.modMb_signals (mb : Nat) (f : Mailbox → Mailbox) : (s.modMb mb f).signals = s.signals := rfl
@[simp] theorem State.modMb_syncEnds (mb : Nat) (f : Mailbox → Mailbox) : (s.modMb mb f).syncEnds = s.syncEnds := rfl
@[simp] theorem State.modMb_flash (mb : Nat) (f : Mailbox → Mailbox) : (s.modMb mb f).flash = s.flash := rfl
@[simp] theorem State.modMb_medium (mb : Nat) (f : Mailbox → Mailbox) : (s.modMb mb f).medium = s.medium := rfl
@[simp] theorem State.modMb_intakeClosed (mb : Nat) (f : Mailbox → Mailbox) : (s.modMb mb f).intakeClosed = s.intakeClosed := rfl
@[simp] theorem State.modMb_erasedMode (mb : Nat) (f : Mailbox → Mailbox) : (s.modMb mb f).erasedMode = s.erasedMode := rfl
@[simp] theorem State.modMb_rsp (mb : Nat) (f : Mailbox → Mailbox) : (s.modMb mb f).rsp = s.rsp := rfl
@[simp] theorem State.modMb_spAttn (mb : Nat) (f : Mailbox → Mailbox) : (s.modMb mb f).spAttn = s.spAttn := rfl
@[simp] theorem State.modMb_pending (mb : Nat) (f : Mailbox → Mailbox) : (s.modMb mb f).pending = s.pending := rfl

/-! ### modT -/

@[simp] theorem State.modT_cfg (t : Nat) (f : Terrace → Terrace) : (s.modT t f).cfg = s.cfg := rfl
@[simp] theorem State.modT_tick (t : Nat) (f : Terrace → Terrace) : (s.modT t f).tick = s.tick := rfl
@[simp] theorem State.modT_fresh (t : Nat) (f : Terrace → Terrace) : (s.modT t f).fresh = s.fresh := rfl
@[simp] theorem State.modT_irq (t : Nat) (f : Terrace → Terrace) : (s.modT t f).irq = s.irq := rfl
@[simp] theorem State.modT_lcs (t : Nat) (f : Terrace → Terrace) : (s.modT t f).lcs = s.lcs := rfl
@[simp] theorem State.modT_boot (t : Nat) (f : Terrace → Terrace) : (s.modT t f).boot = s.boot := rfl
@[simp] theorem State.modT_fuses (t : Nat) (f : Terrace → Terrace) : (s.modT t f).fuses = s.fuses := rfl
@[simp] theorem State.modT_advance (t : Nat) (f : Terrace → Terrace) : (s.modT t f).advance = s.advance := rfl
@[simp] theorem State.modT_pwr (t : Nat) (f : Terrace → Terrace) : (s.modT t f).pwr = s.pwr := rfl
@[simp] theorem State.modT_sleep (t : Nat) (f : Terrace → Terrace) : (s.modT t f).sleep = s.sleep := rfl
@[simp] theorem State.modT_sb (t : Nat) (f : Terrace → Terrace) : (s.modT t f).sb = s.sb := rfl
@[simp] theorem State.modT_tap (t : Nat) (f : Terrace → Terrace) : (s.modT t f).tap = s.tap := rfl
@[simp] theorem State.modT_mbs (t : Nat) (f : Terrace → Terrace) : (s.modT t f).mbs = s.mbs := rfl
@[simp] theorem State.modT_sched (t : Nat) (f : Terrace → Terrace) : (s.modT t f).sched = s.sched := rfl
@[simp] theorem State.modT_terr (t : Nat) (f : Terrace → Terrace) : (s.modT t f).terr = s.terr.mod t f := rfl
@[simp] theorem State.modT_gens (t : Nat) (f : Terrace → Terrace) : (s.modT t f).gens = s.gens := rfl
@[simp] theorem State.modT_genBase (t : Nat) (f : Terrace → Terrace) : (s.modT t f).genBase = s.genBase := rfl
@[simp] theorem State.modT_instCount (t : Nat) (f : Terrace → Terrace) : (s.modT t f).instCount = s.instCount := rfl
@[simp] theorem State.modT_tasks (t : Nat) (f : Terrace → Terrace) : (s.modT t f).tasks = s.tasks := rfl
@[simp] theorem State.modT_cores (t : Nat) (f : Terrace → Terrace) : (s.modT t f).cores = s.cores := rfl
@[simp] theorem State.modT_programs (t : Nat) (f : Terrace → Terrace) : (s.modT t f).programs = s.programs := rfl
@[simp] theorem State.modT_rrBay (t : Nat) (f : Terrace → Terrace) : (s.modT t f).rrBay = s.rrBay := rfl
@[simp] theorem State.modT_hfp (t : Nat) (f : Terrace → Terrace) : (s.modT t f).hfp = s.hfp := rfl
@[simp] theorem State.modT_mp (t : Nat) (f : Terrace → Terrace) : (s.modT t f).mp = s.mp := rfl
@[simp] theorem State.modT_mpReady (t : Nat) (f : Terrace → Terrace) : (s.modT t f).mpReady = s.mpReady := rfl
@[simp] theorem State.modT_nextId (t : Nat) (f : Terrace → Terrace) : (s.modT t f).nextId = s.nextId := rfl
@[simp] theorem State.modT_egress (t : Nat) (f : Terrace → Terrace) : (s.modT t f).egress = s.egress := rfl
@[simp] theorem State.modT_spring (t : Nat) (f : Terrace → Terrace) : (s.modT t f).spring = s.spring := rfl
@[simp] theorem State.modT_faults (t : Nat) (f : Terrace → Terrace) : (s.modT t f).faults = s.faults := rfl
@[simp] theorem State.modT_cnt (t : Nat) (f : Terrace → Terrace) : (s.modT t f).cnt = s.cnt := rfl
@[simp] theorem State.modT_cntWin (t : Nat) (f : Terrace → Terrace) : (s.modT t f).cntWin = s.cntWin := rfl
@[simp] theorem State.modT_tbLatch (t : Nat) (f : Terrace → Terrace) : (s.modT t f).tbLatch = s.tbLatch := rfl
@[simp] theorem State.modT_clearing (t : Nat) (f : Terrace → Terrace) : (s.modT t f).clearing = s.clearing := rfl
@[simp] theorem State.modT_signals (t : Nat) (f : Terrace → Terrace) : (s.modT t f).signals = s.signals := rfl
@[simp] theorem State.modT_syncEnds (t : Nat) (f : Terrace → Terrace) : (s.modT t f).syncEnds = s.syncEnds := rfl
@[simp] theorem State.modT_flash (t : Nat) (f : Terrace → Terrace) : (s.modT t f).flash = s.flash := rfl
@[simp] theorem State.modT_medium (t : Nat) (f : Terrace → Terrace) : (s.modT t f).medium = s.medium := rfl
@[simp] theorem State.modT_intakeClosed (t : Nat) (f : Terrace → Terrace) : (s.modT t f).intakeClosed = s.intakeClosed := rfl
@[simp] theorem State.modT_erasedMode (t : Nat) (f : Terrace → Terrace) : (s.modT t f).erasedMode = s.erasedMode := rfl
@[simp] theorem State.modT_rsp (t : Nat) (f : Terrace → Terrace) : (s.modT t f).rsp = s.rsp := rfl
@[simp] theorem State.modT_spAttn (t : Nat) (f : Terrace → Terrace) : (s.modT t f).spAttn = s.spAttn := rfl
@[simp] theorem State.modT_pending (t : Nat) (f : Terrace → Terrace) : (s.modT t f).pending = s.pending := rfl

/-! ### bumpGen -/

@[simp] theorem State.bumpGen_cfg (t ty i : Nat) : (s.bumpGen t ty i).cfg = s.cfg := rfl
@[simp] theorem State.bumpGen_tick (t ty i : Nat) : (s.bumpGen t ty i).tick = s.tick := rfl
@[simp] theorem State.bumpGen_fresh (t ty i : Nat) : (s.bumpGen t ty i).fresh = s.fresh := rfl
@[simp] theorem State.bumpGen_irq (t ty i : Nat) : (s.bumpGen t ty i).irq = s.irq := rfl
@[simp] theorem State.bumpGen_lcs (t ty i : Nat) : (s.bumpGen t ty i).lcs = s.lcs := rfl
@[simp] theorem State.bumpGen_boot (t ty i : Nat) : (s.bumpGen t ty i).boot = s.boot := rfl
@[simp] theorem State.bumpGen_fuses (t ty i : Nat) : (s.bumpGen t ty i).fuses = s.fuses := rfl
@[simp] theorem State.bumpGen_advance (t ty i : Nat) : (s.bumpGen t ty i).advance = s.advance := rfl
@[simp] theorem State.bumpGen_pwr (t ty i : Nat) : (s.bumpGen t ty i).pwr = s.pwr := rfl
@[simp] theorem State.bumpGen_sleep (t ty i : Nat) : (s.bumpGen t ty i).sleep = s.sleep := rfl
@[simp] theorem State.bumpGen_sb (t ty i : Nat) : (s.bumpGen t ty i).sb = s.sb := rfl
@[simp] theorem State.bumpGen_tap (t ty i : Nat) : (s.bumpGen t ty i).tap = s.tap := rfl
@[simp] theorem State.bumpGen_mbs (t ty i : Nat) : (s.bumpGen t ty i).mbs = s.mbs := rfl
@[simp] theorem State.bumpGen_sched (t ty i : Nat) : (s.bumpGen t ty i).sched = s.sched := rfl
@[simp] theorem State.bumpGen_terr (t ty i : Nat) : (s.bumpGen t ty i).terr = s.terr := rfl
@[simp] theorem State.bumpGen_genBase (t ty i : Nat) : (s.bumpGen t ty i).genBase = s.genBase := rfl
@[simp] theorem State.bumpGen_instCount (t ty i : Nat) : (s.bumpGen t ty i).instCount = s.instCount := rfl
@[simp] theorem State.bumpGen_tasks (t ty i : Nat) : (s.bumpGen t ty i).tasks = s.tasks := rfl
@[simp] theorem State.bumpGen_cores (t ty i : Nat) : (s.bumpGen t ty i).cores = s.cores := rfl
@[simp] theorem State.bumpGen_programs (t ty i : Nat) : (s.bumpGen t ty i).programs = s.programs := rfl
@[simp] theorem State.bumpGen_rrBay (t ty i : Nat) : (s.bumpGen t ty i).rrBay = s.rrBay := rfl
@[simp] theorem State.bumpGen_hfp (t ty i : Nat) : (s.bumpGen t ty i).hfp = s.hfp := rfl
@[simp] theorem State.bumpGen_mp (t ty i : Nat) : (s.bumpGen t ty i).mp = s.mp := rfl
@[simp] theorem State.bumpGen_mpReady (t ty i : Nat) : (s.bumpGen t ty i).mpReady = s.mpReady := rfl
@[simp] theorem State.bumpGen_nextId (t ty i : Nat) : (s.bumpGen t ty i).nextId = s.nextId := rfl
@[simp] theorem State.bumpGen_egress (t ty i : Nat) : (s.bumpGen t ty i).egress = s.egress := rfl
@[simp] theorem State.bumpGen_spring (t ty i : Nat) : (s.bumpGen t ty i).spring = s.spring := rfl
@[simp] theorem State.bumpGen_faults (t ty i : Nat) : (s.bumpGen t ty i).faults = s.faults := rfl
@[simp] theorem State.bumpGen_cnt (t ty i : Nat) : (s.bumpGen t ty i).cnt = s.cnt := rfl
@[simp] theorem State.bumpGen_cntWin (t ty i : Nat) : (s.bumpGen t ty i).cntWin = s.cntWin := rfl
@[simp] theorem State.bumpGen_tbLatch (t ty i : Nat) : (s.bumpGen t ty i).tbLatch = s.tbLatch := rfl
@[simp] theorem State.bumpGen_clearing (t ty i : Nat) : (s.bumpGen t ty i).clearing = s.clearing := rfl
@[simp] theorem State.bumpGen_signals (t ty i : Nat) : (s.bumpGen t ty i).signals = s.signals := rfl
@[simp] theorem State.bumpGen_syncEnds (t ty i : Nat) : (s.bumpGen t ty i).syncEnds = s.syncEnds := rfl
@[simp] theorem State.bumpGen_flash (t ty i : Nat) : (s.bumpGen t ty i).flash = s.flash := rfl
@[simp] theorem State.bumpGen_medium (t ty i : Nat) : (s.bumpGen t ty i).medium = s.medium := rfl
@[simp] theorem State.bumpGen_intakeClosed (t ty i : Nat) : (s.bumpGen t ty i).intakeClosed = s.intakeClosed := rfl
@[simp] theorem State.bumpGen_erasedMode (t ty i : Nat) : (s.bumpGen t ty i).erasedMode = s.erasedMode := rfl
@[simp] theorem State.bumpGen_rsp (t ty i : Nat) : (s.bumpGen t ty i).rsp = s.rsp := rfl
@[simp] theorem State.bumpGen_spAttn (t ty i : Nat) : (s.bumpGen t ty i).spAttn = s.spAttn := rfl
@[simp] theorem State.bumpGen_pending (t ty i : Nat) : (s.bumpGen t ty i).pending = s.pending := rfl

/-! ### newId -/

@[simp] theorem State.newId_cfg : (s.newId).cfg = s.cfg := rfl
@[simp] theorem State.newId_tick : (s.newId).tick = s.tick := rfl
@[simp] theorem State.newId_fresh : (s.newId).fresh = s.fresh := rfl
@[simp] theorem State.newId_irq : (s.newId).irq = s.irq := rfl
@[simp] theorem State.newId_lcs : (s.newId).lcs = s.lcs := rfl
@[simp] theorem State.newId_boot : (s.newId).boot = s.boot := rfl
@[simp] theorem State.newId_fuses : (s.newId).fuses = s.fuses := rfl
@[simp] theorem State.newId_advance : (s.newId).advance = s.advance := rfl
@[simp] theorem State.newId_pwr : (s.newId).pwr = s.pwr := rfl
@[simp] theorem State.newId_sleep : (s.newId).sleep = s.sleep := rfl
@[simp] theorem State.newId_sb : (s.newId).sb = s.sb := rfl
@[simp] theorem State.newId_tap : (s.newId).tap = s.tap := rfl
@[simp] theorem State.newId_mbs : (s.newId).mbs = s.mbs := rfl
@[simp] theorem State.newId_sched : (s.newId).sched = s.sched := rfl
@[simp] theorem State.newId_terr : (s.newId).terr = s.terr := rfl
@[simp] theorem State.newId_gens : (s.newId).gens = s.gens := rfl
@[simp] theorem State.newId_genBase : (s.newId).genBase = s.genBase := rfl
@[simp] theorem State.newId_instCount : (s.newId).instCount = s.instCount := rfl
@[simp] theorem State.newId_tasks : (s.newId).tasks = s.tasks := rfl
@[simp] theorem State.newId_cores : (s.newId).cores = s.cores := rfl
@[simp] theorem State.newId_programs : (s.newId).programs = s.programs := rfl
@[simp] theorem State.newId_rrBay : (s.newId).rrBay = s.rrBay := rfl
@[simp] theorem State.newId_hfp : (s.newId).hfp = s.hfp := rfl
@[simp] theorem State.newId_mp : (s.newId).mp = s.mp := rfl
@[simp] theorem State.newId_mpReady : (s.newId).mpReady = s.mpReady := rfl
@[simp] theorem State.newId_nextId : (s.newId).nextId = s.nextId + 1 := rfl
@[simp] theorem State.newId_egress : (s.newId).egress = s.egress := rfl
@[simp] theorem State.newId_spring : (s.newId).spring = s.spring := rfl
@[simp] theorem State.newId_faults : (s.newId).faults = s.faults := rfl
@[simp] theorem State.newId_cnt : (s.newId).cnt = s.cnt := rfl
@[simp] theorem State.newId_cntWin : (s.newId).cntWin = s.cntWin := rfl
@[simp] theorem State.newId_tbLatch : (s.newId).tbLatch = s.tbLatch := rfl
@[simp] theorem State.newId_clearing : (s.newId).clearing = s.clearing := rfl
@[simp] theorem State.newId_signals : (s.newId).signals = s.signals := rfl
@[simp] theorem State.newId_syncEnds : (s.newId).syncEnds = s.syncEnds := rfl
@[simp] theorem State.newId_flash : (s.newId).flash = s.flash := rfl
@[simp] theorem State.newId_medium : (s.newId).medium = s.medium := rfl
@[simp] theorem State.newId_intakeClosed : (s.newId).intakeClosed = s.intakeClosed := rfl
@[simp] theorem State.newId_erasedMode : (s.newId).erasedMode = s.erasedMode := rfl
@[simp] theorem State.newId_rsp : (s.newId).rsp = s.rsp := rfl
@[simp] theorem State.newId_spAttn : (s.newId).spAttn = s.spAttn := rfl
@[simp] theorem State.newId_pending : (s.newId).pending = s.pending := rfl

/-! ### setStatus -/

@[simp] theorem State.setStatus_cfg (n : Nat) : (s.setStatus n).cfg = s.cfg := rfl
@[simp] theorem State.setStatus_tick (n : Nat) : (s.setStatus n).tick = s.tick := rfl
@[simp] theorem State.setStatus_fresh (n : Nat) : (s.setStatus n).fresh = s.fresh := rfl
@[simp] theorem State.setStatus_lcs (n : Nat) : (s.setStatus n).lcs = s.lcs := rfl
@[simp] theorem State.setStatus_boot (n : Nat) : (s.setStatus n).boot = s.boot := rfl
@[simp] theorem State.setStatus_fuses (n : Nat) : (s.setStatus n).fuses = s.fuses := rfl
@[simp] theorem State.setStatus_advance (n : Nat) : (s.setStatus n).advance = s.advance := rfl
@[simp] theorem State.setStatus_pwr (n : Nat) : (s.setStatus n).pwr = s.pwr := rfl
@[simp] theorem State.setStatus_sleep (n : Nat) : (s.setStatus n).sleep = s.sleep := rfl
@[simp] theorem State.setStatus_sb (n : Nat) : (s.setStatus n).sb = s.sb := rfl
@[simp] theorem State.setStatus_tap (n : Nat) : (s.setStatus n).tap = s.tap := rfl
@[simp] theorem State.setStatus_mbs (n : Nat) : (s.setStatus n).mbs = s.mbs := rfl
@[simp] theorem State.setStatus_sched (n : Nat) : (s.setStatus n).sched = s.sched := rfl
@[simp] theorem State.setStatus_terr (n : Nat) : (s.setStatus n).terr = s.terr := rfl
@[simp] theorem State.setStatus_gens (n : Nat) : (s.setStatus n).gens = s.gens := rfl
@[simp] theorem State.setStatus_genBase (n : Nat) : (s.setStatus n).genBase = s.genBase := rfl
@[simp] theorem State.setStatus_instCount (n : Nat) : (s.setStatus n).instCount = s.instCount := rfl
@[simp] theorem State.setStatus_tasks (n : Nat) : (s.setStatus n).tasks = s.tasks := rfl
@[simp] theorem State.setStatus_cores (n : Nat) : (s.setStatus n).cores = s.cores := rfl
@[simp] theorem State.setStatus_programs (n : Nat) : (s.setStatus n).programs = s.programs := rfl
@[simp] theorem State.setStatus_rrBay (n : Nat) : (s.setStatus n).rrBay = s.rrBay := rfl
@[simp] theorem State.setStatus_hfp (n : Nat) : (s.setStatus n).hfp = s.hfp := rfl
@[simp] theorem State.setStatus_mp (n : Nat) : (s.setStatus n).mp = s.mp := rfl
@[simp] theorem State.setStatus_mpReady (n : Nat) : (s.setStatus n).mpReady = s.mpReady := rfl
@[simp] theorem State.setStatus_nextId (n : Nat) : (s.setStatus n).nextId = s.nextId := rfl
@[simp] theorem State.setStatus_egress (n : Nat) : (s.setStatus n).egress = s.egress := rfl
@[simp] theorem State.setStatus_spring (n : Nat) : (s.setStatus n).spring = s.spring := rfl
@[simp] theorem State.setStatus_faults (n : Nat) : (s.setStatus n).faults = s.faults := rfl
@[simp] theorem State.setStatus_cnt (n : Nat) : (s.setStatus n).cnt = s.cnt := rfl
@[simp] theorem State.setStatus_cntWin (n : Nat) : (s.setStatus n).cntWin = s.cntWin := rfl
@[simp] theorem State.setStatus_tbLatch (n : Nat) : (s.setStatus n).tbLatch = s.tbLatch := rfl
@[simp] theorem State.setStatus_clearing (n : Nat) : (s.setStatus n).clearing = s.clearing := rfl
@[simp] theorem State.setStatus_signals (n : Nat) : (s.setStatus n).signals = s.signals := rfl
@[simp] theorem State.setStatus_syncEnds (n : Nat) : (s.setStatus n).syncEnds = s.syncEnds := rfl
@[simp] theorem State.setStatus_flash (n : Nat) : (s.setStatus n).flash = s.flash := rfl
@[simp] theorem State.setStatus_medium (n : Nat) : (s.setStatus n).medium = s.medium := rfl
@[simp] theorem State.setStatus_intakeClosed (n : Nat) : (s.setStatus n).intakeClosed = s.intakeClosed := rfl
@[simp] theorem State.setStatus_erasedMode (n : Nat) : (s.setStatus n).erasedMode = s.erasedMode := rfl
@[simp] theorem State.setStatus_rsp (n : Nat) : (s.setStatus n).rsp = s.rsp := rfl
@[simp] theorem State.setStatus_spAttn (n : Nat) : (s.setStatus n).spAttn = s.spAttn := rfl
@[simp] theorem State.setStatus_pending (n : Nat) : (s.setStatus n).pending = s.pending := rfl

/-! ### clearStatus -/

@[simp] theorem State.clearStatus_cfg (n : Nat) : (s.clearStatus n).cfg = s.cfg := rfl
@[simp] theorem State.clearStatus_tick (n : Nat) : (s.clearStatus n).tick = s.tick := rfl
@[simp] theorem State.clearStatus_fresh (n : Nat) : (s.clearStatus n).fresh = s.fresh := rfl
@[simp] theorem State.clearStatus_lcs (n : Nat) : (s.clearStatus n).lcs = s.lcs := rfl
@[simp] theorem State.clearStatus_boot (n : Nat) : (s.clearStatus n).boot = s.boot := rfl
@[simp] theorem State.clearStatus_fuses (n : Nat) : (s.clearStatus n).fuses = s.fuses := rfl
@[simp] theorem State.clearStatus_advance (n : Nat) : (s.clearStatus n).advance = s.advance := rfl
@[simp] theorem State.clearStatus_pwr (n : Nat) : (s.clearStatus n).pwr = s.pwr := rfl
@[simp] theorem State.clearStatus_sleep (n : Nat) : (s.clearStatus n).sleep = s.sleep := rfl
@[simp] theorem State.clearStatus_sb (n : Nat) : (s.clearStatus n).sb = s.sb := rfl
@[simp] theorem State.clearStatus_tap (n : Nat) : (s.clearStatus n).tap = s.tap := rfl
@[simp] theorem State.clearStatus_mbs (n : Nat) : (s.clearStatus n).mbs = s.mbs := rfl
@[simp] theorem State.clearStatus_sched (n : Nat) : (s.clearStatus n).sched = s.sched := rfl
@[simp] theorem State.clearStatus_terr (n : Nat) : (s.clearStatus n).terr = s.terr := rfl
@[simp] theorem State.clearStatus_gens (n : Nat) : (s.clearStatus n).gens = s.gens := rfl
@[simp] theorem State.clearStatus_genBase (n : Nat) : (s.clearStatus n).genBase = s.genBase := rfl
@[simp] theorem State.clearStatus_instCount (n : Nat) : (s.clearStatus n).instCount = s.instCount := rfl
@[simp] theorem State.clearStatus_tasks (n : Nat) : (s.clearStatus n).tasks = s.tasks := rfl
@[simp] theorem State.clearStatus_cores (n : Nat) : (s.clearStatus n).cores = s.cores := rfl
@[simp] theorem State.clearStatus_programs (n : Nat) : (s.clearStatus n).programs = s.programs := rfl
@[simp] theorem State.clearStatus_rrBay (n : Nat) : (s.clearStatus n).rrBay = s.rrBay := rfl
@[simp] theorem State.clearStatus_hfp (n : Nat) : (s.clearStatus n).hfp = s.hfp := rfl
@[simp] theorem State.clearStatus_mp (n : Nat) : (s.clearStatus n).mp = s.mp := rfl
@[simp] theorem State.clearStatus_mpReady (n : Nat) : (s.clearStatus n).mpReady = s.mpReady := rfl
@[simp] theorem State.clearStatus_nextId (n : Nat) : (s.clearStatus n).nextId = s.nextId := rfl
@[simp] theorem State.clearStatus_egress (n : Nat) : (s.clearStatus n).egress = s.egress := rfl
@[simp] theorem State.clearStatus_spring (n : Nat) : (s.clearStatus n).spring = s.spring := rfl
@[simp] theorem State.clearStatus_faults (n : Nat) : (s.clearStatus n).faults = s.faults := rfl
@[simp] theorem State.clearStatus_cnt (n : Nat) : (s.clearStatus n).cnt = s.cnt := rfl
@[simp] theorem State.clearStatus_cntWin (n : Nat) : (s.clearStatus n).cntWin = s.cntWin := rfl
@[simp] theorem State.clearStatus_tbLatch (n : Nat) : (s.clearStatus n).tbLatch = s.tbLatch := rfl
@[simp] theorem State.clearStatus_clearing (n : Nat) : (s.clearStatus n).clearing = s.clearing := rfl
@[simp] theorem State.clearStatus_signals (n : Nat) : (s.clearStatus n).signals = s.signals := rfl
@[simp] theorem State.clearStatus_syncEnds (n : Nat) : (s.clearStatus n).syncEnds = s.syncEnds := rfl
@[simp] theorem State.clearStatus_flash (n : Nat) : (s.clearStatus n).flash = s.flash := rfl
@[simp] theorem State.clearStatus_medium (n : Nat) : (s.clearStatus n).medium = s.medium := rfl
@[simp] theorem State.clearStatus_intakeClosed (n : Nat) : (s.clearStatus n).intakeClosed = s.intakeClosed := rfl
@[simp] theorem State.clearStatus_erasedMode (n : Nat) : (s.clearStatus n).erasedMode = s.erasedMode := rfl
@[simp] theorem State.clearStatus_rsp (n : Nat) : (s.clearStatus n).rsp = s.rsp := rfl
@[simp] theorem State.clearStatus_spAttn (n : Nat) : (s.clearStatus n).spAttn = s.spAttn := rfl
@[simp] theorem State.clearStatus_pending (n : Nat) : (s.clearStatus n).pending = s.pending := rfl

/-! ### hfpIssue -/

@[simp] theorem State.hfpIssue_cfg (t : Nat) (k : HfpKind) : (s.hfpIssue t k).cfg = s.cfg := rfl
@[simp] theorem State.hfpIssue_tick (t : Nat) (k : HfpKind) : (s.hfpIssue t k).tick = s.tick := rfl
@[simp] theorem State.hfpIssue_fresh (t : Nat) (k : HfpKind) : (s.hfpIssue t k).fresh = s.fresh := rfl
@[simp] theorem State.hfpIssue_irq (t : Nat) (k : HfpKind) : (s.hfpIssue t k).irq = s.irq := rfl
@[simp] theorem State.hfpIssue_lcs (t : Nat) (k : HfpKind) : (s.hfpIssue t k).lcs = s.lcs := rfl
@[simp] theorem State.hfpIssue_boot (t : Nat) (k : HfpKind) : (s.hfpIssue t k).boot = s.boot := rfl
@[simp] theorem State.hfpIssue_fuses (t : Nat) (k : HfpKind) : (s.hfpIssue t k).fuses = s.fuses := rfl
@[simp] theorem State.hfpIssue_advance (t : Nat) (k : HfpKind) : (s.hfpIssue t k).advance = s.advance := rfl
@[simp] theorem State.hfpIssue_pwr (t : Nat) (k : HfpKind) : (s.hfpIssue t k).pwr = s.pwr := rfl
@[simp] theorem State.hfpIssue_sleep (t : Nat) (k : HfpKind) : (s.hfpIssue t k).sleep = s.sleep := rfl
@[simp] theorem State.hfpIssue_sb (t : Nat) (k : HfpKind) : (s.hfpIssue t k).sb = s.sb := rfl
@[simp] theorem State.hfpIssue_tap (t : Nat) (k : HfpKind) : (s.hfpIssue t k).tap = s.tap := rfl
@[simp] theorem State.hfpIssue_mbs (t : Nat) (k : HfpKind) : (s.hfpIssue t k).mbs = s.mbs := rfl
@[simp] theorem State.hfpIssue_sched (t : Nat) (k : HfpKind) : (s.hfpIssue t k).sched = s.sched := rfl
@[simp] theorem State.hfpIssue_terr (t : Nat) (k : HfpKind) : (s.hfpIssue t k).terr = s.terr := rfl
@[simp] theorem State.hfpIssue_gens (t : Nat) (k : HfpKind) : (s.hfpIssue t k).gens = s.gens := rfl
@[simp] theorem State.hfpIssue_genBase (t : Nat) (k : HfpKind) : (s.hfpIssue t k).genBase = s.genBase := rfl
@[simp] theorem State.hfpIssue_instCount (t : Nat) (k : HfpKind) : (s.hfpIssue t k).instCount = s.instCount := rfl
@[simp] theorem State.hfpIssue_tasks (t : Nat) (k : HfpKind) : (s.hfpIssue t k).tasks = s.tasks := rfl
@[simp] theorem State.hfpIssue_cores (t : Nat) (k : HfpKind) : (s.hfpIssue t k).cores = s.cores := rfl
@[simp] theorem State.hfpIssue_programs (t : Nat) (k : HfpKind) : (s.hfpIssue t k).programs = s.programs := rfl
@[simp] theorem State.hfpIssue_rrBay (t : Nat) (k : HfpKind) : (s.hfpIssue t k).rrBay = s.rrBay := rfl
@[simp] theorem State.hfpIssue_hfp (t : Nat) (k : HfpKind) : (s.hfpIssue t k).hfp = s.hfp ++ [⟨s.nextId, t, s.tick, k⟩] := rfl
@[simp] theorem State.hfpIssue_mp (t : Nat) (k : HfpKind) : (s.hfpIssue t k).mp = s.mp := rfl
@[simp] theorem State.hfpIssue_mpReady (t : Nat) (k : HfpKind) : (s.hfpIssue t k).mpReady = s.mpReady := rfl
@[simp] theorem State.hfpIssue_nextId (t : Nat) (k : HfpKind) : (s.hfpIssue t k).nextId = s.nextId + 1 := rfl
@[simp] theorem State.hfpIssue_egress (t : Nat) (k : HfpKind) : (s.hfpIssue t k).egress = s.egress := rfl
@[simp] theorem State.hfpIssue_spring (t : Nat) (k : HfpKind) : (s.hfpIssue t k).spring = s.spring := rfl
@[simp] theorem State.hfpIssue_faults (t : Nat) (k : HfpKind) : (s.hfpIssue t k).faults = s.faults := rfl
@[simp] theorem State.hfpIssue_cnt (t : Nat) (k : HfpKind) : (s.hfpIssue t k).cnt = s.cnt := rfl
@[simp] theorem State.hfpIssue_cntWin (t : Nat) (k : HfpKind) : (s.hfpIssue t k).cntWin = s.cntWin := rfl
@[simp] theorem State.hfpIssue_tbLatch (t : Nat) (k : HfpKind) : (s.hfpIssue t k).tbLatch = s.tbLatch := rfl
@[simp] theorem State.hfpIssue_clearing (t : Nat) (k : HfpKind) : (s.hfpIssue t k).clearing = s.clearing := rfl
@[simp] theorem State.hfpIssue_signals (t : Nat) (k : HfpKind) : (s.hfpIssue t k).signals = s.signals := rfl
@[simp] theorem State.hfpIssue_syncEnds (t : Nat) (k : HfpKind) : (s.hfpIssue t k).syncEnds = s.syncEnds := rfl
@[simp] theorem State.hfpIssue_flash (t : Nat) (k : HfpKind) : (s.hfpIssue t k).flash = s.flash := rfl
@[simp] theorem State.hfpIssue_medium (t : Nat) (k : HfpKind) : (s.hfpIssue t k).medium = s.medium := rfl
@[simp] theorem State.hfpIssue_intakeClosed (t : Nat) (k : HfpKind) : (s.hfpIssue t k).intakeClosed = s.intakeClosed := rfl
@[simp] theorem State.hfpIssue_erasedMode (t : Nat) (k : HfpKind) : (s.hfpIssue t k).erasedMode = s.erasedMode := rfl
@[simp] theorem State.hfpIssue_rsp (t : Nat) (k : HfpKind) : (s.hfpIssue t k).rsp = s.rsp := rfl
@[simp] theorem State.hfpIssue_spAttn (t : Nat) (k : HfpKind) : (s.hfpIssue t k).spAttn = s.spAttn := rfl
@[simp] theorem State.hfpIssue_pending (t : Nat) (k : HfpKind) : (s.hfpIssue t k).pending = s.pending := rfl

/-! ### mpIssue -/

@[simp] theorem State.mpIssue_cfg (p : Nat) (k : MpKind) : (s.mpIssue p k).cfg = s.cfg := rfl
@[simp] theorem State.mpIssue_tick (p : Nat) (k : MpKind) : (s.mpIssue p k).tick = s.tick := rfl
@[simp] theorem State.mpIssue_fresh (p : Nat) (k : MpKind) : (s.mpIssue p k).fresh = s.fresh := rfl
@[simp] theorem State.mpIssue_irq (p : Nat) (k : MpKind) : (s.mpIssue p k).irq = s.irq := rfl
@[simp] theorem State.mpIssue_lcs (p : Nat) (k : MpKind) : (s.mpIssue p k).lcs = s.lcs := rfl
@[simp] theorem State.mpIssue_boot (p : Nat) (k : MpKind) : (s.mpIssue p k).boot = s.boot := rfl
@[simp] theorem State.mpIssue_fuses (p : Nat) (k : MpKind) : (s.mpIssue p k).fuses = s.fuses := rfl
@[simp] theorem State.mpIssue_advance (p : Nat) (k : MpKind) : (s.mpIssue p k).advance = s.advance := rfl
@[simp] theorem State.mpIssue_pwr (p : Nat) (k : MpKind) : (s.mpIssue p k).pwr = s.pwr := rfl
@[simp] theorem State.mpIssue_sleep (p : Nat) (k : MpKind) : (s.mpIssue p k).sleep = s.sleep := rfl
@[simp] theorem State.mpIssue_sb (p : Nat) (k : MpKind) : (s.mpIssue p k).sb = s.sb := rfl
@[simp] theorem State.mpIssue_tap (p : Nat) (k : MpKind) : (s.mpIssue p k).tap = s.tap := rfl
@[simp] theorem State.mpIssue_mbs (p : Nat) (k : MpKind) : (s.mpIssue p k).mbs = s.mbs := rfl
@[simp] theorem State.mpIssue_sched (p : Nat) (k : MpKind) : (s.mpIssue p k).sched = s.sched := rfl
@[simp] theorem State.mpIssue_terr (p : Nat) (k : MpKind) : (s.mpIssue p k).terr = s.terr := rfl
@[simp] theorem State.mpIssue_gens (p : Nat) (k : MpKind) : (s.mpIssue p k).gens = s.gens := rfl
@[simp] theorem State.mpIssue_genBase (p : Nat) (k : MpKind) : (s.mpIssue p k).genBase = s.genBase := rfl
@[simp] theorem State.mpIssue_instCount (p : Nat) (k : MpKind) : (s.mpIssue p k).instCount = s.instCount := rfl
@[simp] theorem State.mpIssue_tasks (p : Nat) (k : MpKind) : (s.mpIssue p k).tasks = s.tasks := rfl
@[simp] theorem State.mpIssue_cores (p : Nat) (k : MpKind) : (s.mpIssue p k).cores = s.cores := rfl
@[simp] theorem State.mpIssue_programs (p : Nat) (k : MpKind) : (s.mpIssue p k).programs = s.programs := rfl
@[simp] theorem State.mpIssue_rrBay (p : Nat) (k : MpKind) : (s.mpIssue p k).rrBay = s.rrBay := rfl
@[simp] theorem State.mpIssue_hfp (p : Nat) (k : MpKind) : (s.mpIssue p k).hfp = s.hfp := rfl
@[simp] theorem State.mpIssue_mp (p : Nat) (k : MpKind) : (s.mpIssue p k).mp = s.mp ++ [⟨s.nextId, p, s.mpReady.getD p false, s.tick, k⟩] := rfl
@[simp] theorem State.mpIssue_mpReady (p : Nat) (k : MpKind) : (s.mpIssue p k).mpReady = s.mpReady := rfl
@[simp] theorem State.mpIssue_nextId (p : Nat) (k : MpKind) : (s.mpIssue p k).nextId = s.nextId + 1 := rfl
@[simp] theorem State.mpIssue_egress (p : Nat) (k : MpKind) : (s.mpIssue p k).egress = s.egress := rfl
@[simp] theorem State.mpIssue_spring (p : Nat) (k : MpKind) : (s.mpIssue p k).spring = s.spring := rfl
@[simp] theorem State.mpIssue_faults (p : Nat) (k : MpKind) : (s.mpIssue p k).faults = s.faults := rfl
@[simp] theorem State.mpIssue_cnt (p : Nat) (k : MpKind) : (s.mpIssue p k).cnt = s.cnt := rfl
@[simp] theorem State.mpIssue_cntWin (p : Nat) (k : MpKind) : (s.mpIssue p k).cntWin = s.cntWin := rfl
@[simp] theorem State.mpIssue_tbLatch (p : Nat) (k : MpKind) : (s.mpIssue p k).tbLatch = s.tbLatch := rfl
@[simp] theorem State.mpIssue_clearing (p : Nat) (k : MpKind) : (s.mpIssue p k).clearing = s.clearing := rfl
@[simp] theorem State.mpIssue_signals (p : Nat) (k : MpKind) : (s.mpIssue p k).signals = s.signals := rfl
@[simp] theorem State.mpIssue_syncEnds (p : Nat) (k : MpKind) : (s.mpIssue p k).syncEnds = s.syncEnds := rfl
@[simp] theorem State.mpIssue_flash (p : Nat) (k : MpKind) : (s.mpIssue p k).flash = s.flash := rfl
@[simp] theorem State.mpIssue_medium (p : Nat) (k : MpKind) : (s.mpIssue p k).medium = s.medium := rfl
@[simp] theorem State.mpIssue_intakeClosed (p : Nat) (k : MpKind) : (s.mpIssue p k).intakeClosed = s.intakeClosed := rfl
@[simp] theorem State.mpIssue_erasedMode (p : Nat) (k : MpKind) : (s.mpIssue p k).erasedMode = s.erasedMode := rfl
@[simp] theorem State.mpIssue_rsp (p : Nat) (k : MpKind) : (s.mpIssue p k).rsp = s.rsp := rfl
@[simp] theorem State.mpIssue_spAttn (p : Nat) (k : MpKind) : (s.mpIssue p k).spAttn = s.spAttn := rfl
@[simp] theorem State.mpIssue_pending (p : Nat) (k : MpKind) : (s.mpIssue p k).pending = s.pending := rfl

/-! ### hfpDone -/

@[simp] theorem State.hfpDone_cfg (i : Nat) : (s.hfpDone i).cfg = s.cfg := rfl
@[simp] theorem State.hfpDone_tick (i : Nat) : (s.hfpDone i).tick = s.tick := rfl
@[simp] theorem State.hfpDone_fresh (i : Nat) : (s.hfpDone i).fresh = s.fresh := rfl
@[simp] theorem State.hfpDone_irq (i : Nat) : (s.hfpDone i).irq = s.irq := rfl
@[simp] theorem State.hfpDone_lcs (i : Nat) : (s.hfpDone i).lcs = s.lcs := rfl
@[simp] theorem State.hfpDone_boot (i : Nat) : (s.hfpDone i).boot = s.boot := rfl
@[simp] theorem State.hfpDone_fuses (i : Nat) : (s.hfpDone i).fuses = s.fuses := rfl
@[simp] theorem State.hfpDone_advance (i : Nat) : (s.hfpDone i).advance = s.advance := rfl
@[simp] theorem State.hfpDone_pwr (i : Nat) : (s.hfpDone i).pwr = s.pwr := rfl
@[simp] theorem State.hfpDone_sleep (i : Nat) : (s.hfpDone i).sleep = s.sleep := rfl
@[simp] theorem State.hfpDone_sb (i : Nat) : (s.hfpDone i).sb = s.sb := rfl
@[simp] theorem State.hfpDone_tap (i : Nat) : (s.hfpDone i).tap = s.tap := rfl
@[simp] theorem State.hfpDone_mbs (i : Nat) : (s.hfpDone i).mbs = s.mbs := rfl
@[simp] theorem State.hfpDone_sched (i : Nat) : (s.hfpDone i).sched = s.sched := rfl
@[simp] theorem State.hfpDone_terr (i : Nat) : (s.hfpDone i).terr = s.terr := rfl
@[simp] theorem State.hfpDone_gens (i : Nat) : (s.hfpDone i).gens = s.gens := rfl
@[simp] theorem State.hfpDone_genBase (i : Nat) : (s.hfpDone i).genBase = s.genBase := rfl
@[simp] theorem State.hfpDone_instCount (i : Nat) : (s.hfpDone i).instCount = s.instCount := rfl
@[simp] theorem State.hfpDone_tasks (i : Nat) : (s.hfpDone i).tasks = s.tasks := rfl
@[simp] theorem State.hfpDone_cores (i : Nat) : (s.hfpDone i).cores = s.cores := rfl
@[simp] theorem State.hfpDone_programs (i : Nat) : (s.hfpDone i).programs = s.programs := rfl
@[simp] theorem State.hfpDone_rrBay (i : Nat) : (s.hfpDone i).rrBay = s.rrBay := rfl
@[simp] theorem State.hfpDone_hfp (i : Nat) : (s.hfpDone i).hfp = s.hfp.filter (fun o => o.id != i) := rfl
@[simp] theorem State.hfpDone_mp (i : Nat) : (s.hfpDone i).mp = s.mp := rfl
@[simp] theorem State.hfpDone_mpReady (i : Nat) : (s.hfpDone i).mpReady = s.mpReady := rfl
@[simp] theorem State.hfpDone_nextId (i : Nat) : (s.hfpDone i).nextId = s.nextId := rfl
@[simp] theorem State.hfpDone_egress (i : Nat) : (s.hfpDone i).egress = s.egress := rfl
@[simp] theorem State.hfpDone_spring (i : Nat) : (s.hfpDone i).spring = s.spring := rfl
@[simp] theorem State.hfpDone_faults (i : Nat) : (s.hfpDone i).faults = s.faults := rfl
@[simp] theorem State.hfpDone_cnt (i : Nat) : (s.hfpDone i).cnt = s.cnt := rfl
@[simp] theorem State.hfpDone_cntWin (i : Nat) : (s.hfpDone i).cntWin = s.cntWin := rfl
@[simp] theorem State.hfpDone_tbLatch (i : Nat) : (s.hfpDone i).tbLatch = s.tbLatch := rfl
@[simp] theorem State.hfpDone_clearing (i : Nat) : (s.hfpDone i).clearing = s.clearing := rfl
@[simp] theorem State.hfpDone_signals (i : Nat) : (s.hfpDone i).signals = s.signals := rfl
@[simp] theorem State.hfpDone_syncEnds (i : Nat) : (s.hfpDone i).syncEnds = s.syncEnds := rfl
@[simp] theorem State.hfpDone_flash (i : Nat) : (s.hfpDone i).flash = s.flash := rfl
@[simp] theorem State.hfpDone_medium (i : Nat) : (s.hfpDone i).medium = s.medium := rfl
@[simp] theorem State.hfpDone_intakeClosed (i : Nat) : (s.hfpDone i).intakeClosed = s.intakeClosed := rfl
@[simp] theorem State.hfpDone_erasedMode (i : Nat) : (s.hfpDone i).erasedMode = s.erasedMode := rfl
@[simp] theorem State.hfpDone_rsp (i : Nat) : (s.hfpDone i).rsp = s.rsp := rfl
@[simp] theorem State.hfpDone_spAttn (i : Nat) : (s.hfpDone i).spAttn = s.spAttn := rfl
@[simp] theorem State.hfpDone_pending (i : Nat) : (s.hfpDone i).pending = s.pending := rfl

/-! ### mpDone -/

@[simp] theorem State.mpDone_cfg (i : Nat) : (s.mpDone i).cfg = s.cfg := rfl
@[simp] theorem State.mpDone_tick (i : Nat) : (s.mpDone i).tick = s.tick := rfl
@[simp] theorem State.mpDone_fresh (i : Nat) : (s.mpDone i).fresh = s.fresh := rfl
@[simp] theorem State.mpDone_irq (i : Nat) : (s.mpDone i).irq = s.irq := rfl
@[simp] theorem State.mpDone_lcs (i : Nat) : (s.mpDone i).lcs = s.lcs := rfl
@[simp] theorem State.mpDone_boot (i : Nat) : (s.mpDone i).boot = s.boot := rfl
@[simp] theorem State.mpDone_fuses (i : Nat) : (s.mpDone i).fuses = s.fuses := rfl
@[simp] theorem State.mpDone_advance (i : Nat) : (s.mpDone i).advance = s.advance := rfl
@[simp] theorem State.mpDone_pwr (i : Nat) : (s.mpDone i).pwr = s.pwr := rfl
@[simp] theorem State.mpDone_sleep (i : Nat) : (s.mpDone i).sleep = s.sleep := rfl
@[simp] theorem State.mpDone_sb (i : Nat) : (s.mpDone i).sb = s.sb := rfl
@[simp] theorem State.mpDone_tap (i : Nat) : (s.mpDone i).tap = s.tap := rfl
@[simp] theorem State.mpDone_mbs (i : Nat) : (s.mpDone i).mbs = s.mbs := rfl
@[simp] theorem State.mpDone_sched (i : Nat) : (s.mpDone i).sched = s.sched := rfl
@[simp] theorem State.mpDone_terr (i : Nat) : (s.mpDone i).terr = s.terr := rfl
@[simp] theorem State.mpDone_gens (i : Nat) : (s.mpDone i).gens = s.gens := rfl
@[simp] theorem State.mpDone_genBase (i : Nat) : (s.mpDone i).genBase = s.genBase := rfl
@[simp] theorem State.mpDone_instCount (i : Nat) : (s.mpDone i).instCount = s.instCount := rfl
@[simp] theorem State.mpDone_tasks (i : Nat) : (s.mpDone i).tasks = s.tasks := rfl
@[simp] theorem State.mpDone_cores (i : Nat) : (s.mpDone i).cores = s.cores := rfl
@[simp] theorem State.mpDone_programs (i : Nat) : (s.mpDone i).programs = s.programs := rfl
@[simp] theorem State.mpDone_rrBay (i : Nat) : (s.mpDone i).rrBay = s.rrBay := rfl
@[simp] theorem State.mpDone_hfp (i : Nat) : (s.mpDone i).hfp = s.hfp := rfl
@[simp] theorem State.mpDone_mp (i : Nat) : (s.mpDone i).mp = s.mp.filter (fun o => o.id != i) := rfl
@[simp] theorem State.mpDone_mpReady (i : Nat) : (s.mpDone i).mpReady = s.mpReady := rfl
@[simp] theorem State.mpDone_nextId (i : Nat) : (s.mpDone i).nextId = s.nextId := rfl
@[simp] theorem State.mpDone_egress (i : Nat) : (s.mpDone i).egress = s.egress := rfl
@[simp] theorem State.mpDone_spring (i : Nat) : (s.mpDone i).spring = s.spring := rfl
@[simp] theorem State.mpDone_faults (i : Nat) : (s.mpDone i).faults = s.faults := rfl
@[simp] theorem State.mpDone_cnt (i : Nat) : (s.mpDone i).cnt = s.cnt := rfl
@[simp] theorem State.mpDone_cntWin (i : Nat) : (s.mpDone i).cntWin = s.cntWin := rfl
@[simp] theorem State.mpDone_tbLatch (i : Nat) : (s.mpDone i).tbLatch = s.tbLatch := rfl
@[simp] theorem State.mpDone_clearing (i : Nat) : (s.mpDone i).clearing = s.clearing := rfl
@[simp] theorem State.mpDone_signals (i : Nat) : (s.mpDone i).signals = s.signals := rfl
@[simp] theorem State.mpDone_syncEnds (i : Nat) : (s.mpDone i).syncEnds = s.syncEnds := rfl
@[simp] theorem State.mpDone_flash (i : Nat) : (s.mpDone i).flash = s.flash := rfl
@[simp] theorem State.mpDone_medium (i : Nat) : (s.mpDone i).medium = s.medium := rfl
@[simp] theorem State.mpDone_intakeClosed (i : Nat) : (s.mpDone i).intakeClosed = s.intakeClosed := rfl
@[simp] theorem State.mpDone_erasedMode (i : Nat) : (s.mpDone i).erasedMode = s.erasedMode := rfl
@[simp] theorem State.mpDone_rsp (i : Nat) : (s.mpDone i).rsp = s.rsp := rfl
@[simp] theorem State.mpDone_spAttn (i : Nat) : (s.mpDone i).spAttn = s.spAttn := rfl
@[simp] theorem State.mpDone_pending (i : Nat) : (s.mpDone i).pending = s.pending := rfl

/-! ### addTask -/

@[simp] theorem State.addTask_cfg (t c p i : Nat) (tk : Ticket) (k : TaskKind) (b : Option (List Bytes)) : (s.addTask t c p i tk k b).cfg = s.cfg := rfl
@[simp] theorem State.addTask_tick (t c p i : Nat) (tk : Ticket) (k : TaskKind) (b : Option (List Bytes)) : (s.addTask t c p i tk k b).tick = s.tick := rfl
@[simp] theorem State.addTask_fresh (t c p i : Nat) (tk : Ticket) (k : TaskKind) (b : Option (List Bytes)) : (s.addTask t c p i tk k b).fresh = s.fresh := rfl
@[simp] theorem State.addTask_irq (t c p i : Nat) (tk : Ticket) (k : TaskKind) (b : Option (List Bytes)) : (s.addTask t c p i tk k b).irq = s.irq := rfl
@[simp] theorem State.addTask_lcs (t c p i : Nat) (tk : Ticket) (k : TaskKind) (b : Option (List Bytes)) : (s.addTask t c p i tk k b).lcs = s.lcs := rfl
@[simp] theorem State.addTask_boot (t c p i : Nat) (tk : Ticket) (k : TaskKind) (b : Option (List Bytes)) : (s.addTask t c p i tk k b).boot = s.boot := rfl
@[simp] theorem State.addTask_fuses (t c p i : Nat) (tk : Ticket) (k : TaskKind) (b : Option (List Bytes)) : (s.addTask t c p i tk k b).fuses = s.fuses := rfl
@[simp] theorem State.addTask_advance (t c p i : Nat) (tk : Ticket) (k : TaskKind) (b : Option (List Bytes)) : (s.addTask t c p i tk k b).advance = s.advance := rfl
@[simp] theorem State.addTask_pwr (t c p i : Nat) (tk : Ticket) (k : TaskKind) (b : Option (List Bytes)) : (s.addTask t c p i tk k b).pwr = s.pwr := rfl
@[simp] theorem State.addTask_sleep (t c p i : Nat) (tk : Ticket) (k : TaskKind) (b : Option (List Bytes)) : (s.addTask t c p i tk k b).sleep = s.sleep := rfl
@[simp] theorem State.addTask_sb (t c p i : Nat) (tk : Ticket) (k : TaskKind) (b : Option (List Bytes)) : (s.addTask t c p i tk k b).sb = s.sb := rfl
@[simp] theorem State.addTask_tap (t c p i : Nat) (tk : Ticket) (k : TaskKind) (b : Option (List Bytes)) : (s.addTask t c p i tk k b).tap = s.tap := rfl
@[simp] theorem State.addTask_mbs (t c p i : Nat) (tk : Ticket) (k : TaskKind) (b : Option (List Bytes)) : (s.addTask t c p i tk k b).mbs = s.mbs := rfl
@[simp] theorem State.addTask_sched (t c p i : Nat) (tk : Ticket) (k : TaskKind) (b : Option (List Bytes)) : (s.addTask t c p i tk k b).sched = s.sched := rfl
@[simp] theorem State.addTask_terr (t c p i : Nat) (tk : Ticket) (k : TaskKind) (b : Option (List Bytes)) : (s.addTask t c p i tk k b).terr = s.terr := rfl
@[simp] theorem State.addTask_gens (t c p i : Nat) (tk : Ticket) (k : TaskKind) (b : Option (List Bytes)) : (s.addTask t c p i tk k b).gens = s.gens := rfl
@[simp] theorem State.addTask_genBase (t c p i : Nat) (tk : Ticket) (k : TaskKind) (b : Option (List Bytes)) : (s.addTask t c p i tk k b).genBase = s.genBase := rfl
@[simp] theorem State.addTask_instCount (t c p i : Nat) (tk : Ticket) (k : TaskKind) (b : Option (List Bytes)) : (s.addTask t c p i tk k b).instCount = s.instCount := rfl
@[simp] theorem State.addTask_cores (t c p i : Nat) (tk : Ticket) (k : TaskKind) (b : Option (List Bytes)) : (s.addTask t c p i tk k b).cores = s.cores := rfl
@[simp] theorem State.addTask_programs (t c p i : Nat) (tk : Ticket) (k : TaskKind) (b : Option (List Bytes)) : (s.addTask t c p i tk k b).programs = s.programs := rfl
@[simp] theorem State.addTask_rrBay (t c p i : Nat) (tk : Ticket) (k : TaskKind) (b : Option (List Bytes)) : (s.addTask t c p i tk k b).rrBay = s.rrBay := rfl
@[simp] theorem State.addTask_hfp (t c p i : Nat) (tk : Ticket) (k : TaskKind) (b : Option (List Bytes)) : (s.addTask t c p i tk k b).hfp = s.hfp := rfl
@[simp] theorem State.addTask_mp (t c p i : Nat) (tk : Ticket) (k : TaskKind) (b : Option (List Bytes)) : (s.addTask t c p i tk k b).mp = s.mp := rfl
@[simp] theorem State.addTask_mpReady (t c p i : Nat) (tk : Ticket) (k : TaskKind) (b : Option (List Bytes)) : (s.addTask t c p i tk k b).mpReady = s.mpReady := rfl
@[simp] theorem State.addTask_nextId (t c p i : Nat) (tk : Ticket) (k : TaskKind) (b : Option (List Bytes)) : (s.addTask t c p i tk k b).nextId = s.nextId + 1 := rfl
@[simp] theorem State.addTask_egress (t c p i : Nat) (tk : Ticket) (k : TaskKind) (b : Option (List Bytes)) : (s.addTask t c p i tk k b).egress = s.egress := rfl
@[simp] theorem State.addTask_spring (t c p i : Nat) (tk : Ticket) (k : TaskKind) (b : Option (List Bytes)) : (s.addTask t c p i tk k b).spring = s.spring := rfl
@[simp] theorem State.addTask_faults (t c p i : Nat) (tk : Ticket) (k : TaskKind) (b : Option (List Bytes)) : (s.addTask t c p i tk k b).faults = s.faults := rfl
@[simp] theorem State.addTask_cnt (t c p i : Nat) (tk : Ticket) (k : TaskKind) (b : Option (List Bytes)) : (s.addTask t c p i tk k b).cnt = s.cnt := rfl
@[simp] theorem State.addTask_cntWin (t c p i : Nat) (tk : Ticket) (k : TaskKind) (b : Option (List Bytes)) : (s.addTask t c p i tk k b).cntWin = s.cntWin := rfl
@[simp] theorem State.addTask_tbLatch (t c p i : Nat) (tk : Ticket) (k : TaskKind) (b : Option (List Bytes)) : (s.addTask t c p i tk k b).tbLatch = s.tbLatch := rfl
@[simp] theorem State.addTask_clearing (t c p i : Nat) (tk : Ticket) (k : TaskKind) (b : Option (List Bytes)) : (s.addTask t c p i tk k b).clearing = s.clearing := rfl
@[simp] theorem State.addTask_signals (t c p i : Nat) (tk : Ticket) (k : TaskKind) (b : Option (List Bytes)) : (s.addTask t c p i tk k b).signals = s.signals := rfl
@[simp] theorem State.addTask_syncEnds (t c p i : Nat) (tk : Ticket) (k : TaskKind) (b : Option (List Bytes)) : (s.addTask t c p i tk k b).syncEnds = s.syncEnds := rfl
@[simp] theorem State.addTask_flash (t c p i : Nat) (tk : Ticket) (k : TaskKind) (b : Option (List Bytes)) : (s.addTask t c p i tk k b).flash = s.flash := rfl
@[simp] theorem State.addTask_medium (t c p i : Nat) (tk : Ticket) (k : TaskKind) (b : Option (List Bytes)) : (s.addTask t c p i tk k b).medium = s.medium := rfl
@[simp] theorem State.addTask_intakeClosed (t c p i : Nat) (tk : Ticket) (k : TaskKind) (b : Option (List Bytes)) : (s.addTask t c p i tk k b).intakeClosed = s.intakeClosed := rfl
@[simp] theorem State.addTask_erasedMode (t c p i : Nat) (tk : Ticket) (k : TaskKind) (b : Option (List Bytes)) : (s.addTask t c p i tk k b).erasedMode = s.erasedMode := rfl
@[simp] theorem State.addTask_rsp (t c p i : Nat) (tk : Ticket) (k : TaskKind) (b : Option (List Bytes)) : (s.addTask t c p i tk k b).rsp = s.rsp := rfl
@[simp] theorem State.addTask_spAttn (t c p i : Nat) (tk : Ticket) (k : TaskKind) (b : Option (List Bytes)) : (s.addTask t c p i tk k b).spAttn = s.spAttn := rfl
@[simp] theorem State.addTask_pending (t c p i : Nat) (tk : Ticket) (k : TaskKind) (b : Option (List Bytes)) : (s.addTask t c p i tk k b).pending = s.pending := rfl

/-! ### modTask -/

@[simp] theorem State.modTask_cfg (i : Nat) (f : Task → Task) : (s.modTask i f).cfg = s.cfg := rfl
@[simp] theorem State.modTask_tick (i : Nat) (f : Task → Task) : (s.modTask i f).tick = s.tick := rfl
@[simp] theorem State.modTask_fresh (i : Nat) (f : Task → Task) : (s.modTask i f).fresh = s.fresh := rfl
@[simp] theorem State.modTask_irq (i : Nat) (f : Task → Task) : (s.modTask i f).irq = s.irq := rfl
@[simp] theorem State.modTask_lcs (i : Nat) (f : Task → Task) : (s.modTask i f).lcs = s.lcs := rfl
@[simp] theorem State.modTask_boot (i : Nat) (f : Task → Task) : (s.modTask i f).boot = s.boot := rfl
@[simp] theorem State.modTask_fuses (i : Nat) (f : Task → Task) : (s.modTask i f).fuses = s.fuses := rfl
@[simp] theorem State.modTask_advance (i : Nat) (f : Task → Task) : (s.modTask i f).advance = s.advance := rfl
@[simp] theorem State.modTask_pwr (i : Nat) (f : Task → Task) : (s.modTask i f).pwr = s.pwr := rfl
@[simp] theorem State.modTask_sleep (i : Nat) (f : Task → Task) : (s.modTask i f).sleep = s.sleep := rfl
@[simp] theorem State.modTask_sb (i : Nat) (f : Task → Task) : (s.modTask i f).sb = s.sb := rfl
@[simp] theorem State.modTask_tap (i : Nat) (f : Task → Task) : (s.modTask i f).tap = s.tap := rfl
@[simp] theorem State.modTask_mbs (i : Nat) (f : Task → Task) : (s.modTask i f).mbs = s.mbs := rfl
@[simp] theorem State.modTask_sched (i : Nat) (f : Task → Task) : (s.modTask i f).sched = s.sched := rfl
@[simp] theorem State.modTask_terr (i : Nat) (f : Task → Task) : (s.modTask i f).terr = s.terr := rfl
@[simp] theorem State.modTask_gens (i : Nat) (f : Task → Task) : (s.modTask i f).gens = s.gens := rfl
@[simp] theorem State.modTask_genBase (i : Nat) (f : Task → Task) : (s.modTask i f).genBase = s.genBase := rfl
@[simp] theorem State.modTask_instCount (i : Nat) (f : Task → Task) : (s.modTask i f).instCount = s.instCount := rfl
@[simp] theorem State.modTask_tasks (i : Nat) (f : Task → Task) : (s.modTask i f).tasks = s.tasks.map (fun k => if k.id = i then f k else k) := rfl
@[simp] theorem State.modTask_cores (i : Nat) (f : Task → Task) : (s.modTask i f).cores = s.cores := rfl
@[simp] theorem State.modTask_programs (i : Nat) (f : Task → Task) : (s.modTask i f).programs = s.programs := rfl
@[simp] theorem State.modTask_rrBay (i : Nat) (f : Task → Task) : (s.modTask i f).rrBay = s.rrBay := rfl
@[simp] theorem State.modTask_hfp (i : Nat) (f : Task → Task) : (s.modTask i f).hfp = s.hfp := rfl
@[simp] theorem State.modTask_mp (i : Nat) (f : Task → Task) : (s.modTask i f).mp = s.mp := rfl
@[simp] theorem State.modTask_mpReady (i : Nat) (f : Task → Task) : (s.modTask i f).mpReady = s.mpReady := rfl
@[simp] theorem State.modTask_nextId (i : Nat) (f : Task → Task) : (s.modTask i f).nextId = s.nextId := rfl
@[simp] theorem State.modTask_egress (i : Nat) (f : Task → Task) : (s.modTask i f).egress = s.egress := rfl
@[simp] theorem State.modTask_spring (i : Nat) (f : Task → Task) : (s.modTask i f).spring = s.spring := rfl
@[simp] theorem State.modTask_faults (i : Nat) (f : Task → Task) : (s.modTask i f).faults = s.faults := rfl
@[simp] theorem State.modTask_cnt (i : Nat) (f : Task → Task) : (s.modTask i f).cnt = s.cnt := rfl
@[simp] theorem State.modTask_cntWin (i : Nat) (f : Task → Task) : (s.modTask i f).cntWin = s.cntWin := rfl
@[simp] theorem State.modTask_tbLatch (i : Nat) (f : Task → Task) : (s.modTask i f).tbLatch = s.tbLatch := rfl
@[simp] theorem State.modTask_clearing (i : Nat) (f : Task → Task) : (s.modTask i f).clearing = s.clearing := rfl
@[simp] theorem State.modTask_signals (i : Nat) (f : Task → Task) : (s.modTask i f).signals = s.signals := rfl
@[simp] theorem State.modTask_syncEnds (i : Nat) (f : Task → Task) : (s.modTask i f).syncEnds = s.syncEnds := rfl
@[simp] theorem State.modTask_flash (i : Nat) (f : Task → Task) : (s.modTask i f).flash = s.flash := rfl
@[simp] theorem State.modTask_medium (i : Nat) (f : Task → Task) : (s.modTask i f).medium = s.medium := rfl
@[simp] theorem State.modTask_intakeClosed (i : Nat) (f : Task → Task) : (s.modTask i f).intakeClosed = s.intakeClosed := rfl
@[simp] theorem State.modTask_erasedMode (i : Nat) (f : Task → Task) : (s.modTask i f).erasedMode = s.erasedMode := rfl
@[simp] theorem State.modTask_rsp (i : Nat) (f : Task → Task) : (s.modTask i f).rsp = s.rsp := rfl
@[simp] theorem State.modTask_spAttn (i : Nat) (f : Task → Task) : (s.modTask i f).spAttn = s.spAttn := rfl
@[simp] theorem State.modTask_pending (i : Nat) (f : Task → Task) : (s.modTask i f).pending = s.pending := rfl

/-! ### modPwr -/

@[simp] theorem State.modPwr_cfg (f : Power → Power) : (s.modPwr f).cfg = s.cfg := rfl
@[simp] theorem State.modPwr_tick (f : Power → Power) : (s.modPwr f).tick = s.tick := rfl
@[simp] theorem State.modPwr_fresh (f : Power → Power) : (s.modPwr f).fresh = s.fresh := rfl
@[simp] theorem State.modPwr_irq (f : Power → Power) : (s.modPwr f).irq = s.irq := rfl
@[simp] theorem State.modPwr_lcs (f : Power → Power) : (s.modPwr f).lcs = s.lcs := rfl
@[simp] theorem State.modPwr_boot (f : Power → Power) : (s.modPwr f).boot = s.boot := rfl
@[simp] theorem State.modPwr_fuses (f : Power → Power) : (s.modPwr f).fuses = s.fuses := rfl
@[simp] theorem State.modPwr_advance (f : Power → Power) : (s.modPwr f).advance = s.advance := rfl
@[simp] theorem State.modPwr_pwr (f : Power → Power) : (s.modPwr f).pwr = f s.pwr := rfl
@[simp] theorem State.modPwr_sleep (f : Power → Power) : (s.modPwr f).sleep = s.sleep := rfl
@[simp] theorem State.modPwr_sb (f : Power → Power) : (s.modPwr f).sb = s.sb := rfl
@[simp] theorem State.modPwr_tap (f : Power → Power) : (s.modPwr f).tap = s.tap := rfl
@[simp] theorem State.modPwr_mbs (f : Power → Power) : (s.modPwr f).mbs = s.mbs := rfl
@[simp] theorem State.modPwr_sched (f : Power → Power) : (s.modPwr f).sched = s.sched := rfl
@[simp] theorem State.modPwr_terr (f : Power → Power) : (s.modPwr f).terr = s.terr := rfl
@[simp] theorem State.modPwr_gens (f : Power → Power) : (s.modPwr f).gens = s.gens := rfl
@[simp] theorem State.modPwr_genBase (f : Power → Power) : (s.modPwr f).genBase = s.genBase := rfl
@[simp] theorem State.modPwr_instCount (f : Power → Power) : (s.modPwr f).instCount = s.instCount := rfl
@[simp] theorem State.modPwr_tasks (f : Power → Power) : (s.modPwr f).tasks = s.tasks := rfl
@[simp] theorem State.modPwr_cores (f : Power → Power) : (s.modPwr f).cores = s.cores := rfl
@[simp] theorem State.modPwr_programs (f : Power → Power) : (s.modPwr f).programs = s.programs := rfl
@[simp] theorem State.modPwr_rrBay (f : Power → Power) : (s.modPwr f).rrBay = s.rrBay := rfl
@[simp] theorem State.modPwr_hfp (f : Power → Power) : (s.modPwr f).hfp = s.hfp := rfl
@[simp] theorem State.modPwr_mp (f : Power → Power) : (s.modPwr f).mp = s.mp := rfl
@[simp] theorem State.modPwr_mpReady (f : Power → Power) : (s.modPwr f).mpReady = s.mpReady := rfl
@[simp] theorem State.modPwr_nextId (f : Power → Power) : (s.modPwr f).nextId = s.nextId := rfl
@[simp] theorem State.modPwr_egress (f : Power → Power) : (s.modPwr f).egress = s.egress := rfl
@[simp] theorem State.modPwr_spring (f : Power → Power) : (s.modPwr f).spring = s.spring := rfl
@[simp] theorem State.modPwr_faults (f : Power → Power) : (s.modPwr f).faults = s.faults := rfl
@[simp] theorem State.modPwr_cnt (f : Power → Power) : (s.modPwr f).cnt = s.cnt := rfl
@[simp] theorem State.modPwr_cntWin (f : Power → Power) : (s.modPwr f).cntWin = s.cntWin := rfl
@[simp] theorem State.modPwr_tbLatch (f : Power → Power) : (s.modPwr f).tbLatch = s.tbLatch := rfl
@[simp] theorem State.modPwr_clearing (f : Power → Power) : (s.modPwr f).clearing = s.clearing := rfl
@[simp] theorem State.modPwr_signals (f : Power → Power) : (s.modPwr f).signals = s.signals := rfl
@[simp] theorem State.modPwr_syncEnds (f : Power → Power) : (s.modPwr f).syncEnds = s.syncEnds := rfl
@[simp] theorem State.modPwr_flash (f : Power → Power) : (s.modPwr f).flash = s.flash := rfl
@[simp] theorem State.modPwr_medium (f : Power → Power) : (s.modPwr f).medium = s.medium := rfl
@[simp] theorem State.modPwr_intakeClosed (f : Power → Power) : (s.modPwr f).intakeClosed = s.intakeClosed := rfl
@[simp] theorem State.modPwr_erasedMode (f : Power → Power) : (s.modPwr f).erasedMode = s.erasedMode := rfl
@[simp] theorem State.modPwr_rsp (f : Power → Power) : (s.modPwr f).rsp = s.rsp := rfl
@[simp] theorem State.modPwr_spAttn (f : Power → Power) : (s.modPwr f).spAttn = s.spAttn := rfl
@[simp] theorem State.modPwr_pending (f : Power → Power) : (s.modPwr f).pending = s.pending := rfl

/-! ### modSb -/

@[simp] theorem State.modSb_cfg (f : Sideband → Sideband) : (s.modSb f).cfg = s.cfg := rfl
@[simp] theorem State.modSb_tick (f : Sideband → Sideband) : (s.modSb f).tick = s.tick := rfl
@[simp] theorem State.modSb_fresh (f : Sideband → Sideband) : (s.modSb f).fresh = s.fresh := rfl
@[simp] theorem State.modSb_irq (f : Sideband → Sideband) : (s.modSb f).irq = s.irq := rfl
@[simp] theorem State.modSb_lcs (f : Sideband → Sideband) : (s.modSb f).lcs = s.lcs := rfl
@[simp] theorem State.modSb_boot (f : Sideband → Sideband) : (s.modSb f).boot = s.boot := rfl
@[simp] theorem State.modSb_fuses (f : Sideband → Sideband) : (s.modSb f).fuses = s.fuses := rfl
@[simp] theorem State.modSb_advance (f : Sideband → Sideband) : (s.modSb f).advance = s.advance := rfl
@[simp] theorem State.modSb_pwr (f : Sideband → Sideband) : (s.modSb f).pwr = s.pwr := rfl
@[simp] theorem State.modSb_sleep (f : Sideband → Sideband) : (s.modSb f).sleep = s.sleep := rfl
@[simp] theorem State.modSb_sb (f : Sideband → Sideband) : (s.modSb f).sb = f s.sb := rfl
@[simp] theorem State.modSb_tap (f : Sideband → Sideband) : (s.modSb f).tap = s.tap := rfl
@[simp] theorem State.modSb_mbs (f : Sideband → Sideband) : (s.modSb f).mbs = s.mbs := rfl
@[simp] theorem State.modSb_sched (f : Sideband → Sideband) : (s.modSb f).sched = s.sched := rfl
@[simp] theorem State.modSb_terr (f : Sideband → Sideband) : (s.modSb f).terr = s.terr := rfl
@[simp] theorem State.modSb_gens (f : Sideband → Sideband) : (s.modSb f).gens = s.gens := rfl
@[simp] theorem State.modSb_genBase (f : Sideband → Sideband) : (s.modSb f).genBase = s.genBase := rfl
@[simp] theorem State.modSb_instCount (f : Sideband → Sideband) : (s.modSb f).instCount = s.instCount := rfl
@[simp] theorem State.modSb_tasks (f : Sideband → Sideband) : (s.modSb f).tasks = s.tasks := rfl
@[simp] theorem State.modSb_cores (f : Sideband → Sideband) : (s.modSb f).cores = s.cores := rfl
@[simp] theorem State.modSb_programs (f : Sideband → Sideband) : (s.modSb f).programs = s.programs := rfl
@[simp] theorem State.modSb_rrBay (f : Sideband → Sideband) : (s.modSb f).rrBay = s.rrBay := rfl
@[simp] theorem State.modSb_hfp (f : Sideband → Sideband) : (s.modSb f).hfp = s.hfp := rfl
@[simp] theorem State.modSb_mp (f : Sideband → Sideband) : (s.modSb f).mp = s.mp := rfl
@[simp] theorem State.modSb_mpReady (f : Sideband → Sideband) : (s.modSb f).mpReady = s.mpReady := rfl
@[simp] theorem State.modSb_nextId (f : Sideband → Sideband) : (s.modSb f).nextId = s.nextId := rfl
@[simp] theorem State.modSb_egress (f : Sideband → Sideband) : (s.modSb f).egress = s.egress := rfl
@[simp] theorem State.modSb_spring (f : Sideband → Sideband) : (s.modSb f).spring = s.spring := rfl
@[simp] theorem State.modSb_faults (f : Sideband → Sideband) : (s.modSb f).faults = s.faults := rfl
@[simp] theorem State.modSb_cnt (f : Sideband → Sideband) : (s.modSb f).cnt = s.cnt := rfl
@[simp] theorem State.modSb_cntWin (f : Sideband → Sideband) : (s.modSb f).cntWin = s.cntWin := rfl
@[simp] theorem State.modSb_tbLatch (f : Sideband → Sideband) : (s.modSb f).tbLatch = s.tbLatch := rfl
@[simp] theorem State.modSb_clearing (f : Sideband → Sideband) : (s.modSb f).clearing = s.clearing := rfl
@[simp] theorem State.modSb_signals (f : Sideband → Sideband) : (s.modSb f).signals = s.signals := rfl
@[simp] theorem State.modSb_syncEnds (f : Sideband → Sideband) : (s.modSb f).syncEnds = s.syncEnds := rfl
@[simp] theorem State.modSb_flash (f : Sideband → Sideband) : (s.modSb f).flash = s.flash := rfl
@[simp] theorem State.modSb_medium (f : Sideband → Sideband) : (s.modSb f).medium = s.medium := rfl
@[simp] theorem State.modSb_intakeClosed (f : Sideband → Sideband) : (s.modSb f).intakeClosed = s.intakeClosed := rfl
@[simp] theorem State.modSb_erasedMode (f : Sideband → Sideband) : (s.modSb f).erasedMode = s.erasedMode := rfl
@[simp] theorem State.modSb_rsp (f : Sideband → Sideband) : (s.modSb f).rsp = s.rsp := rfl
@[simp] theorem State.modSb_spAttn (f : Sideband → Sideband) : (s.modSb f).spAttn = s.spAttn := rfl
@[simp] theorem State.modSb_pending (f : Sideband → Sideband) : (s.modSb f).pending = s.pending := rfl

/-! ### tapOut -/

@[simp] theorem State.tapOut_cfg (ir : BitVec 8) (dr : Nat) : (s.tapOut ir dr).cfg = s.cfg := rfl
@[simp] theorem State.tapOut_tick (ir : BitVec 8) (dr : Nat) : (s.tapOut ir dr).tick = s.tick := rfl
@[simp] theorem State.tapOut_fresh (ir : BitVec 8) (dr : Nat) : (s.tapOut ir dr).fresh = s.fresh := rfl
@[simp] theorem State.tapOut_irq (ir : BitVec 8) (dr : Nat) : (s.tapOut ir dr).irq = s.irq := rfl
@[simp] theorem State.tapOut_lcs (ir : BitVec 8) (dr : Nat) : (s.tapOut ir dr).lcs = s.lcs := rfl
@[simp] theorem State.tapOut_boot (ir : BitVec 8) (dr : Nat) : (s.tapOut ir dr).boot = s.boot := rfl
@[simp] theorem State.tapOut_fuses (ir : BitVec 8) (dr : Nat) : (s.tapOut ir dr).fuses = s.fuses := rfl
@[simp] theorem State.tapOut_advance (ir : BitVec 8) (dr : Nat) : (s.tapOut ir dr).advance = s.advance := rfl
@[simp] theorem State.tapOut_pwr (ir : BitVec 8) (dr : Nat) : (s.tapOut ir dr).pwr = s.pwr := rfl
@[simp] theorem State.tapOut_sleep (ir : BitVec 8) (dr : Nat) : (s.tapOut ir dr).sleep = s.sleep := rfl
@[simp] theorem State.tapOut_sb (ir : BitVec 8) (dr : Nat) : (s.tapOut ir dr).sb = s.sb := rfl
@[simp] theorem State.tapOut_mbs (ir : BitVec 8) (dr : Nat) : (s.tapOut ir dr).mbs = s.mbs := rfl
@[simp] theorem State.tapOut_sched (ir : BitVec 8) (dr : Nat) : (s.tapOut ir dr).sched = s.sched := rfl
@[simp] theorem State.tapOut_terr (ir : BitVec 8) (dr : Nat) : (s.tapOut ir dr).terr = s.terr := rfl
@[simp] theorem State.tapOut_gens (ir : BitVec 8) (dr : Nat) : (s.tapOut ir dr).gens = s.gens := rfl
@[simp] theorem State.tapOut_genBase (ir : BitVec 8) (dr : Nat) : (s.tapOut ir dr).genBase = s.genBase := rfl
@[simp] theorem State.tapOut_instCount (ir : BitVec 8) (dr : Nat) : (s.tapOut ir dr).instCount = s.instCount := rfl
@[simp] theorem State.tapOut_tasks (ir : BitVec 8) (dr : Nat) : (s.tapOut ir dr).tasks = s.tasks := rfl
@[simp] theorem State.tapOut_cores (ir : BitVec 8) (dr : Nat) : (s.tapOut ir dr).cores = s.cores := rfl
@[simp] theorem State.tapOut_programs (ir : BitVec 8) (dr : Nat) : (s.tapOut ir dr).programs = s.programs := rfl
@[simp] theorem State.tapOut_rrBay (ir : BitVec 8) (dr : Nat) : (s.tapOut ir dr).rrBay = s.rrBay := rfl
@[simp] theorem State.tapOut_hfp (ir : BitVec 8) (dr : Nat) : (s.tapOut ir dr).hfp = s.hfp := rfl
@[simp] theorem State.tapOut_mp (ir : BitVec 8) (dr : Nat) : (s.tapOut ir dr).mp = s.mp := rfl
@[simp] theorem State.tapOut_mpReady (ir : BitVec 8) (dr : Nat) : (s.tapOut ir dr).mpReady = s.mpReady := rfl
@[simp] theorem State.tapOut_nextId (ir : BitVec 8) (dr : Nat) : (s.tapOut ir dr).nextId = s.nextId := rfl
@[simp] theorem State.tapOut_egress (ir : BitVec 8) (dr : Nat) : (s.tapOut ir dr).egress = s.egress := rfl
@[simp] theorem State.tapOut_spring (ir : BitVec 8) (dr : Nat) : (s.tapOut ir dr).spring = s.spring := rfl
@[simp] theorem State.tapOut_faults (ir : BitVec 8) (dr : Nat) : (s.tapOut ir dr).faults = s.faults := rfl
@[simp] theorem State.tapOut_cnt (ir : BitVec 8) (dr : Nat) : (s.tapOut ir dr).cnt = s.cnt := rfl
@[simp] theorem State.tapOut_cntWin (ir : BitVec 8) (dr : Nat) : (s.tapOut ir dr).cntWin = s.cntWin := rfl
@[simp] theorem State.tapOut_tbLatch (ir : BitVec 8) (dr : Nat) : (s.tapOut ir dr).tbLatch = s.tbLatch := rfl
@[simp] theorem State.tapOut_clearing (ir : BitVec 8) (dr : Nat) : (s.tapOut ir dr).clearing = s.clearing := rfl
@[simp] theorem State.tapOut_signals (ir : BitVec 8) (dr : Nat) : (s.tapOut ir dr).signals = s.signals := rfl
@[simp] theorem State.tapOut_syncEnds (ir : BitVec 8) (dr : Nat) : (s.tapOut ir dr).syncEnds = s.syncEnds := rfl
@[simp] theorem State.tapOut_flash (ir : BitVec 8) (dr : Nat) : (s.tapOut ir dr).flash = s.flash := rfl
@[simp] theorem State.tapOut_medium (ir : BitVec 8) (dr : Nat) : (s.tapOut ir dr).medium = s.medium := rfl
@[simp] theorem State.tapOut_intakeClosed (ir : BitVec 8) (dr : Nat) : (s.tapOut ir dr).intakeClosed = s.intakeClosed := rfl
@[simp] theorem State.tapOut_erasedMode (ir : BitVec 8) (dr : Nat) : (s.tapOut ir dr).erasedMode = s.erasedMode := rfl
@[simp] theorem State.tapOut_rsp (ir : BitVec 8) (dr : Nat) : (s.tapOut ir dr).rsp = s.rsp := rfl
@[simp] theorem State.tapOut_spAttn (ir : BitVec 8) (dr : Nat) : (s.tapOut ir dr).spAttn = s.spAttn := rfl
@[simp] theorem State.tapOut_pending (ir : BitVec 8) (dr : Nat) : (s.tapOut ir dr).pending = s.pending := rfl

/-! ### dbgResult -/

@[simp] theorem State.dbgResult_cfg (r : Nat) : (s.dbgResult r).cfg = s.cfg := rfl
@[simp] theorem State.dbgResult_tick (r : Nat) : (s.dbgResult r).tick = s.tick := rfl
@[simp] theorem State.dbgResult_fresh (r : Nat) : (s.dbgResult r).fresh = s.fresh := rfl
@[simp] theorem State.dbgResult_irq (r : Nat) : (s.dbgResult r).irq = s.irq := rfl
@[simp] theorem State.dbgResult_lcs (r : Nat) : (s.dbgResult r).lcs = s.lcs := rfl
@[simp] theorem State.dbgResult_boot (r : Nat) : (s.dbgResult r).boot = s.boot := rfl
@[simp] theorem State.dbgResult_fuses (r : Nat) : (s.dbgResult r).fuses = s.fuses := rfl
@[simp] theorem State.dbgResult_advance (r : Nat) : (s.dbgResult r).advance = s.advance := rfl
@[simp] theorem State.dbgResult_pwr (r : Nat) : (s.dbgResult r).pwr = s.pwr := rfl
@[simp] theorem State.dbgResult_sleep (r : Nat) : (s.dbgResult r).sleep = s.sleep := rfl
@[simp] theorem State.dbgResult_sb (r : Nat) : (s.dbgResult r).sb = s.sb := rfl
@[simp] theorem State.dbgResult_mbs (r : Nat) : (s.dbgResult r).mbs = s.mbs := rfl
@[simp] theorem State.dbgResult_sched (r : Nat) : (s.dbgResult r).sched = s.sched := rfl
@[simp] theorem State.dbgResult_terr (r : Nat) : (s.dbgResult r).terr = s.terr := rfl
@[simp] theorem State.dbgResult_gens (r : Nat) : (s.dbgResult r).gens = s.gens := rfl
@[simp] theorem State.dbgResult_genBase (r : Nat) : (s.dbgResult r).genBase = s.genBase := rfl
@[simp] theorem State.dbgResult_instCount (r : Nat) : (s.dbgResult r).instCount = s.instCount := rfl
@[simp] theorem State.dbgResult_tasks (r : Nat) : (s.dbgResult r).tasks = s.tasks := rfl
@[simp] theorem State.dbgResult_cores (r : Nat) : (s.dbgResult r).cores = s.cores := rfl
@[simp] theorem State.dbgResult_programs (r : Nat) : (s.dbgResult r).programs = s.programs := rfl
@[simp] theorem State.dbgResult_rrBay (r : Nat) : (s.dbgResult r).rrBay = s.rrBay := rfl
@[simp] theorem State.dbgResult_hfp (r : Nat) : (s.dbgResult r).hfp = s.hfp := rfl
@[simp] theorem State.dbgResult_mp (r : Nat) : (s.dbgResult r).mp = s.mp := rfl
@[simp] theorem State.dbgResult_mpReady (r : Nat) : (s.dbgResult r).mpReady = s.mpReady := rfl
@[simp] theorem State.dbgResult_nextId (r : Nat) : (s.dbgResult r).nextId = s.nextId := rfl
@[simp] theorem State.dbgResult_egress (r : Nat) : (s.dbgResult r).egress = s.egress := rfl
@[simp] theorem State.dbgResult_spring (r : Nat) : (s.dbgResult r).spring = s.spring := rfl
@[simp] theorem State.dbgResult_faults (r : Nat) : (s.dbgResult r).faults = s.faults := rfl
@[simp] theorem State.dbgResult_cnt (r : Nat) : (s.dbgResult r).cnt = s.cnt := rfl
@[simp] theorem State.dbgResult_cntWin (r : Nat) : (s.dbgResult r).cntWin = s.cntWin := rfl
@[simp] theorem State.dbgResult_tbLatch (r : Nat) : (s.dbgResult r).tbLatch = s.tbLatch := rfl
@[simp] theorem State.dbgResult_clearing (r : Nat) : (s.dbgResult r).clearing = s.clearing := rfl
@[simp] theorem State.dbgResult_signals (r : Nat) : (s.dbgResult r).signals = s.signals := rfl
@[simp] theorem State.dbgResult_syncEnds (r : Nat) : (s.dbgResult r).syncEnds = s.syncEnds := rfl
@[simp] theorem State.dbgResult_flash (r : Nat) : (s.dbgResult r).flash = s.flash := rfl
@[simp] theorem State.dbgResult_medium (r : Nat) : (s.dbgResult r).medium = s.medium := rfl
@[simp] theorem State.dbgResult_intakeClosed (r : Nat) : (s.dbgResult r).intakeClosed = s.intakeClosed := rfl
@[simp] theorem State.dbgResult_erasedMode (r : Nat) : (s.dbgResult r).erasedMode = s.erasedMode := rfl
@[simp] theorem State.dbgResult_rsp (r : Nat) : (s.dbgResult r).rsp = s.rsp := rfl
@[simp] theorem State.dbgResult_spAttn (r : Nat) : (s.dbgResult r).spAttn = s.spAttn := rfl
@[simp] theorem State.dbgResult_pending (r : Nat) : (s.dbgResult r).pending = s.pending := rfl

/-! ### dropJob -/

@[simp] theorem State.dropJob_cfg (j : FlashOp) : (s.dropJob j).cfg = s.cfg := rfl
@[simp] theorem State.dropJob_tick (j : FlashOp) : (s.dropJob j).tick = s.tick := rfl
@[simp] theorem State.dropJob_fresh (j : FlashOp) : (s.dropJob j).fresh = s.fresh := rfl
@[simp] theorem State.dropJob_irq (j : FlashOp) : (s.dropJob j).irq = s.irq := rfl
@[simp] theorem State.dropJob_lcs (j : FlashOp) : (s.dropJob j).lcs = s.lcs := rfl
@[simp] theorem State.dropJob_boot (j : FlashOp) : (s.dropJob j).boot = s.boot := rfl
@[simp] theorem State.dropJob_fuses (j : FlashOp) : (s.dropJob j).fuses = s.fuses := rfl
@[simp] theorem State.dropJob_advance (j : FlashOp) : (s.dropJob j).advance = s.advance := rfl
@[simp] theorem State.dropJob_pwr (j : FlashOp) : (s.dropJob j).pwr = s.pwr := rfl
@[simp] theorem State.dropJob_sleep (j : FlashOp) : (s.dropJob j).sleep = s.sleep := rfl
@[simp] theorem State.dropJob_sb (j : FlashOp) : (s.dropJob j).sb = s.sb := rfl
@[simp] theorem State.dropJob_tap (j : FlashOp) : (s.dropJob j).tap = s.tap := rfl
@[simp] theorem State.dropJob_mbs (j : FlashOp) : (s.dropJob j).mbs = s.mbs := rfl
@[simp] theorem State.dropJob_sched (j : FlashOp) : (s.dropJob j).sched = s.sched := rfl
@[simp] theorem State.dropJob_terr (j : FlashOp) : (s.dropJob j).terr = s.terr := rfl
@[simp] theorem State.dropJob_gens (j : FlashOp) : (s.dropJob j).gens = s.gens := rfl
@[simp] theorem State.dropJob_genBase (j : FlashOp) : (s.dropJob j).genBase = s.genBase := rfl
@[simp] theorem State.dropJob_instCount (j : FlashOp) : (s.dropJob j).instCount = s.instCount := rfl
@[simp] theorem State.dropJob_tasks (j : FlashOp) : (s.dropJob j).tasks = s.tasks := rfl
@[simp] theorem State.dropJob_cores (j : FlashOp) : (s.dropJob j).cores = s.cores := rfl
@[simp] theorem State.dropJob_programs (j : FlashOp) : (s.dropJob j).programs = s.programs := rfl
@[simp] theorem State.dropJob_rrBay (j : FlashOp) : (s.dropJob j).rrBay = s.rrBay := rfl
@[simp] theorem State.dropJob_hfp (j : FlashOp) : (s.dropJob j).hfp = s.hfp := rfl
@[simp] theorem State.dropJob_mp (j : FlashOp) : (s.dropJob j).mp = s.mp := rfl
@[simp] theorem State.dropJob_mpReady (j : FlashOp) : (s.dropJob j).mpReady = s.mpReady := rfl
@[simp] theorem State.dropJob_nextId (j : FlashOp) : (s.dropJob j).nextId = s.nextId := rfl
@[simp] theorem State.dropJob_egress (j : FlashOp) : (s.dropJob j).egress = s.egress := rfl
@[simp] theorem State.dropJob_spring (j : FlashOp) : (s.dropJob j).spring = s.spring := rfl
@[simp] theorem State.dropJob_faults (j : FlashOp) : (s.dropJob j).faults = s.faults := rfl
@[simp] theorem State.dropJob_cnt (j : FlashOp) : (s.dropJob j).cnt = s.cnt := rfl
@[simp] theorem State.dropJob_cntWin (j : FlashOp) : (s.dropJob j).cntWin = s.cntWin := rfl
@[simp] theorem State.dropJob_tbLatch (j : FlashOp) : (s.dropJob j).tbLatch = s.tbLatch := rfl
@[simp] theorem State.dropJob_clearing (j : FlashOp) : (s.dropJob j).clearing = s.clearing := rfl
@[simp] theorem State.dropJob_signals (j : FlashOp) : (s.dropJob j).signals = s.signals := rfl
@[simp] theorem State.dropJob_syncEnds (j : FlashOp) : (s.dropJob j).syncEnds = s.syncEnds := rfl
@[simp] theorem State.dropJob_medium (j : FlashOp) : (s.dropJob j).medium = s.medium := rfl
@[simp] theorem State.dropJob_intakeClosed (j : FlashOp) : (s.dropJob j).intakeClosed = s.intakeClosed := rfl
@[simp] theorem State.dropJob_erasedMode (j : FlashOp) : (s.dropJob j).erasedMode = s.erasedMode := rfl
@[simp] theorem State.dropJob_rsp (j : FlashOp) : (s.dropJob j).rsp = s.rsp := rfl
@[simp] theorem State.dropJob_spAttn (j : FlashOp) : (s.dropJob j).spAttn = s.spAttn := rfl
@[simp] theorem State.dropJob_pending (j : FlashOp) : (s.dropJob j).pending = s.pending := rfl

end Sys2Proof.Machine
end

