-- ==== Sys2Proof/Laws/Table.lean ====
section
/-! SUPPORT. Laws of tables and of `setAt`: a read after a write, and the rising numbers that every operation keeps. -/

namespace Sys2Proof.Machine

/-! ### setAt -/

@[simp] theorem setAt_length {α : Type} (i : Nat) (f : α → α) (l : List α) : (setAt i f l).length = l.length := by
  induction l generalizing i with
  | nil => simp [setAt]
  | cons a r ih => cases i <;> simp [setAt, ih]

theorem setAt_getElem? {α : Type} (i j : Nat) (f : α → α) (l : List α) :
    (setAt i f l)[j]? = if i = j then l[j]?.map f else l[j]? := by
  induction l generalizing i j with
  | nil => simp [setAt]
  | cons a r ih => cases i <;> cases j <;> simp [setAt, ih]

theorem setAt_getD_ne {α : Type} {i j : Nat} (h : j ≠ i) (f : α → α) (l : List α) (d : α) :
    (setAt i f l).getD j d = l.getD j d := by
  simp [List.getD_eq_getElem?_getD, setAt_getElem?, Ne.symm h]

theorem setAt_getD_self {α : Type} {i : Nat} (f : α → α) (l : List α) (d : α) (h : i < l.length) :
    (setAt i f l).getD i d = f (l.getD i d) := by
  rw [List.getD_eq_getElem?_getD, List.getD_eq_getElem?_getD, setAt_getElem?, if_pos rfl, List.getElem?_eq_getElem h]
  rfl

theorem setAt_forall {α : Type} {p : α → Prop} {i : Nat} {f : α → α} {l : List α} (hl : ∀ a ∈ l, p a)
    (hf : ∀ a, p a → p (f a)) : ∀ a ∈ setAt i f l, p a := by
  induction l generalizing i with
  | nil => simp [setAt]
  | cons b r ih =>
    cases i with
    | zero =>
      simp only [setAt, List.mem_cons]
      rintro a (rfl | h)
      · exact hf _ (hl _ (by simp))
      · exact hl _ (by simp [h])
    | succ j =>
      simp only [setAt, List.mem_cons]
      rintro a (rfl | h)
      · exact hl _ (by simp)
      · exact ih (fun a h => hl _ (by simp [h])) _ h

/-- A second change at a position composes with the first. -/
theorem setAt_setAt {α : Type} (i : Nat) (f g : α → α) (l : List α) : setAt i g (setAt i f l) = setAt i (g ∘ f) l := by
  induction l generalizing i with
  | nil => simp [setAt]
  | cons a r ih => cases i <;> simp [setAt, ih]

/-! ### Reads after writes -/

section
variable {α : Type} (t : Tbl α) (k j : Nat) (a : α) (f : α → α)

theorem Tbl.get_put : (Tbl.put t k a).get j = if k = j then some a else t.get j := by
  induction t with
  | nil => simp [Tbl.put, Tbl.get]
  | cons e r ih =>
    obtain ⟨n, b⟩ := e
    simp only [Tbl.put]
    split
    · simp [Tbl.get]
    · split <;> rename_i h <;> simp only [Tbl.get, ih]
      · subst h; split <;> simp_all
      · split <;> split <;> simp_all

@[simp] theorem Tbl.get_put_self : (Tbl.put t k a).get k = some a := by simp [Tbl.get_put]

theorem Tbl.get_put_ne {t : Tbl α} {k j : Nat} (h : j ≠ k) (a : α) : (Tbl.put t k a).get j = t.get j := by
  simp [Tbl.get_put, Ne.symm h]

theorem Tbl.get_mod : (Tbl.mod t k f).get j = if k = j then (t.get j).map f else t.get j := by
  induction t with
  | nil => simp [Tbl.mod, Tbl.get]
  | cons e r ih =>
    obtain ⟨n, b⟩ := e
    simp only [Tbl.mod, List.map_cons, Tbl.get] at ih ⊢
    by_cases h : n = k
    · subst h; simp only [if_true]; split <;> simp_all
    · simp only [h, if_false]; split <;> simp_all <;> omega

@[simp] theorem Tbl.get_mod_self : (Tbl.mod t k f).get k = (t.get k).map f := by simp [Tbl.get_mod]

theorem Tbl.get_mod_ne {t : Tbl α} {k j : Nat} (h : j ≠ k) (f : α → α) : (Tbl.mod t k f).get j = t.get j := by
  simp [Tbl.get_mod, Ne.symm h]

theorem Tbl.get_del : (Tbl.del t k).get j = if k = j then none else t.get j := by
  induction t with
  | nil => simp [Tbl.del, Tbl.get]
  | cons e r ih =>
    obtain ⟨n, b⟩ := e
    simp only [Tbl.del, List.filter_cons, Tbl.get] at ih ⊢
    by_cases h : n = k
    · subst h; simp only [bne_self_eq_false, Bool.false_eq_true, if_false, ih]; split <;> simp_all
    · have h' : (n != k) = true := by simp [h]
      simp only [h', if_true, Tbl.get, ih]; split <;> simp_all <;> omega

@[simp] theorem Tbl.get_del_self : (Tbl.del t k).get k = none := by simp [Tbl.get_del]

theorem Tbl.get_mapVals {β : Type} (g : Nat → α → β) : (Tbl.mapVals g t).get j = (t.get j).map (g j) := by
  induction t with
  | nil => rfl
  | cons e r ih =>
    obtain ⟨n, b⟩ := e
    simp only [Tbl.mapVals, List.map_cons, Tbl.get] at ih ⊢
    split <;> simp_all

end

/-! ### Rising numbers -/

theorem Tbl.mod_keys {α : Type} (t : Tbl α) (k : Nat) (f : α → α) : (Tbl.mod t k f).map (·.1) = t.map (·.1) := by
  simp only [Tbl.mod, List.map_map]
  exact List.map_congr_left (fun e _ => by simp only [Function.comp]; split <;> rfl)

theorem Tbl.mapVals_keys {α β : Type} (t : Tbl α) (g : Nat → α → β) : (Tbl.mapVals g t).map (·.1) = t.map (·.1) := by
  simp [Tbl.mapVals, Function.comp_def]

theorem Tbl.wf_mod {α : Type} {t : Tbl α} (h : t.wf) (k : Nat) (f : α → α) : (Tbl.mod t k f).wf := by
  rw [Tbl.wf, Tbl.mod_keys]; exact h

theorem Tbl.wf_mapVals {α β : Type} {t : Tbl α} (h : t.wf) (g : Nat → α → β) : (Tbl.mapVals g t).wf := by
  rw [Tbl.wf, Tbl.mapVals_keys]; exact h

theorem Tbl.wf_del {α : Type} {t : Tbl α} (h : t.wf) (k : Nat) : (Tbl.del t k).wf :=
  List.Pairwise.sublist (List.filter_sublist.map _) h

theorem Tbl.put_keys {α : Type} (t : Tbl α) (k : Nat) (a : α) : ∀ n ∈ (Tbl.put t k a).map (·.1), n = k ∨ n ∈ t.map (·.1) := by
  induction t with
  | nil => simp [Tbl.put]
  | cons e r ih =>
    obtain ⟨m, b⟩ := e
    simp only [Tbl.put]
    split
    · simp
    · split
      · simp_all
      · simp only [List.map_cons, List.mem_cons]
        rintro n (rfl | h)
        · simp
        · rcases ih n h with h | h <;> simp [h]

theorem Tbl.wf_put {α : Type} {t : Tbl α} (h : t.wf) (k : Nat) (a : α) : (Tbl.put t k a).wf := by
  induction t with
  | nil => simp [Tbl.put, Tbl.wf]
  | cons e r ih =>
    obtain ⟨m, b⟩ := e
    simp only [Tbl.wf, List.map_cons, List.pairwise_cons] at h
    simp only [Tbl.put]
    split
    · simp only [Tbl.wf, List.map_cons, List.pairwise_cons, List.mem_cons]
      refine ⟨?_, h.1, h.2⟩
      rintro n (rfl | hn)
      · assumption
      · have := h.1 n hn; omega
    · split
      · rename_i h2; subst h2; simpa [Tbl.wf] using h
      · simp only [Tbl.wf, List.map_cons, List.pairwise_cons]
        refine ⟨fun n hn => ?_, ih h.2⟩
        rcases Tbl.put_keys r k a n hn with h3 | h3
        · omega
        · exact h.1 n h3

end Sys2Proof.Machine
end

