-- ==== Sys2Proof/Laws/Ops.lean ====
section
/-! SUPPORT. What each shared operation can change, one lemma each, and with it what each leaves as it was: the operations on
counters, interrupt sources, fault records, completions and ring entries. -/

namespace Sys2Proof.Machine

variable (s : State)

/-! ### count -/

/-- It counts in the counters alone: no other field changes. -/
theorem State.count_changes (c : Cause) (t l n : Nat) : ∃ (n0 : Counters), s.count c t l n = { s with cnt := n0 } :=
  by
  unfold State.count; split
  · exact ⟨s.cnt, rfl⟩
  · exact ⟨_, rfl⟩

@[simp] theorem State.count_cfg (c : Cause) (t l n : Nat) : (s.count c t l n).cfg = s.cfg := by
  obtain ⟨_, e⟩ := State.count_changes s c t l n; rw [e]
@[simp] theorem State.count_tick (c : Cause) (t l n : Nat) : (s.count c t l n).tick = s.tick := by
  obtain ⟨_, e⟩ := State.count_changes s c t l n; rw [e]
@[simp] theorem State.count_fresh (c : Cause) (t l n : Nat) : (s.count c t l n).fresh = s.fresh := by
  obtain ⟨_, e⟩ := State.count_changes s c t l n; rw [e]
@[simp] theorem State.count_irq (c : Cause) (t l n : Nat) : (s.count c t l n).irq = s.irq := by
  obtain ⟨_, e⟩ := State.count_changes s c t l n; rw [e]
@[simp] theorem State.count_lcs (c : Cause) (t l n : Nat) : (s.count c t l n).lcs = s.lcs := by
  obtain ⟨_, e⟩ := State.count_changes s c t l n; rw [e]
@[simp] theorem State.count_boot (c : Cause) (t l n : Nat) : (s.count c t l n).boot = s.boot := by
  obtain ⟨_, e⟩ := State.count_changes s c t l n; rw [e]
@[simp] theorem State.count_fuses (c : Cause) (t l n : Nat) : (s.count c t l n).fuses = s.fuses := by
  obtain ⟨_, e⟩ := State.count_changes s c t l n; rw [e]
@[simp] theorem State.count_advance (c : Cause) (t l n : Nat) : (s.count c t l n).advance = s.advance := by
  obtain ⟨_, e⟩ := State.count_changes s c t l n; rw [e]
@[simp] theorem State.count_pwr (c : Cause) (t l n : Nat) : (s.count c t l n).pwr = s.pwr := by
  obtain ⟨_, e⟩ := State.count_changes s c t l n; rw [e]
@[simp] theorem State.count_sleep (c : Cause) (t l n : Nat) : (s.count c t l n).sleep = s.sleep := by
  obtain ⟨_, e⟩ := State.count_changes s c t l n; rw [e]
@[simp] theorem State.count_sb (c : Cause) (t l n : Nat) : (s.count c t l n).sb = s.sb := by
  obtain ⟨_, e⟩ := State.count_changes s c t l n; rw [e]
@[simp] theorem State.count_tap (c : Cause) (t l n : Nat) : (s.count c t l n).tap = s.tap := by
  obtain ⟨_, e⟩ := State.count_changes s c t l n; rw [e]
@[simp] theorem State.count_mbs (c : Cause) (t l n : Nat) : (s.count c t l n).mbs = s.mbs := by
  obtain ⟨_, e⟩ := State.count_changes s c t l n; rw [e]
@[simp] theorem State.count_sched (c : Cause) (t l n : Nat) : (s.count c t l n).sched = s.sched := by
  obtain ⟨_, e⟩ := State.count_changes s c t l n; rw [e]
@[simp] theorem State.count_terr (c : Cause) (t l n : Nat) : (s.count c t l n).terr = s.terr := by
  obtain ⟨_, e⟩ := State.count_changes s c t l n; rw [e]
@[simp] theorem State.count_gens (c : Cause) (t l n : Nat) : (s.count c t l n).gens = s.gens := by
  obtain ⟨_, e⟩ := State.count_changes s c t l n; rw [e]
@[simp] theorem State.count_genBase (c : Cause) (t l n : Nat) : (s.count c t l n).genBase = s.genBase := by
  obtain ⟨_, e⟩ := State.count_changes s c t l n; rw [e]
@[simp] theorem State.count_instCount (c : Cause) (t l n : Nat) : (s.count c t l n).instCount = s.instCount := by
  obtain ⟨_, e⟩ := State.count_changes s c t l n; rw [e]
@[simp] theorem State.count_tasks (c : Cause) (t l n : Nat) : (s.count c t l n).tasks = s.tasks := by
  obtain ⟨_, e⟩ := State.count_changes s c t l n; rw [e]
@[simp] theorem State.count_cores (c : Cause) (t l n : Nat) : (s.count c t l n).cores = s.cores := by
  obtain ⟨_, e⟩ := State.count_changes s c t l n; rw [e]
@[simp] theorem State.count_programs (c : Cause) (t l n : Nat) : (s.count c t l n).programs = s.programs := by
  obtain ⟨_, e⟩ := State.count_changes s c t l n; rw [e]
@[simp] theorem State.count_rrBay (c : Cause) (t l n : Nat) : (s.count c t l n).rrBay = s.rrBay := by
  obtain ⟨_, e⟩ := State.count_changes s c t l n; rw [e]
@[simp] theorem State.count_hfp (c : Cause) (t l n : Nat) : (s.count c t l n).hfp = s.hfp := by
  obtain ⟨_, e⟩ := State.count_changes s c t l n; rw [e]
@[simp] theorem State.count_mp (c : Cause) (t l n : Nat) : (s.count c t l n).mp = s.mp := by
  obtain ⟨_, e⟩ := State.count_changes s c t l n; rw [e]
@[simp] theorem State.count_mpReady (c : Cause) (t l n : Nat) : (s.count c t l n).mpReady = s.mpReady := by
  obtain ⟨_, e⟩ := State.count_changes s c t l n; rw [e]
@[simp] theorem State.count_nextId (c : Cause) (t l n : Nat) : (s.count c t l n).nextId = s.nextId := by
  obtain ⟨_, e⟩ := State.count_changes s c t l n; rw [e]
@[simp] theorem State.count_egress (c : Cause) (t l n : Nat) : (s.count c t l n).egress = s.egress := by
  obtain ⟨_, e⟩ := State.count_changes s c t l n; rw [e]
@[simp] theorem State.count_spring (c : Cause) (t l n : Nat) : (s.count c t l n).spring = s.spring := by
  obtain ⟨_, e⟩ := State.count_changes s c t l n; rw [e]
@[simp] theorem State.count_faults (c : Cause) (t l n : Nat) : (s.count c t l n).faults = s.faults := by
  obtain ⟨_, e⟩ := State.count_changes s c t l n; rw [e]
@[simp] theorem State.count_cntWin (c : Cause) (t l n : Nat) : (s.count c t l n).cntWin = s.cntWin := by
  obtain ⟨_, e⟩ := State.count_changes s c t l n; rw [e]
@[simp] theorem State.count_tbLatch (c : Cause) (t l n : Nat) : (s.count c t l n).tbLatch = s.tbLatch := by
  obtain ⟨_, e⟩ := State.count_changes s c t l n; rw [e]
@[simp] theorem State.count_clearing (c : Cause) (t l n : Nat) : (s.count c t l n).clearing = s.clearing := by
  obtain ⟨_, e⟩ := State.count_changes s c t l n; rw [e]
@[simp] theorem State.count_signals (c : Cause) (t l n : Nat) : (s.count c t l n).signals = s.signals := by
  obtain ⟨_, e⟩ := State.count_changes s c t l n; rw [e]
@[simp] theorem State.count_syncEnds (c : Cause) (t l n : Nat) : (s.count c t l n).syncEnds = s.syncEnds := by
  obtain ⟨_, e⟩ := State.count_changes s c t l n; rw [e]
@[simp] theorem State.count_flash (c : Cause) (t l n : Nat) : (s.count c t l n).flash = s.flash := by
  obtain ⟨_, e⟩ := State.count_changes s c t l n; rw [e]
@[simp] theorem State.count_medium (c : Cause) (t l n : Nat) : (s.count c t l n).medium = s.medium := by
  obtain ⟨_, e⟩ := State.count_changes s c t l n; rw [e]
@[simp] theorem State.count_intakeClosed (c : Cause) (t l n : Nat) : (s.count c t l n).intakeClosed = s.intakeClosed := by
  obtain ⟨_, e⟩ := State.count_changes s c t l n; rw [e]
@[simp] theorem State.count_erasedMode (c : Cause) (t l n : Nat) : (s.count c t l n).erasedMode = s.erasedMode := by
  obtain ⟨_, e⟩ := State.count_changes s c t l n; rw [e]
@[simp] theorem State.count_rsp (c : Cause) (t l n : Nat) : (s.count c t l n).rsp = s.rsp := by
  obtain ⟨_, e⟩ := State.count_changes s c t l n; rw [e]
@[simp] theorem State.count_spAttn (c : Cause) (t l n : Nat) : (s.count c t l n).spAttn = s.spAttn := by
  obtain ⟨_, e⟩ := State.count_changes s c t l n; rw [e]
@[simp] theorem State.count_pending (c : Cause) (t l n : Nat) : (s.count c t l n).pending = s.pending := by
  obtain ⟨_, e⟩ := State.count_changes s c t l n; rw [e]

/-! ### tally -/

/-- It counts in the counters alone: no other field changes. -/
theorem State.tally_changes (c : Cause) (t : Nat) : ∃ (n0 : Counters), s.tally c t = { s with cnt := n0 } :=
  State.count_changes s c t locBlock 1

@[simp] theorem State.tally_cfg (c : Cause) (t : Nat) : (s.tally c t).cfg = s.cfg := by
  obtain ⟨_, e⟩ := State.tally_changes s c t; rw [e]
@[simp] theorem State.tally_tick (c : Cause) (t : Nat) : (s.tally c t).tick = s.tick := by
  obtain ⟨_, e⟩ := State.tally_changes s c t; rw [e]
@[simp] theorem State.tally_fresh (c : Cause) (t : Nat) : (s.tally c t).fresh = s.fresh := by
  obtain ⟨_, e⟩ := State.tally_changes s c t; rw [e]
@[simp] theorem State.tally_irq (c : Cause) (t : Nat) : (s.tally c t).irq = s.irq := by
  obtain ⟨_, e⟩ := State.tally_changes s c t; rw [e]
@[simp] theorem State.tally_lcs (c : Cause) (t : Nat) : (s.tally c t).lcs = s.lcs := by
  obtain ⟨_, e⟩ := State.tally_changes s c t; rw [e]
@[simp] theorem State.tally_boot (c : Cause) (t : Nat) : (s.tally c t).boot = s.boot := by
  obtain ⟨_, e⟩ := State.tally_changes s c t; rw [e]
@[simp] theorem State.tally_fuses (c : Cause) (t : Nat) : (s.tally c t).fuses = s.fuses := by
  obtain ⟨_, e⟩ := State.tally_changes s c t; rw [e]
@[simp] theorem State.tally_advance (c : Cause) (t : Nat) : (s.tally c t).advance = s.advance := by
  obtain ⟨_, e⟩ := State.tally_changes s c t; rw [e]
@[simp] theorem State.tally_pwr (c : Cause) (t : Nat) : (s.tally c t).pwr = s.pwr := by
  obtain ⟨_, e⟩ := State.tally_changes s c t; rw [e]
@[simp] theorem State.tally_sleep (c : Cause) (t : Nat) : (s.tally c t).sleep = s.sleep := by
  obtain ⟨_, e⟩ := State.tally_changes s c t; rw [e]
@[simp] theorem State.tally_sb (c : Cause) (t : Nat) : (s.tally c t).sb = s.sb := by
  obtain ⟨_, e⟩ := State.tally_changes s c t; rw [e]
@[simp] theorem State.tally_tap (c : Cause) (t : Nat) : (s.tally c t).tap = s.tap := by
  obtain ⟨_, e⟩ := State.tally_changes s c t; rw [e]
@[simp] theorem State.tally_mbs (c : Cause) (t : Nat) : (s.tally c t).mbs = s.mbs := by
  obtain ⟨_, e⟩ := State.tally_changes s c t; rw [e]
@[simp] theorem State.tally_sched (c : Cause) (t : Nat) : (s.tally c t).sched = s.sched := by
  obtain ⟨_, e⟩ := State.tally_changes s c t; rw [e]
@[simp] theorem State.tally_terr (c : Cause) (t : Nat) : (s.tally c t).terr = s.terr := by
  obtain ⟨_, e⟩ := State.tally_changes s c t; rw [e]
@[simp] theorem State.tally_gens (c : Cause) (t : Nat) : (s.tally c t).gens = s.gens := by
  obtain ⟨_, e⟩ := State.tally_changes s c t; rw [e]
@[simp] theorem State.tally_genBase (c : Cause) (t : Nat) : (s.tally c t).genBase = s.genBase := by
  obtain ⟨_, e⟩ := State.tally_changes s c t; rw [e]
@[simp] theorem State.tally_instCount (c : Cause) (t : Nat) : (s.tally c t).instCount = s.instCount := by
  obtain ⟨_, e⟩ := State.tally_changes s c t; rw [e]
@[simp] theorem State.tally_tasks (c : Cause) (t : Nat) : (s.tally c t).tasks = s.tasks := by
  obtain ⟨_, e⟩ := State.tally_changes s c t; rw [e]
@[simp] theorem State.tally_cores (c : Cause) (t : Nat) : (s.tally c t).cores = s.cores := by
  obtain ⟨_, e⟩ := State.tally_changes s c t; rw [e]
@[simp] theorem State.tally_programs (c : Cause) (t : Nat) : (s.tally c t).programs = s.programs := by
  obtain ⟨_, e⟩ := State.tally_changes s c t; rw [e]
@[simp] theorem State.tally_rrBay (c : Cause) (t : Nat) : (s.tally c t).rrBay = s.rrBay := by
  obtain ⟨_, e⟩ := State.tally_changes s c t; rw [e]
@[simp] theorem State.tally_hfp (c : Cause) (t : Nat) : (s.tally c t).hfp = s.hfp := by
  obtain ⟨_, e⟩ := State.tally_changes s c t; rw [e]
@[simp] theorem State.tally_mp (c : Cause) (t : Nat) : (s.tally c t).mp = s.mp := by
  obtain ⟨_, e⟩ := State.tally_changes s c t; rw [e]
@[simp] theorem State.tally_mpReady (c : Cause) (t : Nat) : (s.tally c t).mpReady = s.mpReady := by
  obtain ⟨_, e⟩ := State.tally_changes s c t; rw [e]
@[simp] theorem State.tally_nextId (c : Cause) (t : Nat) : (s.tally c t).nextId = s.nextId := by
  obtain ⟨_, e⟩ := State.tally_changes s c t; rw [e]
@[simp] theorem State.tally_egress (c : Cause) (t : Nat) : (s.tally c t).egress = s.egress := by
  obtain ⟨_, e⟩ := State.tally_changes s c t; rw [e]
@[simp] theorem State.tally_spring (c : Cause) (t : Nat) : (s.tally c t).spring = s.spring := by
  obtain ⟨_, e⟩ := State.tally_changes s c t; rw [e]
@[simp] theorem State.tally_faults (c : Cause) (t : Nat) : (s.tally c t).faults = s.faults := by
  obtain ⟨_, e⟩ := State.tally_changes s c t; rw [e]
@[simp] theorem State.tally_cntWin (c : Cause) (t : Nat) : (s.tally c t).cntWin = s.cntWin := by
  obtain ⟨_, e⟩ := State.tally_changes s c t; rw [e]
@[simp] theorem State.tally_tbLatch (c : Cause) (t : Nat) : (s.tally c t).tbLatch = s.tbLatch := by
  obtain ⟨_, e⟩ := State.tally_changes s c t; rw [e]
@[simp] theorem State.tally_clearing (c : Cause) (t : Nat) : (s.tally c t).clearing = s.clearing := by
  obtain ⟨_, e⟩ := State.tally_changes s c t; rw [e]
@[simp] theorem State.tally_signals (c : Cause) (t : Nat) : (s.tally c t).signals = s.signals := by
  obtain ⟨_, e⟩ := State.tally_changes s c t; rw [e]
@[simp] theorem State.tally_syncEnds (c : Cause) (t : Nat) : (s.tally c t).syncEnds = s.syncEnds := by
  obtain ⟨_, e⟩ := State.tally_changes s c t; rw [e]
@[simp] theorem State.tally_flash (c : Cause) (t : Nat) : (s.tally c t).flash = s.flash := by
  obtain ⟨_, e⟩ := State.tally_changes s c t; rw [e]
@[simp] theorem State.tally_medium (c : Cause) (t : Nat) : (s.tally c t).medium = s.medium := by
  obtain ⟨_, e⟩ := State.tally_changes s c t; rw [e]
@[simp] theorem State.tally_intakeClosed (c : Cause) (t : Nat) : (s.tally c t).intakeClosed = s.intakeClosed := by
  obtain ⟨_, e⟩ := State.tally_changes s c t; rw [e]
@[simp] theorem State.tally_erasedMode (c : Cause) (t : Nat) : (s.tally c t).erasedMode = s.erasedMode := by
  obtain ⟨_, e⟩ := State.tally_changes s c t; rw [e]
@[simp] theorem State.tally_rsp (c : Cause) (t : Nat) : (s.tally c t).rsp = s.rsp := by
  obtain ⟨_, e⟩ := State.tally_changes s c t; rw [e]
@[simp] theorem State.tally_spAttn (c : Cause) (t : Nat) : (s.tally c t).spAttn = s.spAttn := by
  obtain ⟨_, e⟩ := State.tally_changes s c t; rw [e]
@[simp] theorem State.tally_pending (c : Cause) (t : Nat) : (s.tally c t).pending = s.pending := by
  obtain ⟨_, e⟩ := State.tally_changes s c t; rw [e]

/-! ### raise -/

/-- It sets a status bit or issues a message: no other field changes. -/
theorem State.raise_changes (n : Nat) : ∃ (n0 : Irq) (n1 : List HfpOp) (n2 : Nat), s.raise n = { s with irq := n0, hfp := n1, nextId := n2 } :=
  by
  unfold State.raise; split
  · exact ⟨_, _, _, rfl⟩
  · split
    · split <;> exact ⟨_, _, _, rfl⟩
    · exact ⟨_, _, _, rfl⟩

@[simp] theorem State.raise_cfg (n : Nat) : (s.raise n).cfg = s.cfg := by
  obtain ⟨_, _, _, e⟩ := State.raise_changes s n; rw [e]
@[simp] theorem State.raise_tick (n : Nat) : (s.raise n).tick = s.tick := by
  obtain ⟨_, _, _, e⟩ := State.raise_changes s n; rw [e]
@[simp] theorem State.raise_fresh (n : Nat) : (s.raise n).fresh = s.fresh := by
  obtain ⟨_, _, _, e⟩ := State.raise_changes s n; rw [e]
@[simp] theorem State.raise_lcs (n : Nat) : (s.raise n).lcs = s.lcs := by
  obtain ⟨_, _, _, e⟩ := State.raise_changes s n; rw [e]
@[simp] theorem State.raise_boot (n : Nat) : (s.raise n).boot = s.boot := by
  obtain ⟨_, _, _, e⟩ := State.raise_changes s n; rw [e]
@[simp] theorem State.raise_fuses (n : Nat) : (s.raise n).fuses = s.fuses := by
  obtain ⟨_, _, _, e⟩ := State.raise_changes s n; rw [e]
@[simp] theorem State.raise_advance (n : Nat) : (s.raise n).advance = s.advance := by
  obtain ⟨_, _, _, e⟩ := State.raise_changes s n; rw [e]
@[simp] theorem State.raise_pwr (n : Nat) : (s.raise n).pwr = s.pwr := by
  obtain ⟨_, _, _, e⟩ := State.raise_changes s n; rw [e]
@[simp] theorem State.raise_sleep (n : Nat) : (s.raise n).sleep = s.sleep := by
  obtain ⟨_, _, _, e⟩ := State.raise_changes s n; rw [e]
@[simp] theorem State.raise_sb (n : Nat) : (s.raise n).sb = s.sb := by
  obtain ⟨_, _, _, e⟩ := State.raise_changes s n; rw [e]
@[simp] theorem State.raise_tap (n : Nat) : (s.raise n).tap = s.tap := by
  obtain ⟨_, _, _, e⟩ := State.raise_changes s n; rw [e]
@[simp] theorem State.raise_mbs (n : Nat) : (s.raise n).mbs = s.mbs := by
  obtain ⟨_, _, _, e⟩ := State.raise_changes s n; rw [e]
@[simp] theorem State.raise_sched (n : Nat) : (s.raise n).sched = s.sched := by
  obtain ⟨_, _, _, e⟩ := State.raise_changes s n; rw [e]
@[simp] theorem State.raise_terr (n : Nat) : (s.raise n).terr = s.terr := by
  obtain ⟨_, _, _, e⟩ := State.raise_changes s n; rw [e]
@[simp] theorem State.raise_gens (n : Nat) : (s.raise n).gens = s.gens := by
  obtain ⟨_, _, _, e⟩ := State.raise_changes s n; rw [e]
@[simp] theorem State.raise_genBase (n : Nat) : (s.raise n).genBase = s.genBase := by
  obtain ⟨_, _, _, e⟩ := State.raise_changes s n; rw [e]
@[simp] theorem State.raise_instCount (n : Nat) : (s.raise n).instCount = s.instCount := by
  obtain ⟨_, _, _, e⟩ := State.raise_changes s n; rw [e]
@[simp] theorem State.raise_tasks (n : Nat) : (s.raise n).tasks = s.tasks := by
  obtain ⟨_, _, _, e⟩ := State.raise_changes s n; rw [e]
@[simp] theorem State.raise_cores (n : Nat) : (s.raise n).cores = s.cores := by
  obtain ⟨_, _, _, e⟩ := State.raise_changes s n; rw [e]
@[simp] theorem State.raise_programs (n : Nat) : (s.raise n).programs = s.programs := by
  obtain ⟨_, _, _, e⟩ := State.raise_changes s n; rw [e]
@[simp] theorem State.raise_rrBay (n : Nat) : (s.raise n).rrBay = s.rrBay := by
  obtain ⟨_, _, _, e⟩ := State.raise_changes s n; rw [e]
@[simp] theorem State.raise_mp (n : Nat) : (s.raise n).mp = s.mp := by
  obtain ⟨_, _, _, e⟩ := State.raise_changes s n; rw [e]
@[simp] theorem State.raise_mpReady (n : Nat) : (s.raise n).mpReady = s.mpReady := by
  obtain ⟨_, _, _, e⟩ := State.raise_changes s n; rw [e]
@[simp] theorem State.raise_egress (n : Nat) : (s.raise n).egress = s.egress := by
  obtain ⟨_, _, _, e⟩ := State.raise_changes s n; rw [e]
@[simp] theorem State.raise_spring (n : Nat) : (s.raise n).spring = s.spring := by
  obtain ⟨_, _, _, e⟩ := State.raise_changes s n; rw [e]
@[simp] theorem State.raise_faults (n : Nat) : (s.raise n).faults = s.faults := by
  obtain ⟨_, _, _, e⟩ := State.raise_changes s n; rw [e]
@[simp] theorem State.raise_cnt (n : Nat) : (s.raise n).cnt = s.cnt := by
  obtain ⟨_, _, _, e⟩ := State.raise_changes s n; rw [e]
@[simp] theorem State.raise_cntWin (n : Nat) : (s.raise n).cntWin = s.cntWin := by
  obtain ⟨_, _, _, e⟩ := State.raise_changes s n; rw [e]
@[simp] theorem State.raise_tbLatch (n : Nat) : (s.raise n).tbLatch = s.tbLatch := by
  obtain ⟨_, _, _, e⟩ := State.raise_changes s n; rw [e]
@[simp] theorem State.raise_clearing (n : Nat) : (s.raise n).clearing = s.clearing := by
  obtain ⟨_, _, _, e⟩ := State.raise_changes s n; rw [e]
@[simp] theorem State.raise_signals (n : Nat) : (s.raise n).signals = s.signals := by
  obtain ⟨_, _, _, e⟩ := State.raise_changes s n; rw [e]
@[simp] theorem State.raise_syncEnds (n : Nat) : (s.raise n).syncEnds = s.syncEnds := by
  obtain ⟨_, _, _, e⟩ := State.raise_changes s n; rw [e]
@[simp] theorem State.raise_flash (n : Nat) : (s.raise n).flash = s.flash := by
  obtain ⟨_, _, _, e⟩ := State.raise_changes s n; rw [e]
@[simp] theorem State.raise_medium (n : Nat) : (s.raise n).medium = s.medium := by
  obtain ⟨_, _, _, e⟩ := State.raise_changes s n; rw [e]
@[simp] theorem State.raise_intakeClosed (n : Nat) : (s.raise n).intakeClosed = s.intakeClosed := by
  obtain ⟨_, _, _, e⟩ := State.raise_changes s n; rw [e]
@[simp] theorem State.raise_erasedMode (n : Nat) : (s.raise n).erasedMode = s.erasedMode := by
  obtain ⟨_, _, _, e⟩ := State.raise_changes s n; rw [e]
@[simp] theorem State.raise_rsp (n : Nat) : (s.raise n).rsp = s.rsp := by
  obtain ⟨_, _, _, e⟩ := State.raise_changes s n; rw [e]
@[simp] theorem State.raise_spAttn (n : Nat) : (s.raise n).spAttn = s.spAttn := by
  obtain ⟨_, _, _, e⟩ := State.raise_changes s n; rw [e]
@[simp] theorem State.raise_pending (n : Nat) : (s.raise n).pending = s.pending := by
  obtain ⟨_, _, _, e⟩ := State.raise_changes s n; rw [e]

/-! ### unmaskMsg -/

/-- It issues a message for a status bit and clears it: no other field changes. -/
theorem State.unmaskMsg_changes (n : Nat) : ∃ (n0 : Irq) (n1 : List HfpOp) (n2 : Nat), s.unmaskMsg n = { s with irq := n0, hfp := n1, nextId := n2 } :=
  by
  unfold State.unmaskMsg; split
  · split <;> exact ⟨_, _, _, rfl⟩
  · exact ⟨_, _, _, rfl⟩

@[simp] theorem State.unmaskMsg_cfg (n : Nat) : (s.unmaskMsg n).cfg = s.cfg := by
  obtain ⟨_, _, _, e⟩ := State.unmaskMsg_changes s n; rw [e]
@[simp] theorem State.unmaskMsg_tick (n : Nat) : (s.unmaskMsg n).tick = s.tick := by
  obtain ⟨_, _, _, e⟩ := State.unmaskMsg_changes s n; rw [e]
@[simp] theorem State.unmaskMsg_fresh (n : Nat) : (s.unmaskMsg n).fresh = s.fresh := by
  obtain ⟨_, _, _, e⟩ := State.unmaskMsg_changes s n; rw [e]
@[simp] theorem State.unmaskMsg_lcs (n : Nat) : (s.unmaskMsg n).lcs = s.lcs := by
  obtain ⟨_, _, _, e⟩ := State.unmaskMsg_changes s n; rw [e]
@[simp] theorem State.unmaskMsg_boot (n : Nat) : (s.unmaskMsg n).boot = s.boot := by
  obtain ⟨_, _, _, e⟩ := State.unmaskMsg_changes s n; rw [e]
@[simp] theorem State.unmaskMsg_fuses (n : Nat) : (s.unmaskMsg n).fuses = s.fuses := by
  obtain ⟨_, _, _, e⟩ := State.unmaskMsg_changes s n; rw [e]
@[simp] theorem State.unmaskMsg_advance (n : Nat) : (s.unmaskMsg n).advance = s.advance := by
  obtain ⟨_, _, _, e⟩ := State.unmaskMsg_changes s n; rw [e]
@[simp] theorem State.unmaskMsg_pwr (n : Nat) : (s.unmaskMsg n).pwr = s.pwr := by
  obtain ⟨_, _, _, e⟩ := State.unmaskMsg_changes s n; rw [e]
@[simp] theorem State.unmaskMsg_sleep (n : Nat) : (s.unmaskMsg n).sleep = s.sleep := by
  obtain ⟨_, _, _, e⟩ := State.unmaskMsg_changes s n; rw [e]
@[simp] theorem State.unmaskMsg_sb (n : Nat) : (s.unmaskMsg n).sb = s.sb := by
  obtain ⟨_, _, _, e⟩ := State.unmaskMsg_changes s n; rw [e]
@[simp] theorem State.unmaskMsg_tap (n : Nat) : (s.unmaskMsg n).tap = s.tap := by
  obtain ⟨_, _, _, e⟩ := State.unmaskMsg_changes s n; rw [e]
@[simp] theorem State.unmaskMsg_mbs (n : Nat) : (s.unmaskMsg n).mbs = s.mbs := by
  obtain ⟨_, _, _, e⟩ := State.unmaskMsg_changes s n; rw [e]
@[simp] theorem State.unmaskMsg_sched (n : Nat) : (s.unmaskMsg n).sched = s.sched := by
  obtain ⟨_, _, _, e⟩ := State.unmaskMsg_changes s n; rw [e]
@[simp] theorem State.unmaskMsg_terr (n : Nat) : (s.unmaskMsg n).terr = s.terr := by
  obtain ⟨_, _, _, e⟩ := State.unmaskMsg_changes s n; rw [e]
@[simp] theorem State.unmaskMsg_gens (n : Nat) : (s.unmaskMsg n).gens = s.gens := by
  obtain ⟨_, _, _, e⟩ := State.unmaskMsg_changes s n; rw [e]
@[simp] theorem State.unmaskMsg_genBase (n : Nat) : (s.unmaskMsg n).genBase = s.genBase := by
  obtain ⟨_, _, _, e⟩ := State.unmaskMsg_changes s n; rw [e]
@[simp] theorem State.unmaskMsg_instCount (n : Nat) : (s.unmaskMsg n).instCount = s.instCount := by
  obtain ⟨_, _, _, e⟩ := State.unmaskMsg_changes s n; rw [e]
@[simp] theorem State.unmaskMsg_tasks (n : Nat) : (s.unmaskMsg n).tasks = s.tasks := by
  obtain ⟨_, _, _, e⟩ := State.unmaskMsg_changes s n; rw [e]
@[simp] theorem State.unmaskMsg_cores (n : Nat) : (s.unmaskMsg n).cores = s.cores := by
  obtain ⟨_, _, _, e⟩ := State.unmaskMsg_changes s n; rw [e]
@[simp] theorem State.unmaskMsg_programs (n : Nat) : (s.unmaskMsg n).programs = s.programs := by
  obtain ⟨_, _, _, e⟩ := State.unmaskMsg_changes s n; rw [e]
@[simp] theorem State.unmaskMsg_rrBay (n : Nat) : (s.unmaskMsg n).rrBay = s.rrBay := by
  obtain ⟨_, _, _, e⟩ := State.unmaskMsg_changes s n; rw [e]
@[simp] theorem State.unmaskMsg_mp (n : Nat) : (s.unmaskMsg n).mp = s.mp := by
  obtain ⟨_, _, _, e⟩ := State.unmaskMsg_changes s n; rw [e]
@[simp] theorem State.unmaskMsg_mpReady (n : Nat) : (s.unmaskMsg n).mpReady = s.mpReady := by
  obtain ⟨_, _, _, e⟩ := State.unmaskMsg_changes s n; rw [e]
@[simp] theorem State.unmaskMsg_egress (n : Nat) : (s.unmaskMsg n).egress = s.egress := by
  obtain ⟨_, _, _, e⟩ := State.unmaskMsg_changes s n; rw [e]
@[simp] theorem State.unmaskMsg_spring (n : Nat) : (s.unmaskMsg n).spring = s.spring := by
  obtain ⟨_, _, _, e⟩ := State.unmaskMsg_changes s n; rw [e]
@[simp] theorem State.unmaskMsg_faults (n : Nat) : (s.unmaskMsg n).faults = s.faults := by
  obtain ⟨_, _, _, e⟩ := State.unmaskMsg_changes s n; rw [e]
@[simp] theorem State.unmaskMsg_cnt (n : Nat) : (s.unmaskMsg n).cnt = s.cnt := by
  obtain ⟨_, _, _, e⟩ := State.unmaskMsg_changes s n; rw [e]
@[simp] theorem State.unmaskMsg_cntWin (n : Nat) : (s.unmaskMsg n).cntWin = s.cntWin := by
  obtain ⟨_, _, _, e⟩ := State.unmaskMsg_changes s n; rw [e]
@[simp] theorem State.unmaskMsg_tbLatch (n : Nat) : (s.unmaskMsg n).tbLatch = s.tbLatch := by
  obtain ⟨_, _, _, e⟩ := State.unmaskMsg_changes s n; rw [e]
@[simp] theorem State.unmaskMsg_clearing (n : Nat) : (s.unmaskMsg n).clearing = s.clearing := by
  obtain ⟨_, _, _, e⟩ := State.unmaskMsg_changes s n; rw [e]
@[simp] theorem State.unmaskMsg_signals (n : Nat) : (s.unmaskMsg n).signals = s.signals := by
  obtain ⟨_, _, _, e⟩ := State.unmaskMsg_changes s n; rw [e]
@[simp] theorem State.unmaskMsg_syncEnds (n : Nat) : (s.unmaskMsg n).syncEnds = s.syncEnds := by
  obtain ⟨_, _, _, e⟩ := State.unmaskMsg_changes s n; rw [e]
@[simp] theorem State.unmaskMsg_flash (n : Nat) : (s.unmaskMsg n).flash = s.flash := by
  obtain ⟨_, _, _, e⟩ := State.unmaskMsg_changes s n; rw [e]
@[simp] theorem State.unmaskMsg_medium (n : Nat) : (s.unmaskMsg n).medium = s.medium := by
  obtain ⟨_, _, _, e⟩ := State.unmaskMsg_changes s n; rw [e]
@[simp] theorem State.unmaskMsg_intakeClosed (n : Nat) : (s.unmaskMsg n).intakeClosed = s.intakeClosed := by
  obtain ⟨_, _, _, e⟩ := State.unmaskMsg_changes s n; rw [e]
@[simp] theorem State.unmaskMsg_erasedMode (n : Nat) : (s.unmaskMsg n).erasedMode = s.erasedMode := by
  obtain ⟨_, _, _, e⟩ := State.unmaskMsg_changes s n; rw [e]
@[simp] theorem State.unmaskMsg_rsp (n : Nat) : (s.unmaskMsg n).rsp = s.rsp := by
  obtain ⟨_, _, _, e⟩ := State.unmaskMsg_changes s n; rw [e]
@[simp] theorem State.unmaskMsg_spAttn (n : Nat) : (s.unmaskMsg n).spAttn = s.spAttn := by
  obtain ⟨_, _, _, e⟩ := State.unmaskMsg_changes s n; rw [e]
@[simp] theorem State.unmaskMsg_pending (n : Nat) : (s.unmaskMsg n).pending = s.pending := by
  obtain ⟨_, _, _, e⟩ := State.unmaskMsg_changes s n; rw [e]

/-! ### fault -/

/-- It files a record, counts it and raises its source: no other field changes. -/
theorem State.fault_changes (c t l : Nat) (q : Cause) (d h i : Nat) : ∃ (n0 : Irq) (n1 : List HfpOp) (n2 : Nat) (n3 : Faults) (n4 : Counters), s.fault c t l q d h i = { s with irq := n0, hfp := n1, nextId := n2, faults := n3, cnt := n4 } :=
  by
  unfold State.fault; dsimp only; generalize s.faults.file _ = F
  obtain ⟨a, ha⟩ := State.tally_changes { s with faults := F } cFAULT_RECORDS t
  rw [ha]
  obtain ⟨x, y, z, h⟩ := State.raise_changes { s with faults := F, cnt := a } (faultSource c)
  exact ⟨x, y, z, F, a, h⟩

@[simp] theorem State.fault_cfg (c t l : Nat) (q : Cause) (d h i : Nat) : (s.fault c t l q d h i).cfg = s.cfg := by
  obtain ⟨_, _, _, _, _, e⟩ := State.fault_changes s c t l q d h i; rw [e]
@[simp] theorem State.fault_tick (c t l : Nat) (q : Cause) (d h i : Nat) : (s.fault c t l q d h i).tick = s.tick := by
  obtain ⟨_, _, _, _, _, e⟩ := State.fault_changes s c t l q d h i; rw [e]
@[simp] theorem State.fault_fresh (c t l : Nat) (q : Cause) (d h i : Nat) : (s.fault c t l q d h i).fresh = s.fresh := by
  obtain ⟨_, _, _, _, _, e⟩ := State.fault_changes s c t l q d h i; rw [e]
@[simp] theorem State.fault_lcs (c t l : Nat) (q : Cause) (d h i : Nat) : (s.fault c t l q d h i).lcs = s.lcs := by
  obtain ⟨_, _, _, _, _, e⟩ := State.fault_changes s c t l q d h i; rw [e]
@[simp] theorem State.fault_boot (c t l : Nat) (q : Cause) (d h i : Nat) : (s.fault c t l q d h i).boot = s.boot := by
  obtain ⟨_, _, _, _, _, e⟩ := State.fault_changes s c t l q d h i; rw [e]
@[simp] theorem State.fault_fuses (c t l : Nat) (q : Cause) (d h i : Nat) : (s.fault c t l q d h i).fuses = s.fuses := by
  obtain ⟨_, _, _, _, _, e⟩ := State.fault_changes s c t l q d h i; rw [e]
@[simp] theorem State.fault_advance (c t l : Nat) (q : Cause) (d h i : Nat) : (s.fault c t l q d h i).advance = s.advance := by
  obtain ⟨_, _, _, _, _, e⟩ := State.fault_changes s c t l q d h i; rw [e]
@[simp] theorem State.fault_pwr (c t l : Nat) (q : Cause) (d h i : Nat) : (s.fault c t l q d h i).pwr = s.pwr := by
  obtain ⟨_, _, _, _, _, e⟩ := State.fault_changes s c t l q d h i; rw [e]
@[simp] theorem State.fault_sleep (c t l : Nat) (q : Cause) (d h i : Nat) : (s.fault c t l q d h i).sleep = s.sleep := by
  obtain ⟨_, _, _, _, _, e⟩ := State.fault_changes s c t l q d h i; rw [e]
@[simp] theorem State.fault_sb (c t l : Nat) (q : Cause) (d h i : Nat) : (s.fault c t l q d h i).sb = s.sb := by
  obtain ⟨_, _, _, _, _, e⟩ := State.fault_changes s c t l q d h i; rw [e]
@[simp] theorem State.fault_tap (c t l : Nat) (q : Cause) (d h i : Nat) : (s.fault c t l q d h i).tap = s.tap := by
  obtain ⟨_, _, _, _, _, e⟩ := State.fault_changes s c t l q d h i; rw [e]
@[simp] theorem State.fault_mbs (c t l : Nat) (q : Cause) (d h i : Nat) : (s.fault c t l q d h i).mbs = s.mbs := by
  obtain ⟨_, _, _, _, _, e⟩ := State.fault_changes s c t l q d h i; rw [e]
@[simp] theorem State.fault_sched (c t l : Nat) (q : Cause) (d h i : Nat) : (s.fault c t l q d h i).sched = s.sched := by
  obtain ⟨_, _, _, _, _, e⟩ := State.fault_changes s c t l q d h i; rw [e]
@[simp] theorem State.fault_terr (c t l : Nat) (q : Cause) (d h i : Nat) : (s.fault c t l q d h i).terr = s.terr := by
  obtain ⟨_, _, _, _, _, e⟩ := State.fault_changes s c t l q d h i; rw [e]
@[simp] theorem State.fault_gens (c t l : Nat) (q : Cause) (d h i : Nat) : (s.fault c t l q d h i).gens = s.gens := by
  obtain ⟨_, _, _, _, _, e⟩ := State.fault_changes s c t l q d h i; rw [e]
@[simp] theorem State.fault_genBase (c t l : Nat) (q : Cause) (d h i : Nat) : (s.fault c t l q d h i).genBase = s.genBase := by
  obtain ⟨_, _, _, _, _, e⟩ := State.fault_changes s c t l q d h i; rw [e]
@[simp] theorem State.fault_instCount (c t l : Nat) (q : Cause) (d h i : Nat) : (s.fault c t l q d h i).instCount = s.instCount := by
  obtain ⟨_, _, _, _, _, e⟩ := State.fault_changes s c t l q d h i; rw [e]
@[simp] theorem State.fault_tasks (c t l : Nat) (q : Cause) (d h i : Nat) : (s.fault c t l q d h i).tasks = s.tasks := by
  obtain ⟨_, _, _, _, _, e⟩ := State.fault_changes s c t l q d h i; rw [e]
@[simp] theorem State.fault_cores (c t l : Nat) (q : Cause) (d h i : Nat) : (s.fault c t l q d h i).cores = s.cores := by
  obtain ⟨_, _, _, _, _, e⟩ := State.fault_changes s c t l q d h i; rw [e]
@[simp] theorem State.fault_programs (c t l : Nat) (q : Cause) (d h i : Nat) : (s.fault c t l q d h i).programs = s.programs := by
  obtain ⟨_, _, _, _, _, e⟩ := State.fault_changes s c t l q d h i; rw [e]
@[simp] theorem State.fault_rrBay (c t l : Nat) (q : Cause) (d h i : Nat) : (s.fault c t l q d h i).rrBay = s.rrBay := by
  obtain ⟨_, _, _, _, _, e⟩ := State.fault_changes s c t l q d h i; rw [e]
@[simp] theorem State.fault_mp (c t l : Nat) (q : Cause) (d h i : Nat) : (s.fault c t l q d h i).mp = s.mp := by
  obtain ⟨_, _, _, _, _, e⟩ := State.fault_changes s c t l q d h i; rw [e]
@[simp] theorem State.fault_mpReady (c t l : Nat) (q : Cause) (d h i : Nat) : (s.fault c t l q d h i).mpReady = s.mpReady := by
  obtain ⟨_, _, _, _, _, e⟩ := State.fault_changes s c t l q d h i; rw [e]
@[simp] theorem State.fault_egress (c t l : Nat) (q : Cause) (d h i : Nat) : (s.fault c t l q d h i).egress = s.egress := by
  obtain ⟨_, _, _, _, _, e⟩ := State.fault_changes s c t l q d h i; rw [e]
@[simp] theorem State.fault_spring (c t l : Nat) (q : Cause) (d h i : Nat) : (s.fault c t l q d h i).spring = s.spring := by
  obtain ⟨_, _, _, _, _, e⟩ := State.fault_changes s c t l q d h i; rw [e]
@[simp] theorem State.fault_cntWin (c t l : Nat) (q : Cause) (d h i : Nat) : (s.fault c t l q d h i).cntWin = s.cntWin := by
  obtain ⟨_, _, _, _, _, e⟩ := State.fault_changes s c t l q d h i; rw [e]
@[simp] theorem State.fault_tbLatch (c t l : Nat) (q : Cause) (d h i : Nat) : (s.fault c t l q d h i).tbLatch = s.tbLatch := by
  obtain ⟨_, _, _, _, _, e⟩ := State.fault_changes s c t l q d h i; rw [e]
@[simp] theorem State.fault_clearing (c t l : Nat) (q : Cause) (d h i : Nat) : (s.fault c t l q d h i).clearing = s.clearing := by
  obtain ⟨_, _, _, _, _, e⟩ := State.fault_changes s c t l q d h i; rw [e]
@[simp] theorem State.fault_signals (c t l : Nat) (q : Cause) (d h i : Nat) : (s.fault c t l q d h i).signals = s.signals := by
  obtain ⟨_, _, _, _, _, e⟩ := State.fault_changes s c t l q d h i; rw [e]
@[simp] theorem State.fault_syncEnds (c t l : Nat) (q : Cause) (d h i : Nat) : (s.fault c t l q d h i).syncEnds = s.syncEnds := by
  obtain ⟨_, _, _, _, _, e⟩ := State.fault_changes s c t l q d h i; rw [e]
@[simp] theorem State.fault_flash (c t l : Nat) (q : Cause) (d h i : Nat) : (s.fault c t l q d h i).flash = s.flash := by
  obtain ⟨_, _, _, _, _, e⟩ := State.fault_changes s c t l q d h i; rw [e]
@[simp] theorem State.fault_medium (c t l : Nat) (q : Cause) (d h i : Nat) : (s.fault c t l q d h i).medium = s.medium := by
  obtain ⟨_, _, _, _, _, e⟩ := State.fault_changes s c t l q d h i; rw [e]
@[simp] theorem State.fault_intakeClosed (c t l : Nat) (q : Cause) (d h i : Nat) : (s.fault c t l q d h i).intakeClosed = s.intakeClosed := by
  obtain ⟨_, _, _, _, _, e⟩ := State.fault_changes s c t l q d h i; rw [e]
@[simp] theorem State.fault_erasedMode (c t l : Nat) (q : Cause) (d h i : Nat) : (s.fault c t l q d h i).erasedMode = s.erasedMode := by
  obtain ⟨_, _, _, _, _, e⟩ := State.fault_changes s c t l q d h i; rw [e]
@[simp] theorem State.fault_rsp (c t l : Nat) (q : Cause) (d h i : Nat) : (s.fault c t l q d h i).rsp = s.rsp := by
  obtain ⟨_, _, _, _, _, e⟩ := State.fault_changes s c t l q d h i; rw [e]
@[simp] theorem State.fault_spAttn (c t l : Nat) (q : Cause) (d h i : Nat) : (s.fault c t l q d h i).spAttn = s.spAttn := by
  obtain ⟨_, _, _, _, _, e⟩ := State.fault_changes s c t l q d h i; rw [e]
@[simp] theorem State.fault_pending (c t l : Nat) (q : Cause) (d h i : Nat) : (s.fault c t l q d h i).pending = s.pending := by
  obtain ⟨_, _, _, _, _, e⟩ := State.fault_changes s c t l q d h i; rw [e]

/-! ### mbError -/

/-- It stops a mailbox and raises source 18: no other field changes. -/
theorem State.mbError_changes (mb c : Nat) : ∃ (n0 : Irq) (n1 : List Mailbox) (n2 : List HfpOp) (n3 : Nat), s.mbError mb c = { s with irq := n0, mbs := n1, hfp := n2, nextId := n3 } :=
  by
  unfold State.mbError; split
  · obtain ⟨x, y, z, h⟩ := State.raise_changes (s.modMb mb _) 18
    exact ⟨x, _, y, z, h⟩
  · exact ⟨_, _, _, _, rfl⟩

@[simp] theorem State.mbError_cfg (mb c : Nat) : (s.mbError mb c).cfg = s.cfg := by
  obtain ⟨_, _, _, _, e⟩ := State.mbError_changes s mb c; rw [e]
@[simp] theorem State.mbError_tick (mb c : Nat) : (s.mbError mb c).tick = s.tick := by
  obtain ⟨_, _, _, _, e⟩ := State.mbError_changes s mb c; rw [e]
@[simp] theorem State.mbError_fresh (mb c : Nat) : (s.mbError mb c).fresh = s.fresh := by
  obtain ⟨_, _, _, _, e⟩ := State.mbError_changes s mb c; rw [e]
@[simp] theorem State.mbError_lcs (mb c : Nat) : (s.mbError mb c).lcs = s.lcs := by
  obtain ⟨_, _, _, _, e⟩ := State.mbError_changes s mb c; rw [e]
@[simp] theorem State.mbError_boot (mb c : Nat) : (s.mbError mb c).boot = s.boot := by
  obtain ⟨_, _, _, _, e⟩ := State.mbError_changes s mb c; rw [e]
@[simp] theorem State.mbError_fuses (mb c : Nat) : (s.mbError mb c).fuses = s.fuses := by
  obtain ⟨_, _, _, _, e⟩ := State.mbError_changes s mb c; rw [e]
@[simp] theorem State.mbError_advance (mb c : Nat) : (s.mbError mb c).advance = s.advance := by
  obtain ⟨_, _, _, _, e⟩ := State.mbError_changes s mb c; rw [e]
@[simp] theorem State.mbError_pwr (mb c : Nat) : (s.mbError mb c).pwr = s.pwr := by
  obtain ⟨_, _, _, _, e⟩ := State.mbError_changes s mb c; rw [e]
@[simp] theorem State.mbError_sleep (mb c : Nat) : (s.mbError mb c).sleep = s.sleep := by
  obtain ⟨_, _, _, _, e⟩ := State.mbError_changes s mb c; rw [e]
@[simp] theorem State.mbError_sb (mb c : Nat) : (s.mbError mb c).sb = s.sb := by
  obtain ⟨_, _, _, _, e⟩ := State.mbError_changes s mb c; rw [e]
@[simp] theorem State.mbError_tap (mb c : Nat) : (s.mbError mb c).tap = s.tap := by
  obtain ⟨_, _, _, _, e⟩ := State.mbError_changes s mb c; rw [e]
@[simp] theorem State.mbError_sched (mb c : Nat) : (s.mbError mb c).sched = s.sched := by
  obtain ⟨_, _, _, _, e⟩ := State.mbError_changes s mb c; rw [e]
@[simp] theorem State.mbError_terr (mb c : Nat) : (s.mbError mb c).terr = s.terr := by
  obtain ⟨_, _, _, _, e⟩ := State.mbError_changes s mb c; rw [e]
@[simp] theorem State.mbError_gens (mb c : Nat) : (s.mbError mb c).gens = s.gens := by
  obtain ⟨_, _, _, _, e⟩ := State.mbError_changes s mb c; rw [e]
@[simp] theorem State.mbError_genBase (mb c : Nat) : (s.mbError mb c).genBase = s.genBase := by
  obtain ⟨_, _, _, _, e⟩ := State.mbError_changes s mb c; rw [e]
@[simp] theorem State.mbError_instCount (mb c : Nat) : (s.mbError mb c).instCount = s.instCount := by
  obtain ⟨_, _, _, _, e⟩ := State.mbError_changes s mb c; rw [e]
@[simp] theorem State.mbError_tasks (mb c : Nat) : (s.mbError mb c).tasks = s.tasks := by
  obtain ⟨_, _, _, _, e⟩ := State.mbError_changes s mb c; rw [e]
@[simp] theorem State.mbError_cores (mb c : Nat) : (s.mbError mb c).cores = s.cores := by
  obtain ⟨_, _, _, _, e⟩ := State.mbError_changes s mb c; rw [e]
@[simp] theorem State.mbError_programs (mb c : Nat) : (s.mbError mb c).programs = s.programs := by
  obtain ⟨_, _, _, _, e⟩ := State.mbError_changes s mb c; rw [e]
@[simp] theorem State.mbError_rrBay (mb c : Nat) : (s.mbError mb c).rrBay = s.rrBay := by
  obtain ⟨_, _, _, _, e⟩ := State.mbError_changes s mb c; rw [e]
@[simp] theorem State.mbError_mp (mb c : Nat) : (s.mbError mb c).mp = s.mp := by
  obtain ⟨_, _, _, _, e⟩ := State.mbError_changes s mb c; rw [e]
@[simp] theorem State.mbError_mpReady (mb c : Nat) : (s.mbError mb c).mpReady = s.mpReady := by
  obtain ⟨_, _, _, _, e⟩ := State.mbError_changes s mb c; rw [e]
@[simp] theorem State.mbError_egress (mb c : Nat) : (s.mbError mb c).egress = s.egress := by
  obtain ⟨_, _, _, _, e⟩ := State.mbError_changes s mb c; rw [e]
@[simp] theorem State.mbError_spring (mb c : Nat) : (s.mbError mb c).spring = s.spring := by
  obtain ⟨_, _, _, _, e⟩ := State.mbError_changes s mb c; rw [e]
@[simp] theorem State.mbError_faults (mb c : Nat) : (s.mbError mb c).faults = s.faults := by
  obtain ⟨_, _, _, _, e⟩ := State.mbError_changes s mb c; rw [e]
@[simp] theorem State.mbError_cnt (mb c : Nat) : (s.mbError mb c).cnt = s.cnt := by
  obtain ⟨_, _, _, _, e⟩ := State.mbError_changes s mb c; rw [e]
@[simp] theorem State.mbError_cntWin (mb c : Nat) : (s.mbError mb c).cntWin = s.cntWin := by
  obtain ⟨_, _, _, _, e⟩ := State.mbError_changes s mb c; rw [e]
@[simp] theorem State.mbError_tbLatch (mb c : Nat) : (s.mbError mb c).tbLatch = s.tbLatch := by
  obtain ⟨_, _, _, _, e⟩ := State.mbError_changes s mb c; rw [e]
@[simp] theorem State.mbError_clearing (mb c : Nat) : (s.mbError mb c).clearing = s.clearing := by
  obtain ⟨_, _, _, _, e⟩ := State.mbError_changes s mb c; rw [e]
@[simp] theorem State.mbError_signals (mb c : Nat) : (s.mbError mb c).signals = s.signals := by
  obtain ⟨_, _, _, _, e⟩ := State.mbError_changes s mb c; rw [e]
@[simp] theorem State.mbError_syncEnds (mb c : Nat) : (s.mbError mb c).syncEnds = s.syncEnds := by
  obtain ⟨_, _, _, _, e⟩ := State.mbError_changes s mb c; rw [e]
@[simp] theorem State.mbError_flash (mb c : Nat) : (s.mbError mb c).flash = s.flash := by
  obtain ⟨_, _, _, _, e⟩ := State.mbError_changes s mb c; rw [e]
@[simp] theorem State.mbError_medium (mb c : Nat) : (s.mbError mb c).medium = s.medium := by
  obtain ⟨_, _, _, _, e⟩ := State.mbError_changes s mb c; rw [e]
@[simp] theorem State.mbError_intakeClosed (mb c : Nat) : (s.mbError mb c).intakeClosed = s.intakeClosed := by
  obtain ⟨_, _, _, _, e⟩ := State.mbError_changes s mb c; rw [e]
@[simp] theorem State.mbError_erasedMode (mb c : Nat) : (s.mbError mb c).erasedMode = s.erasedMode := by
  obtain ⟨_, _, _, _, e⟩ := State.mbError_changes s mb c; rw [e]
@[simp] theorem State.mbError_rsp (mb c : Nat) : (s.mbError mb c).rsp = s.rsp := by
  obtain ⟨_, _, _, _, e⟩ := State.mbError_changes s mb c; rw [e]
@[simp] theorem State.mbError_spAttn (mb c : Nat) : (s.mbError mb c).spAttn = s.spAttn := by
  obtain ⟨_, _, _, _, e⟩ := State.mbError_changes s mb c; rw [e]
@[simp] theorem State.mbError_pending (mb c : Nat) : (s.mbError mb c).pending = s.pending := by
  obtain ⟨_, _, _, _, e⟩ := State.mbError_changes s mb c; rw [e]

/-! ### writeCpl -/

/-- It issues the completion's write: no other field changes. -/
theorem State.writeCpl_changes (mb : Nat) (c : Cpl) : ∃ (n0 : List Mailbox) (n1 : List HfpOp) (n2 : Nat), s.writeCpl mb c = { s with mbs := n0, hfp := n1, nextId := n2 } :=
  ⟨_, _, _, rfl⟩

@[simp] theorem State.writeCpl_cfg (mb : Nat) (c : Cpl) : (s.writeCpl mb c).cfg = s.cfg := by
  obtain ⟨_, _, _, e⟩ := State.writeCpl_changes s mb c; rw [e]
@[simp] theorem State.writeCpl_tick (mb : Nat) (c : Cpl) : (s.writeCpl mb c).tick = s.tick := by
  obtain ⟨_, _, _, e⟩ := State.writeCpl_changes s mb c; rw [e]
@[simp] theorem State.writeCpl_fresh (mb : Nat) (c : Cpl) : (s.writeCpl mb c).fresh = s.fresh := by
  obtain ⟨_, _, _, e⟩ := State.writeCpl_changes s mb c; rw [e]
@[simp] theorem State.writeCpl_irq (mb : Nat) (c : Cpl) : (s.writeCpl mb c).irq = s.irq := by
  obtain ⟨_, _, _, e⟩ := State.writeCpl_changes s mb c; rw [e]
@[simp] theorem State.writeCpl_lcs (mb : Nat) (c : Cpl) : (s.writeCpl mb c).lcs = s.lcs := by
  obtain ⟨_, _, _, e⟩ := State.writeCpl_changes s mb c; rw [e]
@[simp] theorem State.writeCpl_boot (mb : Nat) (c : Cpl) : (s.writeCpl mb c).boot = s.boot := by
  obtain ⟨_, _, _, e⟩ := State.writeCpl_changes s mb c; rw [e]
@[simp] theorem State.writeCpl_fuses (mb : Nat) (c : Cpl) : (s.writeCpl mb c).fuses = s.fuses := by
  obtain ⟨_, _, _, e⟩ := State.writeCpl_changes s mb c; rw [e]
@[simp] theorem State.writeCpl_advance (mb : Nat) (c : Cpl) : (s.writeCpl mb c).advance = s.advance := by
  obtain ⟨_, _, _, e⟩ := State.writeCpl_changes s mb c; rw [e]
@[simp] theorem State.writeCpl_pwr (mb : Nat) (c : Cpl) : (s.writeCpl mb c).pwr = s.pwr := by
  obtain ⟨_, _, _, e⟩ := State.writeCpl_changes s mb c; rw [e]
@[simp] theorem State.writeCpl_sleep (mb : Nat) (c : Cpl) : (s.writeCpl mb c).sleep = s.sleep := by
  obtain ⟨_, _, _, e⟩ := State.writeCpl_changes s mb c; rw [e]
@[simp] theorem State.writeCpl_sb (mb : Nat) (c : Cpl) : (s.writeCpl mb c).sb = s.sb := by
  obtain ⟨_, _, _, e⟩ := State.writeCpl_changes s mb c; rw [e]
@[simp] theorem State.writeCpl_tap (mb : Nat) (c : Cpl) : (s.writeCpl mb c).tap = s.tap := by
  obtain ⟨_, _, _, e⟩ := State.writeCpl_changes s mb c; rw [e]
@[simp] theorem State.writeCpl_sched (mb : Nat) (c : Cpl) : (s.writeCpl mb c).sched = s.sched := by
  obtain ⟨_, _, _, e⟩ := State.writeCpl_changes s mb c; rw [e]
@[simp] theorem State.writeCpl_terr (mb : Nat) (c : Cpl) : (s.writeCpl mb c).terr = s.terr := by
  obtain ⟨_, _, _, e⟩ := State.writeCpl_changes s mb c; rw [e]
@[simp] theorem State.writeCpl_gens (mb : Nat) (c : Cpl) : (s.writeCpl mb c).gens = s.gens := by
  obtain ⟨_, _, _, e⟩ := State.writeCpl_changes s mb c; rw [e]
@[simp] theorem State.writeCpl_genBase (mb : Nat) (c : Cpl) : (s.writeCpl mb c).genBase = s.genBase := by
  obtain ⟨_, _, _, e⟩ := State.writeCpl_changes s mb c; rw [e]
@[simp] theorem State.writeCpl_instCount (mb : Nat) (c : Cpl) : (s.writeCpl mb c).instCount = s.instCount := by
  obtain ⟨_, _, _, e⟩ := State.writeCpl_changes s mb c; rw [e]
@[simp] theorem State.writeCpl_tasks (mb : Nat) (c : Cpl) : (s.writeCpl mb c).tasks = s.tasks := by
  obtain ⟨_, _, _, e⟩ := State.writeCpl_changes s mb c; rw [e]
@[simp] theorem State.writeCpl_cores (mb : Nat) (c : Cpl) : (s.writeCpl mb c).cores = s.cores := by
  obtain ⟨_, _, _, e⟩ := State.writeCpl_changes s mb c; rw [e]
@[simp] theorem State.writeCpl_programs (mb : Nat) (c : Cpl) : (s.writeCpl mb c).programs = s.programs := by
  obtain ⟨_, _, _, e⟩ := State.writeCpl_changes s mb c; rw [e]
@[simp] theorem State.writeCpl_rrBay (mb : Nat) (c : Cpl) : (s.writeCpl mb c).rrBay = s.rrBay := by
  obtain ⟨_, _, _, e⟩ := State.writeCpl_changes s mb c; rw [e]
@[simp] theorem State.writeCpl_mp (mb : Nat) (c : Cpl) : (s.writeCpl mb c).mp = s.mp := by
  obtain ⟨_, _, _, e⟩ := State.writeCpl_changes s mb c; rw [e]
@[simp] theorem State.writeCpl_mpReady (mb : Nat) (c : Cpl) : (s.writeCpl mb c).mpReady = s.mpReady := by
  obtain ⟨_, _, _, e⟩ := State.writeCpl_changes s mb c; rw [e]
@[simp] theorem State.writeCpl_egress (mb : Nat) (c : Cpl) : (s.writeCpl mb c).egress = s.egress := by
  obtain ⟨_, _, _, e⟩ := State.writeCpl_changes s mb c; rw [e]
@[simp] theorem State.writeCpl_spring (mb : Nat) (c : Cpl) : (s.writeCpl mb c).spring = s.spring := by
  obtain ⟨_, _, _, e⟩ := State.writeCpl_changes s mb c; rw [e]
@[simp] theorem State.writeCpl_faults (mb : Nat) (c : Cpl) : (s.writeCpl mb c).faults = s.faults := by
  obtain ⟨_, _, _, e⟩ := State.writeCpl_changes s mb c; rw [e]
@[simp] theorem State.writeCpl_cnt (mb : Nat) (c : Cpl) : (s.writeCpl mb c).cnt = s.cnt := by
  obtain ⟨_, _, _, e⟩ := State.writeCpl_changes s mb c; rw [e]
@[simp] theorem State.writeCpl_cntWin (mb : Nat) (c : Cpl) : (s.writeCpl mb c).cntWin = s.cntWin := by
  obtain ⟨_, _, _, e⟩ := State.writeCpl_changes s mb c; rw [e]
@[simp] theorem State.writeCpl_tbLatch (mb : Nat) (c : Cpl) : (s.writeCpl mb c).tbLatch = s.tbLatch := by
  obtain ⟨_, _, _, e⟩ := State.writeCpl_changes s mb c; rw [e]
@[simp] theorem State.writeCpl_clearing (mb : Nat) (c : Cpl) : (s.writeCpl mb c).clearing = s.clearing := by
  obtain ⟨_, _, _, e⟩ := State.writeCpl_changes s mb c; rw [e]
@[simp] theorem State.writeCpl_signals (mb : Nat) (c : Cpl) : (s.writeCpl mb c).signals = s.signals := by
  obtain ⟨_, _, _, e⟩ := State.writeCpl_changes s mb c; rw [e]
@[simp] theorem State.writeCpl_syncEnds (mb : Nat) (c : Cpl) : (s.writeCpl mb c).syncEnds = s.syncEnds := by
  obtain ⟨_, _, _, e⟩ := State.writeCpl_changes s mb c; rw [e]
@[simp] theorem State.writeCpl_flash (mb : Nat) (c : Cpl) : (s.writeCpl mb c).flash = s.flash := by
  obtain ⟨_, _, _, e⟩ := State.writeCpl_changes s mb c; rw [e]
@[simp] theorem State.writeCpl_medium (mb : Nat) (c : Cpl) : (s.writeCpl mb c).medium = s.medium := by
  obtain ⟨_, _, _, e⟩ := State.writeCpl_changes s mb c; rw [e]
@[simp] theorem State.writeCpl_intakeClosed (mb : Nat) (c : Cpl) : (s.writeCpl mb c).intakeClosed = s.intakeClosed := by
  obtain ⟨_, _, _, e⟩ := State.writeCpl_changes s mb c; rw [e]
@[simp] theorem State.writeCpl_erasedMode (mb : Nat) (c : Cpl) : (s.writeCpl mb c).erasedMode = s.erasedMode := by
  obtain ⟨_, _, _, e⟩ := State.writeCpl_changes s mb c; rw [e]
@[simp] theorem State.writeCpl_rsp (mb : Nat) (c : Cpl) : (s.writeCpl mb c).rsp = s.rsp := by
  obtain ⟨_, _, _, e⟩ := State.writeCpl_changes s mb c; rw [e]
@[simp] theorem State.writeCpl_spAttn (mb : Nat) (c : Cpl) : (s.writeCpl mb c).spAttn = s.spAttn := by
  obtain ⟨_, _, _, e⟩ := State.writeCpl_changes s mb c; rw [e]
@[simp] theorem State.writeCpl_pending (mb : Nat) (c : Cpl) : (s.writeCpl mb c).pending = s.pending := by
  obtain ⟨_, _, _, e⟩ := State.writeCpl_changes s mb c; rw [e]

/-! ### emitCpl -/

/-- It writes or holds a completion: no other field changes. -/
theorem State.emitCpl_changes (mb : Nat) (c : Cpl) : ∃ (n0 : List Mailbox) (n1 : List HfpOp) (n2 : Nat), s.emitCpl mb c = { s with mbs := n0, hfp := n1, nextId := n2 } :=
  by
  unfold State.emitCpl; dsimp only; split <;> exact ⟨_, _, _, rfl⟩

@[simp] theorem State.emitCpl_cfg (mb : Nat) (c : Cpl) : (s.emitCpl mb c).cfg = s.cfg := by
  obtain ⟨_, _, _, e⟩ := State.emitCpl_changes s mb c; rw [e]
@[simp] theorem State.emitCpl_tick (mb : Nat) (c : Cpl) : (s.emitCpl mb c).tick = s.tick := by
  obtain ⟨_, _, _, e⟩ := State.emitCpl_changes s mb c; rw [e]
@[simp] theorem State.emitCpl_fresh (mb : Nat) (c : Cpl) : (s.emitCpl mb c).fresh = s.fresh := by
  obtain ⟨_, _, _, e⟩ := State.emitCpl_changes s mb c; rw [e]
@[simp] theorem State.emitCpl_irq (mb : Nat) (c : Cpl) : (s.emitCpl mb c).irq = s.irq := by
  obtain ⟨_, _, _, e⟩ := State.emitCpl_changes s mb c; rw [e]
@[simp] theorem State.emitCpl_lcs (mb : Nat) (c : Cpl) : (s.emitCpl mb c).lcs = s.lcs := by
  obtain ⟨_, _, _, e⟩ := State.emitCpl_changes s mb c; rw [e]
@[simp] theorem State.emitCpl_boot (mb : Nat) (c : Cpl) : (s.emitCpl mb c).boot = s.boot := by
  obtain ⟨_, _, _, e⟩ := State.emitCpl_changes s mb c; rw [e]
@[simp] theorem State.emitCpl_fuses (mb : Nat) (c : Cpl) : (s.emitCpl mb c).fuses = s.fuses := by
  obtain ⟨_, _, _, e⟩ := State.emitCpl_changes s mb c; rw [e]
@[simp] theorem State.emitCpl_advance (mb : Nat) (c : Cpl) : (s.emitCpl mb c).advance = s.advance := by
  obtain ⟨_, _, _, e⟩ := State.emitCpl_changes s mb c; rw [e]
@[simp] theorem State.emitCpl_pwr (mb : Nat) (c : Cpl) : (s.emitCpl mb c).pwr = s.pwr := by
  obtain ⟨_, _, _, e⟩ := State.emitCpl_changes s mb c; rw [e]
@[simp] theorem State.emitCpl_sleep (mb : Nat) (c : Cpl) : (s.emitCpl mb c).sleep = s.sleep := by
  obtain ⟨_, _, _, e⟩ := State.emitCpl_changes s mb c; rw [e]
@[simp] theorem State.emitCpl_sb (mb : Nat) (c : Cpl) : (s.emitCpl mb c).sb = s.sb := by
  obtain ⟨_, _, _, e⟩ := State.emitCpl_changes s mb c; rw [e]
@[simp] theorem State.emitCpl_tap (mb : Nat) (c : Cpl) : (s.emitCpl mb c).tap = s.tap := by
  obtain ⟨_, _, _, e⟩ := State.emitCpl_changes s mb c; rw [e]
@[simp] theorem State.emitCpl_sched (mb : Nat) (c : Cpl) : (s.emitCpl mb c).sched = s.sched := by
  obtain ⟨_, _, _, e⟩ := State.emitCpl_changes s mb c; rw [e]
@[simp] theorem State.emitCpl_terr (mb : Nat) (c : Cpl) : (s.emitCpl mb c).terr = s.terr := by
  obtain ⟨_, _, _, e⟩ := State.emitCpl_changes s mb c; rw [e]
@[simp] theorem State.emitCpl_gens (mb : Nat) (c : Cpl) : (s.emitCpl mb c).gens = s.gens := by
  obtain ⟨_, _, _, e⟩ := State.emitCpl_changes s mb c; rw [e]
@[simp] theorem State.emitCpl_genBase (mb : Nat) (c : Cpl) : (s.emitCpl mb c).genBase = s.genBase := by
  obtain ⟨_, _, _, e⟩ := State.emitCpl_changes s mb c; rw [e]
@[simp] theorem State.emitCpl_instCount (mb : Nat) (c : Cpl) : (s.emitCpl mb c).instCount = s.instCount := by
  obtain ⟨_, _, _, e⟩ := State.emitCpl_changes s mb c; rw [e]
@[simp] theorem State.emitCpl_tasks (mb : Nat) (c : Cpl) : (s.emitCpl mb c).tasks = s.tasks := by
  obtain ⟨_, _, _, e⟩ := State.emitCpl_changes s mb c; rw [e]
@[simp] theorem State.emitCpl_cores (mb : Nat) (c : Cpl) : (s.emitCpl mb c).cores = s.cores := by
  obtain ⟨_, _, _, e⟩ := State.emitCpl_changes s mb c; rw [e]
@[simp] theorem State.emitCpl_programs (mb : Nat) (c : Cpl) : (s.emitCpl mb c).programs = s.programs := by
  obtain ⟨_, _, _, e⟩ := State.emitCpl_changes s mb c; rw [e]
@[simp] theorem State.emitCpl_rrBay (mb : Nat) (c : Cpl) : (s.emitCpl mb c).rrBay = s.rrBay := by
  obtain ⟨_, _, _, e⟩ := State.emitCpl_changes s mb c; rw [e]
@[simp] theorem State.emitCpl_mp (mb : Nat) (c : Cpl) : (s.emitCpl mb c).mp = s.mp := by
  obtain ⟨_, _, _, e⟩ := State.emitCpl_changes s mb c; rw [e]
@[simp] theorem State.emitCpl_mpReady (mb : Nat) (c : Cpl) : (s.emitCpl mb c).mpReady = s.mpReady := by
  obtain ⟨_, _, _, e⟩ := State.emitCpl_changes s mb c; rw [e]
@[simp] theorem State.emitCpl_egress (mb : Nat) (c : Cpl) : (s.emitCpl mb c).egress = s.egress := by
  obtain ⟨_, _, _, e⟩ := State.emitCpl_changes s mb c; rw [e]
@[simp] theorem State.emitCpl_spring (mb : Nat) (c : Cpl) : (s.emitCpl mb c).spring = s.spring := by
  obtain ⟨_, _, _, e⟩ := State.emitCpl_changes s mb c; rw [e]
@[simp] theorem State.emitCpl_faults (mb : Nat) (c : Cpl) : (s.emitCpl mb c).faults = s.faults := by
  obtain ⟨_, _, _, e⟩ := State.emitCpl_changes s mb c; rw [e]
@[simp] theorem State.emitCpl_cnt (mb : Nat) (c : Cpl) : (s.emitCpl mb c).cnt = s.cnt := by
  obtain ⟨_, _, _, e⟩ := State.emitCpl_changes s mb c; rw [e]
@[simp] theorem State.emitCpl_cntWin (mb : Nat) (c : Cpl) : (s.emitCpl mb c).cntWin = s.cntWin := by
  obtain ⟨_, _, _, e⟩ := State.emitCpl_changes s mb c; rw [e]
@[simp] theorem State.emitCpl_tbLatch (mb : Nat) (c : Cpl) : (s.emitCpl mb c).tbLatch = s.tbLatch := by
  obtain ⟨_, _, _, e⟩ := State.emitCpl_changes s mb c; rw [e]
@[simp] theorem State.emitCpl_clearing (mb : Nat) (c : Cpl) : (s.emitCpl mb c).clearing = s.clearing := by
  obtain ⟨_, _, _, e⟩ := State.emitCpl_changes s mb c; rw [e]
@[simp] theorem State.emitCpl_signals (mb : Nat) (c : Cpl) : (s.emitCpl mb c).signals = s.signals := by
  obtain ⟨_, _, _, e⟩ := State.emitCpl_changes s mb c; rw [e]
@[simp] theorem State.emitCpl_syncEnds (mb : Nat) (c : Cpl) : (s.emitCpl mb c).syncEnds = s.syncEnds := by
  obtain ⟨_, _, _, e⟩ := State.emitCpl_changes s mb c; rw [e]
@[simp] theorem State.emitCpl_flash (mb : Nat) (c : Cpl) : (s.emitCpl mb c).flash = s.flash := by
  obtain ⟨_, _, _, e⟩ := State.emitCpl_changes s mb c; rw [e]
@[simp] theorem State.emitCpl_medium (mb : Nat) (c : Cpl) : (s.emitCpl mb c).medium = s.medium := by
  obtain ⟨_, _, _, e⟩ := State.emitCpl_changes s mb c; rw [e]
@[simp] theorem State.emitCpl_intakeClosed (mb : Nat) (c : Cpl) : (s.emitCpl mb c).intakeClosed = s.intakeClosed := by
  obtain ⟨_, _, _, e⟩ := State.emitCpl_changes s mb c; rw [e]
@[simp] theorem State.emitCpl_erasedMode (mb : Nat) (c : Cpl) : (s.emitCpl mb c).erasedMode = s.erasedMode := by
  obtain ⟨_, _, _, e⟩ := State.emitCpl_changes s mb c; rw [e]
@[simp] theorem State.emitCpl_rsp (mb : Nat) (c : Cpl) : (s.emitCpl mb c).rsp = s.rsp := by
  obtain ⟨_, _, _, e⟩ := State.emitCpl_changes s mb c; rw [e]
@[simp] theorem State.emitCpl_spAttn (mb : Nat) (c : Cpl) : (s.emitCpl mb c).spAttn = s.spAttn := by
  obtain ⟨_, _, _, e⟩ := State.emitCpl_changes s mb c; rw [e]
@[simp] theorem State.emitCpl_pending (mb : Nat) (c : Cpl) : (s.emitCpl mb c).pending = s.pending := by
  obtain ⟨_, _, _, e⟩ := State.emitCpl_changes s mb c; rw [e]

/-! ### flushHeld -/

/-- It writes held completions: no other field changes. -/
theorem State.flushHeld_changes (mb n : Nat) : ∃ (n0 : List Mailbox) (n1 : List HfpOp) (n2 : Nat), s.flushHeld mb n = { s with mbs := n0, hfp := n1, nextId := n2 } :=
  by
  induction n generalizing s with
  | zero => exact ⟨_, _, _, rfl⟩
  | succ n ih =>
    unfold State.flushHeld; split
    · exact ⟨_, _, _, rfl⟩
    · dsimp only; split
      · obtain ⟨x, y, z, h⟩ := ih ((s.modMb mb _).writeCpl mb _)
        exact ⟨x, y, z, h⟩
      · exact ⟨_, _, _, rfl⟩

@[simp] theorem State.flushHeld_cfg (mb n : Nat) : (s.flushHeld mb n).cfg = s.cfg := by
  obtain ⟨_, _, _, e⟩ := State.flushHeld_changes s mb n; rw [e]
@[simp] theorem State.flushHeld_tick (mb n : Nat) : (s.flushHeld mb n).tick = s.tick := by
  obtain ⟨_, _, _, e⟩ := State.flushHeld_changes s mb n; rw [e]
@[simp] theorem State.flushHeld_fresh (mb n : Nat) : (s.flushHeld mb n).fresh = s.fresh := by
  obtain ⟨_, _, _, e⟩ := State.flushHeld_changes s mb n; rw [e]
@[simp] theorem State.flushHeld_irq (mb n : Nat) : (s.flushHeld mb n).irq = s.irq := by
  obtain ⟨_, _, _, e⟩ := State.flushHeld_changes s mb n; rw [e]
@[simp] theorem State.flushHeld_lcs (mb n : Nat) : (s.flushHeld mb n).lcs = s.lcs := by
  obtain ⟨_, _, _, e⟩ := State.flushHeld_changes s mb n; rw [e]
@[simp] theorem State.flushHeld_boot (mb n : Nat) : (s.flushHeld mb n).boot = s.boot := by
  obtain ⟨_, _, _, e⟩ := State.flushHeld_changes s mb n; rw [e]
@[simp] theorem State.flushHeld_fuses (mb n : Nat) : (s.flushHeld mb n).fuses = s.fuses := by
  obtain ⟨_, _, _, e⟩ := State.flushHeld_changes s mb n; rw [e]
@[simp] theorem State.flushHeld_advance (mb n : Nat) : (s.flushHeld mb n).advance = s.advance := by
  obtain ⟨_, _, _, e⟩ := State.flushHeld_changes s mb n; rw [e]
@[simp] theorem State.flushHeld_pwr (mb n : Nat) : (s.flushHeld mb n).pwr = s.pwr := by
  obtain ⟨_, _, _, e⟩ := State.flushHeld_changes s mb n; rw [e]
@[simp] theorem State.flushHeld_sleep (mb n : Nat) : (s.flushHeld mb n).sleep = s.sleep := by
  obtain ⟨_, _, _, e⟩ := State.flushHeld_changes s mb n; rw [e]
@[simp] theorem State.flushHeld_sb (mb n : Nat) : (s.flushHeld mb n).sb = s.sb := by
  obtain ⟨_, _, _, e⟩ := State.flushHeld_changes s mb n; rw [e]
@[simp] theorem State.flushHeld_tap (mb n : Nat) : (s.flushHeld mb n).tap = s.tap := by
  obtain ⟨_, _, _, e⟩ := State.flushHeld_changes s mb n; rw [e]
@[simp] theorem State.flushHeld_sched (mb n : Nat) : (s.flushHeld mb n).sched = s.sched := by
  obtain ⟨_, _, _, e⟩ := State.flushHeld_changes s mb n; rw [e]
@[simp] theorem State.flushHeld_terr (mb n : Nat) : (s.flushHeld mb n).terr = s.terr := by
  obtain ⟨_, _, _, e⟩ := State.flushHeld_changes s mb n; rw [e]
@[simp] theorem State.flushHeld_gens (mb n : Nat) : (s.flushHeld mb n).gens = s.gens := by
  obtain ⟨_, _, _, e⟩ := State.flushHeld_changes s mb n; rw [e]
@[simp] theorem State.flushHeld_genBase (mb n : Nat) : (s.flushHeld mb n).genBase = s.genBase := by
  obtain ⟨_, _, _, e⟩ := State.flushHeld_changes s mb n; rw [e]
@[simp] theorem State.flushHeld_instCount (mb n : Nat) : (s.flushHeld mb n).instCount = s.instCount := by
  obtain ⟨_, _, _, e⟩ := State.flushHeld_changes s mb n; rw [e]
@[simp] theorem State.flushHeld_tasks (mb n : Nat) : (s.flushHeld mb n).tasks = s.tasks := by
  obtain ⟨_, _, _, e⟩ := State.flushHeld_changes s mb n; rw [e]
@[simp] theorem State.flushHeld_cores (mb n : Nat) : (s.flushHeld mb n).cores = s.cores := by
  obtain ⟨_, _, _, e⟩ := State.flushHeld_changes s mb n; rw [e]
@[simp] theorem State.flushHeld_programs (mb n : Nat) : (s.flushHeld mb n).programs = s.programs := by
  obtain ⟨_, _, _, e⟩ := State.flushHeld_changes s mb n; rw [e]
@[simp] theorem State.flushHeld_rrBay (mb n : Nat) : (s.flushHeld mb n).rrBay = s.rrBay := by
  obtain ⟨_, _, _, e⟩ := State.flushHeld_changes s mb n; rw [e]
@[simp] theorem State.flushHeld_mp (mb n : Nat) : (s.flushHeld mb n).mp = s.mp := by
  obtain ⟨_, _, _, e⟩ := State.flushHeld_changes s mb n; rw [e]
@[simp] theorem State.flushHeld_mpReady (mb n : Nat) : (s.flushHeld mb n).mpReady = s.mpReady := by
  obtain ⟨_, _, _, e⟩ := State.flushHeld_changes s mb n; rw [e]
@[simp] theorem State.flushHeld_egress (mb n : Nat) : (s.flushHeld mb n).egress = s.egress := by
  obtain ⟨_, _, _, e⟩ := State.flushHeld_changes s mb n; rw [e]
@[simp] theorem State.flushHeld_spring (mb n : Nat) : (s.flushHeld mb n).spring = s.spring := by
  obtain ⟨_, _, _, e⟩ := State.flushHeld_changes s mb n; rw [e]
@[simp] theorem State.flushHeld_faults (mb n : Nat) : (s.flushHeld mb n).faults = s.faults := by
  obtain ⟨_, _, _, e⟩ := State.flushHeld_changes s mb n; rw [e]
@[simp] theorem State.flushHeld_cnt (mb n : Nat) : (s.flushHeld mb n).cnt = s.cnt := by
  obtain ⟨_, _, _, e⟩ := State.flushHeld_changes s mb n; rw [e]
@[simp] theorem State.flushHeld_cntWin (mb n : Nat) : (s.flushHeld mb n).cntWin = s.cntWin := by
  obtain ⟨_, _, _, e⟩ := State.flushHeld_changes s mb n; rw [e]
@[simp] theorem State.flushHeld_tbLatch (mb n : Nat) : (s.flushHeld mb n).tbLatch = s.tbLatch := by
  obtain ⟨_, _, _, e⟩ := State.flushHeld_changes s mb n; rw [e]
@[simp] theorem State.flushHeld_clearing (mb n : Nat) : (s.flushHeld mb n).clearing = s.clearing := by
  obtain ⟨_, _, _, e⟩ := State.flushHeld_changes s mb n; rw [e]
@[simp] theorem State.flushHeld_signals (mb n : Nat) : (s.flushHeld mb n).signals = s.signals := by
  obtain ⟨_, _, _, e⟩ := State.flushHeld_changes s mb n; rw [e]
@[simp] theorem State.flushHeld_syncEnds (mb n : Nat) : (s.flushHeld mb n).syncEnds = s.syncEnds := by
  obtain ⟨_, _, _, e⟩ := State.flushHeld_changes s mb n; rw [e]
@[simp] theorem State.flushHeld_flash (mb n : Nat) : (s.flushHeld mb n).flash = s.flash := by
  obtain ⟨_, _, _, e⟩ := State.flushHeld_changes s mb n; rw [e]
@[simp] theorem State.flushHeld_medium (mb n : Nat) : (s.flushHeld mb n).medium = s.medium := by
  obtain ⟨_, _, _, e⟩ := State.flushHeld_changes s mb n; rw [e]
@[simp] theorem State.flushHeld_intakeClosed (mb n : Nat) : (s.flushHeld mb n).intakeClosed = s.intakeClosed := by
  obtain ⟨_, _, _, e⟩ := State.flushHeld_changes s mb n; rw [e]
@[simp] theorem State.flushHeld_erasedMode (mb n : Nat) : (s.flushHeld mb n).erasedMode = s.erasedMode := by
  obtain ⟨_, _, _, e⟩ := State.flushHeld_changes s mb n; rw [e]
@[simp] theorem State.flushHeld_rsp (mb n : Nat) : (s.flushHeld mb n).rsp = s.rsp := by
  obtain ⟨_, _, _, e⟩ := State.flushHeld_changes s mb n; rw [e]
@[simp] theorem State.flushHeld_spAttn (mb n : Nat) : (s.flushHeld mb n).spAttn = s.spAttn := by
  obtain ⟨_, _, _, e⟩ := State.flushHeld_changes s mb n; rw [e]
@[simp] theorem State.flushHeld_pending (mb n : Nat) : (s.flushHeld mb n).pending = s.pending := by
  obtain ⟨_, _, _, e⟩ := State.flushHeld_changes s mb n; rw [e]

/-! ### testMbIrq -/

/-- It raises the mailbox's source: no other field changes. -/
theorem State.testMbIrq_changes (mb : Nat) : ∃ (n0 : Irq) (n1 : List Mailbox) (n2 : List HfpOp) (n3 : Nat), s.testMbIrq mb = { s with irq := n0, mbs := n1, hfp := n2, nextId := n3 } :=
  by
  unfold State.testMbIrq; dsimp only; split
  · obtain ⟨x, y, z, h⟩ := State.raise_changes (s.modMb mb _) mb
    exact ⟨x, _, y, z, h⟩
  · exact ⟨_, _, _, _, rfl⟩

@[simp] theorem State.testMbIrq_cfg (mb : Nat) : (s.testMbIrq mb).cfg = s.cfg := by
  obtain ⟨_, _, _, _, e⟩ := State.testMbIrq_changes s mb; rw [e]
@[simp] theorem State.testMbIrq_tick (mb : Nat) : (s.testMbIrq mb).tick = s.tick := by
  obtain ⟨_, _, _, _, e⟩ := State.testMbIrq_changes s mb; rw [e]
@[simp] theorem State.testMbIrq_fresh (mb : Nat) : (s.testMbIrq mb).fresh = s.fresh := by
  obtain ⟨_, _, _, _, e⟩ := State.testMbIrq_changes s mb; rw [e]
@[simp] theorem State.testMbIrq_lcs (mb : Nat) : (s.testMbIrq mb).lcs = s.lcs := by
  obtain ⟨_, _, _, _, e⟩ := State.testMbIrq_changes s mb; rw [e]
@[simp] theorem State.testMbIrq_boot (mb : Nat) : (s.testMbIrq mb).boot = s.boot := by
  obtain ⟨_, _, _, _, e⟩ := State.testMbIrq_changes s mb; rw [e]
@[simp] theorem State.testMbIrq_fuses (mb : Nat) : (s.testMbIrq mb).fuses = s.fuses := by
  obtain ⟨_, _, _, _, e⟩ := State.testMbIrq_changes s mb; rw [e]
@[simp] theorem State.testMbIrq_advance (mb : Nat) : (s.testMbIrq mb).advance = s.advance := by
  obtain ⟨_, _, _, _, e⟩ := State.testMbIrq_changes s mb; rw [e]
@[simp] theorem State.testMbIrq_pwr (mb : Nat) : (s.testMbIrq mb).pwr = s.pwr := by
  obtain ⟨_, _, _, _, e⟩ := State.testMbIrq_changes s mb; rw [e]
@[simp] theorem State.testMbIrq_sleep (mb : Nat) : (s.testMbIrq mb).sleep = s.sleep := by
  obtain ⟨_, _, _, _, e⟩ := State.testMbIrq_changes s mb; rw [e]
@[simp] theorem State.testMbIrq_sb (mb : Nat) : (s.testMbIrq mb).sb = s.sb := by
  obtain ⟨_, _, _, _, e⟩ := State.testMbIrq_changes s mb; rw [e]
@[simp] theorem State.testMbIrq_tap (mb : Nat) : (s.testMbIrq mb).tap = s.tap := by
  obtain ⟨_, _, _, _, e⟩ := State.testMbIrq_changes s mb; rw [e]
@[simp] theorem State.testMbIrq_sched (mb : Nat) : (s.testMbIrq mb).sched = s.sched := by
  obtain ⟨_, _, _, _, e⟩ := State.testMbIrq_changes s mb; rw [e]
@[simp] theorem State.testMbIrq_terr (mb : Nat) : (s.testMbIrq mb).terr = s.terr := by
  obtain ⟨_, _, _, _, e⟩ := State.testMbIrq_changes s mb; rw [e]
@[simp] theorem State.testMbIrq_gens (mb : Nat) : (s.testMbIrq mb).gens = s.gens := by
  obtain ⟨_, _, _, _, e⟩ := State.testMbIrq_changes s mb; rw [e]
@[simp] theorem State.testMbIrq_genBase (mb : Nat) : (s.testMbIrq mb).genBase = s.genBase := by
  obtain ⟨_, _, _, _, e⟩ := State.testMbIrq_changes s mb; rw [e]
@[simp] theorem State.testMbIrq_instCount (mb : Nat) : (s.testMbIrq mb).instCount = s.instCount := by
  obtain ⟨_, _, _, _, e⟩ := State.testMbIrq_changes s mb; rw [e]
@[simp] theorem State.testMbIrq_tasks (mb : Nat) : (s.testMbIrq mb).tasks = s.tasks := by
  obtain ⟨_, _, _, _, e⟩ := State.testMbIrq_changes s mb; rw [e]
@[simp] theorem State.testMbIrq_cores (mb : Nat) : (s.testMbIrq mb).cores = s.cores := by
  obtain ⟨_, _, _, _, e⟩ := State.testMbIrq_changes s mb; rw [e]
@[simp] theorem State.testMbIrq_programs (mb : Nat) : (s.testMbIrq mb).programs = s.programs := by
  obtain ⟨_, _, _, _, e⟩ := State.testMbIrq_changes s mb; rw [e]
@[simp] theorem State.testMbIrq_rrBay (mb : Nat) : (s.testMbIrq mb).rrBay = s.rrBay := by
  obtain ⟨_, _, _, _, e⟩ := State.testMbIrq_changes s mb; rw [e]
@[simp] theorem State.testMbIrq_mp (mb : Nat) : (s.testMbIrq mb).mp = s.mp := by
  obtain ⟨_, _, _, _, e⟩ := State.testMbIrq_changes s mb; rw [e]
@[simp] theorem State.testMbIrq_mpReady (mb : Nat) : (s.testMbIrq mb).mpReady = s.mpReady := by
  obtain ⟨_, _, _, _, e⟩ := State.testMbIrq_changes s mb; rw [e]
@[simp] theorem State.testMbIrq_egress (mb : Nat) : (s.testMbIrq mb).egress = s.egress := by
  obtain ⟨_, _, _, _, e⟩ := State.testMbIrq_changes s mb; rw [e]
@[simp] theorem State.testMbIrq_spring (mb : Nat) : (s.testMbIrq mb).spring = s.spring := by
  obtain ⟨_, _, _, _, e⟩ := State.testMbIrq_changes s mb; rw [e]
@[simp] theorem State.testMbIrq_faults (mb : Nat) : (s.testMbIrq mb).faults = s.faults := by
  obtain ⟨_, _, _, _, e⟩ := State.testMbIrq_changes s mb; rw [e]
@[simp] theorem State.testMbIrq_cnt (mb : Nat) : (s.testMbIrq mb).cnt = s.cnt := by
  obtain ⟨_, _, _, _, e⟩ := State.testMbIrq_changes s mb; rw [e]
@[simp] theorem State.testMbIrq_cntWin (mb : Nat) : (s.testMbIrq mb).cntWin = s.cntWin := by
  obtain ⟨_, _, _, _, e⟩ := State.testMbIrq_changes s mb; rw [e]
@[simp] theorem State.testMbIrq_tbLatch (mb : Nat) : (s.testMbIrq mb).tbLatch = s.tbLatch := by
  obtain ⟨_, _, _, _, e⟩ := State.testMbIrq_changes s mb; rw [e]
@[simp] theorem State.testMbIrq_clearing (mb : Nat) : (s.testMbIrq mb).clearing = s.clearing := by
  obtain ⟨_, _, _, _, e⟩ := State.testMbIrq_changes s mb; rw [e]
@[simp] theorem State.testMbIrq_signals (mb : Nat) : (s.testMbIrq mb).signals = s.signals := by
  obtain ⟨_, _, _, _, e⟩ := State.testMbIrq_changes s mb; rw [e]
@[simp] theorem State.testMbIrq_syncEnds (mb : Nat) : (s.testMbIrq mb).syncEnds = s.syncEnds := by
  obtain ⟨_, _, _, _, e⟩ := State.testMbIrq_changes s mb; rw [e]
@[simp] theorem State.testMbIrq_flash (mb : Nat) : (s.testMbIrq mb).flash = s.flash := by
  obtain ⟨_, _, _, _, e⟩ := State.testMbIrq_changes s mb; rw [e]
@[simp] theorem State.testMbIrq_medium (mb : Nat) : (s.testMbIrq mb).medium = s.medium := by
  obtain ⟨_, _, _, _, e⟩ := State.testMbIrq_changes s mb; rw [e]
@[simp] theorem State.testMbIrq_intakeClosed (mb : Nat) : (s.testMbIrq mb).intakeClosed = s.intakeClosed := by
  obtain ⟨_, _, _, _, e⟩ := State.testMbIrq_changes s mb; rw [e]
@[simp] theorem State.testMbIrq_erasedMode (mb : Nat) : (s.testMbIrq mb).erasedMode = s.erasedMode := by
  obtain ⟨_, _, _, _, e⟩ := State.testMbIrq_changes s mb; rw [e]
@[simp] theorem State.testMbIrq_rsp (mb : Nat) : (s.testMbIrq mb).rsp = s.rsp := by
  obtain ⟨_, _, _, _, e⟩ := State.testMbIrq_changes s mb; rw [e]
@[simp] theorem State.testMbIrq_spAttn (mb : Nat) : (s.testMbIrq mb).spAttn = s.spAttn := by
  obtain ⟨_, _, _, _, e⟩ := State.testMbIrq_changes s mb; rw [e]
@[simp] theorem State.testMbIrq_pending (mb : Nat) : (s.testMbIrq mb).pending = s.pending := by
  obtain ⟨_, _, _, _, e⟩ := State.testMbIrq_changes s mb; rw [e]

/-! ### announceCpl -/

/-- It counts a visible completion: no other field changes. -/
theorem State.announceCpl_changes (mb : Nat) (b : Bool) : ∃ (n0 : Irq) (n1 : List Mailbox) (n2 : List HfpOp) (n3 : Nat), s.announceCpl mb b = { s with irq := n0, mbs := n1, hfp := n2, nextId := n3 } :=
  by
  unfold State.announceCpl; split
  · exact ⟨_, _, _, _, rfl⟩
  · obtain ⟨x, y, z, w, h⟩ := State.testMbIrq_changes (s.modMb mb _) mb
    exact ⟨x, y, z, w, h⟩

@[simp] theorem State.announceCpl_cfg (mb : Nat) (b : Bool) : (s.announceCpl mb b).cfg = s.cfg := by
  obtain ⟨_, _, _, _, e⟩ := State.announceCpl_changes s mb b; rw [e]
@[simp] theorem State.announceCpl_tick (mb : Nat) (b : Bool) : (s.announceCpl mb b).tick = s.tick := by
  obtain ⟨_, _, _, _, e⟩ := State.announceCpl_changes s mb b; rw [e]
@[simp] theorem State.announceCpl_fresh (mb : Nat) (b : Bool) : (s.announceCpl mb b).fresh = s.fresh := by
  obtain ⟨_, _, _, _, e⟩ := State.announceCpl_changes s mb b; rw [e]
@[simp] theorem State.announceCpl_lcs (mb : Nat) (b : Bool) : (s.announceCpl mb b).lcs = s.lcs := by
  obtain ⟨_, _, _, _, e⟩ := State.announceCpl_changes s mb b; rw [e]
@[simp] theorem State.announceCpl_boot (mb : Nat) (b : Bool) : (s.announceCpl mb b).boot = s.boot := by
  obtain ⟨_, _, _, _, e⟩ := State.announceCpl_changes s mb b; rw [e]
@[simp] theorem State.announceCpl_fuses (mb : Nat) (b : Bool) : (s.announceCpl mb b).fuses = s.fuses := by
  obtain ⟨_, _, _, _, e⟩ := State.announceCpl_changes s mb b; rw [e]
@[simp] theorem State.announceCpl_advance (mb : Nat) (b : Bool) : (s.announceCpl mb b).advance = s.advance := by
  obtain ⟨_, _, _, _, e⟩ := State.announceCpl_changes s mb b; rw [e]
@[simp] theorem State.announceCpl_pwr (mb : Nat) (b : Bool) : (s.announceCpl mb b).pwr = s.pwr := by
  obtain ⟨_, _, _, _, e⟩ := State.announceCpl_changes s mb b; rw [e]
@[simp] theorem State.announceCpl_sleep (mb : Nat) (b : Bool) : (s.announceCpl mb b).sleep = s.sleep := by
  obtain ⟨_, _, _, _, e⟩ := State.announceCpl_changes s mb b; rw [e]
@[simp] theorem State.announceCpl_sb (mb : Nat) (b : Bool) : (s.announceCpl mb b).sb = s.sb := by
  obtain ⟨_, _, _, _, e⟩ := State.announceCpl_changes s mb b; rw [e]
@[simp] theorem State.announceCpl_tap (mb : Nat) (b : Bool) : (s.announceCpl mb b).tap = s.tap := by
  obtain ⟨_, _, _, _, e⟩ := State.announceCpl_changes s mb b; rw [e]
@[simp] theorem State.announceCpl_sched (mb : Nat) (b : Bool) : (s.announceCpl mb b).sched = s.sched := by
  obtain ⟨_, _, _, _, e⟩ := State.announceCpl_changes s mb b; rw [e]
@[simp] theorem State.announceCpl_terr (mb : Nat) (b : Bool) : (s.announceCpl mb b).terr = s.terr := by
  obtain ⟨_, _, _, _, e⟩ := State.announceCpl_changes s mb b; rw [e]
@[simp] theorem State.announceCpl_gens (mb : Nat) (b : Bool) : (s.announceCpl mb b).gens = s.gens := by
  obtain ⟨_, _, _, _, e⟩ := State.announceCpl_changes s mb b; rw [e]
@[simp] theorem State.announceCpl_genBase (mb : Nat) (b : Bool) : (s.announceCpl mb b).genBase = s.genBase := by
  obtain ⟨_, _, _, _, e⟩ := State.announceCpl_changes s mb b; rw [e]
@[simp] theorem State.announceCpl_instCount (mb : Nat) (b : Bool) : (s.announceCpl mb b).instCount = s.instCount := by
  obtain ⟨_, _, _, _, e⟩ := State.announceCpl_changes s mb b; rw [e]
@[simp] theorem State.announceCpl_tasks (mb : Nat) (b : Bool) : (s.announceCpl mb b).tasks = s.tasks := by
  obtain ⟨_, _, _, _, e⟩ := State.announceCpl_changes s mb b; rw [e]
@[simp] theorem State.announceCpl_cores (mb : Nat) (b : Bool) : (s.announceCpl mb b).cores = s.cores := by
  obtain ⟨_, _, _, _, e⟩ := State.announceCpl_changes s mb b; rw [e]
@[simp] theorem State.announceCpl_programs (mb : Nat) (b : Bool) : (s.announceCpl mb b).programs = s.programs := by
  obtain ⟨_, _, _, _, e⟩ := State.announceCpl_changes s mb b; rw [e]
@[simp] theorem State.announceCpl_rrBay (mb : Nat) (b : Bool) : (s.announceCpl mb b).rrBay = s.rrBay := by
  obtain ⟨_, _, _, _, e⟩ := State.announceCpl_changes s mb b; rw [e]
@[simp] theorem State.announceCpl_mp (mb : Nat) (b : Bool) : (s.announceCpl mb b).mp = s.mp := by
  obtain ⟨_, _, _, _, e⟩ := State.announceCpl_changes s mb b; rw [e]
@[simp] theorem State.announceCpl_mpReady (mb : Nat) (b : Bool) : (s.announceCpl mb b).mpReady = s.mpReady := by
  obtain ⟨_, _, _, _, e⟩ := State.announceCpl_changes s mb b; rw [e]
@[simp] theorem State.announceCpl_egress (mb : Nat) (b : Bool) : (s.announceCpl mb b).egress = s.egress := by
  obtain ⟨_, _, _, _, e⟩ := State.announceCpl_changes s mb b; rw [e]
@[simp] theorem State.announceCpl_spring (mb : Nat) (b : Bool) : (s.announceCpl mb b).spring = s.spring := by
  obtain ⟨_, _, _, _, e⟩ := State.announceCpl_changes s mb b; rw [e]
@[simp] theorem State.announceCpl_faults (mb : Nat) (b : Bool) : (s.announceCpl mb b).faults = s.faults := by
  obtain ⟨_, _, _, _, e⟩ := State.announceCpl_changes s mb b; rw [e]
@[simp] theorem State.announceCpl_cnt (mb : Nat) (b : Bool) : (s.announceCpl mb b).cnt = s.cnt := by
  obtain ⟨_, _, _, _, e⟩ := State.announceCpl_changes s mb b; rw [e]
@[simp] theorem State.announceCpl_cntWin (mb : Nat) (b : Bool) : (s.announceCpl mb b).cntWin = s.cntWin := by
  obtain ⟨_, _, _, _, e⟩ := State.announceCpl_changes s mb b; rw [e]
@[simp] theorem State.announceCpl_tbLatch (mb : Nat) (b : Bool) : (s.announceCpl mb b).tbLatch = s.tbLatch := by
  obtain ⟨_, _, _, _, e⟩ := State.announceCpl_changes s mb b; rw [e]
@[simp] theorem State.announceCpl_clearing (mb : Nat) (b : Bool) : (s.announceCpl mb b).clearing = s.clearing := by
  obtain ⟨_, _, _, _, e⟩ := State.announceCpl_changes s mb b; rw [e]
@[simp] theorem State.announceCpl_signals (mb : Nat) (b : Bool) : (s.announceCpl mb b).signals = s.signals := by
  obtain ⟨_, _, _, _, e⟩ := State.announceCpl_changes s mb b; rw [e]
@[simp] theorem State.announceCpl_syncEnds (mb : Nat) (b : Bool) : (s.announceCpl mb b).syncEnds = s.syncEnds := by
  obtain ⟨_, _, _, _, e⟩ := State.announceCpl_changes s mb b; rw [e]
@[simp] theorem State.announceCpl_flash (mb : Nat) (b : Bool) : (s.announceCpl mb b).flash = s.flash := by
  obtain ⟨_, _, _, _, e⟩ := State.announceCpl_changes s mb b; rw [e]
@[simp] theorem State.announceCpl_medium (mb : Nat) (b : Bool) : (s.announceCpl mb b).medium = s.medium := by
  obtain ⟨_, _, _, _, e⟩ := State.announceCpl_changes s mb b; rw [e]
@[simp] theorem State.announceCpl_intakeClosed (mb : Nat) (b : Bool) : (s.announceCpl mb b).intakeClosed = s.intakeClosed := by
  obtain ⟨_, _, _, _, e⟩ := State.announceCpl_changes s mb b; rw [e]
@[simp] theorem State.announceCpl_erasedMode (mb : Nat) (b : Bool) : (s.announceCpl mb b).erasedMode = s.erasedMode := by
  obtain ⟨_, _, _, _, e⟩ := State.announceCpl_changes s mb b; rw [e]
@[simp] theorem State.announceCpl_rsp (mb : Nat) (b : Bool) : (s.announceCpl mb b).rsp = s.rsp := by
  obtain ⟨_, _, _, _, e⟩ := State.announceCpl_changes s mb b; rw [e]
@[simp] theorem State.announceCpl_spAttn (mb : Nat) (b : Bool) : (s.announceCpl mb b).spAttn = s.spAttn := by
  obtain ⟨_, _, _, _, e⟩ := State.announceCpl_changes s mb b; rw [e]
@[simp] theorem State.announceCpl_pending (mb : Nat) (b : Bool) : (s.announceCpl mb b).pending = s.pending := by
  obtain ⟨_, _, _, _, e⟩ := State.announceCpl_changes s mb b; rw [e]

/-! ### sbComplete -/

/-- It fills the sideband registers and raises source 17: no other field changes. -/
theorem State.sbComplete_changes (c : Cpl) : ∃ (n0 : Irq) (n1 : Sideband) (n2 : List Mailbox) (n3 : List HfpOp) (n4 : Nat), s.sbComplete c = { s with irq := n0, sb := n1, mbs := n2, hfp := n3, nextId := n4 } :=
  by
  unfold State.sbComplete; split
  · exact ⟨_, _, _, _, _, rfl⟩
  · obtain ⟨x, y, z, h⟩ := State.raise_changes (({ s with sb := { s.sb with cpl := c.bytes true 0, busy := false, done := true } } : State).modMb 16 _) 17
    exact ⟨x, _, _, y, z, h⟩

@[simp] theorem State.sbComplete_cfg (c : Cpl) : (s.sbComplete c).cfg = s.cfg := by
  obtain ⟨_, _, _, _, _, e⟩ := State.sbComplete_changes s c; rw [e]
@[simp] theorem State.sbComplete_tick (c : Cpl) : (s.sbComplete c).tick = s.tick := by
  obtain ⟨_, _, _, _, _, e⟩ := State.sbComplete_changes s c; rw [e]
@[simp] theorem State.sbComplete_fresh (c : Cpl) : (s.sbComplete c).fresh = s.fresh := by
  obtain ⟨_, _, _, _, _, e⟩ := State.sbComplete_changes s c; rw [e]
@[simp] theorem State.sbComplete_lcs (c : Cpl) : (s.sbComplete c).lcs = s.lcs := by
  obtain ⟨_, _, _, _, _, e⟩ := State.sbComplete_changes s c; rw [e]
@[simp] theorem State.sbComplete_boot (c : Cpl) : (s.sbComplete c).boot = s.boot := by
  obtain ⟨_, _, _, _, _, e⟩ := State.sbComplete_changes s c; rw [e]
@[simp] theorem State.sbComplete_fuses (c : Cpl) : (s.sbComplete c).fuses = s.fuses := by
  obtain ⟨_, _, _, _, _, e⟩ := State.sbComplete_changes s c; rw [e]
@[simp] theorem State.sbComplete_advance (c : Cpl) : (s.sbComplete c).advance = s.advance := by
  obtain ⟨_, _, _, _, _, e⟩ := State.sbComplete_changes s c; rw [e]
@[simp] theorem State.sbComplete_pwr (c : Cpl) : (s.sbComplete c).pwr = s.pwr := by
  obtain ⟨_, _, _, _, _, e⟩ := State.sbComplete_changes s c; rw [e]
@[simp] theorem State.sbComplete_sleep (c : Cpl) : (s.sbComplete c).sleep = s.sleep := by
  obtain ⟨_, _, _, _, _, e⟩ := State.sbComplete_changes s c; rw [e]
@[simp] theorem State.sbComplete_tap (c : Cpl) : (s.sbComplete c).tap = s.tap := by
  obtain ⟨_, _, _, _, _, e⟩ := State.sbComplete_changes s c; rw [e]
@[simp] theorem State.sbComplete_sched (c : Cpl) : (s.sbComplete c).sched = s.sched := by
  obtain ⟨_, _, _, _, _, e⟩ := State.sbComplete_changes s c; rw [e]
@[simp] theorem State.sbComplete_terr (c : Cpl) : (s.sbComplete c).terr = s.terr := by
  obtain ⟨_, _, _, _, _, e⟩ := State.sbComplete_changes s c; rw [e]
@[simp] theorem State.sbComplete_gens (c : Cpl) : (s.sbComplete c).gens = s.gens := by
  obtain ⟨_, _, _, _, _, e⟩ := State.sbComplete_changes s c; rw [e]
@[simp] theorem State.sbComplete_genBase (c : Cpl) : (s.sbComplete c).genBase = s.genBase := by
  obtain ⟨_, _, _, _, _, e⟩ := State.sbComplete_changes s c; rw [e]
@[simp] theorem State.sbComplete_instCount (c : Cpl) : (s.sbComplete c).instCount = s.instCount := by
  obtain ⟨_, _, _, _, _, e⟩ := State.sbComplete_changes s c; rw [e]
@[simp] theorem State.sbComplete_tasks (c : Cpl) : (s.sbComplete c).tasks = s.tasks := by
  obtain ⟨_, _, _, _, _, e⟩ := State.sbComplete_changes s c; rw [e]
@[simp] theorem State.sbComplete_cores (c : Cpl) : (s.sbComplete c).cores = s.cores := by
  obtain ⟨_, _, _, _, _, e⟩ := State.sbComplete_changes s c; rw [e]
@[simp] theorem State.sbComplete_programs (c : Cpl) : (s.sbComplete c).programs = s.programs := by
  obtain ⟨_, _, _, _, _, e⟩ := State.sbComplete_changes s c; rw [e]
@[simp] theorem State.sbComplete_rrBay (c : Cpl) : (s.sbComplete c).rrBay = s.rrBay := by
  obtain ⟨_, _, _, _, _, e⟩ := State.sbComplete_changes s c; rw [e]
@[simp] theorem State.sbComplete_mp (c : Cpl) : (s.sbComplete c).mp = s.mp := by
  obtain ⟨_, _, _, _, _, e⟩ := State.sbComplete_changes s c; rw [e]
@[simp] theorem State.sbComplete_mpReady (c : Cpl) : (s.sbComplete c).mpReady = s.mpReady := by
  obtain ⟨_, _, _, _, _, e⟩ := State.sbComplete_changes s c; rw [e]
@[simp] theorem State.sbComplete_egress (c : Cpl) : (s.sbComplete c).egress = s.egress := by
  obtain ⟨_, _, _, _, _, e⟩ := State.sbComplete_changes s c; rw [e]
@[simp] theorem State.sbComplete_spring (c : Cpl) : (s.sbComplete c).spring = s.spring := by
  obtain ⟨_, _, _, _, _, e⟩ := State.sbComplete_changes s c; rw [e]
@[simp] theorem State.sbComplete_faults (c : Cpl) : (s.sbComplete c).faults = s.faults := by
  obtain ⟨_, _, _, _, _, e⟩ := State.sbComplete_changes s c; rw [e]
@[simp] theorem State.sbComplete_cnt (c : Cpl) : (s.sbComplete c).cnt = s.cnt := by
  obtain ⟨_, _, _, _, _, e⟩ := State.sbComplete_changes s c; rw [e]
@[simp] theorem State.sbComplete_cntWin (c : Cpl) : (s.sbComplete c).cntWin = s.cntWin := by
  obtain ⟨_, _, _, _, _, e⟩ := State.sbComplete_changes s c; rw [e]
@[simp] theorem State.sbComplete_tbLatch (c : Cpl) : (s.sbComplete c).tbLatch = s.tbLatch := by
  obtain ⟨_, _, _, _, _, e⟩ := State.sbComplete_changes s c; rw [e]
@[simp] theorem State.sbComplete_clearing (c : Cpl) : (s.sbComplete c).clearing = s.clearing := by
  obtain ⟨_, _, _, _, _, e⟩ := State.sbComplete_changes s c; rw [e]
@[simp] theorem State.sbComplete_signals (c : Cpl) : (s.sbComplete c).signals = s.signals := by
  obtain ⟨_, _, _, _, _, e⟩ := State.sbComplete_changes s c; rw [e]
@[simp] theorem State.sbComplete_syncEnds (c : Cpl) : (s.sbComplete c).syncEnds = s.syncEnds := by
  obtain ⟨_, _, _, _, _, e⟩ := State.sbComplete_changes s c; rw [e]
@[simp] theorem State.sbComplete_flash (c : Cpl) : (s.sbComplete c).flash = s.flash := by
  obtain ⟨_, _, _, _, _, e⟩ := State.sbComplete_changes s c; rw [e]
@[simp] theorem State.sbComplete_medium (c : Cpl) : (s.sbComplete c).medium = s.medium := by
  obtain ⟨_, _, _, _, _, e⟩ := State.sbComplete_changes s c; rw [e]
@[simp] theorem State.sbComplete_intakeClosed (c : Cpl) : (s.sbComplete c).intakeClosed = s.intakeClosed := by
  obtain ⟨_, _, _, _, _, e⟩ := State.sbComplete_changes s c; rw [e]
@[simp] theorem State.sbComplete_erasedMode (c : Cpl) : (s.sbComplete c).erasedMode = s.erasedMode := by
  obtain ⟨_, _, _, _, _, e⟩ := State.sbComplete_changes s c; rw [e]
@[simp] theorem State.sbComplete_rsp (c : Cpl) : (s.sbComplete c).rsp = s.rsp := by
  obtain ⟨_, _, _, _, _, e⟩ := State.sbComplete_changes s c; rw [e]
@[simp] theorem State.sbComplete_spAttn (c : Cpl) : (s.sbComplete c).spAttn = s.spAttn := by
  obtain ⟨_, _, _, _, _, e⟩ := State.sbComplete_changes s c; rw [e]
@[simp] theorem State.sbComplete_pending (c : Cpl) : (s.sbComplete c).pending = s.pending := by
  obtain ⟨_, _, _, _, _, e⟩ := State.sbComplete_changes s c; rw [e]

/-! ### emitAll -/

/-- It produces completions in order: no other field changes. -/
theorem State.emitAll_changes (mb : Nat) (l : List Cpl) : ∃ (n0 : List Mailbox) (n1 : List HfpOp) (n2 : Nat), s.emitAll mb l = { s with mbs := n0, hfp := n1, nextId := n2 } :=
  by
  induction l generalizing s with
  | nil => exact ⟨_, _, _, rfl⟩
  | cons c r ih =>
    unfold State.emitAll
    obtain ⟨x, y, z, h⟩ := State.emitCpl_changes s mb c
    obtain ⟨x2, y2, z2, h2⟩ := ih (s.emitCpl mb c)
    exact ⟨x2, y2, z2, h2.trans (by rw [h])⟩

@[simp] theorem State.emitAll_cfg (mb : Nat) (l : List Cpl) : (s.emitAll mb l).cfg = s.cfg := by
  obtain ⟨_, _, _, e⟩ := State.emitAll_changes s mb l; rw [e]
@[simp] theorem State.emitAll_tick (mb : Nat) (l : List Cpl) : (s.emitAll mb l).tick = s.tick := by
  obtain ⟨_, _, _, e⟩ := State.emitAll_changes s mb l; rw [e]
@[simp] theorem State.emitAll_fresh (mb : Nat) (l : List Cpl) : (s.emitAll mb l).fresh = s.fresh := by
  obtain ⟨_, _, _, e⟩ := State.emitAll_changes s mb l; rw [e]
@[simp] theorem State.emitAll_irq (mb : Nat) (l : List Cpl) : (s.emitAll mb l).irq = s.irq := by
  obtain ⟨_, _, _, e⟩ := State.emitAll_changes s mb l; rw [e]
@[simp] theorem State.emitAll_lcs (mb : Nat) (l : List Cpl) : (s.emitAll mb l).lcs = s.lcs := by
  obtain ⟨_, _, _, e⟩ := State.emitAll_changes s mb l; rw [e]
@[simp] theorem State.emitAll_boot (mb : Nat) (l : List Cpl) : (s.emitAll mb l).boot = s.boot := by
  obtain ⟨_, _, _, e⟩ := State.emitAll_changes s mb l; rw [e]
@[simp] theorem State.emitAll_fuses (mb : Nat) (l : List Cpl) : (s.emitAll mb l).fuses = s.fuses := by
  obtain ⟨_, _, _, e⟩ := State.emitAll_changes s mb l; rw [e]
@[simp] theorem State.emitAll_advance (mb : Nat) (l : List Cpl) : (s.emitAll mb l).advance = s.advance := by
  obtain ⟨_, _, _, e⟩ := State.emitAll_changes s mb l; rw [e]
@[simp] theorem State.emitAll_pwr (mb : Nat) (l : List Cpl) : (s.emitAll mb l).pwr = s.pwr := by
  obtain ⟨_, _, _, e⟩ := State.emitAll_changes s mb l; rw [e]
@[simp] theorem State.emitAll_sleep (mb : Nat) (l : List Cpl) : (s.emitAll mb l).sleep = s.sleep := by
  obtain ⟨_, _, _, e⟩ := State.emitAll_changes s mb l; rw [e]
@[simp] theorem State.emitAll_sb (mb : Nat) (l : List Cpl) : (s.emitAll mb l).sb = s.sb := by
  obtain ⟨_, _, _, e⟩ := State.emitAll_changes s mb l; rw [e]
@[simp] theorem State.emitAll_tap (mb : Nat) (l : List Cpl) : (s.emitAll mb l).tap = s.tap := by
  obtain ⟨_, _, _, e⟩ := State.emitAll_changes s mb l; rw [e]
@[simp] theorem State.emitAll_sched (mb : Nat) (l : List Cpl) : (s.emitAll mb l).sched = s.sched := by
  obtain ⟨_, _, _, e⟩ := State.emitAll_changes s mb l; rw [e]
@[simp] theorem State.emitAll_terr (mb : Nat) (l : List Cpl) : (s.emitAll mb l).terr = s.terr := by
  obtain ⟨_, _, _, e⟩ := State.emitAll_changes s mb l; rw [e]
@[simp] theorem State.emitAll_gens (mb : Nat) (l : List Cpl) : (s.emitAll mb l).gens = s.gens := by
  obtain ⟨_, _, _, e⟩ := State.emitAll_changes s mb l; rw [e]
@[simp] theorem State.emitAll_genBase (mb : Nat) (l : List Cpl) : (s.emitAll mb l).genBase = s.genBase := by
  obtain ⟨_, _, _, e⟩ := State.emitAll_changes s mb l; rw [e]
@[simp] theorem State.emitAll_instCount (mb : Nat) (l : List Cpl) : (s.emitAll mb l).instCount = s.instCount := by
  obtain ⟨_, _, _, e⟩ := State.emitAll_changes s mb l; rw [e]
@[simp] theorem State.emitAll_tasks (mb : Nat) (l : List Cpl) : (s.emitAll mb l).tasks = s.tasks := by
  obtain ⟨_, _, _, e⟩ := State.emitAll_changes s mb l; rw [e]
@[simp] theorem State.emitAll_cores (mb : Nat) (l : List Cpl) : (s.emitAll mb l).cores = s.cores := by
  obtain ⟨_, _, _, e⟩ := State.emitAll_changes s mb l; rw [e]
@[simp] theorem State.emitAll_programs (mb : Nat) (l : List Cpl) : (s.emitAll mb l).programs = s.programs := by
  obtain ⟨_, _, _, e⟩ := State.emitAll_changes s mb l; rw [e]
@[simp] theorem State.emitAll_rrBay (mb : Nat) (l : List Cpl) : (s.emitAll mb l).rrBay = s.rrBay := by
  obtain ⟨_, _, _, e⟩ := State.emitAll_changes s mb l; rw [e]
@[simp] theorem State.emitAll_mp (mb : Nat) (l : List Cpl) : (s.emitAll mb l).mp = s.mp := by
  obtain ⟨_, _, _, e⟩ := State.emitAll_changes s mb l; rw [e]
@[simp] theorem State.emitAll_mpReady (mb : Nat) (l : List Cpl) : (s.emitAll mb l).mpReady = s.mpReady := by
  obtain ⟨_, _, _, e⟩ := State.emitAll_changes s mb l; rw [e]
@[simp] theorem State.emitAll_egress (mb : Nat) (l : List Cpl) : (s.emitAll mb l).egress = s.egress := by
  obtain ⟨_, _, _, e⟩ := State.emitAll_changes s mb l; rw [e]
@[simp] theorem State.emitAll_spring (mb : Nat) (l : List Cpl) : (s.emitAll mb l).spring = s.spring := by
  obtain ⟨_, _, _, e⟩ := State.emitAll_changes s mb l; rw [e]
@[simp] theorem State.emitAll_faults (mb : Nat) (l : List Cpl) : (s.emitAll mb l).faults = s.faults := by
  obtain ⟨_, _, _, e⟩ := State.emitAll_changes s mb l; rw [e]
@[simp] theorem State.emitAll_cnt (mb : Nat) (l : List Cpl) : (s.emitAll mb l).cnt = s.cnt := by
  obtain ⟨_, _, _, e⟩ := State.emitAll_changes s mb l; rw [e]
@[simp] theorem State.emitAll_cntWin (mb : Nat) (l : List Cpl) : (s.emitAll mb l).cntWin = s.cntWin := by
  obtain ⟨_, _, _, e⟩ := State.emitAll_changes s mb l; rw [e]
@[simp] theorem State.emitAll_tbLatch (mb : Nat) (l : List Cpl) : (s.emitAll mb l).tbLatch = s.tbLatch := by
  obtain ⟨_, _, _, e⟩ := State.emitAll_changes s mb l; rw [e]
@[simp] theorem State.emitAll_clearing (mb : Nat) (l : List Cpl) : (s.emitAll mb l).clearing = s.clearing := by
  obtain ⟨_, _, _, e⟩ := State.emitAll_changes s mb l; rw [e]
@[simp] theorem State.emitAll_signals (mb : Nat) (l : List Cpl) : (s.emitAll mb l).signals = s.signals := by
  obtain ⟨_, _, _, e⟩ := State.emitAll_changes s mb l; rw [e]
@[simp] theorem State.emitAll_syncEnds (mb : Nat) (l : List Cpl) : (s.emitAll mb l).syncEnds = s.syncEnds := by
  obtain ⟨_, _, _, e⟩ := State.emitAll_changes s mb l; rw [e]
@[simp] theorem State.emitAll_flash (mb : Nat) (l : List Cpl) : (s.emitAll mb l).flash = s.flash := by
  obtain ⟨_, _, _, e⟩ := State.emitAll_changes s mb l; rw [e]
@[simp] theorem State.emitAll_medium (mb : Nat) (l : List Cpl) : (s.emitAll mb l).medium = s.medium := by
  obtain ⟨_, _, _, e⟩ := State.emitAll_changes s mb l; rw [e]
@[simp] theorem State.emitAll_intakeClosed (mb : Nat) (l : List Cpl) : (s.emitAll mb l).intakeClosed = s.intakeClosed := by
  obtain ⟨_, _, _, e⟩ := State.emitAll_changes s mb l; rw [e]
@[simp] theorem State.emitAll_erasedMode (mb : Nat) (l : List Cpl) : (s.emitAll mb l).erasedMode = s.erasedMode := by
  obtain ⟨_, _, _, e⟩ := State.emitAll_changes s mb l; rw [e]
@[simp] theorem State.emitAll_rsp (mb : Nat) (l : List Cpl) : (s.emitAll mb l).rsp = s.rsp := by
  obtain ⟨_, _, _, e⟩ := State.emitAll_changes s mb l; rw [e]
@[simp] theorem State.emitAll_spAttn (mb : Nat) (l : List Cpl) : (s.emitAll mb l).spAttn = s.spAttn := by
  obtain ⟨_, _, _, e⟩ := State.emitAll_changes s mb l; rw [e]
@[simp] theorem State.emitAll_pending (mb : Nat) (l : List Cpl) : (s.emitAll mb l).pending = s.pending := by
  obtain ⟨_, _, _, e⟩ := State.emitAll_changes s mb l; rw [e]

/-! ### orderCpl -/

/-- It writes, holds or orders a completion: no other field changes. -/
theorem State.orderCpl_changes (mb : Nat) (c : Cpl) : ∃ (n0 : List Mailbox) (n1 : List HfpOp) (n2 : Nat), s.orderCpl mb c = { s with mbs := n0, hfp := n1, nextId := n2 } :=
  by
  unfold State.orderCpl; split
  · exact ⟨_, _, _, rfl⟩
  · exact State.emitCpl_changes s mb c

@[simp] theorem State.orderCpl_cfg (mb : Nat) (c : Cpl) : (s.orderCpl mb c).cfg = s.cfg := by
  obtain ⟨_, _, _, e⟩ := State.orderCpl_changes s mb c; rw [e]
@[simp] theorem State.orderCpl_tick (mb : Nat) (c : Cpl) : (s.orderCpl mb c).tick = s.tick := by
  obtain ⟨_, _, _, e⟩ := State.orderCpl_changes s mb c; rw [e]
@[simp] theorem State.orderCpl_fresh (mb : Nat) (c : Cpl) : (s.orderCpl mb c).fresh = s.fresh := by
  obtain ⟨_, _, _, e⟩ := State.orderCpl_changes s mb c; rw [e]
@[simp] theorem State.orderCpl_irq (mb : Nat) (c : Cpl) : (s.orderCpl mb c).irq = s.irq := by
  obtain ⟨_, _, _, e⟩ := State.orderCpl_changes s mb c; rw [e]
@[simp] theorem State.orderCpl_lcs (mb : Nat) (c : Cpl) : (s.orderCpl mb c).lcs = s.lcs := by
  obtain ⟨_, _, _, e⟩ := State.orderCpl_changes s mb c; rw [e]
@[simp] theorem State.orderCpl_boot (mb : Nat) (c : Cpl) : (s.orderCpl mb c).boot = s.boot := by
  obtain ⟨_, _, _, e⟩ := State.orderCpl_changes s mb c; rw [e]
@[simp] theorem State.orderCpl_fuses (mb : Nat) (c : Cpl) : (s.orderCpl mb c).fuses = s.fuses := by
  obtain ⟨_, _, _, e⟩ := State.orderCpl_changes s mb c; rw [e]
@[simp] theorem State.orderCpl_advance (mb : Nat) (c : Cpl) : (s.orderCpl mb c).advance = s.advance := by
  obtain ⟨_, _, _, e⟩ := State.orderCpl_changes s mb c; rw [e]
@[simp] theorem State.orderCpl_pwr (mb : Nat) (c : Cpl) : (s.orderCpl mb c).pwr = s.pwr := by
  obtain ⟨_, _, _, e⟩ := State.orderCpl_changes s mb c; rw [e]
@[simp] theorem State.orderCpl_sleep (mb : Nat) (c : Cpl) : (s.orderCpl mb c).sleep = s.sleep := by
  obtain ⟨_, _, _, e⟩ := State.orderCpl_changes s mb c; rw [e]
@[simp] theorem State.orderCpl_sb (mb : Nat) (c : Cpl) : (s.orderCpl mb c).sb = s.sb := by
  obtain ⟨_, _, _, e⟩ := State.orderCpl_changes s mb c; rw [e]
@[simp] theorem State.orderCpl_tap (mb : Nat) (c : Cpl) : (s.orderCpl mb c).tap = s.tap := by
  obtain ⟨_, _, _, e⟩ := State.orderCpl_changes s mb c; rw [e]
@[simp] theorem State.orderCpl_sched (mb : Nat) (c : Cpl) : (s.orderCpl mb c).sched = s.sched := by
  obtain ⟨_, _, _, e⟩ := State.orderCpl_changes s mb c; rw [e]
@[simp] theorem State.orderCpl_terr (mb : Nat) (c : Cpl) : (s.orderCpl mb c).terr = s.terr := by
  obtain ⟨_, _, _, e⟩ := State.orderCpl_changes s mb c; rw [e]
@[simp] theorem State.orderCpl_gens (mb : Nat) (c : Cpl) : (s.orderCpl mb c).gens = s.gens := by
  obtain ⟨_, _, _, e⟩ := State.orderCpl_changes s mb c; rw [e]
@[simp] theorem State.orderCpl_genBase (mb : Nat) (c : Cpl) : (s.orderCpl mb c).genBase = s.genBase := by
  obtain ⟨_, _, _, e⟩ := State.orderCpl_changes s mb c; rw [e]
@[simp] theorem State.orderCpl_instCount (mb : Nat) (c : Cpl) : (s.orderCpl mb c).instCount = s.instCount := by
  obtain ⟨_, _, _, e⟩ := State.orderCpl_changes s mb c; rw [e]
@[simp] theorem State.orderCpl_tasks (mb : Nat) (c : Cpl) : (s.orderCpl mb c).tasks = s.tasks := by
  obtain ⟨_, _, _, e⟩ := State.orderCpl_changes s mb c; rw [e]
@[simp] theorem State.orderCpl_cores (mb : Nat) (c : Cpl) : (s.orderCpl mb c).cores = s.cores := by
  obtain ⟨_, _, _, e⟩ := State.orderCpl_changes s mb c; rw [e]
@[simp] theorem State.orderCpl_programs (mb : Nat) (c : Cpl) : (s.orderCpl mb c).programs = s.programs := by
  obtain ⟨_, _, _, e⟩ := State.orderCpl_changes s mb c; rw [e]
@[simp] theorem State.orderCpl_rrBay (mb : Nat) (c : Cpl) : (s.orderCpl mb c).rrBay = s.rrBay := by
  obtain ⟨_, _, _, e⟩ := State.orderCpl_changes s mb c; rw [e]
@[simp] theorem State.orderCpl_mp (mb : Nat) (c : Cpl) : (s.orderCpl mb c).mp = s.mp := by
  obtain ⟨_, _, _, e⟩ := State.orderCpl_changes s mb c; rw [e]
@[simp] theorem State.orderCpl_mpReady (mb : Nat) (c : Cpl) : (s.orderCpl mb c).mpReady = s.mpReady := by
  obtain ⟨_, _, _, e⟩ := State.orderCpl_changes s mb c; rw [e]
@[simp] theorem State.orderCpl_egress (mb : Nat) (c : Cpl) : (s.orderCpl mb c).egress = s.egress := by
  obtain ⟨_, _, _, e⟩ := State.orderCpl_changes s mb c; rw [e]
@[simp] theorem State.orderCpl_spring (mb : Nat) (c : Cpl) : (s.orderCpl mb c).spring = s.spring := by
  obtain ⟨_, _, _, e⟩ := State.orderCpl_changes s mb c; rw [e]
@[simp] theorem State.orderCpl_faults (mb : Nat) (c : Cpl) : (s.orderCpl mb c).faults = s.faults := by
  obtain ⟨_, _, _, e⟩ := State.orderCpl_changes s mb c; rw [e]
@[simp] theorem State.orderCpl_cnt (mb : Nat) (c : Cpl) : (s.orderCpl mb c).cnt = s.cnt := by
  obtain ⟨_, _, _, e⟩ := State.orderCpl_changes s mb c; rw [e]
@[simp] theorem State.orderCpl_cntWin (mb : Nat) (c : Cpl) : (s.orderCpl mb c).cntWin = s.cntWin := by
  obtain ⟨_, _, _, e⟩ := State.orderCpl_changes s mb c; rw [e]
@[simp] theorem State.orderCpl_tbLatch (mb : Nat) (c : Cpl) : (s.orderCpl mb c).tbLatch = s.tbLatch := by
  obtain ⟨_, _, _, e⟩ := State.orderCpl_changes s mb c; rw [e]
@[simp] theorem State.orderCpl_clearing (mb : Nat) (c : Cpl) : (s.orderCpl mb c).clearing = s.clearing := by
  obtain ⟨_, _, _, e⟩ := State.orderCpl_changes s mb c; rw [e]
@[simp] theorem State.orderCpl_signals (mb : Nat) (c : Cpl) : (s.orderCpl mb c).signals = s.signals := by
  obtain ⟨_, _, _, e⟩ := State.orderCpl_changes s mb c; rw [e]
@[simp] theorem State.orderCpl_syncEnds (mb : Nat) (c : Cpl) : (s.orderCpl mb c).syncEnds = s.syncEnds := by
  obtain ⟨_, _, _, e⟩ := State.orderCpl_changes s mb c; rw [e]
@[simp] theorem State.orderCpl_flash (mb : Nat) (c : Cpl) : (s.orderCpl mb c).flash = s.flash := by
  obtain ⟨_, _, _, e⟩ := State.orderCpl_changes s mb c; rw [e]
@[simp] theorem State.orderCpl_medium (mb : Nat) (c : Cpl) : (s.orderCpl mb c).medium = s.medium := by
  obtain ⟨_, _, _, e⟩ := State.orderCpl_changes s mb c; rw [e]
@[simp] theorem State.orderCpl_intakeClosed (mb : Nat) (c : Cpl) : (s.orderCpl mb c).intakeClosed = s.intakeClosed := by
  obtain ⟨_, _, _, e⟩ := State.orderCpl_changes s mb c; rw [e]
@[simp] theorem State.orderCpl_erasedMode (mb : Nat) (c : Cpl) : (s.orderCpl mb c).erasedMode = s.erasedMode := by
  obtain ⟨_, _, _, e⟩ := State.orderCpl_changes s mb c; rw [e]
@[simp] theorem State.orderCpl_rsp (mb : Nat) (c : Cpl) : (s.orderCpl mb c).rsp = s.rsp := by
  obtain ⟨_, _, _, e⟩ := State.orderCpl_changes s mb c; rw [e]
@[simp] theorem State.orderCpl_spAttn (mb : Nat) (c : Cpl) : (s.orderCpl mb c).spAttn = s.spAttn := by
  obtain ⟨_, _, _, e⟩ := State.orderCpl_changes s mb c; rw [e]
@[simp] theorem State.orderCpl_pending (mb : Nat) (c : Cpl) : (s.orderCpl mb c).pending = s.pending := by
  obtain ⟨_, _, _, e⟩ := State.orderCpl_changes s mb c; rw [e]

/-! ### inconsistent -/

/-- It files a report for INTERNAL alone: no other field changes. -/
theorem State.inconsistent_changes (tk : Ticket) (st h : Nat) : ∃ (n0 : Irq) (n1 : List HfpOp) (n2 : Nat) (n3 : Faults) (n4 : Counters), s.inconsistent tk st h = { s with irq := n0, hfp := n1, nextId := n2, faults := n3, cnt := n4 } :=
  by
  unfold State.inconsistent; split
  · exact State.fault_changes ..
  · exact ⟨_, _, _, _, _, rfl⟩

@[simp] theorem State.inconsistent_cfg (tk : Ticket) (st h : Nat) : (s.inconsistent tk st h).cfg = s.cfg := by
  obtain ⟨_, _, _, _, _, e⟩ := State.inconsistent_changes s tk st h; rw [e]
@[simp] theorem State.inconsistent_tick (tk : Ticket) (st h : Nat) : (s.inconsistent tk st h).tick = s.tick := by
  obtain ⟨_, _, _, _, _, e⟩ := State.inconsistent_changes s tk st h; rw [e]
@[simp] theorem State.inconsistent_fresh (tk : Ticket) (st h : Nat) : (s.inconsistent tk st h).fresh = s.fresh := by
  obtain ⟨_, _, _, _, _, e⟩ := State.inconsistent_changes s tk st h; rw [e]
@[simp] theorem State.inconsistent_lcs (tk : Ticket) (st h : Nat) : (s.inconsistent tk st h).lcs = s.lcs := by
  obtain ⟨_, _, _, _, _, e⟩ := State.inconsistent_changes s tk st h; rw [e]
@[simp] theorem State.inconsistent_boot (tk : Ticket) (st h : Nat) : (s.inconsistent tk st h).boot = s.boot := by
  obtain ⟨_, _, _, _, _, e⟩ := State.inconsistent_changes s tk st h; rw [e]
@[simp] theorem State.inconsistent_fuses (tk : Ticket) (st h : Nat) : (s.inconsistent tk st h).fuses = s.fuses := by
  obtain ⟨_, _, _, _, _, e⟩ := State.inconsistent_changes s tk st h; rw [e]
@[simp] theorem State.inconsistent_advance (tk : Ticket) (st h : Nat) : (s.inconsistent tk st h).advance = s.advance := by
  obtain ⟨_, _, _, _, _, e⟩ := State.inconsistent_changes s tk st h; rw [e]
@[simp] theorem State.inconsistent_pwr (tk : Ticket) (st h : Nat) : (s.inconsistent tk st h).pwr = s.pwr := by
  obtain ⟨_, _, _, _, _, e⟩ := State.inconsistent_changes s tk st h; rw [e]
@[simp] theorem State.inconsistent_sleep (tk : Ticket) (st h : Nat) : (s.inconsistent tk st h).sleep = s.sleep := by
  obtain ⟨_, _, _, _, _, e⟩ := State.inconsistent_changes s tk st h; rw [e]
@[simp] theorem State.inconsistent_sb (tk : Ticket) (st h : Nat) : (s.inconsistent tk st h).sb = s.sb := by
  obtain ⟨_, _, _, _, _, e⟩ := State.inconsistent_changes s tk st h; rw [e]
@[simp] theorem State.inconsistent_tap (tk : Ticket) (st h : Nat) : (s.inconsistent tk st h).tap = s.tap := by
  obtain ⟨_, _, _, _, _, e⟩ := State.inconsistent_changes s tk st h; rw [e]
@[simp] theorem State.inconsistent_mbs (tk : Ticket) (st h : Nat) : (s.inconsistent tk st h).mbs = s.mbs := by
  obtain ⟨_, _, _, _, _, e⟩ := State.inconsistent_changes s tk st h; rw [e]
@[simp] theorem State.inconsistent_sched (tk : Ticket) (st h : Nat) : (s.inconsistent tk st h).sched = s.sched := by
  obtain ⟨_, _, _, _, _, e⟩ := State.inconsistent_changes s tk st h; rw [e]
@[simp] theorem State.inconsistent_terr (tk : Ticket) (st h : Nat) : (s.inconsistent tk st h).terr = s.terr := by
  obtain ⟨_, _, _, _, _, e⟩ := State.inconsistent_changes s tk st h; rw [e]
@[simp] theorem State.inconsistent_gens (tk : Ticket) (st h : Nat) : (s.inconsistent tk st h).gens = s.gens := by
  obtain ⟨_, _, _, _, _, e⟩ := State.inconsistent_changes s tk st h; rw [e]
@[simp] theorem State.inconsistent_genBase (tk : Ticket) (st h : Nat) : (s.inconsistent tk st h).genBase = s.genBase := by
  obtain ⟨_, _, _, _, _, e⟩ := State.inconsistent_changes s tk st h; rw [e]
@[simp] theorem State.inconsistent_instCount (tk : Ticket) (st h : Nat) : (s.inconsistent tk st h).instCount = s.instCount := by
  obtain ⟨_, _, _, _, _, e⟩ := State.inconsistent_changes s tk st h; rw [e]
@[simp] theorem State.inconsistent_tasks (tk : Ticket) (st h : Nat) : (s.inconsistent tk st h).tasks = s.tasks := by
  obtain ⟨_, _, _, _, _, e⟩ := State.inconsistent_changes s tk st h; rw [e]
@[simp] theorem State.inconsistent_cores (tk : Ticket) (st h : Nat) : (s.inconsistent tk st h).cores = s.cores := by
  obtain ⟨_, _, _, _, _, e⟩ := State.inconsistent_changes s tk st h; rw [e]
@[simp] theorem State.inconsistent_programs (tk : Ticket) (st h : Nat) : (s.inconsistent tk st h).programs = s.programs := by
  obtain ⟨_, _, _, _, _, e⟩ := State.inconsistent_changes s tk st h; rw [e]
@[simp] theorem State.inconsistent_rrBay (tk : Ticket) (st h : Nat) : (s.inconsistent tk st h).rrBay = s.rrBay := by
  obtain ⟨_, _, _, _, _, e⟩ := State.inconsistent_changes s tk st h; rw [e]
@[simp] theorem State.inconsistent_mp (tk : Ticket) (st h : Nat) : (s.inconsistent tk st h).mp = s.mp := by
  obtain ⟨_, _, _, _, _, e⟩ := State.inconsistent_changes s tk st h; rw [e]
@[simp] theorem State.inconsistent_mpReady (tk : Ticket) (st h : Nat) : (s.inconsistent tk st h).mpReady = s.mpReady := by
  obtain ⟨_, _, _, _, _, e⟩ := State.inconsistent_changes s tk st h; rw [e]
@[simp] theorem State.inconsistent_egress (tk : Ticket) (st h : Nat) : (s.inconsistent tk st h).egress = s.egress := by
  obtain ⟨_, _, _, _, _, e⟩ := State.inconsistent_changes s tk st h; rw [e]
@[simp] theorem State.inconsistent_spring (tk : Ticket) (st h : Nat) : (s.inconsistent tk st h).spring = s.spring := by
  obtain ⟨_, _, _, _, _, e⟩ := State.inconsistent_changes s tk st h; rw [e]
@[simp] theorem State.inconsistent_cntWin (tk : Ticket) (st h : Nat) : (s.inconsistent tk st h).cntWin = s.cntWin := by
  obtain ⟨_, _, _, _, _, e⟩ := State.inconsistent_changes s tk st h; rw [e]
@[simp] theorem State.inconsistent_tbLatch (tk : Ticket) (st h : Nat) : (s.inconsistent tk st h).tbLatch = s.tbLatch := by
  obtain ⟨_, _, _, _, _, e⟩ := State.inconsistent_changes s tk st h; rw [e]
@[simp] theorem State.inconsistent_clearing (tk : Ticket) (st h : Nat) : (s.inconsistent tk st h).clearing = s.clearing := by
  obtain ⟨_, _, _, _, _, e⟩ := State.inconsistent_changes s tk st h; rw [e]
@[simp] theorem State.inconsistent_signals (tk : Ticket) (st h : Nat) : (s.inconsistent tk st h).signals = s.signals := by
  obtain ⟨_, _, _, _, _, e⟩ := State.inconsistent_changes s tk st h; rw [e]
@[simp] theorem State.inconsistent_syncEnds (tk : Ticket) (st h : Nat) : (s.inconsistent tk st h).syncEnds = s.syncEnds := by
  obtain ⟨_, _, _, _, _, e⟩ := State.inconsistent_changes s tk st h; rw [e]
@[simp] theorem State.inconsistent_flash (tk : Ticket) (st h : Nat) : (s.inconsistent tk st h).flash = s.flash := by
  obtain ⟨_, _, _, _, _, e⟩ := State.inconsistent_changes s tk st h; rw [e]
@[simp] theorem State.inconsistent_medium (tk : Ticket) (st h : Nat) : (s.inconsistent tk st h).medium = s.medium := by
  obtain ⟨_, _, _, _, _, e⟩ := State.inconsistent_changes s tk st h; rw [e]
@[simp] theorem State.inconsistent_intakeClosed (tk : Ticket) (st h : Nat) : (s.inconsistent tk st h).intakeClosed = s.intakeClosed := by
  obtain ⟨_, _, _, _, _, e⟩ := State.inconsistent_changes s tk st h; rw [e]
@[simp] theorem State.inconsistent_erasedMode (tk : Ticket) (st h : Nat) : (s.inconsistent tk st h).erasedMode = s.erasedMode := by
  obtain ⟨_, _, _, _, _, e⟩ := State.inconsistent_changes s tk st h; rw [e]
@[simp] theorem State.inconsistent_rsp (tk : Ticket) (st h : Nat) : (s.inconsistent tk st h).rsp = s.rsp := by
  obtain ⟨_, _, _, _, _, e⟩ := State.inconsistent_changes s tk st h; rw [e]
@[simp] theorem State.inconsistent_spAttn (tk : Ticket) (st h : Nat) : (s.inconsistent tk st h).spAttn = s.spAttn := by
  obtain ⟨_, _, _, _, _, e⟩ := State.inconsistent_changes s tk st h; rw [e]
@[simp] theorem State.inconsistent_pending (tk : Ticket) (st h : Nat) : (s.inconsistent tk st h).pending = s.pending := by
  obtain ⟨_, _, _, _, _, e⟩ := State.inconsistent_changes s tk st h; rw [e]

/-! ### complete -/

/-- It goes to the ring or to the sideband, with a report for INTERNAL: no other field changes. -/
theorem State.complete_changes (tk : Ticket) (k st h fl o a b : Nat) : ∃ (n0 : Irq) (n1 : Sideband) (n2 : List Mailbox) (n3 : List HfpOp) (n4 : Nat) (n5 : Faults) (n6 : Counters), s.complete tk k st h fl o a b = { s with irq := n0, sb := n1, mbs := n2, hfp := n3, nextId := n4, faults := n5, cnt := n6 } :=
  by
  unfold State.complete; dsimp only
  obtain ⟨i1, i2, i3, i4, i5, h0⟩ := State.inconsistent_changes s tk st h
  split
  · obtain ⟨x, y, m, z, w, h⟩ := State.sbComplete_changes (s.inconsistent tk st h) (mkCpl tk k st h fl o a b)
    exact ⟨x, y, m, z, w, i4, i5, h.trans (by rw [h0])⟩
  · obtain ⟨x, y, z, h⟩ := State.orderCpl_changes (s.inconsistent tk st h) (srcMb tk.src) (mkCpl tk k st h fl o a b)
    exact ⟨i1, s.sb, x, y, z, i4, i5, h.trans (by rw [h0])⟩

@[simp] theorem State.complete_cfg (tk : Ticket) (k st h fl o a b : Nat) : (s.complete tk k st h fl o a b).cfg = s.cfg := by
  obtain ⟨_, _, _, _, _, _, _, e⟩ := State.complete_changes s tk k st h fl o a b; rw [e]
@[simp] theorem State.complete_tick (tk : Ticket) (k st h fl o a b : Nat) : (s.complete tk k st h fl o a b).tick = s.tick := by
  obtain ⟨_, _, _, _, _, _, _, e⟩ := State.complete_changes s tk k st h fl o a b; rw [e]
@[simp] theorem State.complete_fresh (tk : Ticket) (k st h fl o a b : Nat) : (s.complete tk k st h fl o a b).fresh = s.fresh := by
  obtain ⟨_, _, _, _, _, _, _, e⟩ := State.complete_changes s tk k st h fl o a b; rw [e]
@[simp] theorem State.complete_lcs (tk : Ticket) (k st h fl o a b : Nat) : (s.complete tk k st h fl o a b).lcs = s.lcs := by
  obtain ⟨_, _, _, _, _, _, _, e⟩ := State.complete_changes s tk k st h fl o a b; rw [e]
@[simp] theorem State.complete_boot (tk : Ticket) (k st h fl o a b : Nat) : (s.complete tk k st h fl o a b).boot = s.boot := by
  obtain ⟨_, _, _, _, _, _, _, e⟩ := State.complete_changes s tk k st h fl o a b; rw [e]
@[simp] theorem State.complete_fuses (tk : Ticket) (k st h fl o a b : Nat) : (s.complete tk k st h fl o a b).fuses = s.fuses := by
  obtain ⟨_, _, _, _, _, _, _, e⟩ := State.complete_changes s tk k st h fl o a b; rw [e]
@[simp] theorem State.complete_advance (tk : Ticket) (k st h fl o a b : Nat) : (s.complete tk k st h fl o a b).advance = s.advance := by
  obtain ⟨_, _, _, _, _, _, _, e⟩ := State.complete_changes s tk k st h fl o a b; rw [e]
@[simp] theorem State.complete_pwr (tk : Ticket) (k st h fl o a b : Nat) : (s.complete tk k st h fl o a b).pwr = s.pwr := by
  obtain ⟨_, _, _, _, _, _, _, e⟩ := State.complete_changes s tk k st h fl o a b; rw [e]
@[simp] theorem State.complete_sleep (tk : Ticket) (k st h fl o a b : Nat) : (s.complete tk k st h fl o a b).sleep = s.sleep := by
  obtain ⟨_, _, _, _, _, _, _, e⟩ := State.complete_changes s tk k st h fl o a b; rw [e]
@[simp] theorem State.complete_tap (tk : Ticket) (k st h fl o a b : Nat) : (s.complete tk k st h fl o a b).tap = s.tap := by
  obtain ⟨_, _, _, _, _, _, _, e⟩ := State.complete_changes s tk k st h fl o a b; rw [e]
@[simp] theorem State.complete_sched (tk : Ticket) (k st h fl o a b : Nat) : (s.complete tk k st h fl o a b).sched = s.sched := by
  obtain ⟨_, _, _, _, _, _, _, e⟩ := State.complete_changes s tk k st h fl o a b; rw [e]
@[simp] theorem State.complete_terr (tk : Ticket) (k st h fl o a b : Nat) : (s.complete tk k st h fl o a b).terr = s.terr := by
  obtain ⟨_, _, _, _, _, _, _, e⟩ := State.complete_changes s tk k st h fl o a b; rw [e]
@[simp] theorem State.complete_gens (tk : Ticket) (k st h fl o a b : Nat) : (s.complete tk k st h fl o a b).gens = s.gens := by
  obtain ⟨_, _, _, _, _, _, _, e⟩ := State.complete_changes s tk k st h fl o a b; rw [e]
@[simp] theorem State.complete_genBase (tk : Ticket) (k st h fl o a b : Nat) : (s.complete tk k st h fl o a b).genBase = s.genBase := by
  obtain ⟨_, _, _, _, _, _, _, e⟩ := State.complete_changes s tk k st h fl o a b; rw [e]
@[simp] theorem State.complete_instCount (tk : Ticket) (k st h fl o a b : Nat) : (s.complete tk k st h fl o a b).instCount = s.instCount := by
  obtain ⟨_, _, _, _, _, _, _, e⟩ := State.complete_changes s tk k st h fl o a b; rw [e]
@[simp] theorem State.complete_tasks (tk : Ticket) (k st h fl o a b : Nat) : (s.complete tk k st h fl o a b).tasks = s.tasks := by
  obtain ⟨_, _, _, _, _, _, _, e⟩ := State.complete_changes s tk k st h fl o a b; rw [e]
@[simp] theorem State.complete_cores (tk : Ticket) (k st h fl o a b : Nat) : (s.complete tk k st h fl o a b).cores = s.cores := by
  obtain ⟨_, _, _, _, _, _, _, e⟩ := State.complete_changes s tk k st h fl o a b; rw [e]
@[simp] theorem State.complete_programs (tk : Ticket) (k st h fl o a b : Nat) : (s.complete tk k st h fl o a b).programs = s.programs := by
  obtain ⟨_, _, _, _, _, _, _, e⟩ := State.complete_changes s tk k st h fl o a b; rw [e]
@[simp] theorem State.complete_rrBay (tk : Ticket) (k st h fl o a b : Nat) : (s.complete tk k st h fl o a b).rrBay = s.rrBay := by
  obtain ⟨_, _, _, _, _, _, _, e⟩ := State.complete_changes s tk k st h fl o a b; rw [e]
@[simp] theorem State.complete_mp (tk : Ticket) (k st h fl o a b : Nat) : (s.complete tk k st h fl o a b).mp = s.mp := by
  obtain ⟨_, _, _, _, _, _, _, e⟩ := State.complete_changes s tk k st h fl o a b; rw [e]
@[simp] theorem State.complete_mpReady (tk : Ticket) (k st h fl o a b : Nat) : (s.complete tk k st h fl o a b).mpReady = s.mpReady := by
  obtain ⟨_, _, _, _, _, _, _, e⟩ := State.complete_changes s tk k st h fl o a b; rw [e]
@[simp] theorem State.complete_egress (tk : Ticket) (k st h fl o a b : Nat) : (s.complete tk k st h fl o a b).egress = s.egress := by
  obtain ⟨_, _, _, _, _, _, _, e⟩ := State.complete_changes s tk k st h fl o a b; rw [e]
@[simp] theorem State.complete_spring (tk : Ticket) (k st h fl o a b : Nat) : (s.complete tk k st h fl o a b).spring = s.spring := by
  obtain ⟨_, _, _, _, _, _, _, e⟩ := State.complete_changes s tk k st h fl o a b; rw [e]
@[simp] theorem State.complete_cntWin (tk : Ticket) (k st h fl o a b : Nat) : (s.complete tk k st h fl o a b).cntWin = s.cntWin := by
  obtain ⟨_, _, _, _, _, _, _, e⟩ := State.complete_changes s tk k st h fl o a b; rw [e]
@[simp] theorem State.complete_tbLatch (tk : Ticket) (k st h fl o a b : Nat) : (s.complete tk k st h fl o a b).tbLatch = s.tbLatch := by
  obtain ⟨_, _, _, _, _, _, _, e⟩ := State.complete_changes s tk k st h fl o a b; rw [e]
@[simp] theorem State.complete_clearing (tk : Ticket) (k st h fl o a b : Nat) : (s.complete tk k st h fl o a b).clearing = s.clearing := by
  obtain ⟨_, _, _, _, _, _, _, e⟩ := State.complete_changes s tk k st h fl o a b; rw [e]
@[simp] theorem State.complete_signals (tk : Ticket) (k st h fl o a b : Nat) : (s.complete tk k st h fl o a b).signals = s.signals := by
  obtain ⟨_, _, _, _, _, _, _, e⟩ := State.complete_changes s tk k st h fl o a b; rw [e]
@[simp] theorem State.complete_syncEnds (tk : Ticket) (k st h fl o a b : Nat) : (s.complete tk k st h fl o a b).syncEnds = s.syncEnds := by
  obtain ⟨_, _, _, _, _, _, _, e⟩ := State.complete_changes s tk k st h fl o a b; rw [e]
@[simp] theorem State.complete_flash (tk : Ticket) (k st h fl o a b : Nat) : (s.complete tk k st h fl o a b).flash = s.flash := by
  obtain ⟨_, _, _, _, _, _, _, e⟩ := State.complete_changes s tk k st h fl o a b; rw [e]
@[simp] theorem State.complete_medium (tk : Ticket) (k st h fl o a b : Nat) : (s.complete tk k st h fl o a b).medium = s.medium := by
  obtain ⟨_, _, _, _, _, _, _, e⟩ := State.complete_changes s tk k st h fl o a b; rw [e]
@[simp] theorem State.complete_intakeClosed (tk : Ticket) (k st h fl o a b : Nat) : (s.complete tk k st h fl o a b).intakeClosed = s.intakeClosed := by
  obtain ⟨_, _, _, _, _, _, _, e⟩ := State.complete_changes s tk k st h fl o a b; rw [e]
@[simp] theorem State.complete_erasedMode (tk : Ticket) (k st h fl o a b : Nat) : (s.complete tk k st h fl o a b).erasedMode = s.erasedMode := by
  obtain ⟨_, _, _, _, _, _, _, e⟩ := State.complete_changes s tk k st h fl o a b; rw [e]
@[simp] theorem State.complete_rsp (tk : Ticket) (k st h fl o a b : Nat) : (s.complete tk k st h fl o a b).rsp = s.rsp := by
  obtain ⟨_, _, _, _, _, _, _, e⟩ := State.complete_changes s tk k st h fl o a b; rw [e]
@[simp] theorem State.complete_spAttn (tk : Ticket) (k st h fl o a b : Nat) : (s.complete tk k st h fl o a b).spAttn = s.spAttn := by
  obtain ⟨_, _, _, _, _, _, _, e⟩ := State.complete_changes s tk k st h fl o a b; rw [e]
@[simp] theorem State.complete_pending (tk : Ticket) (k st h fl o a b : Nat) : (s.complete tk k st h fl o a b).pending = s.pending := by
  obtain ⟨_, _, _, _, _, _, _, e⟩ := State.complete_changes s tk k st h fl o a b; rw [e]

/-! ### reserve -/

/-- It reserves a credit: no other field changes. -/
theorem State.reserve_changes (r : Src) : ∃ (n0 : List Mailbox), s.reserve r = { s with mbs := n0 } :=
  by
  unfold State.reserve; split
  · exact ⟨s.mbs, rfl⟩
  · exact ⟨_, rfl⟩

@[simp] theorem State.reserve_cfg (r : Src) : (s.reserve r).cfg = s.cfg := by
  obtain ⟨_, e⟩ := State.reserve_changes s r; rw [e]
@[simp] theorem State.reserve_tick (r : Src) : (s.reserve r).tick = s.tick := by
  obtain ⟨_, e⟩ := State.reserve_changes s r; rw [e]
@[simp] theorem State.reserve_fresh (r : Src) : (s.reserve r).fresh = s.fresh := by
  obtain ⟨_, e⟩ := State.reserve_changes s r; rw [e]
@[simp] theorem State.reserve_irq (r : Src) : (s.reserve r).irq = s.irq := by
  obtain ⟨_, e⟩ := State.reserve_changes s r; rw [e]
@[simp] theorem State.reserve_lcs (r : Src) : (s.reserve r).lcs = s.lcs := by
  obtain ⟨_, e⟩ := State.reserve_changes s r; rw [e]
@[simp] theorem State.reserve_boot (r : Src) : (s.reserve r).boot = s.boot := by
  obtain ⟨_, e⟩ := State.reserve_changes s r; rw [e]
@[simp] theorem State.reserve_fuses (r : Src) : (s.reserve r).fuses = s.fuses := by
  obtain ⟨_, e⟩ := State.reserve_changes s r; rw [e]
@[simp] theorem State.reserve_advance (r : Src) : (s.reserve r).advance = s.advance := by
  obtain ⟨_, e⟩ := State.reserve_changes s r; rw [e]
@[simp] theorem State.reserve_pwr (r : Src) : (s.reserve r).pwr = s.pwr := by
  obtain ⟨_, e⟩ := State.reserve_changes s r; rw [e]
@[simp] theorem State.reserve_sleep (r : Src) : (s.reserve r).sleep = s.sleep := by
  obtain ⟨_, e⟩ := State.reserve_changes s r; rw [e]
@[simp] theorem State.reserve_sb (r : Src) : (s.reserve r).sb = s.sb := by
  obtain ⟨_, e⟩ := State.reserve_changes s r; rw [e]
@[simp] theorem State.reserve_tap (r : Src) : (s.reserve r).tap = s.tap := by
  obtain ⟨_, e⟩ := State.reserve_changes s r; rw [e]
@[simp] theorem State.reserve_sched (r : Src) : (s.reserve r).sched = s.sched := by
  obtain ⟨_, e⟩ := State.reserve_changes s r; rw [e]
@[simp] theorem State.reserve_terr (r : Src) : (s.reserve r).terr = s.terr := by
  obtain ⟨_, e⟩ := State.reserve_changes s r; rw [e]
@[simp] theorem State.reserve_gens (r : Src) : (s.reserve r).gens = s.gens := by
  obtain ⟨_, e⟩ := State.reserve_changes s r; rw [e]
@[simp] theorem State.reserve_genBase (r : Src) : (s.reserve r).genBase = s.genBase := by
  obtain ⟨_, e⟩ := State.reserve_changes s r; rw [e]
@[simp] theorem State.reserve_instCount (r : Src) : (s.reserve r).instCount = s.instCount := by
  obtain ⟨_, e⟩ := State.reserve_changes s r; rw [e]
@[simp] theorem State.reserve_tasks (r : Src) : (s.reserve r).tasks = s.tasks := by
  obtain ⟨_, e⟩ := State.reserve_changes s r; rw [e]
@[simp] theorem State.reserve_cores (r : Src) : (s.reserve r).cores = s.cores := by
  obtain ⟨_, e⟩ := State.reserve_changes s r; rw [e]
@[simp] theorem State.reserve_programs (r : Src) : (s.reserve r).programs = s.programs := by
  obtain ⟨_, e⟩ := State.reserve_changes s r; rw [e]
@[simp] theorem State.reserve_rrBay (r : Src) : (s.reserve r).rrBay = s.rrBay := by
  obtain ⟨_, e⟩ := State.reserve_changes s r; rw [e]
@[simp] theorem State.reserve_hfp (r : Src) : (s.reserve r).hfp = s.hfp := by
  obtain ⟨_, e⟩ := State.reserve_changes s r; rw [e]
@[simp] theorem State.reserve_mp (r : Src) : (s.reserve r).mp = s.mp := by
  obtain ⟨_, e⟩ := State.reserve_changes s r; rw [e]
@[simp] theorem State.reserve_mpReady (r : Src) : (s.reserve r).mpReady = s.mpReady := by
  obtain ⟨_, e⟩ := State.reserve_changes s r; rw [e]
@[simp] theorem State.reserve_nextId (r : Src) : (s.reserve r).nextId = s.nextId := by
  obtain ⟨_, e⟩ := State.reserve_changes s r; rw [e]
@[simp] theorem State.reserve_egress (r : Src) : (s.reserve r).egress = s.egress := by
  obtain ⟨_, e⟩ := State.reserve_changes s r; rw [e]
@[simp] theorem State.reserve_spring (r : Src) : (s.reserve r).spring = s.spring := by
  obtain ⟨_, e⟩ := State.reserve_changes s r; rw [e]
@[simp] theorem State.reserve_faults (r : Src) : (s.reserve r).faults = s.faults := by
  obtain ⟨_, e⟩ := State.reserve_changes s r; rw [e]
@[simp] theorem State.reserve_cnt (r : Src) : (s.reserve r).cnt = s.cnt := by
  obtain ⟨_, e⟩ := State.reserve_changes s r; rw [e]
@[simp] theorem State.reserve_cntWin (r : Src) : (s.reserve r).cntWin = s.cntWin := by
  obtain ⟨_, e⟩ := State.reserve_changes s r; rw [e]
@[simp] theorem State.reserve_tbLatch (r : Src) : (s.reserve r).tbLatch = s.tbLatch := by
  obtain ⟨_, e⟩ := State.reserve_changes s r; rw [e]
@[simp] theorem State.reserve_clearing (r : Src) : (s.reserve r).clearing = s.clearing := by
  obtain ⟨_, e⟩ := State.reserve_changes s r; rw [e]
@[simp] theorem State.reserve_signals (r : Src) : (s.reserve r).signals = s.signals := by
  obtain ⟨_, e⟩ := State.reserve_changes s r; rw [e]
@[simp] theorem State.reserve_syncEnds (r : Src) : (s.reserve r).syncEnds = s.syncEnds := by
  obtain ⟨_, e⟩ := State.reserve_changes s r; rw [e]
@[simp] theorem State.reserve_flash (r : Src) : (s.reserve r).flash = s.flash := by
  obtain ⟨_, e⟩ := State.reserve_changes s r; rw [e]
@[simp] theorem State.reserve_medium (r : Src) : (s.reserve r).medium = s.medium := by
  obtain ⟨_, e⟩ := State.reserve_changes s r; rw [e]
@[simp] theorem State.reserve_intakeClosed (r : Src) : (s.reserve r).intakeClosed = s.intakeClosed := by
  obtain ⟨_, e⟩ := State.reserve_changes s r; rw [e]
@[simp] theorem State.reserve_erasedMode (r : Src) : (s.reserve r).erasedMode = s.erasedMode := by
  obtain ⟨_, e⟩ := State.reserve_changes s r; rw [e]
@[simp] theorem State.reserve_rsp (r : Src) : (s.reserve r).rsp = s.rsp := by
  obtain ⟨_, e⟩ := State.reserve_changes s r; rw [e]
@[simp] theorem State.reserve_spAttn (r : Src) : (s.reserve r).spAttn = s.spAttn := by
  obtain ⟨_, e⟩ := State.reserve_changes s r; rw [e]
@[simp] theorem State.reserve_pending (r : Src) : (s.reserve r).pending = s.pending := by
  obtain ⟨_, e⟩ := State.reserve_changes s r; rw [e]

/-! ### unreserve -/

/-- It gives a credit back: no other field changes. -/
theorem State.unreserve_changes (r : Src) : ∃ (n0 : List Mailbox), s.unreserve r = { s with mbs := n0 } :=
  by
  unfold State.unreserve; split
  · exact ⟨s.mbs, rfl⟩
  · exact ⟨_, rfl⟩

@[simp] theorem State.unreserve_cfg (r : Src) : (s.unreserve r).cfg = s.cfg := by
  obtain ⟨_, e⟩ := State.unreserve_changes s r; rw [e]
@[simp] theorem State.unreserve_tick (r : Src) : (s.unreserve r).tick = s.tick := by
  obtain ⟨_, e⟩ := State.unreserve_changes s r; rw [e]
@[simp] theorem State.unreserve_fresh (r : Src) : (s.unreserve r).fresh = s.fresh := by
  obtain ⟨_, e⟩ := State.unreserve_changes s r; rw [e]
@[simp] theorem State.unreserve_irq (r : Src) : (s.unreserve r).irq = s.irq := by
  obtain ⟨_, e⟩ := State.unreserve_changes s r; rw [e]
@[simp] theorem State.unreserve_lcs (r : Src) : (s.unreserve r).lcs = s.lcs := by
  obtain ⟨_, e⟩ := State.unreserve_changes s r; rw [e]
@[simp] theorem State.unreserve_boot (r : Src) : (s.unreserve r).boot = s.boot := by
  obtain ⟨_, e⟩ := State.unreserve_changes s r; rw [e]
@[simp] theorem State.unreserve_fuses (r : Src) : (s.unreserve r).fuses = s.fuses := by
  obtain ⟨_, e⟩ := State.unreserve_changes s r; rw [e]
@[simp] theorem State.unreserve_advance (r : Src) : (s.unreserve r).advance = s.advance := by
  obtain ⟨_, e⟩ := State.unreserve_changes s r; rw [e]
@[simp] theorem State.unreserve_pwr (r : Src) : (s.unreserve r).pwr = s.pwr := by
  obtain ⟨_, e⟩ := State.unreserve_changes s r; rw [e]
@[simp] theorem State.unreserve_sleep (r : Src) : (s.unreserve r).sleep = s.sleep := by
  obtain ⟨_, e⟩ := State.unreserve_changes s r; rw [e]
@[simp] theorem State.unreserve_sb (r : Src) : (s.unreserve r).sb = s.sb := by
  obtain ⟨_, e⟩ := State.unreserve_changes s r; rw [e]
@[simp] theorem State.unreserve_tap (r : Src) : (s.unreserve r).tap = s.tap := by
  obtain ⟨_, e⟩ := State.unreserve_changes s r; rw [e]
@[simp] theorem State.unreserve_sched (r : Src) : (s.unreserve r).sched = s.sched := by
  obtain ⟨_, e⟩ := State.unreserve_changes s r; rw [e]
@[simp] theorem State.unreserve_terr (r : Src) : (s.unreserve r).terr = s.terr := by
  obtain ⟨_, e⟩ := State.unreserve_changes s r; rw [e]
@[simp] theorem State.unreserve_gens (r : Src) : (s.unreserve r).gens = s.gens := by
  obtain ⟨_, e⟩ := State.unreserve_changes s r; rw [e]
@[simp] theorem State.unreserve_genBase (r : Src) : (s.unreserve r).genBase = s.genBase := by
  obtain ⟨_, e⟩ := State.unreserve_changes s r; rw [e]
@[simp] theorem State.unreserve_instCount (r : Src) : (s.unreserve r).instCount = s.instCount := by
  obtain ⟨_, e⟩ := State.unreserve_changes s r; rw [e]
@[simp] theorem State.unreserve_tasks (r : Src) : (s.unreserve r).tasks = s.tasks := by
  obtain ⟨_, e⟩ := State.unreserve_changes s r; rw [e]
@[simp] theorem State.unreserve_cores (r : Src) : (s.unreserve r).cores = s.cores := by
  obtain ⟨_, e⟩ := State.unreserve_changes s r; rw [e]
@[simp] theorem State.unreserve_programs (r : Src) : (s.unreserve r).programs = s.programs := by
  obtain ⟨_, e⟩ := State.unreserve_changes s r; rw [e]
@[simp] theorem State.unreserve_rrBay (r : Src) : (s.unreserve r).rrBay = s.rrBay := by
  obtain ⟨_, e⟩ := State.unreserve_changes s r; rw [e]
@[simp] theorem State.unreserve_hfp (r : Src) : (s.unreserve r).hfp = s.hfp := by
  obtain ⟨_, e⟩ := State.unreserve_changes s r; rw [e]
@[simp] theorem State.unreserve_mp (r : Src) : (s.unreserve r).mp = s.mp := by
  obtain ⟨_, e⟩ := State.unreserve_changes s r; rw [e]
@[simp] theorem State.unreserve_mpReady (r : Src) : (s.unreserve r).mpReady = s.mpReady := by
  obtain ⟨_, e⟩ := State.unreserve_changes s r; rw [e]
@[simp] theorem State.unreserve_nextId (r : Src) : (s.unreserve r).nextId = s.nextId := by
  obtain ⟨_, e⟩ := State.unreserve_changes s r; rw [e]
@[simp] theorem State.unreserve_egress (r : Src) : (s.unreserve r).egress = s.egress := by
  obtain ⟨_, e⟩ := State.unreserve_changes s r; rw [e]
@[simp] theorem State.unreserve_spring (r : Src) : (s.unreserve r).spring = s.spring := by
  obtain ⟨_, e⟩ := State.unreserve_changes s r; rw [e]
@[simp] theorem State.unreserve_faults (r : Src) : (s.unreserve r).faults = s.faults := by
  obtain ⟨_, e⟩ := State.unreserve_changes s r; rw [e]
@[simp] theorem State.unreserve_cnt (r : Src) : (s.unreserve r).cnt = s.cnt := by
  obtain ⟨_, e⟩ := State.unreserve_changes s r; rw [e]
@[simp] theorem State.unreserve_cntWin (r : Src) : (s.unreserve r).cntWin = s.cntWin := by
  obtain ⟨_, e⟩ := State.unreserve_changes s r; rw [e]
@[simp] theorem State.unreserve_tbLatch (r : Src) : (s.unreserve r).tbLatch = s.tbLatch := by
  obtain ⟨_, e⟩ := State.unreserve_changes s r; rw [e]
@[simp] theorem State.unreserve_clearing (r : Src) : (s.unreserve r).clearing = s.clearing := by
  obtain ⟨_, e⟩ := State.unreserve_changes s r; rw [e]
@[simp] theorem State.unreserve_signals (r : Src) : (s.unreserve r).signals = s.signals := by
  obtain ⟨_, e⟩ := State.unreserve_changes s r; rw [e]
@[simp] theorem State.unreserve_syncEnds (r : Src) : (s.unreserve r).syncEnds = s.syncEnds := by
  obtain ⟨_, e⟩ := State.unreserve_changes s r; rw [e]
@[simp] theorem State.unreserve_flash (r : Src) : (s.unreserve r).flash = s.flash := by
  obtain ⟨_, e⟩ := State.unreserve_changes s r; rw [e]
@[simp] theorem State.unreserve_medium (r : Src) : (s.unreserve r).medium = s.medium := by
  obtain ⟨_, e⟩ := State.unreserve_changes s r; rw [e]
@[simp] theorem State.unreserve_intakeClosed (r : Src) : (s.unreserve r).intakeClosed = s.intakeClosed := by
  obtain ⟨_, e⟩ := State.unreserve_changes s r; rw [e]
@[simp] theorem State.unreserve_erasedMode (r : Src) : (s.unreserve r).erasedMode = s.erasedMode := by
  obtain ⟨_, e⟩ := State.unreserve_changes s r; rw [e]
@[simp] theorem State.unreserve_rsp (r : Src) : (s.unreserve r).rsp = s.rsp := by
  obtain ⟨_, e⟩ := State.unreserve_changes s r; rw [e]
@[simp] theorem State.unreserve_spAttn (r : Src) : (s.unreserve r).spAttn = s.spAttn := by
  obtain ⟨_, e⟩ := State.unreserve_changes s r; rw [e]
@[simp] theorem State.unreserve_pending (r : Src) : (s.unreserve r).pending = s.pending := by
  obtain ⟨_, e⟩ := State.unreserve_changes s r; rw [e]

/-! ### first -/

/-- It writes a FIRST and reserves a credit: no other field changes. -/
theorem State.first_changes (tk : Ticket) (h : Nat) : ∃ (n0 : Irq) (n1 : Sideband) (n2 : List Mailbox) (n3 : List HfpOp) (n4 : Nat) (n5 : Faults) (n6 : Counters), s.first tk h = { s with irq := n0, sb := n1, mbs := n2, hfp := n3, nextId := n4, faults := n5, cnt := n6 } :=
  by
  unfold State.first
  obtain ⟨x, y, z, w, v, f, c, h1⟩ := State.complete_changes s tk kFIRST stACCEPTED h 0 noField 0 0
  obtain ⟨m, h2⟩ := State.reserve_changes (s.complete tk kFIRST stACCEPTED h 0 noField 0 0) tk.src
  exact ⟨x, y, m, w, v, f, c, h2.trans (by rw [h1])⟩

@[simp] theorem State.first_cfg (tk : Ticket) (h : Nat) : (s.first tk h).cfg = s.cfg := by
  obtain ⟨_, _, _, _, _, _, _, e⟩ := State.first_changes s tk h; rw [e]
@[simp] theorem State.first_tick (tk : Ticket) (h : Nat) : (s.first tk h).tick = s.tick := by
  obtain ⟨_, _, _, _, _, _, _, e⟩ := State.first_changes s tk h; rw [e]
@[simp] theorem State.first_fresh (tk : Ticket) (h : Nat) : (s.first tk h).fresh = s.fresh := by
  obtain ⟨_, _, _, _, _, _, _, e⟩ := State.first_changes s tk h; rw [e]
@[simp] theorem State.first_lcs (tk : Ticket) (h : Nat) : (s.first tk h).lcs = s.lcs := by
  obtain ⟨_, _, _, _, _, _, _, e⟩ := State.first_changes s tk h; rw [e]
@[simp] theorem State.first_boot (tk : Ticket) (h : Nat) : (s.first tk h).boot = s.boot := by
  obtain ⟨_, _, _, _, _, _, _, e⟩ := State.first_changes s tk h; rw [e]
@[simp] theorem State.first_fuses (tk : Ticket) (h : Nat) : (s.first tk h).fuses = s.fuses := by
  obtain ⟨_, _, _, _, _, _, _, e⟩ := State.first_changes s tk h; rw [e]
@[simp] theorem State.first_advance (tk : Ticket) (h : Nat) : (s.first tk h).advance = s.advance := by
  obtain ⟨_, _, _, _, _, _, _, e⟩ := State.first_changes s tk h; rw [e]
@[simp] theorem State.first_pwr (tk : Ticket) (h : Nat) : (s.first tk h).pwr = s.pwr := by
  obtain ⟨_, _, _, _, _, _, _, e⟩ := State.first_changes s tk h; rw [e]
@[simp] theorem State.first_sleep (tk : Ticket) (h : Nat) : (s.first tk h).sleep = s.sleep := by
  obtain ⟨_, _, _, _, _, _, _, e⟩ := State.first_changes s tk h; rw [e]
@[simp] theorem State.first_tap (tk : Ticket) (h : Nat) : (s.first tk h).tap = s.tap := by
  obtain ⟨_, _, _, _, _, _, _, e⟩ := State.first_changes s tk h; rw [e]
@[simp] theorem State.first_sched (tk : Ticket) (h : Nat) : (s.first tk h).sched = s.sched := by
  obtain ⟨_, _, _, _, _, _, _, e⟩ := State.first_changes s tk h; rw [e]
@[simp] theorem State.first_terr (tk : Ticket) (h : Nat) : (s.first tk h).terr = s.terr := by
  obtain ⟨_, _, _, _, _, _, _, e⟩ := State.first_changes s tk h; rw [e]
@[simp] theorem State.first_gens (tk : Ticket) (h : Nat) : (s.first tk h).gens = s.gens := by
  obtain ⟨_, _, _, _, _, _, _, e⟩ := State.first_changes s tk h; rw [e]
@[simp] theorem State.first_genBase (tk : Ticket) (h : Nat) : (s.first tk h).genBase = s.genBase := by
  obtain ⟨_, _, _, _, _, _, _, e⟩ := State.first_changes s tk h; rw [e]
@[simp] theorem State.first_instCount (tk : Ticket) (h : Nat) : (s.first tk h).instCount = s.instCount := by
  obtain ⟨_, _, _, _, _, _, _, e⟩ := State.first_changes s tk h; rw [e]
@[simp] theorem State.first_tasks (tk : Ticket) (h : Nat) : (s.first tk h).tasks = s.tasks := by
  obtain ⟨_, _, _, _, _, _, _, e⟩ := State.first_changes s tk h; rw [e]
@[simp] theorem State.first_cores (tk : Ticket) (h : Nat) : (s.first tk h).cores = s.cores := by
  obtain ⟨_, _, _, _, _, _, _, e⟩ := State.first_changes s tk h; rw [e]
@[simp] theorem State.first_programs (tk : Ticket) (h : Nat) : (s.first tk h).programs = s.programs := by
  obtain ⟨_, _, _, _, _, _, _, e⟩ := State.first_changes s tk h; rw [e]
@[simp] theorem State.first_rrBay (tk : Ticket) (h : Nat) : (s.first tk h).rrBay = s.rrBay := by
  obtain ⟨_, _, _, _, _, _, _, e⟩ := State.first_changes s tk h; rw [e]
@[simp] theorem State.first_mp (tk : Ticket) (h : Nat) : (s.first tk h).mp = s.mp := by
  obtain ⟨_, _, _, _, _, _, _, e⟩ := State.first_changes s tk h; rw [e]
@[simp] theorem State.first_mpReady (tk : Ticket) (h : Nat) : (s.first tk h).mpReady = s.mpReady := by
  obtain ⟨_, _, _, _, _, _, _, e⟩ := State.first_changes s tk h; rw [e]
@[simp] theorem State.first_egress (tk : Ticket) (h : Nat) : (s.first tk h).egress = s.egress := by
  obtain ⟨_, _, _, _, _, _, _, e⟩ := State.first_changes s tk h; rw [e]
@[simp] theorem State.first_spring (tk : Ticket) (h : Nat) : (s.first tk h).spring = s.spring := by
  obtain ⟨_, _, _, _, _, _, _, e⟩ := State.first_changes s tk h; rw [e]
@[simp] theorem State.first_cntWin (tk : Ticket) (h : Nat) : (s.first tk h).cntWin = s.cntWin := by
  obtain ⟨_, _, _, _, _, _, _, e⟩ := State.first_changes s tk h; rw [e]
@[simp] theorem State.first_tbLatch (tk : Ticket) (h : Nat) : (s.first tk h).tbLatch = s.tbLatch := by
  obtain ⟨_, _, _, _, _, _, _, e⟩ := State.first_changes s tk h; rw [e]
@[simp] theorem State.first_clearing (tk : Ticket) (h : Nat) : (s.first tk h).clearing = s.clearing := by
  obtain ⟨_, _, _, _, _, _, _, e⟩ := State.first_changes s tk h; rw [e]
@[simp] theorem State.first_signals (tk : Ticket) (h : Nat) : (s.first tk h).signals = s.signals := by
  obtain ⟨_, _, _, _, _, _, _, e⟩ := State.first_changes s tk h; rw [e]
@[simp] theorem State.first_syncEnds (tk : Ticket) (h : Nat) : (s.first tk h).syncEnds = s.syncEnds := by
  obtain ⟨_, _, _, _, _, _, _, e⟩ := State.first_changes s tk h; rw [e]
@[simp] theorem State.first_flash (tk : Ticket) (h : Nat) : (s.first tk h).flash = s.flash := by
  obtain ⟨_, _, _, _, _, _, _, e⟩ := State.first_changes s tk h; rw [e]
@[simp] theorem State.first_medium (tk : Ticket) (h : Nat) : (s.first tk h).medium = s.medium := by
  obtain ⟨_, _, _, _, _, _, _, e⟩ := State.first_changes s tk h; rw [e]
@[simp] theorem State.first_intakeClosed (tk : Ticket) (h : Nat) : (s.first tk h).intakeClosed = s.intakeClosed := by
  obtain ⟨_, _, _, _, _, _, _, e⟩ := State.first_changes s tk h; rw [e]
@[simp] theorem State.first_erasedMode (tk : Ticket) (h : Nat) : (s.first tk h).erasedMode = s.erasedMode := by
  obtain ⟨_, _, _, _, _, _, _, e⟩ := State.first_changes s tk h; rw [e]
@[simp] theorem State.first_rsp (tk : Ticket) (h : Nat) : (s.first tk h).rsp = s.rsp := by
  obtain ⟨_, _, _, _, _, _, _, e⟩ := State.first_changes s tk h; rw [e]
@[simp] theorem State.first_spAttn (tk : Ticket) (h : Nat) : (s.first tk h).spAttn = s.spAttn := by
  obtain ⟨_, _, _, _, _, _, _, e⟩ := State.first_changes s tk h; rw [e]
@[simp] theorem State.first_pending (tk : Ticket) (h : Nat) : (s.first tk h).pending = s.pending := by
  obtain ⟨_, _, _, _, _, _, _, e⟩ := State.first_changes s tk h; rw [e]

/-! ### final -/

/-- It writes a FINAL against its credit: no other field changes. -/
theorem State.final_changes (tk : Ticket) (st h fl o a b : Nat) : ∃ (n0 : Irq) (n1 : Sideband) (n2 : List Mailbox) (n3 : List HfpOp) (n4 : Nat) (n5 : Faults) (n6 : Counters), s.final tk st h fl o a b = { s with irq := n0, sb := n1, mbs := n2, hfp := n3, nextId := n4, faults := n5, cnt := n6 } :=
  by
  unfold State.final
  obtain ⟨m, h1⟩ := State.unreserve_changes s tk.src
  obtain ⟨x, y, z, w, v, f, c, h2⟩ := State.complete_changes (s.unreserve tk.src) tk kFINAL st h fl o a b
  exact ⟨x, y, z, w, v, f, c, h2.trans (by rw [h1])⟩

@[simp] theorem State.final_cfg (tk : Ticket) (st h fl o a b : Nat) : (s.final tk st h fl o a b).cfg = s.cfg := by
  obtain ⟨_, _, _, _, _, _, _, e⟩ := State.final_changes s tk st h fl o a b; rw [e]
@[simp] theorem State.final_tick (tk : Ticket) (st h fl o a b : Nat) : (s.final tk st h fl o a b).tick = s.tick := by
  obtain ⟨_, _, _, _, _, _, _, e⟩ := State.final_changes s tk st h fl o a b; rw [e]
@[simp] theorem State.final_fresh (tk : Ticket) (st h fl o a b : Nat) : (s.final tk st h fl o a b).fresh = s.fresh := by
  obtain ⟨_, _, _, _, _, _, _, e⟩ := State.final_changes s tk st h fl o a b; rw [e]
@[simp] theorem State.final_lcs (tk : Ticket) (st h fl o a b : Nat) : (s.final tk st h fl o a b).lcs = s.lcs := by
  obtain ⟨_, _, _, _, _, _, _, e⟩ := State.final_changes s tk st h fl o a b; rw [e]
@[simp] theorem State.final_boot (tk : Ticket) (st h fl o a b : Nat) : (s.final tk st h fl o a b).boot = s.boot := by
  obtain ⟨_, _, _, _, _, _, _, e⟩ := State.final_changes s tk st h fl o a b; rw [e]
@[simp] theorem State.final_fuses (tk : Ticket) (st h fl o a b : Nat) : (s.final tk st h fl o a b).fuses = s.fuses := by
  obtain ⟨_, _, _, _, _, _, _, e⟩ := State.final_changes s tk st h fl o a b; rw [e]
@[simp] theorem State.final_advance (tk : Ticket) (st h fl o a b : Nat) : (s.final tk st h fl o a b).advance = s.advance := by
  obtain ⟨_, _, _, _, _, _, _, e⟩ := State.final_changes s tk st h fl o a b; rw [e]
@[simp] theorem State.final_pwr (tk : Ticket) (st h fl o a b : Nat) : (s.final tk st h fl o a b).pwr = s.pwr := by
  obtain ⟨_, _, _, _, _, _, _, e⟩ := State.final_changes s tk st h fl o a b; rw [e]
@[simp] theorem State.final_sleep (tk : Ticket) (st h fl o a b : Nat) : (s.final tk st h fl o a b).sleep = s.sleep := by
  obtain ⟨_, _, _, _, _, _, _, e⟩ := State.final_changes s tk st h fl o a b; rw [e]
@[simp] theorem State.final_tap (tk : Ticket) (st h fl o a b : Nat) : (s.final tk st h fl o a b).tap = s.tap := by
  obtain ⟨_, _, _, _, _, _, _, e⟩ := State.final_changes s tk st h fl o a b; rw [e]
@[simp] theorem State.final_sched (tk : Ticket) (st h fl o a b : Nat) : (s.final tk st h fl o a b).sched = s.sched := by
  obtain ⟨_, _, _, _, _, _, _, e⟩ := State.final_changes s tk st h fl o a b; rw [e]
@[simp] theorem State.final_terr (tk : Ticket) (st h fl o a b : Nat) : (s.final tk st h fl o a b).terr = s.terr := by
  obtain ⟨_, _, _, _, _, _, _, e⟩ := State.final_changes s tk st h fl o a b; rw [e]
@[simp] theorem State.final_gens (tk : Ticket) (st h fl o a b : Nat) : (s.final tk st h fl o a b).gens = s.gens := by
  obtain ⟨_, _, _, _, _, _, _, e⟩ := State.final_changes s tk st h fl o a b; rw [e]
@[simp] theorem State.final_genBase (tk : Ticket) (st h fl o a b : Nat) : (s.final tk st h fl o a b).genBase = s.genBase := by
  obtain ⟨_, _, _, _, _, _, _, e⟩ := State.final_changes s tk st h fl o a b; rw [e]
@[simp] theorem State.final_instCount (tk : Ticket) (st h fl o a b : Nat) : (s.final tk st h fl o a b).instCount = s.instCount := by
  obtain ⟨_, _, _, _, _, _, _, e⟩ := State.final_changes s tk st h fl o a b; rw [e]
@[simp] theorem State.final_tasks (tk : Ticket) (st h fl o a b : Nat) : (s.final tk st h fl o a b).tasks = s.tasks := by
  obtain ⟨_, _, _, _, _, _, _, e⟩ := State.final_changes s tk st h fl o a b; rw [e]
@[simp] theorem State.final_cores (tk : Ticket) (st h fl o a b : Nat) : (s.final tk st h fl o a b).cores = s.cores := by
  obtain ⟨_, _, _, _, _, _, _, e⟩ := State.final_changes s tk st h fl o a b; rw [e]
@[simp] theorem State.final_programs (tk : Ticket) (st h fl o a b : Nat) : (s.final tk st h fl o a b).programs = s.programs := by
  obtain ⟨_, _, _, _, _, _, _, e⟩ := State.final_changes s tk st h fl o a b; rw [e]
@[simp] theorem State.final_rrBay (tk : Ticket) (st h fl o a b : Nat) : (s.final tk st h fl o a b).rrBay = s.rrBay := by
  obtain ⟨_, _, _, _, _, _, _, e⟩ := State.final_changes s tk st h fl o a b; rw [e]
@[simp] theorem State.final_mp (tk : Ticket) (st h fl o a b : Nat) : (s.final tk st h fl o a b).mp = s.mp := by
  obtain ⟨_, _, _, _, _, _, _, e⟩ := State.final_changes s tk st h fl o a b; rw [e]
@[simp] theorem State.final_mpReady (tk : Ticket) (st h fl o a b : Nat) : (s.final tk st h fl o a b).mpReady = s.mpReady := by
  obtain ⟨_, _, _, _, _, _, _, e⟩ := State.final_changes s tk st h fl o a b; rw [e]
@[simp] theorem State.final_egress (tk : Ticket) (st h fl o a b : Nat) : (s.final tk st h fl o a b).egress = s.egress := by
  obtain ⟨_, _, _, _, _, _, _, e⟩ := State.final_changes s tk st h fl o a b; rw [e]
@[simp] theorem State.final_spring (tk : Ticket) (st h fl o a b : Nat) : (s.final tk st h fl o a b).spring = s.spring := by
  obtain ⟨_, _, _, _, _, _, _, e⟩ := State.final_changes s tk st h fl o a b; rw [e]
@[simp] theorem State.final_cntWin (tk : Ticket) (st h fl o a b : Nat) : (s.final tk st h fl o a b).cntWin = s.cntWin := by
  obtain ⟨_, _, _, _, _, _, _, e⟩ := State.final_changes s tk st h fl o a b; rw [e]
@[simp] theorem State.final_tbLatch (tk : Ticket) (st h fl o a b : Nat) : (s.final tk st h fl o a b).tbLatch = s.tbLatch := by
  obtain ⟨_, _, _, _, _, _, _, e⟩ := State.final_changes s tk st h fl o a b; rw [e]
@[simp] theorem State.final_clearing (tk : Ticket) (st h fl o a b : Nat) : (s.final tk st h fl o a b).clearing = s.clearing := by
  obtain ⟨_, _, _, _, _, _, _, e⟩ := State.final_changes s tk st h fl o a b; rw [e]
@[simp] theorem State.final_signals (tk : Ticket) (st h fl o a b : Nat) : (s.final tk st h fl o a b).signals = s.signals := by
  obtain ⟨_, _, _, _, _, _, _, e⟩ := State.final_changes s tk st h fl o a b; rw [e]
@[simp] theorem State.final_syncEnds (tk : Ticket) (st h fl o a b : Nat) : (s.final tk st h fl o a b).syncEnds = s.syncEnds := by
  obtain ⟨_, _, _, _, _, _, _, e⟩ := State.final_changes s tk st h fl o a b; rw [e]
@[simp] theorem State.final_flash (tk : Ticket) (st h fl o a b : Nat) : (s.final tk st h fl o a b).flash = s.flash := by
  obtain ⟨_, _, _, _, _, _, _, e⟩ := State.final_changes s tk st h fl o a b; rw [e]
@[simp] theorem State.final_medium (tk : Ticket) (st h fl o a b : Nat) : (s.final tk st h fl o a b).medium = s.medium := by
  obtain ⟨_, _, _, _, _, _, _, e⟩ := State.final_changes s tk st h fl o a b; rw [e]
@[simp] theorem State.final_intakeClosed (tk : Ticket) (st h fl o a b : Nat) : (s.final tk st h fl o a b).intakeClosed = s.intakeClosed := by
  obtain ⟨_, _, _, _, _, _, _, e⟩ := State.final_changes s tk st h fl o a b; rw [e]
@[simp] theorem State.final_erasedMode (tk : Ticket) (st h fl o a b : Nat) : (s.final tk st h fl o a b).erasedMode = s.erasedMode := by
  obtain ⟨_, _, _, _, _, _, _, e⟩ := State.final_changes s tk st h fl o a b; rw [e]
@[simp] theorem State.final_rsp (tk : Ticket) (st h fl o a b : Nat) : (s.final tk st h fl o a b).rsp = s.rsp := by
  obtain ⟨_, _, _, _, _, _, _, e⟩ := State.final_changes s tk st h fl o a b; rw [e]
@[simp] theorem State.final_spAttn (tk : Ticket) (st h fl o a b : Nat) : (s.final tk st h fl o a b).spAttn = s.spAttn := by
  obtain ⟨_, _, _, _, _, _, _, e⟩ := State.final_changes s tk st h fl o a b; rw [e]
@[simp] theorem State.final_pending (tk : Ticket) (st h fl o a b : Nat) : (s.final tk st h fl o a b).pending = s.pending := by
  obtain ⟨_, _, _, _, _, _, _, e⟩ := State.final_changes s tk st h fl o a b; rw [e]

/-! ### only -/

/-- It writes an ONLY: no other field changes. -/
theorem State.only_changes (tk : Ticket) (st h a b : Nat) : ∃ (n0 : Irq) (n1 : Sideband) (n2 : List Mailbox) (n3 : List HfpOp) (n4 : Nat) (n5 : Faults) (n6 : Counters), s.only tk st h a b = { s with irq := n0, sb := n1, mbs := n2, hfp := n3, nextId := n4, faults := n5, cnt := n6 } :=
  State.complete_changes s tk kONLY st h 0 noField a b

@[simp] theorem State.only_cfg (tk : Ticket) (st h a b : Nat) : (s.only tk st h a b).cfg = s.cfg := by
  obtain ⟨_, _, _, _, _, _, _, e⟩ := State.only_changes s tk st h a b; rw [e]
@[simp] theorem State.only_tick (tk : Ticket) (st h a b : Nat) : (s.only tk st h a b).tick = s.tick := by
  obtain ⟨_, _, _, _, _, _, _, e⟩ := State.only_changes s tk st h a b; rw [e]
@[simp] theorem State.only_fresh (tk : Ticket) (st h a b : Nat) : (s.only tk st h a b).fresh = s.fresh := by
  obtain ⟨_, _, _, _, _, _, _, e⟩ := State.only_changes s tk st h a b; rw [e]
@[simp] theorem State.only_lcs (tk : Ticket) (st h a b : Nat) : (s.only tk st h a b).lcs = s.lcs := by
  obtain ⟨_, _, _, _, _, _, _, e⟩ := State.only_changes s tk st h a b; rw [e]
@[simp] theorem State.only_boot (tk : Ticket) (st h a b : Nat) : (s.only tk st h a b).boot = s.boot := by
  obtain ⟨_, _, _, _, _, _, _, e⟩ := State.only_changes s tk st h a b; rw [e]
@[simp] theorem State.only_fuses (tk : Ticket) (st h a b : Nat) : (s.only tk st h a b).fuses = s.fuses := by
  obtain ⟨_, _, _, _, _, _, _, e⟩ := State.only_changes s tk st h a b; rw [e]
@[simp] theorem State.only_advance (tk : Ticket) (st h a b : Nat) : (s.only tk st h a b).advance = s.advance := by
  obtain ⟨_, _, _, _, _, _, _, e⟩ := State.only_changes s tk st h a b; rw [e]
@[simp] theorem State.only_pwr (tk : Ticket) (st h a b : Nat) : (s.only tk st h a b).pwr = s.pwr := by
  obtain ⟨_, _, _, _, _, _, _, e⟩ := State.only_changes s tk st h a b; rw [e]
@[simp] theorem State.only_sleep (tk : Ticket) (st h a b : Nat) : (s.only tk st h a b).sleep = s.sleep := by
  obtain ⟨_, _, _, _, _, _, _, e⟩ := State.only_changes s tk st h a b; rw [e]
@[simp] theorem State.only_tap (tk : Ticket) (st h a b : Nat) : (s.only tk st h a b).tap = s.tap := by
  obtain ⟨_, _, _, _, _, _, _, e⟩ := State.only_changes s tk st h a b; rw [e]
@[simp] theorem State.only_sched (tk : Ticket) (st h a b : Nat) : (s.only tk st h a b).sched = s.sched := by
  obtain ⟨_, _, _, _, _, _, _, e⟩ := State.only_changes s tk st h a b; rw [e]
@[simp] theorem State.only_terr (tk : Ticket) (st h a b : Nat) : (s.only tk st h a b).terr = s.terr := by
  obtain ⟨_, _, _, _, _, _, _, e⟩ := State.only_changes s tk st h a b; rw [e]
@[simp] theorem State.only_gens (tk : Ticket) (st h a b : Nat) : (s.only tk st h a b).gens = s.gens := by
  obtain ⟨_, _, _, _, _, _, _, e⟩ := State.only_changes s tk st h a b; rw [e]
@[simp] theorem State.only_genBase (tk : Ticket) (st h a b : Nat) : (s.only tk st h a b).genBase = s.genBase := by
  obtain ⟨_, _, _, _, _, _, _, e⟩ := State.only_changes s tk st h a b; rw [e]
@[simp] theorem State.only_instCount (tk : Ticket) (st h a b : Nat) : (s.only tk st h a b).instCount = s.instCount := by
  obtain ⟨_, _, _, _, _, _, _, e⟩ := State.only_changes s tk st h a b; rw [e]
@[simp] theorem State.only_tasks (tk : Ticket) (st h a b : Nat) : (s.only tk st h a b).tasks = s.tasks := by
  obtain ⟨_, _, _, _, _, _, _, e⟩ := State.only_changes s tk st h a b; rw [e]
@[simp] theorem State.only_cores (tk : Ticket) (st h a b : Nat) : (s.only tk st h a b).cores = s.cores := by
  obtain ⟨_, _, _, _, _, _, _, e⟩ := State.only_changes s tk st h a b; rw [e]
@[simp] theorem State.only_programs (tk : Ticket) (st h a b : Nat) : (s.only tk st h a b).programs = s.programs := by
  obtain ⟨_, _, _, _, _, _, _, e⟩ := State.only_changes s tk st h a b; rw [e]
@[simp] theorem State.only_rrBay (tk : Ticket) (st h a b : Nat) : (s.only tk st h a b).rrBay = s.rrBay := by
  obtain ⟨_, _, _, _, _, _, _, e⟩ := State.only_changes s tk st h a b; rw [e]
@[simp] theorem State.only_mp (tk : Ticket) (st h a b : Nat) : (s.only tk st h a b).mp = s.mp := by
  obtain ⟨_, _, _, _, _, _, _, e⟩ := State.only_changes s tk st h a b; rw [e]
@[simp] theorem State.only_mpReady (tk : Ticket) (st h a b : Nat) : (s.only tk st h a b).mpReady = s.mpReady := by
  obtain ⟨_, _, _, _, _, _, _, e⟩ := State.only_changes s tk st h a b; rw [e]
@[simp] theorem State.only_egress (tk : Ticket) (st h a b : Nat) : (s.only tk st h a b).egress = s.egress := by
  obtain ⟨_, _, _, _, _, _, _, e⟩ := State.only_changes s tk st h a b; rw [e]
@[simp] theorem State.only_spring (tk : Ticket) (st h a b : Nat) : (s.only tk st h a b).spring = s.spring := by
  obtain ⟨_, _, _, _, _, _, _, e⟩ := State.only_changes s tk st h a b; rw [e]
@[simp] theorem State.only_cntWin (tk : Ticket) (st h a b : Nat) : (s.only tk st h a b).cntWin = s.cntWin := by
  obtain ⟨_, _, _, _, _, _, _, e⟩ := State.only_changes s tk st h a b; rw [e]
@[simp] theorem State.only_tbLatch (tk : Ticket) (st h a b : Nat) : (s.only tk st h a b).tbLatch = s.tbLatch := by
  obtain ⟨_, _, _, _, _, _, _, e⟩ := State.only_changes s tk st h a b; rw [e]
@[simp] theorem State.only_clearing (tk : Ticket) (st h a b : Nat) : (s.only tk st h a b).clearing = s.clearing := by
  obtain ⟨_, _, _, _, _, _, _, e⟩ := State.only_changes s tk st h a b; rw [e]
@[simp] theorem State.only_signals (tk : Ticket) (st h a b : Nat) : (s.only tk st h a b).signals = s.signals := by
  obtain ⟨_, _, _, _, _, _, _, e⟩ := State.only_changes s tk st h a b; rw [e]
@[simp] theorem State.only_syncEnds (tk : Ticket) (st h a b : Nat) : (s.only tk st h a b).syncEnds = s.syncEnds := by
  obtain ⟨_, _, _, _, _, _, _, e⟩ := State.only_changes s tk st h a b; rw [e]
@[simp] theorem State.only_flash (tk : Ticket) (st h a b : Nat) : (s.only tk st h a b).flash = s.flash := by
  obtain ⟨_, _, _, _, _, _, _, e⟩ := State.only_changes s tk st h a b; rw [e]
@[simp] theorem State.only_medium (tk : Ticket) (st h a b : Nat) : (s.only tk st h a b).medium = s.medium := by
  obtain ⟨_, _, _, _, _, _, _, e⟩ := State.only_changes s tk st h a b; rw [e]
@[simp] theorem State.only_intakeClosed (tk : Ticket) (st h a b : Nat) : (s.only tk st h a b).intakeClosed = s.intakeClosed := by
  obtain ⟨_, _, _, _, _, _, _, e⟩ := State.only_changes s tk st h a b; rw [e]
@[simp] theorem State.only_erasedMode (tk : Ticket) (st h a b : Nat) : (s.only tk st h a b).erasedMode = s.erasedMode := by
  obtain ⟨_, _, _, _, _, _, _, e⟩ := State.only_changes s tk st h a b; rw [e]
@[simp] theorem State.only_rsp (tk : Ticket) (st h a b : Nat) : (s.only tk st h a b).rsp = s.rsp := by
  obtain ⟨_, _, _, _, _, _, _, e⟩ := State.only_changes s tk st h a b; rw [e]
@[simp] theorem State.only_spAttn (tk : Ticket) (st h a b : Nat) : (s.only tk st h a b).spAttn = s.spAttn := by
  obtain ⟨_, _, _, _, _, _, _, e⟩ := State.only_changes s tk st h a b; rw [e]
@[simp] theorem State.only_pending (tk : Ticket) (st h a b : Nat) : (s.only tk st h a b).pending = s.pending := by
  obtain ⟨_, _, _, _, _, _, _, e⟩ := State.only_changes s tk st h a b; rw [e]

/-! ### refuse -/

/-- It writes an ONLY with a failure: no other field changes. -/
theorem State.refuse_changes (tk : Ticket) (st o : Nat) : ∃ (n0 : Irq) (n1 : Sideband) (n2 : List Mailbox) (n3 : List HfpOp) (n4 : Nat) (n5 : Faults) (n6 : Counters), s.refuse tk st o = { s with irq := n0, sb := n1, mbs := n2, hfp := n3, nextId := n4, faults := n5, cnt := n6 } :=
  State.complete_changes s tk kONLY st tk.handle 0 o 0 0

@[simp] theorem State.refuse_cfg (tk : Ticket) (st o : Nat) : (s.refuse tk st o).cfg = s.cfg := by
  obtain ⟨_, _, _, _, _, _, _, e⟩ := State.refuse_changes s tk st o; rw [e]
@[simp] theorem State.refuse_tick (tk : Ticket) (st o : Nat) : (s.refuse tk st o).tick = s.tick := by
  obtain ⟨_, _, _, _, _, _, _, e⟩ := State.refuse_changes s tk st o; rw [e]
@[simp] theorem State.refuse_fresh (tk : Ticket) (st o : Nat) : (s.refuse tk st o).fresh = s.fresh := by
  obtain ⟨_, _, _, _, _, _, _, e⟩ := State.refuse_changes s tk st o; rw [e]
@[simp] theorem State.refuse_lcs (tk : Ticket) (st o : Nat) : (s.refuse tk st o).lcs = s.lcs := by
  obtain ⟨_, _, _, _, _, _, _, e⟩ := State.refuse_changes s tk st o; rw [e]
@[simp] theorem State.refuse_boot (tk : Ticket) (st o : Nat) : (s.refuse tk st o).boot = s.boot := by
  obtain ⟨_, _, _, _, _, _, _, e⟩ := State.refuse_changes s tk st o; rw [e]
@[simp] theorem State.refuse_fuses (tk : Ticket) (st o : Nat) : (s.refuse tk st o).fuses = s.fuses := by
  obtain ⟨_, _, _, _, _, _, _, e⟩ := State.refuse_changes s tk st o; rw [e]
@[simp] theorem State.refuse_advance (tk : Ticket) (st o : Nat) : (s.refuse tk st o).advance = s.advance := by
  obtain ⟨_, _, _, _, _, _, _, e⟩ := State.refuse_changes s tk st o; rw [e]
@[simp] theorem State.refuse_pwr (tk : Ticket) (st o : Nat) : (s.refuse tk st o).pwr = s.pwr := by
  obtain ⟨_, _, _, _, _, _, _, e⟩ := State.refuse_changes s tk st o; rw [e]
@[simp] theorem State.refuse_sleep (tk : Ticket) (st o : Nat) : (s.refuse tk st o).sleep = s.sleep := by
  obtain ⟨_, _, _, _, _, _, _, e⟩ := State.refuse_changes s tk st o; rw [e]
@[simp] theorem State.refuse_tap (tk : Ticket) (st o : Nat) : (s.refuse tk st o).tap = s.tap := by
  obtain ⟨_, _, _, _, _, _, _, e⟩ := State.refuse_changes s tk st o; rw [e]
@[simp] theorem State.refuse_sched (tk : Ticket) (st o : Nat) : (s.refuse tk st o).sched = s.sched := by
  obtain ⟨_, _, _, _, _, _, _, e⟩ := State.refuse_changes s tk st o; rw [e]
@[simp] theorem State.refuse_terr (tk : Ticket) (st o : Nat) : (s.refuse tk st o).terr = s.terr := by
  obtain ⟨_, _, _, _, _, _, _, e⟩ := State.refuse_changes s tk st o; rw [e]
@[simp] theorem State.refuse_gens (tk : Ticket) (st o : Nat) : (s.refuse tk st o).gens = s.gens := by
  obtain ⟨_, _, _, _, _, _, _, e⟩ := State.refuse_changes s tk st o; rw [e]
@[simp] theorem State.refuse_genBase (tk : Ticket) (st o : Nat) : (s.refuse tk st o).genBase = s.genBase := by
  obtain ⟨_, _, _, _, _, _, _, e⟩ := State.refuse_changes s tk st o; rw [e]
@[simp] theorem State.refuse_instCount (tk : Ticket) (st o : Nat) : (s.refuse tk st o).instCount = s.instCount := by
  obtain ⟨_, _, _, _, _, _, _, e⟩ := State.refuse_changes s tk st o; rw [e]
@[simp] theorem State.refuse_tasks (tk : Ticket) (st o : Nat) : (s.refuse tk st o).tasks = s.tasks := by
  obtain ⟨_, _, _, _, _, _, _, e⟩ := State.refuse_changes s tk st o; rw [e]
@[simp] theorem State.refuse_cores (tk : Ticket) (st o : Nat) : (s.refuse tk st o).cores = s.cores := by
  obtain ⟨_, _, _, _, _, _, _, e⟩ := State.refuse_changes s tk st o; rw [e]
@[simp] theorem State.refuse_programs (tk : Ticket) (st o : Nat) : (s.refuse tk st o).programs = s.programs := by
  obtain ⟨_, _, _, _, _, _, _, e⟩ := State.refuse_changes s tk st o; rw [e]
@[simp] theorem State.refuse_rrBay (tk : Ticket) (st o : Nat) : (s.refuse tk st o).rrBay = s.rrBay := by
  obtain ⟨_, _, _, _, _, _, _, e⟩ := State.refuse_changes s tk st o; rw [e]
@[simp] theorem State.refuse_mp (tk : Ticket) (st o : Nat) : (s.refuse tk st o).mp = s.mp := by
  obtain ⟨_, _, _, _, _, _, _, e⟩ := State.refuse_changes s tk st o; rw [e]
@[simp] theorem State.refuse_mpReady (tk : Ticket) (st o : Nat) : (s.refuse tk st o).mpReady = s.mpReady := by
  obtain ⟨_, _, _, _, _, _, _, e⟩ := State.refuse_changes s tk st o; rw [e]
@[simp] theorem State.refuse_egress (tk : Ticket) (st o : Nat) : (s.refuse tk st o).egress = s.egress := by
  obtain ⟨_, _, _, _, _, _, _, e⟩ := State.refuse_changes s tk st o; rw [e]
@[simp] theorem State.refuse_spring (tk : Ticket) (st o : Nat) : (s.refuse tk st o).spring = s.spring := by
  obtain ⟨_, _, _, _, _, _, _, e⟩ := State.refuse_changes s tk st o; rw [e]
@[simp] theorem State.refuse_cntWin (tk : Ticket) (st o : Nat) : (s.refuse tk st o).cntWin = s.cntWin := by
  obtain ⟨_, _, _, _, _, _, _, e⟩ := State.refuse_changes s tk st o; rw [e]
@[simp] theorem State.refuse_tbLatch (tk : Ticket) (st o : Nat) : (s.refuse tk st o).tbLatch = s.tbLatch := by
  obtain ⟨_, _, _, _, _, _, _, e⟩ := State.refuse_changes s tk st o; rw [e]
@[simp] theorem State.refuse_clearing (tk : Ticket) (st o : Nat) : (s.refuse tk st o).clearing = s.clearing := by
  obtain ⟨_, _, _, _, _, _, _, e⟩ := State.refuse_changes s tk st o; rw [e]
@[simp] theorem State.refuse_signals (tk : Ticket) (st o : Nat) : (s.refuse tk st o).signals = s.signals := by
  obtain ⟨_, _, _, _, _, _, _, e⟩ := State.refuse_changes s tk st o; rw [e]
@[simp] theorem State.refuse_syncEnds (tk : Ticket) (st o : Nat) : (s.refuse tk st o).syncEnds = s.syncEnds := by
  obtain ⟨_, _, _, _, _, _, _, e⟩ := State.refuse_changes s tk st o; rw [e]
@[simp] theorem State.refuse_flash (tk : Ticket) (st o : Nat) : (s.refuse tk st o).flash = s.flash := by
  obtain ⟨_, _, _, _, _, _, _, e⟩ := State.refuse_changes s tk st o; rw [e]
@[simp] theorem State.refuse_medium (tk : Ticket) (st o : Nat) : (s.refuse tk st o).medium = s.medium := by
  obtain ⟨_, _, _, _, _, _, _, e⟩ := State.refuse_changes s tk st o; rw [e]
@[simp] theorem State.refuse_intakeClosed (tk : Ticket) (st o : Nat) : (s.refuse tk st o).intakeClosed = s.intakeClosed := by
  obtain ⟨_, _, _, _, _, _, _, e⟩ := State.refuse_changes s tk st o; rw [e]
@[simp] theorem State.refuse_erasedMode (tk : Ticket) (st o : Nat) : (s.refuse tk st o).erasedMode = s.erasedMode := by
  obtain ⟨_, _, _, _, _, _, _, e⟩ := State.refuse_changes s tk st o; rw [e]
@[simp] theorem State.refuse_rsp (tk : Ticket) (st o : Nat) : (s.refuse tk st o).rsp = s.rsp := by
  obtain ⟨_, _, _, _, _, _, _, e⟩ := State.refuse_changes s tk st o; rw [e]
@[simp] theorem State.refuse_spAttn (tk : Ticket) (st o : Nat) : (s.refuse tk st o).spAttn = s.spAttn := by
  obtain ⟨_, _, _, _, _, _, _, e⟩ := State.refuse_changes s tk st o; rw [e]
@[simp] theorem State.refuse_pending (tk : Ticket) (st o : Nat) : (s.refuse tk st o).pending = s.pending := by
  obtain ⟨_, _, _, _, _, _, _, e⟩ := State.refuse_changes s tk st o; rw [e]

/-! ### defer -/

/-- It opens an ONLY in its mailbox: no other field changes. -/
theorem State.defer_changes (tk : Ticket) : ∃ (n0 : List Mailbox), s.defer tk = { s with mbs := n0 } :=
  by
  unfold State.defer; split <;> exact ⟨_, rfl⟩

@[simp] theorem State.defer_cfg (tk : Ticket) : (s.defer tk).cfg = s.cfg := by
  obtain ⟨_, e⟩ := State.defer_changes s tk; rw [e]
@[simp] theorem State.defer_tick (tk : Ticket) : (s.defer tk).tick = s.tick := by
  obtain ⟨_, e⟩ := State.defer_changes s tk; rw [e]
@[simp] theorem State.defer_fresh (tk : Ticket) : (s.defer tk).fresh = s.fresh := by
  obtain ⟨_, e⟩ := State.defer_changes s tk; rw [e]
@[simp] theorem State.defer_irq (tk : Ticket) : (s.defer tk).irq = s.irq := by
  obtain ⟨_, e⟩ := State.defer_changes s tk; rw [e]
@[simp] theorem State.defer_lcs (tk : Ticket) : (s.defer tk).lcs = s.lcs := by
  obtain ⟨_, e⟩ := State.defer_changes s tk; rw [e]
@[simp] theorem State.defer_boot (tk : Ticket) : (s.defer tk).boot = s.boot := by
  obtain ⟨_, e⟩ := State.defer_changes s tk; rw [e]
@[simp] theorem State.defer_fuses (tk : Ticket) : (s.defer tk).fuses = s.fuses := by
  obtain ⟨_, e⟩ := State.defer_changes s tk; rw [e]
@[simp] theorem State.defer_advance (tk : Ticket) : (s.defer tk).advance = s.advance := by
  obtain ⟨_, e⟩ := State.defer_changes s tk; rw [e]
@[simp] theorem State.defer_pwr (tk : Ticket) : (s.defer tk).pwr = s.pwr := by
  obtain ⟨_, e⟩ := State.defer_changes s tk; rw [e]
@[simp] theorem State.defer_sleep (tk : Ticket) : (s.defer tk).sleep = s.sleep := by
  obtain ⟨_, e⟩ := State.defer_changes s tk; rw [e]
@[simp] theorem State.defer_sb (tk : Ticket) : (s.defer tk).sb = s.sb := by
  obtain ⟨_, e⟩ := State.defer_changes s tk; rw [e]
@[simp] theorem State.defer_tap (tk : Ticket) : (s.defer tk).tap = s.tap := by
  obtain ⟨_, e⟩ := State.defer_changes s tk; rw [e]
@[simp] theorem State.defer_sched (tk : Ticket) : (s.defer tk).sched = s.sched := by
  obtain ⟨_, e⟩ := State.defer_changes s tk; rw [e]
@[simp] theorem State.defer_terr (tk : Ticket) : (s.defer tk).terr = s.terr := by
  obtain ⟨_, e⟩ := State.defer_changes s tk; rw [e]
@[simp] theorem State.defer_gens (tk : Ticket) : (s.defer tk).gens = s.gens := by
  obtain ⟨_, e⟩ := State.defer_changes s tk; rw [e]
@[simp] theorem State.defer_genBase (tk : Ticket) : (s.defer tk).genBase = s.genBase := by
  obtain ⟨_, e⟩ := State.defer_changes s tk; rw [e]
@[simp] theorem State.defer_instCount (tk : Ticket) : (s.defer tk).instCount = s.instCount := by
  obtain ⟨_, e⟩ := State.defer_changes s tk; rw [e]
@[simp] theorem State.defer_tasks (tk : Ticket) : (s.defer tk).tasks = s.tasks := by
  obtain ⟨_, e⟩ := State.defer_changes s tk; rw [e]
@[simp] theorem State.defer_cores (tk : Ticket) : (s.defer tk).cores = s.cores := by
  obtain ⟨_, e⟩ := State.defer_changes s tk; rw [e]
@[simp] theorem State.defer_programs (tk : Ticket) : (s.defer tk).programs = s.programs := by
  obtain ⟨_, e⟩ := State.defer_changes s tk; rw [e]
@[simp] theorem State.defer_rrBay (tk : Ticket) : (s.defer tk).rrBay = s.rrBay := by
  obtain ⟨_, e⟩ := State.defer_changes s tk; rw [e]
@[simp] theorem State.defer_hfp (tk : Ticket) : (s.defer tk).hfp = s.hfp := by
  obtain ⟨_, e⟩ := State.defer_changes s tk; rw [e]
@[simp] theorem State.defer_mp (tk : Ticket) : (s.defer tk).mp = s.mp := by
  obtain ⟨_, e⟩ := State.defer_changes s tk; rw [e]
@[simp] theorem State.defer_mpReady (tk : Ticket) : (s.defer tk).mpReady = s.mpReady := by
  obtain ⟨_, e⟩ := State.defer_changes s tk; rw [e]
@[simp] theorem State.defer_nextId (tk : Ticket) : (s.defer tk).nextId = s.nextId := by
  obtain ⟨_, e⟩ := State.defer_changes s tk; rw [e]
@[simp] theorem State.defer_egress (tk : Ticket) : (s.defer tk).egress = s.egress := by
  obtain ⟨_, e⟩ := State.defer_changes s tk; rw [e]
@[simp] theorem State.defer_spring (tk : Ticket) : (s.defer tk).spring = s.spring := by
  obtain ⟨_, e⟩ := State.defer_changes s tk; rw [e]
@[simp] theorem State.defer_faults (tk : Ticket) : (s.defer tk).faults = s.faults := by
  obtain ⟨_, e⟩ := State.defer_changes s tk; rw [e]
@[simp] theorem State.defer_cnt (tk : Ticket) : (s.defer tk).cnt = s.cnt := by
  obtain ⟨_, e⟩ := State.defer_changes s tk; rw [e]
@[simp] theorem State.defer_cntWin (tk : Ticket) : (s.defer tk).cntWin = s.cntWin := by
  obtain ⟨_, e⟩ := State.defer_changes s tk; rw [e]
@[simp] theorem State.defer_tbLatch (tk : Ticket) : (s.defer tk).tbLatch = s.tbLatch := by
  obtain ⟨_, e⟩ := State.defer_changes s tk; rw [e]
@[simp] theorem State.defer_clearing (tk : Ticket) : (s.defer tk).clearing = s.clearing := by
  obtain ⟨_, e⟩ := State.defer_changes s tk; rw [e]
@[simp] theorem State.defer_signals (tk : Ticket) : (s.defer tk).signals = s.signals := by
  obtain ⟨_, e⟩ := State.defer_changes s tk; rw [e]
@[simp] theorem State.defer_syncEnds (tk : Ticket) : (s.defer tk).syncEnds = s.syncEnds := by
  obtain ⟨_, e⟩ := State.defer_changes s tk; rw [e]
@[simp] theorem State.defer_flash (tk : Ticket) : (s.defer tk).flash = s.flash := by
  obtain ⟨_, e⟩ := State.defer_changes s tk; rw [e]
@[simp] theorem State.defer_medium (tk : Ticket) : (s.defer tk).medium = s.medium := by
  obtain ⟨_, e⟩ := State.defer_changes s tk; rw [e]
@[simp] theorem State.defer_intakeClosed (tk : Ticket) : (s.defer tk).intakeClosed = s.intakeClosed := by
  obtain ⟨_, e⟩ := State.defer_changes s tk; rw [e]
@[simp] theorem State.defer_erasedMode (tk : Ticket) : (s.defer tk).erasedMode = s.erasedMode := by
  obtain ⟨_, e⟩ := State.defer_changes s tk; rw [e]
@[simp] theorem State.defer_rsp (tk : Ticket) : (s.defer tk).rsp = s.rsp := by
  obtain ⟨_, e⟩ := State.defer_changes s tk; rw [e]
@[simp] theorem State.defer_spAttn (tk : Ticket) : (s.defer tk).spAttn = s.spAttn := by
  obtain ⟨_, e⟩ := State.defer_changes s tk; rw [e]
@[simp] theorem State.defer_pending (tk : Ticket) : (s.defer tk).pending = s.pending := by
  obtain ⟨_, e⟩ := State.defer_changes s tk; rw [e]

/-! ### finish -/

/-- It writes the ONLY of a deferred command and what waited behind it: no other field changes. -/
theorem State.finish_changes (tk : Ticket) (st h o a b : Nat) : ∃ (n0 : Irq) (n1 : Sideband) (n2 : List Mailbox) (n3 : List HfpOp) (n4 : Nat) (n5 : Faults) (n6 : Counters), s.finish tk st h o a b = { s with irq := n0, sb := n1, mbs := n2, hfp := n3, nextId := n4, faults := n5, cnt := n6 } :=
  by
  unfold State.finish; dsimp only
  obtain ⟨i1, i2, i3, i4, i5, h0⟩ := State.inconsistent_changes s tk st h
  split
  · rename_i n _
    obtain ⟨x, y, z, e⟩ := State.emitAll_changes ((s.inconsistent tk st h).modMb n (fun m => { m with openOnly :=
      (closeOnly tk (mkCpl tk kONLY st h 0 o a b) ((s.inconsistent tk st h).mailbox n).openOnly).2 })) n
      (closeOnly tk (mkCpl tk kONLY st h 0 o a b) ((s.inconsistent tk st h).mailbox n).openOnly).1
    exact ⟨i1, s.sb, x, y, z, i4, i5, e.trans (by rw [h0]; rfl)⟩
  · obtain ⟨x, y, z, w, v, f, c, e⟩ := State.complete_changes ((s.inconsistent tk st h).modMb 16 (fun m => { m with busy := false })) tk kONLY st h 0 o a b
    exact ⟨x, y, z, w, v, f, c, e.trans (by rw [h0]; rfl)⟩

@[simp] theorem State.finish_cfg (tk : Ticket) (st h o a b : Nat) : (s.finish tk st h o a b).cfg = s.cfg := by
  obtain ⟨_, _, _, _, _, _, _, e⟩ := State.finish_changes s tk st h o a b; rw [e]
@[simp] theorem State.finish_tick (tk : Ticket) (st h o a b : Nat) : (s.finish tk st h o a b).tick = s.tick := by
  obtain ⟨_, _, _, _, _, _, _, e⟩ := State.finish_changes s tk st h o a b; rw [e]
@[simp] theorem State.finish_fresh (tk : Ticket) (st h o a b : Nat) : (s.finish tk st h o a b).fresh = s.fresh := by
  obtain ⟨_, _, _, _, _, _, _, e⟩ := State.finish_changes s tk st h o a b; rw [e]
@[simp] theorem State.finish_lcs (tk : Ticket) (st h o a b : Nat) : (s.finish tk st h o a b).lcs = s.lcs := by
  obtain ⟨_, _, _, _, _, _, _, e⟩ := State.finish_changes s tk st h o a b; rw [e]
@[simp] theorem State.finish_boot (tk : Ticket) (st h o a b : Nat) : (s.finish tk st h o a b).boot = s.boot := by
  obtain ⟨_, _, _, _, _, _, _, e⟩ := State.finish_changes s tk st h o a b; rw [e]
@[simp] theorem State.finish_fuses (tk : Ticket) (st h o a b : Nat) : (s.finish tk st h o a b).fuses = s.fuses := by
  obtain ⟨_, _, _, _, _, _, _, e⟩ := State.finish_changes s tk st h o a b; rw [e]
@[simp] theorem State.finish_advance (tk : Ticket) (st h o a b : Nat) : (s.finish tk st h o a b).advance = s.advance := by
  obtain ⟨_, _, _, _, _, _, _, e⟩ := State.finish_changes s tk st h o a b; rw [e]
@[simp] theorem State.finish_pwr (tk : Ticket) (st h o a b : Nat) : (s.finish tk st h o a b).pwr = s.pwr := by
  obtain ⟨_, _, _, _, _, _, _, e⟩ := State.finish_changes s tk st h o a b; rw [e]
@[simp] theorem State.finish_sleep (tk : Ticket) (st h o a b : Nat) : (s.finish tk st h o a b).sleep = s.sleep := by
  obtain ⟨_, _, _, _, _, _, _, e⟩ := State.finish_changes s tk st h o a b; rw [e]
@[simp] theorem State.finish_tap (tk : Ticket) (st h o a b : Nat) : (s.finish tk st h o a b).tap = s.tap := by
  obtain ⟨_, _, _, _, _, _, _, e⟩ := State.finish_changes s tk st h o a b; rw [e]
@[simp] theorem State.finish_sched (tk : Ticket) (st h o a b : Nat) : (s.finish tk st h o a b).sched = s.sched := by
  obtain ⟨_, _, _, _, _, _, _, e⟩ := State.finish_changes s tk st h o a b; rw [e]
@[simp] theorem State.finish_terr (tk : Ticket) (st h o a b : Nat) : (s.finish tk st h o a b).terr = s.terr := by
  obtain ⟨_, _, _, _, _, _, _, e⟩ := State.finish_changes s tk st h o a b; rw [e]
@[simp] theorem State.finish_gens (tk : Ticket) (st h o a b : Nat) : (s.finish tk st h o a b).gens = s.gens := by
  obtain ⟨_, _, _, _, _, _, _, e⟩ := State.finish_changes s tk st h o a b; rw [e]
@[simp] theorem State.finish_genBase (tk : Ticket) (st h o a b : Nat) : (s.finish tk st h o a b).genBase = s.genBase := by
  obtain ⟨_, _, _, _, _, _, _, e⟩ := State.finish_changes s tk st h o a b; rw [e]
@[simp] theorem State.finish_instCount (tk : Ticket) (st h o a b : Nat) : (s.finish tk st h o a b).instCount = s.instCount := by
  obtain ⟨_, _, _, _, _, _, _, e⟩ := State.finish_changes s tk st h o a b; rw [e]
@[simp] theorem State.finish_tasks (tk : Ticket) (st h o a b : Nat) : (s.finish tk st h o a b).tasks = s.tasks := by
  obtain ⟨_, _, _, _, _, _, _, e⟩ := State.finish_changes s tk st h o a b; rw [e]
@[simp] theorem State.finish_cores (tk : Ticket) (st h o a b : Nat) : (s.finish tk st h o a b).cores = s.cores := by
  obtain ⟨_, _, _, _, _, _, _, e⟩ := State.finish_changes s tk st h o a b; rw [e]
@[simp] theorem State.finish_programs (tk : Ticket) (st h o a b : Nat) : (s.finish tk st h o a b).programs = s.programs := by
  obtain ⟨_, _, _, _, _, _, _, e⟩ := State.finish_changes s tk st h o a b; rw [e]
@[simp] theorem State.finish_rrBay (tk : Ticket) (st h o a b : Nat) : (s.finish tk st h o a b).rrBay = s.rrBay := by
  obtain ⟨_, _, _, _, _, _, _, e⟩ := State.finish_changes s tk st h o a b; rw [e]
@[simp] theorem State.finish_mp (tk : Ticket) (st h o a b : Nat) : (s.finish tk st h o a b).mp = s.mp := by
  obtain ⟨_, _, _, _, _, _, _, e⟩ := State.finish_changes s tk st h o a b; rw [e]
@[simp] theorem State.finish_mpReady (tk : Ticket) (st h o a b : Nat) : (s.finish tk st h o a b).mpReady = s.mpReady := by
  obtain ⟨_, _, _, _, _, _, _, e⟩ := State.finish_changes s tk st h o a b; rw [e]
@[simp] theorem State.finish_egress (tk : Ticket) (st h o a b : Nat) : (s.finish tk st h o a b).egress = s.egress := by
  obtain ⟨_, _, _, _, _, _, _, e⟩ := State.finish_changes s tk st h o a b; rw [e]
@[simp] theorem State.finish_spring (tk : Ticket) (st h o a b : Nat) : (s.finish tk st h o a b).spring = s.spring := by
  obtain ⟨_, _, _, _, _, _, _, e⟩ := State.finish_changes s tk st h o a b; rw [e]
@[simp] theorem State.finish_cntWin (tk : Ticket) (st h o a b : Nat) : (s.finish tk st h o a b).cntWin = s.cntWin := by
  obtain ⟨_, _, _, _, _, _, _, e⟩ := State.finish_changes s tk st h o a b; rw [e]
@[simp] theorem State.finish_tbLatch (tk : Ticket) (st h o a b : Nat) : (s.finish tk st h o a b).tbLatch = s.tbLatch := by
  obtain ⟨_, _, _, _, _, _, _, e⟩ := State.finish_changes s tk st h o a b; rw [e]
@[simp] theorem State.finish_clearing (tk : Ticket) (st h o a b : Nat) : (s.finish tk st h o a b).clearing = s.clearing := by
  obtain ⟨_, _, _, _, _, _, _, e⟩ := State.finish_changes s tk st h o a b; rw [e]
@[simp] theorem State.finish_signals (tk : Ticket) (st h o a b : Nat) : (s.finish tk st h o a b).signals = s.signals := by
  obtain ⟨_, _, _, _, _, _, _, e⟩ := State.finish_changes s tk st h o a b; rw [e]
@[simp] theorem State.finish_syncEnds (tk : Ticket) (st h o a b : Nat) : (s.finish tk st h o a b).syncEnds = s.syncEnds := by
  obtain ⟨_, _, _, _, _, _, _, e⟩ := State.finish_changes s tk st h o a b; rw [e]
@[simp] theorem State.finish_flash (tk : Ticket) (st h o a b : Nat) : (s.finish tk st h o a b).flash = s.flash := by
  obtain ⟨_, _, _, _, _, _, _, e⟩ := State.finish_changes s tk st h o a b; rw [e]
@[simp] theorem State.finish_medium (tk : Ticket) (st h o a b : Nat) : (s.finish tk st h o a b).medium = s.medium := by
  obtain ⟨_, _, _, _, _, _, _, e⟩ := State.finish_changes s tk st h o a b; rw [e]
@[simp] theorem State.finish_intakeClosed (tk : Ticket) (st h o a b : Nat) : (s.finish tk st h o a b).intakeClosed = s.intakeClosed := by
  obtain ⟨_, _, _, _, _, _, _, e⟩ := State.finish_changes s tk st h o a b; rw [e]
@[simp] theorem State.finish_erasedMode (tk : Ticket) (st h o a b : Nat) : (s.finish tk st h o a b).erasedMode = s.erasedMode := by
  obtain ⟨_, _, _, _, _, _, _, e⟩ := State.finish_changes s tk st h o a b; rw [e]
@[simp] theorem State.finish_rsp (tk : Ticket) (st h o a b : Nat) : (s.finish tk st h o a b).rsp = s.rsp := by
  obtain ⟨_, _, _, _, _, _, _, e⟩ := State.finish_changes s tk st h o a b; rw [e]
@[simp] theorem State.finish_spAttn (tk : Ticket) (st h o a b : Nat) : (s.finish tk st h o a b).spAttn = s.spAttn := by
  obtain ⟨_, _, _, _, _, _, _, e⟩ := State.finish_changes s tk st h o a b; rw [e]
@[simp] theorem State.finish_pending (tk : Ticket) (st h o a b : Nat) : (s.finish tk st h o a b).pending = s.pending := by
  obtain ⟨_, _, _, _, _, _, _, e⟩ := State.finish_changes s tk st h o a b; rw [e]

/-! ### readAhead -/

/-- It reads entries ahead: no other field changes. -/
theorem State.readAhead_changes (mb n : Nat) : ∃ (n0 : List Mailbox) (n1 : List HfpOp) (n2 : Nat), s.readAhead mb n = { s with mbs := n0, hfp := n1, nextId := n2 } :=
  by
  induction n generalizing s with
  | zero => exact ⟨_, _, _, rfl⟩
  | succ n ih =>
    unfold State.readAhead; dsimp only; split
    · obtain ⟨x, y, z, h⟩ := ih ((s.hfpIssue _ _).modMb mb _)
      exact ⟨x, y, z, h⟩
    · exact ⟨_, _, _, rfl⟩

@[simp] theorem State.readAhead_cfg (mb n : Nat) : (s.readAhead mb n).cfg = s.cfg := by
  obtain ⟨_, _, _, e⟩ := State.readAhead_changes s mb n; rw [e]
@[simp] theorem State.readAhead_tick (mb n : Nat) : (s.readAhead mb n).tick = s.tick := by
  obtain ⟨_, _, _, e⟩ := State.readAhead_changes s mb n; rw [e]
@[simp] theorem State.readAhead_fresh (mb n : Nat) : (s.readAhead mb n).fresh = s.fresh := by
  obtain ⟨_, _, _, e⟩ := State.readAhead_changes s mb n; rw [e]
@[simp] theorem State.readAhead_irq (mb n : Nat) : (s.readAhead mb n).irq = s.irq := by
  obtain ⟨_, _, _, e⟩ := State.readAhead_changes s mb n; rw [e]
@[simp] theorem State.readAhead_lcs (mb n : Nat) : (s.readAhead mb n).lcs = s.lcs := by
  obtain ⟨_, _, _, e⟩ := State.readAhead_changes s mb n; rw [e]
@[simp] theorem State.readAhead_boot (mb n : Nat) : (s.readAhead mb n).boot = s.boot := by
  obtain ⟨_, _, _, e⟩ := State.readAhead_changes s mb n; rw [e]
@[simp] theorem State.readAhead_fuses (mb n : Nat) : (s.readAhead mb n).fuses = s.fuses := by
  obtain ⟨_, _, _, e⟩ := State.readAhead_changes s mb n; rw [e]
@[simp] theorem State.readAhead_advance (mb n : Nat) : (s.readAhead mb n).advance = s.advance := by
  obtain ⟨_, _, _, e⟩ := State.readAhead_changes s mb n; rw [e]
@[simp] theorem State.readAhead_pwr (mb n : Nat) : (s.readAhead mb n).pwr = s.pwr := by
  obtain ⟨_, _, _, e⟩ := State.readAhead_changes s mb n; rw [e]
@[simp] theorem State.readAhead_sleep (mb n : Nat) : (s.readAhead mb n).sleep = s.sleep := by
  obtain ⟨_, _, _, e⟩ := State.readAhead_changes s mb n; rw [e]
@[simp] theorem State.readAhead_sb (mb n : Nat) : (s.readAhead mb n).sb = s.sb := by
  obtain ⟨_, _, _, e⟩ := State.readAhead_changes s mb n; rw [e]
@[simp] theorem State.readAhead_tap (mb n : Nat) : (s.readAhead mb n).tap = s.tap := by
  obtain ⟨_, _, _, e⟩ := State.readAhead_changes s mb n; rw [e]
@[simp] theorem State.readAhead_sched (mb n : Nat) : (s.readAhead mb n).sched = s.sched := by
  obtain ⟨_, _, _, e⟩ := State.readAhead_changes s mb n; rw [e]
@[simp] theorem State.readAhead_terr (mb n : Nat) : (s.readAhead mb n).terr = s.terr := by
  obtain ⟨_, _, _, e⟩ := State.readAhead_changes s mb n; rw [e]
@[simp] theorem State.readAhead_gens (mb n : Nat) : (s.readAhead mb n).gens = s.gens := by
  obtain ⟨_, _, _, e⟩ := State.readAhead_changes s mb n; rw [e]
@[simp] theorem State.readAhead_genBase (mb n : Nat) : (s.readAhead mb n).genBase = s.genBase := by
  obtain ⟨_, _, _, e⟩ := State.readAhead_changes s mb n; rw [e]
@[simp] theorem State.readAhead_instCount (mb n : Nat) : (s.readAhead mb n).instCount = s.instCount := by
  obtain ⟨_, _, _, e⟩ := State.readAhead_changes s mb n; rw [e]
@[simp] theorem State.readAhead_tasks (mb n : Nat) : (s.readAhead mb n).tasks = s.tasks := by
  obtain ⟨_, _, _, e⟩ := State.readAhead_changes s mb n; rw [e]
@[simp] theorem State.readAhead_cores (mb n : Nat) : (s.readAhead mb n).cores = s.cores := by
  obtain ⟨_, _, _, e⟩ := State.readAhead_changes s mb n; rw [e]
@[simp] theorem State.readAhead_programs (mb n : Nat) : (s.readAhead mb n).programs = s.programs := by
  obtain ⟨_, _, _, e⟩ := State.readAhead_changes s mb n; rw [e]
@[simp] theorem State.readAhead_rrBay (mb n : Nat) : (s.readAhead mb n).rrBay = s.rrBay := by
  obtain ⟨_, _, _, e⟩ := State.readAhead_changes s mb n; rw [e]
@[simp] theorem State.readAhead_mp (mb n : Nat) : (s.readAhead mb n).mp = s.mp := by
  obtain ⟨_, _, _, e⟩ := State.readAhead_changes s mb n; rw [e]
@[simp] theorem State.readAhead_mpReady (mb n : Nat) : (s.readAhead mb n).mpReady = s.mpReady := by
  obtain ⟨_, _, _, e⟩ := State.readAhead_changes s mb n; rw [e]
@[simp] theorem State.readAhead_egress (mb n : Nat) : (s.readAhead mb n).egress = s.egress := by
  obtain ⟨_, _, _, e⟩ := State.readAhead_changes s mb n; rw [e]
@[simp] theorem State.readAhead_spring (mb n : Nat) : (s.readAhead mb n).spring = s.spring := by
  obtain ⟨_, _, _, e⟩ := State.readAhead_changes s mb n; rw [e]
@[simp] theorem State.readAhead_faults (mb n : Nat) : (s.readAhead mb n).faults = s.faults := by
  obtain ⟨_, _, _, e⟩ := State.readAhead_changes s mb n; rw [e]
@[simp] theorem State.readAhead_cnt (mb n : Nat) : (s.readAhead mb n).cnt = s.cnt := by
  obtain ⟨_, _, _, e⟩ := State.readAhead_changes s mb n; rw [e]
@[simp] theorem State.readAhead_cntWin (mb n : Nat) : (s.readAhead mb n).cntWin = s.cntWin := by
  obtain ⟨_, _, _, e⟩ := State.readAhead_changes s mb n; rw [e]
@[simp] theorem State.readAhead_tbLatch (mb n : Nat) : (s.readAhead mb n).tbLatch = s.tbLatch := by
  obtain ⟨_, _, _, e⟩ := State.readAhead_changes s mb n; rw [e]
@[simp] theorem State.readAhead_clearing (mb n : Nat) : (s.readAhead mb n).clearing = s.clearing := by
  obtain ⟨_, _, _, e⟩ := State.readAhead_changes s mb n; rw [e]
@[simp] theorem State.readAhead_signals (mb n : Nat) : (s.readAhead mb n).signals = s.signals := by
  obtain ⟨_, _, _, e⟩ := State.readAhead_changes s mb n; rw [e]
@[simp] theorem State.readAhead_syncEnds (mb n : Nat) : (s.readAhead mb n).syncEnds = s.syncEnds := by
  obtain ⟨_, _, _, e⟩ := State.readAhead_changes s mb n; rw [e]
@[simp] theorem State.readAhead_flash (mb n : Nat) : (s.readAhead mb n).flash = s.flash := by
  obtain ⟨_, _, _, e⟩ := State.readAhead_changes s mb n; rw [e]
@[simp] theorem State.readAhead_medium (mb n : Nat) : (s.readAhead mb n).medium = s.medium := by
  obtain ⟨_, _, _, e⟩ := State.readAhead_changes s mb n; rw [e]
@[simp] theorem State.readAhead_intakeClosed (mb n : Nat) : (s.readAhead mb n).intakeClosed = s.intakeClosed := by
  obtain ⟨_, _, _, e⟩ := State.readAhead_changes s mb n; rw [e]
@[simp] theorem State.readAhead_erasedMode (mb n : Nat) : (s.readAhead mb n).erasedMode = s.erasedMode := by
  obtain ⟨_, _, _, e⟩ := State.readAhead_changes s mb n; rw [e]
@[simp] theorem State.readAhead_rsp (mb n : Nat) : (s.readAhead mb n).rsp = s.rsp := by
  obtain ⟨_, _, _, e⟩ := State.readAhead_changes s mb n; rw [e]
@[simp] theorem State.readAhead_spAttn (mb n : Nat) : (s.readAhead mb n).spAttn = s.spAttn := by
  obtain ⟨_, _, _, e⟩ := State.readAhead_changes s mb n; rw [e]
@[simp] theorem State.readAhead_pending (mb n : Nat) : (s.readAhead mb n).pending = s.pending := by
  obtain ⟨_, _, _, e⟩ := State.readAhead_changes s mb n; rw [e]

/-! ### take -/

/-- It takes an entry: no other field changes. -/
theorem State.take_changes (r : Src) : ∃ (n0 : List Mailbox) (n1 : List HfpOp) (n2 : Nat) (n3 : Sched) (n4 : Sideband), s.take r = { s with mbs := n0, hfp := n1, nextId := n2, sched := n3, sb := n4 } :=
  by
  unfold State.take; dsimp only; split
  · exact ⟨_, _, _, _, _, rfl⟩
  · obtain ⟨x, y, z, h⟩ := State.readAhead_changes (({ s with sched := { s.sched with worked := true } } : State).modMb (srcMb r) _)
      (srcMb r) 16
    exact ⟨x, y, z, _, s.sb, h⟩

@[simp] theorem State.take_cfg (r : Src) : (s.take r).cfg = s.cfg := by
  obtain ⟨_, _, _, _, _, e⟩ := State.take_changes s r; rw [e]
@[simp] theorem State.take_tick (r : Src) : (s.take r).tick = s.tick := by
  obtain ⟨_, _, _, _, _, e⟩ := State.take_changes s r; rw [e]
@[simp] theorem State.take_fresh (r : Src) : (s.take r).fresh = s.fresh := by
  obtain ⟨_, _, _, _, _, e⟩ := State.take_changes s r; rw [e]
@[simp] theorem State.take_irq (r : Src) : (s.take r).irq = s.irq := by
  obtain ⟨_, _, _, _, _, e⟩ := State.take_changes s r; rw [e]
@[simp] theorem State.take_lcs (r : Src) : (s.take r).lcs = s.lcs := by
  obtain ⟨_, _, _, _, _, e⟩ := State.take_changes s r; rw [e]
@[simp] theorem State.take_boot (r : Src) : (s.take r).boot = s.boot := by
  obtain ⟨_, _, _, _, _, e⟩ := State.take_changes s r; rw [e]
@[simp] theorem State.take_fuses (r : Src) : (s.take r).fuses = s.fuses := by
  obtain ⟨_, _, _, _, _, e⟩ := State.take_changes s r; rw [e]
@[simp] theorem State.take_advance (r : Src) : (s.take r).advance = s.advance := by
  obtain ⟨_, _, _, _, _, e⟩ := State.take_changes s r; rw [e]
@[simp] theorem State.take_pwr (r : Src) : (s.take r).pwr = s.pwr := by
  obtain ⟨_, _, _, _, _, e⟩ := State.take_changes s r; rw [e]
@[simp] theorem State.take_sleep (r : Src) : (s.take r).sleep = s.sleep := by
  obtain ⟨_, _, _, _, _, e⟩ := State.take_changes s r; rw [e]
@[simp] theorem State.take_tap (r : Src) : (s.take r).tap = s.tap := by
  obtain ⟨_, _, _, _, _, e⟩ := State.take_changes s r; rw [e]
@[simp] theorem State.take_terr (r : Src) : (s.take r).terr = s.terr := by
  obtain ⟨_, _, _, _, _, e⟩ := State.take_changes s r; rw [e]
@[simp] theorem State.take_gens (r : Src) : (s.take r).gens = s.gens := by
  obtain ⟨_, _, _, _, _, e⟩ := State.take_changes s r; rw [e]
@[simp] theorem State.take_genBase (r : Src) : (s.take r).genBase = s.genBase := by
  obtain ⟨_, _, _, _, _, e⟩ := State.take_changes s r; rw [e]
@[simp] theorem State.take_instCount (r : Src) : (s.take r).instCount = s.instCount := by
  obtain ⟨_, _, _, _, _, e⟩ := State.take_changes s r; rw [e]
@[simp] theorem State.take_tasks (r : Src) : (s.take r).tasks = s.tasks := by
  obtain ⟨_, _, _, _, _, e⟩ := State.take_changes s r; rw [e]
@[simp] theorem State.take_cores (r : Src) : (s.take r).cores = s.cores := by
  obtain ⟨_, _, _, _, _, e⟩ := State.take_changes s r; rw [e]
@[simp] theorem State.take_programs (r : Src) : (s.take r).programs = s.programs := by
  obtain ⟨_, _, _, _, _, e⟩ := State.take_changes s r; rw [e]
@[simp] theorem State.take_rrBay (r : Src) : (s.take r).rrBay = s.rrBay := by
  obtain ⟨_, _, _, _, _, e⟩ := State.take_changes s r; rw [e]
@[simp] theorem State.take_mp (r : Src) : (s.take r).mp = s.mp := by
  obtain ⟨_, _, _, _, _, e⟩ := State.take_changes s r; rw [e]
@[simp] theorem State.take_mpReady (r : Src) : (s.take r).mpReady = s.mpReady := by
  obtain ⟨_, _, _, _, _, e⟩ := State.take_changes s r; rw [e]
@[simp] theorem State.take_egress (r : Src) : (s.take r).egress = s.egress := by
  obtain ⟨_, _, _, _, _, e⟩ := State.take_changes s r; rw [e]
@[simp] theorem State.take_spring (r : Src) : (s.take r).spring = s.spring := by
  obtain ⟨_, _, _, _, _, e⟩ := State.take_changes s r; rw [e]
@[simp] theorem State.take_faults (r : Src) : (s.take r).faults = s.faults := by
  obtain ⟨_, _, _, _, _, e⟩ := State.take_changes s r; rw [e]
@[simp] theorem State.take_cnt (r : Src) : (s.take r).cnt = s.cnt := by
  obtain ⟨_, _, _, _, _, e⟩ := State.take_changes s r; rw [e]
@[simp] theorem State.take_cntWin (r : Src) : (s.take r).cntWin = s.cntWin := by
  obtain ⟨_, _, _, _, _, e⟩ := State.take_changes s r; rw [e]
@[simp] theorem State.take_tbLatch (r : Src) : (s.take r).tbLatch = s.tbLatch := by
  obtain ⟨_, _, _, _, _, e⟩ := State.take_changes s r; rw [e]
@[simp] theorem State.take_clearing (r : Src) : (s.take r).clearing = s.clearing := by
  obtain ⟨_, _, _, _, _, e⟩ := State.take_changes s r; rw [e]
@[simp] theorem State.take_signals (r : Src) : (s.take r).signals = s.signals := by
  obtain ⟨_, _, _, _, _, e⟩ := State.take_changes s r; rw [e]
@[simp] theorem State.take_syncEnds (r : Src) : (s.take r).syncEnds = s.syncEnds := by
  obtain ⟨_, _, _, _, _, e⟩ := State.take_changes s r; rw [e]
@[simp] theorem State.take_flash (r : Src) : (s.take r).flash = s.flash := by
  obtain ⟨_, _, _, _, _, e⟩ := State.take_changes s r; rw [e]
@[simp] theorem State.take_medium (r : Src) : (s.take r).medium = s.medium := by
  obtain ⟨_, _, _, _, _, e⟩ := State.take_changes s r; rw [e]
@[simp] theorem State.take_intakeClosed (r : Src) : (s.take r).intakeClosed = s.intakeClosed := by
  obtain ⟨_, _, _, _, _, e⟩ := State.take_changes s r; rw [e]
@[simp] theorem State.take_erasedMode (r : Src) : (s.take r).erasedMode = s.erasedMode := by
  obtain ⟨_, _, _, _, _, e⟩ := State.take_changes s r; rw [e]
@[simp] theorem State.take_rsp (r : Src) : (s.take r).rsp = s.rsp := by
  obtain ⟨_, _, _, _, _, e⟩ := State.take_changes s r; rw [e]
@[simp] theorem State.take_spAttn (r : Src) : (s.take r).spAttn = s.spAttn := by
  obtain ⟨_, _, _, _, _, e⟩ := State.take_changes s r; rw [e]
@[simp] theorem State.take_pending (r : Src) : (s.take r).pending = s.pending := by
  obtain ⟨_, _, _, _, _, e⟩ := State.take_changes s r; rw [e]

/-! ### awaitDomain -/

/-- It asks for a privileged domain: no other field changes. -/
theorem State.awaitDomain_changes (r : Src) (o : Nat) : ∃ (n0 : Sleep), s.awaitDomain r o = { s with sleep := n0 } :=
  ⟨_, rfl⟩

@[simp] theorem State.awaitDomain_cfg (r : Src) (o : Nat) : (s.awaitDomain r o).cfg = s.cfg := by
  obtain ⟨_, e⟩ := State.awaitDomain_changes s r o; rw [e]
@[simp] theorem State.awaitDomain_tick (r : Src) (o : Nat) : (s.awaitDomain r o).tick = s.tick := by
  obtain ⟨_, e⟩ := State.awaitDomain_changes s r o; rw [e]
@[simp] theorem State.awaitDomain_fresh (r : Src) (o : Nat) : (s.awaitDomain r o).fresh = s.fresh := by
  obtain ⟨_, e⟩ := State.awaitDomain_changes s r o; rw [e]
@[simp] theorem State.awaitDomain_irq (r : Src) (o : Nat) : (s.awaitDomain r o).irq = s.irq := by
  obtain ⟨_, e⟩ := State.awaitDomain_changes s r o; rw [e]
@[simp] theorem State.awaitDomain_lcs (r : Src) (o : Nat) : (s.awaitDomain r o).lcs = s.lcs := by
  obtain ⟨_, e⟩ := State.awaitDomain_changes s r o; rw [e]
@[simp] theorem State.awaitDomain_boot (r : Src) (o : Nat) : (s.awaitDomain r o).boot = s.boot := by
  obtain ⟨_, e⟩ := State.awaitDomain_changes s r o; rw [e]
@[simp] theorem State.awaitDomain_fuses (r : Src) (o : Nat) : (s.awaitDomain r o).fuses = s.fuses := by
  obtain ⟨_, e⟩ := State.awaitDomain_changes s r o; rw [e]
@[simp] theorem State.awaitDomain_advance (r : Src) (o : Nat) : (s.awaitDomain r o).advance = s.advance := by
  obtain ⟨_, e⟩ := State.awaitDomain_changes s r o; rw [e]
@[simp] theorem State.awaitDomain_pwr (r : Src) (o : Nat) : (s.awaitDomain r o).pwr = s.pwr := by
  obtain ⟨_, e⟩ := State.awaitDomain_changes s r o; rw [e]
@[simp] theorem State.awaitDomain_sb (r : Src) (o : Nat) : (s.awaitDomain r o).sb = s.sb := by
  obtain ⟨_, e⟩ := State.awaitDomain_changes s r o; rw [e]
@[simp] theorem State.awaitDomain_tap (r : Src) (o : Nat) : (s.awaitDomain r o).tap = s.tap := by
  obtain ⟨_, e⟩ := State.awaitDomain_changes s r o; rw [e]
@[simp] theorem State.awaitDomain_mbs (r : Src) (o : Nat) : (s.awaitDomain r o).mbs = s.mbs := by
  obtain ⟨_, e⟩ := State.awaitDomain_changes s r o; rw [e]
@[simp] theorem State.awaitDomain_sched (r : Src) (o : Nat) : (s.awaitDomain r o).sched = s.sched := by
  obtain ⟨_, e⟩ := State.awaitDomain_changes s r o; rw [e]
@[simp] theorem State.awaitDomain_terr (r : Src) (o : Nat) : (s.awaitDomain r o).terr = s.terr := by
  obtain ⟨_, e⟩ := State.awaitDomain_changes s r o; rw [e]
@[simp] theorem State.awaitDomain_gens (r : Src) (o : Nat) : (s.awaitDomain r o).gens = s.gens := by
  obtain ⟨_, e⟩ := State.awaitDomain_changes s r o; rw [e]
@[simp] theorem State.awaitDomain_genBase (r : Src) (o : Nat) : (s.awaitDomain r o).genBase = s.genBase := by
  obtain ⟨_, e⟩ := State.awaitDomain_changes s r o; rw [e]
@[simp] theorem State.awaitDomain_instCount (r : Src) (o : Nat) : (s.awaitDomain r o).instCount = s.instCount := by
  obtain ⟨_, e⟩ := State.awaitDomain_changes s r o; rw [e]
@[simp] theorem State.awaitDomain_tasks (r : Src) (o : Nat) : (s.awaitDomain r o).tasks = s.tasks := by
  obtain ⟨_, e⟩ := State.awaitDomain_changes s r o; rw [e]
@[simp] theorem State.awaitDomain_cores (r : Src) (o : Nat) : (s.awaitDomain r o).cores = s.cores := by
  obtain ⟨_, e⟩ := State.awaitDomain_changes s r o; rw [e]
@[simp] theorem State.awaitDomain_programs (r : Src) (o : Nat) : (s.awaitDomain r o).programs = s.programs := by
  obtain ⟨_, e⟩ := State.awaitDomain_changes s r o; rw [e]
@[simp] theorem State.awaitDomain_rrBay (r : Src) (o : Nat) : (s.awaitDomain r o).rrBay = s.rrBay := by
  obtain ⟨_, e⟩ := State.awaitDomain_changes s r o; rw [e]
@[simp] theorem State.awaitDomain_hfp (r : Src) (o : Nat) : (s.awaitDomain r o).hfp = s.hfp := by
  obtain ⟨_, e⟩ := State.awaitDomain_changes s r o; rw [e]
@[simp] theorem State.awaitDomain_mp (r : Src) (o : Nat) : (s.awaitDomain r o).mp = s.mp := by
  obtain ⟨_, e⟩ := State.awaitDomain_changes s r o; rw [e]
@[simp] theorem State.awaitDomain_mpReady (r : Src) (o : Nat) : (s.awaitDomain r o).mpReady = s.mpReady := by
  obtain ⟨_, e⟩ := State.awaitDomain_changes s r o; rw [e]
@[simp] theorem State.awaitDomain_nextId (r : Src) (o : Nat) : (s.awaitDomain r o).nextId = s.nextId := by
  obtain ⟨_, e⟩ := State.awaitDomain_changes s r o; rw [e]
@[simp] theorem State.awaitDomain_egress (r : Src) (o : Nat) : (s.awaitDomain r o).egress = s.egress := by
  obtain ⟨_, e⟩ := State.awaitDomain_changes s r o; rw [e]
@[simp] theorem State.awaitDomain_spring (r : Src) (o : Nat) : (s.awaitDomain r o).spring = s.spring := by
  obtain ⟨_, e⟩ := State.awaitDomain_changes s r o; rw [e]
@[simp] theorem State.awaitDomain_faults (r : Src) (o : Nat) : (s.awaitDomain r o).faults = s.faults := by
  obtain ⟨_, e⟩ := State.awaitDomain_changes s r o; rw [e]
@[simp] theorem State.awaitDomain_cnt (r : Src) (o : Nat) : (s.awaitDomain r o).cnt = s.cnt := by
  obtain ⟨_, e⟩ := State.awaitDomain_changes s r o; rw [e]
@[simp] theorem State.awaitDomain_cntWin (r : Src) (o : Nat) : (s.awaitDomain r o).cntWin = s.cntWin := by
  obtain ⟨_, e⟩ := State.awaitDomain_changes s r o; rw [e]
@[simp] theorem State.awaitDomain_tbLatch (r : Src) (o : Nat) : (s.awaitDomain r o).tbLatch = s.tbLatch := by
  obtain ⟨_, e⟩ := State.awaitDomain_changes s r o; rw [e]
@[simp] theorem State.awaitDomain_clearing (r : Src) (o : Nat) : (s.awaitDomain r o).clearing = s.clearing := by
  obtain ⟨_, e⟩ := State.awaitDomain_changes s r o; rw [e]
@[simp] theorem State.awaitDomain_signals (r : Src) (o : Nat) : (s.awaitDomain r o).signals = s.signals := by
  obtain ⟨_, e⟩ := State.awaitDomain_changes s r o; rw [e]
@[simp] theorem State.awaitDomain_syncEnds (r : Src) (o : Nat) : (s.awaitDomain r o).syncEnds = s.syncEnds := by
  obtain ⟨_, e⟩ := State.awaitDomain_changes s r o; rw [e]
@[simp] theorem State.awaitDomain_flash (r : Src) (o : Nat) : (s.awaitDomain r o).flash = s.flash := by
  obtain ⟨_, e⟩ := State.awaitDomain_changes s r o; rw [e]
@[simp] theorem State.awaitDomain_medium (r : Src) (o : Nat) : (s.awaitDomain r o).medium = s.medium := by
  obtain ⟨_, e⟩ := State.awaitDomain_changes s r o; rw [e]
@[simp] theorem State.awaitDomain_intakeClosed (r : Src) (o : Nat) : (s.awaitDomain r o).intakeClosed = s.intakeClosed := by
  obtain ⟨_, e⟩ := State.awaitDomain_changes s r o; rw [e]
@[simp] theorem State.awaitDomain_erasedMode (r : Src) (o : Nat) : (s.awaitDomain r o).erasedMode = s.erasedMode := by
  obtain ⟨_, e⟩ := State.awaitDomain_changes s r o; rw [e]
@[simp] theorem State.awaitDomain_rsp (r : Src) (o : Nat) : (s.awaitDomain r o).rsp = s.rsp := by
  obtain ⟨_, e⟩ := State.awaitDomain_changes s r o; rw [e]
@[simp] theorem State.awaitDomain_spAttn (r : Src) (o : Nat) : (s.awaitDomain r o).spAttn = s.spAttn := by
  obtain ⟨_, e⟩ := State.awaitDomain_changes s r o; rw [e]
@[simp] theorem State.awaitDomain_pending (r : Src) (o : Nat) : (s.awaitDomain r o).pending = s.pending := by
  obtain ⟨_, e⟩ := State.awaitDomain_changes s r o; rw [e]

end Sys2Proof.Machine
end

