-- ==== Sys2Proof/Laws/Work.lean ====
section
/-! SUPPORT. Laws of `State.forEach`, of a terrace read after a change, and of the operations a command of an awake block meets. -/

namespace Sys2Proof.Machine

/-! ### forEach -/

/-- What each application keeps, the whole loop keeps. -/
theorem State.forEach_induct {α : Type} {p : State → Prop} {f : State → α → State} (hf : ∀ s a, p s → p (f s a)) (l : List α)
    (s : State) (h : p s) : p (s.forEach l f) := by
  unfold State.forEach
  induction l generalizing s with
  | nil => exact h
  | cons a r ih => exact ih _ (hf _ _ h)

/-- A reading that no application changes is what it was. -/
theorem State.forEach_same {α β : Type} {v : State → β} {f : State → α → State} (hf : ∀ s a, v (f s a) = v s) (l : List α)
    (s : State) : v (s.forEach l f) = v s :=
  State.forEach_induct (p := fun t => v t = v s) (fun t a h => (hf t a).trans h) l s rfl

@[simp] theorem State.forEach_nil {α : Type} (f : State → α → State) (s : State) : s.forEach [] f = s := rfl

/-! ### Terraces and mailboxes after a change -/

theorem State.modT_terrace (s : State) (t n : Nat) (f : Terrace → Terrace) :
    (s.modT t f).terrace n = if t = n then (s.terrace n).map f else s.terrace n := Tbl.get_mod ..

@[simp] theorem State.modT_terrace_self (s : State) (t : Nat) (f : Terrace → Terrace) :
    (s.modT t f).terrace t = (s.terrace t).map f := Tbl.get_mod_self ..

theorem State.modT_terrace_ne {s : State} {t n : Nat} (h : n ≠ t) (f : Terrace → Terrace) :
    (s.modT t f).terrace n = s.terrace n := Tbl.get_mod_ne h f

/-- A terrace is read from the table alone. -/
theorem State.terrace_congr {s t : State} (h : t.terr = s.terr) (n : Nat) : t.terrace n = s.terrace n := by
  simp only [State.terrace, h]

/-- A mailbox is read from the list alone. -/
theorem State.mailbox_congr {s t : State} (h : t.mbs = s.mbs) (n : Nat) : t.mailbox n = s.mailbox n := by
  simp only [State.mailbox, h]

theorem State.modMb_mailbox_ne {s : State} {mb n : Nat} (h : n ≠ mb) (f : Mailbox → Mailbox) :
    (s.modMb mb f).mailbox n = s.mailbox n := setAt_getD_ne h f _ _

theorem State.modMb_mailbox_self {s : State} {mb : Nat} (h : mb < s.mbs.length) (f : Mailbox → Mailbox) :
    (s.modMb mb f).mailbox mb = f (s.mailbox mb) := setAt_getD_self f _ _ h

/-- Two changes of one mailbox are one. -/
theorem State.modMb_modMb (s : State) (mb : Nat) (f g : Mailbox → Mailbox) :
    (s.modMb mb f).modMb mb g = s.modMb mb (g ∘ f) := by
  simp only [State.modMb, setAt_setAt]

/-! ### The end of a task -/

/-- The charge of a task's time changes terraces alone. -/
theorem State.chargeTask_changes (s : State) (k : Task) : ∃ x, s.chargeTask k = { s with terr := x } := by
  unfold State.chargeTask; split <;> exact ⟨_, rfl⟩

/-- The end of a task's fetches changes the memory ports' operations, the counters and terraces alone. -/
theorem State.endFetch_changes (s : State) (k : Task) :
    ∃ x y z, s.endFetch k = { s with mp := x, cnt := y, terr := z } := by
  unfold State.endFetch
  split
  · unfold State.count; dsimp only; split <;> exact ⟨_, _, _, rfl⟩
  · exact ⟨_, _, _, rfl⟩

/-- The counts of searches, of text and of an assembly are counts: terraces stay. -/
@[simp] theorem State.searched_terr (s : State) (t l : Nat) (w : RWork) : (s.searched t l w).terr = s.terr := by
  simp [State.searched]

@[simp] theorem State.siftCount_terr (s : State) (t core : Nat) (st : SiftStats) : (s.siftCount t core st).terr = s.terr := by
  simp [State.siftCount]

@[simp] theorem State.promptCount_terr (s : State) (t core : Nat) (x : PromptOut) :
    (s.promptCount t core x).terr = s.terr := by
  unfold State.promptCount; dsimp only
  split <;> simp [State.asmCount, State.kneadCount]

/-- The tasks but one stay, and besides them the memory ports' operations, the counters and terraces may change. -/
theorem State.dropTask_changes (s : State) (id : Nat) : ∃ x y z,
    s.dropTask id = { s with mp := x, cnt := y, terr := z, tasks := s.tasks.filter (fun k => k.id != id) } := by
  unfold State.dropTask
  split
  · rename_i k _
    obtain ⟨x, y, z, h⟩ := State.endFetch_changes s k
    exact ⟨x, y, z, by dsimp only; rw [h]⟩
  · exact ⟨_, _, _, rfl⟩

/-- Of a terrace the end of a task changes the marks of its cache lines alone. -/
theorem State.dropTask_terrace (s : State) (id n : Nat) :
    ∃ f : Terrace → List PLine, (s.dropTask id).terrace n = (s.terrace n).map (fun te => { te with pantry := f te }) := by
  have keep : ∃ f : Terrace → List PLine, s.terrace n = (s.terrace n).map (fun te => { te with pantry := f te }) :=
    ⟨fun te => te.pantry, by cases s.terrace n <;> rfl⟩
  unfold State.dropTask
  split
  · rename_i k _
    unfold State.endFetch
    split
    · simp only [State.terrace, State.modT, State.count_terr, Tbl.get_mod]
      split
      · exact ⟨_, rfl⟩
      · exact keep
    · exact keep
  · exact keep

/-! ### An awake block -/

section
variable {s : State} (ha : s.sleep.phase = .awake)
include ha

theorem State.awake_frontEnd : s.frontEnd = false := by simp [State.frontEnd, ha]
theorem State.awake_clocked : s.clocked = true := by simp [State.clocked, ha]
theorem State.awake_shadowing : s.shadowing = false := by simp [State.shadowing, State.awake_clocked ha]
theorem State.awake_latchWake (k : Nat) : s.latchWake k = s := by simp [State.latchWake, ha]

theorem State.awake_hostWrite (hr : s.lcs.ready = true) (f : State → State) : s.hostWrite f = f s := by
  simp [State.hostWrite, State.touch, hr, State.awake_frontEnd ha, ha]

theorem State.awake_alwaysWrite (hr : s.lcs.ready = true) (f : State → State) : s.alwaysWrite f = f s := by
  simp [State.alwaysWrite, State.touch, hr, ha]

end

end Sys2Proof.Machine
end

