-- ==== Sys2Proof/Laws/Form.lean ====
section
/-! SUPPORT. What keeps `State.Formed`, said once for the plain updates and for the operations that write a register, a
mailbox, a log or the table of terraces. -/

namespace Sys2Proof.Machine

/-- An update that writes none of the fields the form speaks of. -/
theorem formed_of {s t : State} (h : s.Formed) (e1 : t.mbs = s.mbs) (e2 : t.irq = s.irq) (e3 : t.tick = s.tick)
    (e4 : t.faults = s.faults) (e5 : t.cntWin.select = s.cntWin.select) (e6 : t.rrBay = s.rrBay) (e7 : t.terr = s.terr) :
    t.Formed :=
  ⟨e1 ▸ h.pages, fun m hm => h.boxes m (e1 ▸ hm), e2 ▸ h.irq, e3 ▸ h.tick, e4 ▸ h.logs, by rw [e5]; exact h.select,
    e6 ▸ h.bays, e7 ▸ h.table⟩

/-- An update of the terraces alone among those fields. -/
theorem formed_terr {s t : State} (h : s.Formed) (hw : t.terr.wf) (e1 : t.mbs = s.mbs) (e2 : t.irq = s.irq)
    (e3 : t.tick = s.tick) (e4 : t.faults = s.faults) (e5 : t.cntWin.select = s.cntWin.select) (e6 : t.rrBay = s.rrBay) :
    t.Formed :=
  ⟨e1 ▸ h.pages, fun m hm => h.boxes m (e1 ▸ hm), e2 ▸ h.irq, e3 ▸ h.tick, e4 ▸ h.logs, by rw [e5]; exact h.select,
    e6 ▸ h.bays, hw⟩

/-- An update of the interrupt registers alone. -/
theorem formed_irq {s t : State} (h : s.Formed) (hq : t.irq.formed) (e1 : t.mbs = s.mbs) (e3 : t.tick = s.tick)
    (e4 : t.faults = s.faults) (e5 : t.cntWin.select = s.cntWin.select) (e6 : t.rrBay = s.rrBay) (e7 : t.terr = s.terr) :
    t.Formed :=
  ⟨e1 ▸ h.pages, fun m hm => h.boxes m (e1 ▸ hm), hq, e3 ▸ h.tick, e4 ▸ h.logs, by rw [e5]; exact h.select, e6 ▸ h.bays,
    e7 ▸ h.table⟩

/-- An update of the fault logs alone. -/
theorem formed_faults {s t : State} (h : s.Formed) (hf : t.faults.formed) (e1 : t.mbs = s.mbs) (e2 : t.irq = s.irq)
    (e3 : t.tick = s.tick) (e5 : t.cntWin.select = s.cntWin.select) (e6 : t.rrBay = s.rrBay) (e7 : t.terr = s.terr) :
      t.Formed :=
  ⟨e1 ▸ h.pages, fun m hm => h.boxes m (e1 ▸ hm), e2 ▸ h.irq, e3 ▸ h.tick, hf, by rw [e5]; exact h.select, e6 ▸ h.bays,
    e7 ▸ h.table⟩

/-- A state that differs in none of the fields the form speaks of. -/
theorem formed_mk {s : State} {cfg' fresh' lcs' boot' fuses' advance' pwr' sleep' sb' tap' sched' gens' genBase'
    instCount' tasks' cores' programs' hfp' mp' mpReady' nextId' egress' spring' cnt' tbLatch' clearing' signals'
    syncEnds' flash' medium' intakeClosed' erasedMode' rsp' spAttn' pending'} (h : s.Formed) :
    (State.mk cfg' s.tick fresh' s.irq lcs' boot' fuses' advance' pwr' sleep' sb' tap' s.mbs sched' s.terr gens'
      genBase' instCount' tasks' cores' programs' s.rrBay hfp' mp' mpReady' nextId' egress' spring' s.faults
      cnt' s.cntWin tbLatch' clearing' signals' syncEnds' flash' medium' intakeClosed' erasedMode' rsp' spAttn'
      pending').Formed :=
  ⟨h.pages, h.boxes, h.irq, h.tick, h.logs, h.select, h.bays, h.table⟩

/-- A state that differs, of those fields, in its terraces alone. -/
theorem formed_mk_terr {s : State} {cfg' fresh' lcs' boot' fuses' advance' pwr' sleep' sb' tap' sched' terr' gens'
    genBase' instCount' tasks' cores' programs' hfp' mp' mpReady' nextId' egress' spring' cnt' tbLatch' clearing'
    signals' syncEnds' flash' medium' intakeClosed' erasedMode' rsp' spAttn' pending'} (h : s.Formed) (hw : Tbl.wf
    terr') :
    (State.mk cfg' s.tick fresh' s.irq lcs' boot' fuses' advance' pwr' sleep' sb' tap' s.mbs sched' terr' gens'
      genBase' instCount' tasks' cores' programs' s.rrBay hfp' mp' mpReady' nextId' egress' spring' s.faults
      cnt' s.cntWin tbLatch' clearing' signals' syncEnds' flash' medium' intakeClosed' erasedMode' rsp' spAttn'
      pending').Formed :=
  ⟨h.pages, h.boxes, h.irq, h.tick, h.logs, h.select, h.bays, hw⟩

/-- A state that differs, of those fields, in its mailboxes alone. -/
theorem formed_mk_mbs {s : State} {cfg' fresh' lcs' boot' fuses' advance' pwr' sleep' sb' tap' mbs' sched' gens'
    genBase' instCount' tasks' cores' programs' hfp' mp' mpReady' nextId' egress' spring' cnt' tbLatch' clearing'
    signals' syncEnds' flash' medium' intakeClosed' erasedMode' rsp' spAttn' pending'} (h : s.Formed) (hl :
    mbs'.length = 17) (hb : ∀ m ∈ mbs', Mailbox.formed m) :
    (State.mk cfg' s.tick fresh' s.irq lcs' boot' fuses' advance' pwr' sleep' sb' tap' mbs' sched' s.terr gens'
      genBase' instCount' tasks' cores' programs' s.rrBay hfp' mp' mpReady' nextId' egress' spring' s.faults
      cnt' s.cntWin tbLatch' clearing' signals' syncEnds' flash' medium' intakeClosed' erasedMode' rsp' spAttn'
      pending').Formed :=
  ⟨hl, hb, h.irq, h.tick, h.logs, h.select, h.bays, h.table⟩

/-- A state that differs, of those fields, in its logs alone. -/
theorem formed_mk_faults {s : State} {cfg' fresh' lcs' boot' fuses' advance' pwr' sleep' sb' tap' sched' gens'
    genBase' instCount' tasks' cores' programs' hfp' mp' mpReady' nextId' egress' spring' faults' cnt' tbLatch'
    clearing' signals' syncEnds' flash' medium' intakeClosed' erasedMode' rsp' spAttn' pending'} (h : s.Formed) (hf :
    Faults.formed faults') :
    (State.mk cfg' s.tick fresh' s.irq lcs' boot' fuses' advance' pwr' sleep' sb' tap' s.mbs sched' s.terr gens'
      genBase' instCount' tasks' cores' programs' s.rrBay hfp' mp' mpReady' nextId' egress' spring' faults' cnt'
      s.cntWin tbLatch' clearing' signals' syncEnds' flash' medium' intakeClosed' erasedMode' rsp' spAttn'
      pending').Formed :=
  ⟨h.pages, h.boxes, h.irq, h.tick, hf, h.select, h.bays, h.table⟩

/-- A fold over states keeps the form where each application does. -/
theorem formed_foldl {α : Type} {f : State → α → State} (hf : ∀ s a, s.Formed → (f s a).Formed) (l : List α) {s : State}
    (h : s.Formed) : (l.foldl f s).Formed := by
  induction l generalizing s with
  | nil => exact h
  | cons a r ih => exact ih (hf _ _ h)

/-- The same for a fold over the boundary's work. -/
theorem Bd.foldl_formed {α : Type} {f : Bd → α → Bd} (hf : ∀ b a, b.s.Formed → (f b a).s.Formed) (l : List α) {b : Bd}
    (h : b.s.Formed) : (l.foldl f b).s.Formed := by
  induction l generalizing b with
  | nil => exact h
  | cons a r ih => exact ih (hf _ _ h)

theorem State.forEach_formed {α : Type} {s : State} {l : List α} {f : State → α → State} (h : s.Formed)
    (hf : ∀ s a, s.Formed → (f s a).Formed) : (s.forEach l f).Formed :=
  State.forEach_induct hf l s h

theorem State.modT_formed {s : State} {t : Nat} {f : Terrace → Terrace} (h : s.Formed) : (s.modT t f).Formed :=
  formed_terr h (Tbl.wf_mod h.table t f) rfl rfl rfl rfl rfl rfl

theorem State.modMb_formed {s : State} {mb : Nat} {f : Mailbox → Mailbox} (h : s.Formed)
    (hf : ∀ m, m.formed → (f m).formed) : (s.modMb mb f).Formed :=
  ⟨(setAt_length ..).trans h.pages, setAt_forall h.boxes hf, h.irq, h.tick, h.logs, h.select, h.bays, h.table⟩

/-! ### Register bits -/

/-- Bits outside a mask stay 0 under a union with a value within it. -/
theorem and_or_zero {a b m : Word} (ha : a &&& m = 0) (hb : b &&& m = 0) : (a ||| b) &&& m = 0 := by
  rw [BitVec.and_or_distrib_right] <;> simp_all

/-- Bits that are 0 stay 0 in an intersection. -/
theorem and_and_zero {a m : Word} (b : Word) (ha : a &&& m = 0) : (a &&& b) &&& m = 0 := by
  rw [BitVec.and_assoc, BitVec.and_comm b m, ← BitVec.and_assoc, ha]; simp

/-- A value masked to the complement of a field has none of its bits. -/
theorem masked_zero {k m : Word} (v : Word) (h : k &&& m = 0) : (v &&& k) &&& m = 0 := by
  rw [BitVec.and_assoc, h]; simp

theorem State.setStatus_formed {s : State} {n : Nat} (h : s.Formed) : (s.setStatus n).Formed :=
  formed_irq h ⟨and_or_zero h.irq.1 (masked_zero _ (by decide)), h.irq.2⟩ rfl rfl rfl rfl rfl rfl

theorem State.clearStatus_formed {s : State} {n : Nat} (h : s.Formed) : (s.clearStatus n).Formed :=
  formed_irq h ⟨and_and_zero _ h.irq.1, h.irq.2⟩ rfl rfl rfl rfl rfl rfl

theorem Irq.write_formed {q : Irq} {off : Nat} {v : Word} (h : q.formed) : (q.write off v).formed := by
  obtain ⟨h1, h2, h3, h4, h5⟩ := h
  unfold Irq.write
  split
  · exact ⟨h1, h2, h3, masked_zero _ (by decide), h5⟩
  · split
    · exact ⟨h1, h2, h3, h4, h5⟩
    · split
      · exact ⟨h1, h2, h3, h4, (setAt_length ..).trans h5⟩
      · exact ⟨h1, h2, h3, h4, h5⟩

/-! ### Mailboxes and the pointers of the bays -/

/-- A ring index that a register holds lies below its 16 bits. -/
theorem index16 (n : Nat) : (BitVec.ofNat 32 (n % 65536)).toNat < 65536 := by
  rw [BitVec.toNat_ofNat]; omega

/-- An update of a page that leaves its set-up registers and moves at most its two host indices. -/
theorem Mailbox.formed_ring {m m' : Mailbox} (h : m.formed) (e1 : m'.sqBaseLo = m.sqBaseLo) (e2 : m'.cqBaseLo = m.cqBaseLo)
    (e3 : m'.sqSize = m.sqSize) (e4 : m'.cqSize = m.cqSize) (e5 : m'.irq = m.irq) (e6 : m'.msiLo = m.msiLo)
    (ht : m'.sqTail = m.sqTail ∨ ∃ n, m'.sqTail = BitVec.ofNat 32 (n % 65536))
    (hh : m'.cqHead = m.cqHead ∨ ∃ n, m'.cqHead = BitVec.ofNat 32 (n % 65536)) : m'.formed := by
  obtain ⟨h1, h2, h3, h4, h5, h6, h7, h8⟩ := h
  refine ⟨e1 ▸ h1, e2 ▸ h2, e3 ▸ h3, e4 ▸ h4, ?_, ?_, e5 ▸ h7, e6 ▸ h8⟩
  · rcases ht with e | ⟨n, e⟩ <;> rw [e]
    · exact h5
    · exact index16 n
  · rcases hh with e | ⟨n, e⟩ <;> rw [e]
    · exact h6
    · exact index16 n

theorem Mailbox.irq_formed {m : Mailbox} {v : Word} (h : m.formed) :
    ({ m with irq := v &&& 0xFFFFFF03 } : Mailbox).formed :=
  ⟨h.1, h.2.1, h.2.2.1, h.2.2.2.1, h.2.2.2.2.1, h.2.2.2.2.2.1, masked_zero _ (by decide), h.2.2.2.2.2.2.2⟩

/-- A page at its reset values, whatever its epoch. -/
theorem Mailbox.fresh_formed (e : Nat) : ({ epoch := e } : Mailbox).formed := by
  simp [Mailbox.formed]

theorem Mailbox.abandon_formed {m : Mailbox} {n : Nat} (h : m.formed) : (m.abandon n).formed := h

theorem Mailbox.write_formed {m : Mailbox} {off : Nat} {v : Word} (h : m.formed) : (m.write off v).formed := by
  obtain ⟨h1, h2, h3, h4, h5, h6, h7, h8⟩ := h
  unfold Mailbox.write
  split
  · exact ⟨h1, h2, h3, h4, h5, h6, h7, h8⟩
  · split
    · exact ⟨masked_zero _ (by decide), h2, h3, h4, h5, h6, h7, h8⟩
    · exact ⟨h1, h2, h3, h4, h5, h6, h7, h8⟩
    · exact ⟨h1, h2, masked_zero _ (by decide), h4, h5, h6, h7, h8⟩
    · exact ⟨h1, masked_zero _ (by decide), h3, h4, h5, h6, h7, h8⟩
    · exact ⟨h1, h2, h3, h4, h5, h6, h7, h8⟩
    · exact ⟨h1, h2, h3, masked_zero _ (by decide), h5, h6, h7, h8⟩
    · exact ⟨h1, h2, h3, h4, h5, h6, h7, masked_zero _ (by decide)⟩
    · exact ⟨h1, h2, h3, h4, h5, h6, h7, h8⟩
    · exact ⟨h1, h2, h3, h4, h5, h6, h7, h8⟩
    · exact ⟨h1, h2, h3, h4, h5, h6, h7, h8⟩

/-- An update of one bay's pointer (R456). -/
theorem formed_bay {s : State} {b : Nat} {f : Nat → Nat} (h : s.Formed) : ({ s with rrBay := setAt b f s.rrBay } :
    State).Formed :=
  ⟨h.pages, h.boxes, h.irq, h.tick, h.logs, h.select, (setAt_length ..).trans h.bays, h.table⟩

/-! ### Fault logs -/

theorem Tbl.mem_del {α : Type} {t : Tbl α} {k : Nat} {e : Nat × α} (h : e ∈ Tbl.del t k) : e ∈ t :=
  (List.mem_filter.mp h).1


theorem Tbl.mem_put {α : Type} {t : Tbl α} {k : Nat} {a : α} {e : Nat × α} (h : e ∈ Tbl.put t k a) : e = (k, a) ∨ e ∈ t :=
    by
  induction t with
  | nil => simpa [Tbl.put] using h
  | cons x r ih =>
    simp only [Tbl.put] at h
    split at h
    · simp at h; rcases h with h | h | h <;> simp [h]
    · split at h
      · simp at h; rcases h with h | h <;> simp [h]
      · simp at h; rcases h with h | h
        · simp [h]
        · rcases ih h with h | h <;> simp [h]

theorem Faults.file_formed {f : Faults} {r : FaultRec} (h : f.formed) : (f.file r).formed := by
  unfold Faults.file
  simp only
  split
  · refine ⟨by simp only [List.length_take]; omega, ?_⟩
    intro e he
    rcases Tbl.mem_put he with rfl | he
    · simp only [List.length_take]; omega
    · exact h.2 e he
  · exact ⟨by simp only [List.length_take]; omega, h.2⟩

end Sys2Proof.Machine
end

