-- ==== Sys2Proof/Laws/FormedHost.lean ====
section
/-! SUPPORT. `State.Formed` is kept by the operations of
the shared operations, the memory traffic, token streams and objects:
one lemma each, which a proof about a step cites without unfolding it. -/

namespace Sys2Proof.Machine

/-! ### Ops.lean -/

theorem State.addTask_formed {s : State} {terr : Nat} {cls : Nat} {prio : Nat} {index : Nat} {tk : Ticket} {k : TaskKind}
    {input : Option (List Bytes)} (hs : s.Formed) : (State.addTask s terr cls prio index tk k input).Formed := by
  unfold State.addTask
  iterate 2 all_goals try first | with_reducible assumption | with_reducible apply formed_mk

theorem State.hfpIssue_formed {s : State} {terr : Nat} {k : HfpKind} (hs : s.Formed) :
    (State.hfpIssue s terr k).Formed := by
  unfold State.hfpIssue
  iterate 2 all_goals try first | with_reducible assumption | with_reducible apply formed_mk

theorem State.raise_formed {s : State} {n : Nat} (hs : s.Formed) : (State.raise s n).Formed := by
  unfold State.raise
  iterate 6 all_goals try first
      | with_reducible assumption | with_reducible apply State.hfpIssue_formed | with_reducible apply State.setStatus_formed
      | split

theorem State.testMbIrq_formed {s : State} {mb : Nat} (hs : s.Formed) : (State.testMbIrq s mb).Formed := by
  unfold State.testMbIrq
  dsimp only
  iterate 4 all_goals try first
      | with_reducible assumption | with_reducible apply State.raise_formed | with_reducible apply State.modMb_formed
      | (intro _ hx; exact hx) | split

theorem State.announceCpl_formed {s : State} {mb : Nat} {noIrq : Bool} (hs : s.Formed) :
    (State.announceCpl s mb noIrq).Formed := by
  unfold State.announceCpl
  iterate 4 all_goals try first
      | with_reducible assumption | with_reducible apply State.testMbIrq_formed | with_reducible apply State.modMb_formed
      | (intro _ hx; exact hx) | split

theorem State.bumpGen_formed {s : State} {t : Nat} {ty : Nat} {idx : Nat} (hs : s.Formed) :
    (State.bumpGen s t ty idx).Formed := by
  unfold State.bumpGen
  iterate 2 all_goals try first | with_reducible assumption | with_reducible apply formed_mk

theorem State.count_formed {s : State} {c : Cause} {terr : Nat} {loc : Nat} {n : Nat} (hs : s.Formed) :
    (State.count s c terr loc n).Formed := by
  unfold State.count
  iterate 3 all_goals try first | with_reducible assumption | split | with_reducible apply formed_mk

theorem State.tally_formed {s : State} {c : Cause} {terr : Nat} (hs : s.Formed) : (State.tally s c terr).Formed := by
  unfold State.tally
  iterate 2 all_goals try first | with_reducible assumption | with_reducible apply State.count_formed

theorem State.fault_formed {s : State} {cls : Nat} {terr : Nat} {loc : Nat} {cause : Cause} {detail : Nat}
    {handle : Handle} {info : Nat} (hs : s.Formed) : (State.fault s cls terr loc cause detail handle info).Formed := by
  unfold State.fault
  dsimp only
  apply State.raise_formed
  apply State.tally_formed
  exact formed_mk_faults hs (Faults.file_formed hs.logs)

theorem State.inconsistent_formed {s : State} {tk : Ticket} {status : Nat} {handle : Handle} (hs : s.Formed) :
    (State.inconsistent s tk status handle).Formed := by
  unfold State.inconsistent
  iterate 3 all_goals try first | with_reducible assumption | with_reducible apply State.fault_formed | split

theorem State.sbComplete_formed {s : State} {c : Cpl} (hs : s.Formed) : (State.sbComplete s c).Formed := by
  unfold State.sbComplete
  iterate 6 all_goals try first
      | with_reducible assumption | with_reducible apply State.raise_formed | with_reducible apply State.modMb_formed
      | (intro _ hx; exact hx) | split | with_reducible apply formed_mk

theorem State.newId_formed {s : State} (hs : s.Formed) : (State.newId s).Formed := by
  unfold State.newId
  iterate 2 all_goals try first | with_reducible assumption | with_reducible apply formed_mk

theorem State.writeCpl_formed {s : State} {mb : Nat} {c : Cpl} (hs : s.Formed) : (State.writeCpl s mb c).Formed := by
  unfold State.writeCpl
  iterate 3 all_goals try first
      | with_reducible assumption | with_reducible apply State.hfpIssue_formed | with_reducible apply State.modMb_formed
      | (intro _ hx; exact hx)

theorem State.emitCpl_formed {s : State} {mb : Nat} {c : Cpl} (hs : s.Formed) : (State.emitCpl s mb c).Formed := by
  unfold State.emitCpl
  dsimp only
  iterate 4 all_goals try first
      | with_reducible assumption | with_reducible apply State.newId_formed | with_reducible apply State.writeCpl_formed
      | with_reducible apply State.modMb_formed | (intro _ hx; exact hx) | split

theorem State.orderCpl_formed {s : State} {mb : Nat} {c : Cpl} (hs : s.Formed) : (State.orderCpl s mb c).Formed := by
  unfold State.orderCpl
  iterate 3 all_goals try first
      | with_reducible assumption | with_reducible apply State.modMb_formed | with_reducible apply State.emitCpl_formed
      | (intro _ hx; exact hx) | split

theorem State.complete_formed {s : State} {tk : Ticket} {kind : Nat} {status : Nat} {handle : Handle} {flags : Nat}
    {off : Nat} {r0 : Nat} {r1 : Nat} (hs : s.Formed) :
    (State.complete s tk kind status handle flags off r0 r1).Formed := by
  unfold State.complete
  iterate 4 all_goals try first
      | with_reducible assumption | with_reducible apply State.inconsistent_formed
      | with_reducible apply State.sbComplete_formed | with_reducible apply State.orderCpl_formed | split

theorem State.defer_formed {s : State} {tk : Ticket} (hs : s.Formed) : (State.defer s tk).Formed := by
  unfold State.defer
  iterate 3 all_goals try first
      | with_reducible assumption | with_reducible apply State.modMb_formed | (intro _ hx; exact hx) | split

theorem State.emitAll_formed {s : State} {mb : Nat} {a2 : List Cpl} (hs : s.Formed) : (State.emitAll s mb a2).Formed := by
  induction a2 generalizing s with
  | nil => unfold State.emitAll; assumption
  | cons c r ih => unfold State.emitAll; exact ih (State.emitCpl_formed hs)

theorem State.unreserve_formed {s : State} {src : Src} (hs : s.Formed) : (State.unreserve s src).Formed := by
  unfold State.unreserve
  iterate 3 all_goals try first
      | with_reducible assumption | with_reducible apply State.modMb_formed | (intro _ hx; exact hx) | split

theorem State.final_formed {s : State} {tk : Ticket} {status : Nat} {handle : Handle} {flags : Nat} {off : Nat} {r0 : Nat}
    {r1 : Nat} (hs : s.Formed) : (State.final s tk status handle flags off r0 r1).Formed := by
  unfold State.final
  iterate 3 all_goals try first
      | with_reducible assumption | with_reducible apply State.complete_formed | with_reducible apply State.unreserve_formed

theorem State.finish_formed {s : State} {tk : Ticket} {status : Nat} {handle : Handle} {off : Nat} {r0 : Nat} {r1 : Nat}
    (hs : s.Formed) : (State.finish s tk status handle off r0 r1).Formed := by
  unfold State.finish
  iterate 6 all_goals try first
      | with_reducible assumption | with_reducible apply State.inconsistent_formed
      | with_reducible apply State.emitAll_formed | with_reducible apply State.modMb_formed
      | with_reducible apply State.complete_formed | (intro _ hx; exact hx) | split

theorem State.reserve_formed {s : State} {src : Src} (hs : s.Formed) : (State.reserve s src).Formed := by
  unfold State.reserve
  iterate 3 all_goals try first
      | with_reducible assumption | with_reducible apply State.modMb_formed | (intro _ hx; exact hx) | split

theorem State.first_formed {s : State} {tk : Ticket} {handle : Handle} (hs : s.Formed) :
    (State.first s tk handle).Formed := by
  unfold State.first
  iterate 3 all_goals try first
      | with_reducible assumption | with_reducible apply State.reserve_formed | with_reducible apply State.complete_formed

theorem State.flashAsk_formed {s : State} {j : FlashJob} (hs : s.Formed) : (State.flashAsk s j).Formed := by
  unfold State.flashAsk
  iterate 2 all_goals try first | with_reducible assumption | with_reducible apply formed_mk

theorem State.flushHeld_formed {s : State} {mb : Nat} {a2 : Nat} (hs : s.Formed) : (State.flushHeld s mb a2).Formed := by
  induction a2 generalizing s with
  | zero => unfold State.flushHeld; assumption
  | succ n ih =>
    unfold State.flushHeld
    dsimp only
    iterate 6 all_goals try first
        | with_reducible assumption | with_reducible apply ih | with_reducible apply State.modMb_formed
        | with_reducible apply State.writeCpl_formed | (intro _ hx; exact hx) | split

theorem State.hfpDone_formed {s : State} {id : Nat} (hs : s.Formed) : (State.hfpDone s id).Formed := by
  unfold State.hfpDone
  iterate 2 all_goals try first | with_reducible assumption | with_reducible apply formed_mk

theorem State.mbError_formed {s : State} {mb : Nat} {code : Nat} (hs : s.Formed) : (State.mbError s mb code).Formed := by
  unfold State.mbError
  iterate 4 all_goals try first
      | with_reducible assumption | with_reducible apply State.raise_formed | with_reducible apply State.modMb_formed
      | (intro _ hx; exact hx) | split

theorem State.modTask_formed {s : State} {id : Nat} {f : Task → Task} (hs : s.Formed) :
    (State.modTask s id f).Formed := by
  unfold State.modTask
  iterate 2 all_goals try first | with_reducible assumption | with_reducible apply formed_mk

theorem State.mpDone_formed {s : State} {id : Nat} (hs : s.Formed) : (State.mpDone s id).Formed := by
  unfold State.mpDone
  iterate 2 all_goals try first | with_reducible assumption | with_reducible apply formed_mk

theorem State.mpIssue_formed {s : State} {port : Nat} {k : MpKind} (hs : s.Formed) : (State.mpIssue s port k).Formed := by
  unfold State.mpIssue
  iterate 2 all_goals try first | with_reducible assumption | with_reducible apply formed_mk

theorem State.only_formed {s : State} {tk : Ticket} {status : Nat} {handle : Handle} {r0 : Nat} {r1 : Nat} (hs : s.Formed)
    : (State.only s tk status handle r0 r1).Formed := by
  unfold State.only
  iterate 2 all_goals try first | with_reducible assumption | with_reducible apply State.complete_formed

theorem State.refuse_formed {s : State} {tk : Ticket} {status : Nat} {off : Nat} (hs : s.Formed) :
    (State.refuse s tk status off).Formed := by
  unfold State.refuse
  iterate 2 all_goals try first | with_reducible assumption | with_reducible apply State.complete_formed

theorem State.unmaskMsg_formed {s : State} {n : Nat} (hs : s.Formed) : (State.unmaskMsg s n).Formed := by
  unfold State.unmaskMsg
  iterate 6 all_goals try first
      | with_reducible assumption | with_reducible apply State.clearStatus_formed
      | with_reducible apply State.hfpIssue_formed | split

/-! ### Operands.lean -/

theorem State.awaitDomain_formed {s : State} {src : Src} {op : Nat} (hs : s.Formed) :
    (State.awaitDomain s src op).Formed := by
  unfold State.awaitDomain
  iterate 2 all_goals try first | with_reducible assumption | with_reducible apply formed_mk

theorem State.readAhead_formed {s : State} {mb : Nat} {a2 : Nat} (hs : s.Formed) : (State.readAhead s mb a2).Formed := by
  induction a2 generalizing s with
  | zero => unfold State.readAhead; assumption
  | succ n ih =>
    unfold State.readAhead
    dsimp only
    iterate 6 all_goals try first
        | with_reducible assumption | with_reducible apply ih | with_reducible apply State.hfpIssue_formed
        | with_reducible apply State.modMb_formed | (intro _ hx; exact hx) | split

theorem State.take_formed {s : State} {src : Src} (hs : s.Formed) : (State.take s src).Formed := by
  unfold State.take
  iterate 6 all_goals try first
      | with_reducible assumption | with_reducible apply State.modMb_formed | with_reducible apply State.readAhead_formed
      | (intro _ hx; exact hx) | split | with_reducible apply formed_mk

theorem State.command_formed {s : State} {sh : Shape} {row : Bool} {src : Src} {c : Bytes} {own : State → Chk}
    {act : State → State} (hs : s.Formed) (hact : ∀ (x0 : State), x0.Formed → (act x0).Formed) :
    (State.command s sh row src c own act).Formed := by
  unfold State.command
  dsimp only
  iterate 8 all_goals try first
      | with_reducible assumption | with_reducible apply hact | with_reducible apply State.awaitDomain_formed
      | with_reducible apply State.take_formed | with_reducible apply State.refuse_formed | split

/-! ### Riddle.lean -/

theorem State.searched_formed {s : State} {t : Nat} {loc : Nat} {w : RWork} (hs : s.Formed) :
    (State.searched s t loc w).Formed := by
  unfold State.searched
  iterate 6 all_goals try first
      | with_reducible assumption | with_reducible apply State.count_formed | with_reducible apply formed_mk

/-! ### SyncOps.lean -/

theorem State.chargeTask_formed {s : State} {k : Task} (hs : s.Formed) : (State.chargeTask s k).Formed := by
  unfold State.chargeTask
  iterate 3 all_goals try first | with_reducible assumption | with_reducible apply State.modT_formed | split

theorem State.dropMaskLines_formed {s : State} {t : Nat} {gone : MaskLine → Bool} (hs : s.Formed) :
    (State.dropMaskLines s t gone).Formed := by
  unfold State.dropMaskLines
  iterate 6 all_goals try first
      | with_reducible assumption | with_reducible apply State.modT_formed | with_reducible apply State.forEach_formed
      | with_reducible apply State.count_formed | intro _

theorem State.endFetch_formed {s : State} {k : Task} (hs : s.Formed) : (State.endFetch s k).Formed := by
  unfold State.endFetch
  iterate 6 all_goals try first
      | with_reducible assumption | with_reducible apply State.modT_formed | with_reducible apply State.count_formed | split
      | with_reducible apply formed_mk

theorem State.dropTask_formed {s : State} {id : Nat} (hs : s.Formed) : (State.dropTask s id).Formed := by
  unfold State.dropTask
  iterate 4 all_goals try first
      | with_reducible assumption | with_reducible apply State.endFetch_formed | split | with_reducible apply formed_mk

theorem State.stopIntake_formed {s : State} {h : Handle} (hs : s.Formed) : (State.stopIntake s h).Formed := by
  unfold State.stopIntake
  iterate 8 all_goals try first
      | with_reducible assumption | with_reducible apply State.forEach_formed | with_reducible apply State.dropTask_formed
      | with_reducible apply State.chargeTask_formed | intro _

theorem State.modObj_formed {s : State} {h : Handle} {f : Obj → Obj} (hs : s.Formed) : (State.modObj s h f).Formed := by
  unfold State.modObj
  iterate 2 all_goals try first | with_reducible assumption | with_reducible apply State.modT_formed

theorem State.pin_formed {s : State} {h : Handle} {v : Nat} (hs : s.Formed) : (State.pin s h v).Formed := by
  unfold State.pin
  iterate 2 all_goals try first | with_reducible assumption | with_reducible apply State.modObj_formed

theorem State.engage_formed {s : State} {h : Handle} (hs : s.Formed) : (State.engage s h).Formed := by
  unfold State.engage
  iterate 6 all_goals try first
      | with_reducible assumption | with_reducible apply State.pin_formed | with_reducible apply State.modObj_formed
      | with_reducible apply State.flashAsk_formed | split

theorem State.freeObj_formed {s : State} {h : Handle} (hs : s.Formed) : (State.freeObj s h).Formed := by
  unfold State.freeObj
  iterate 4 all_goals try first
      | with_reducible assumption | with_reducible apply State.bumpGen_formed | with_reducible apply State.modT_formed
      | with_reducible apply State.dropMaskLines_formed

theorem State.mirrorWrite_formed {s : State} {h : Handle} {kind : Nat} {val : Nat} (hs : s.Formed) :
    (State.mirrorWrite s h kind val).Formed := by
  unfold State.mirrorWrite
  iterate 4 all_goals try first
      | with_reducible assumption | with_reducible apply State.hfpIssue_formed | with_reducible apply State.mpIssue_formed
      | split

theorem State.modSync_formed {s : State} {h : Handle} {f : SyncObj → SyncObj} (hs : s.Formed) :
    (State.modSync s h f).Formed := by
  unfold State.modSync
  iterate 2 all_goals try first | with_reducible assumption | with_reducible apply State.modT_formed

theorem State.mpOwn_formed {s : State} {t : Nat} {k : MpKind} (hs : s.Formed) : (State.mpOwn s t k).Formed := by
  unfold State.mpOwn
  iterate 2 all_goals try first | with_reducible assumption | with_reducible apply State.mpIssue_formed

theorem State.pinStarter_formed {s : State} {h : Handle} {v : Nat} (hs : s.Formed) : (State.pinStarter s h v).Formed := by
  unfold State.pinStarter
  iterate 2 all_goals try first | with_reducible assumption | with_reducible apply State.modObj_formed

theorem State.settleObj_formed {s : State} {h : Handle} (hs : s.Formed) : (State.settleObj s h).Formed := by
  unfold State.settleObj
  iterate 8 all_goals try first
      | with_reducible assumption | with_reducible apply State.modT_formed | with_reducible apply State.dropMaskLines_formed
      | with_reducible apply State.final_formed | with_reducible apply State.freeObj_formed | split

theorem State.syncSet_formed {s : State} {h : Handle} {v : Nat} (hs : s.Formed) : (State.syncSet s h v).Formed := by
  unfold State.syncSet
  iterate 6 all_goals try first
      | with_reducible assumption | with_reducible apply State.mirrorWrite_formed
      | with_reducible apply State.modSync_formed | with_reducible apply State.forEach_formed
      | with_reducible apply State.final_formed | intro _ | split

theorem State.syncAdd_formed {s : State} {h : Handle} {n : Nat} (hs : s.Formed) : (State.syncAdd s h n).Formed := by
  unfold State.syncAdd
  iterate 3 all_goals try first | with_reducible assumption | with_reducible apply State.syncSet_formed | split

theorem State.syncCancel_formed {s : State} {h : Handle} (hs : s.Formed) : (State.syncCancel s h).Formed := by
  unfold State.syncCancel
  iterate 6 all_goals try first
      | with_reducible assumption | with_reducible apply State.forEach_formed | with_reducible apply State.modSync_formed
      | with_reducible apply State.final_formed | intro _ | split

theorem State.syncFail_formed {s : State} {h : Handle} (hs : s.Formed) : (State.syncFail s h).Formed := by
  unfold State.syncFail
  iterate 6 all_goals try first
      | with_reducible assumption | with_reducible apply State.forEach_formed | with_reducible apply State.modSync_formed
      | with_reducible apply State.final_formed | intro _ | split

theorem State.syncTo_formed {s : State} {h : Handle} {v : Nat} (hs : s.Formed) : (State.syncTo s h v).Formed := by
  unfold State.syncTo
  iterate 4 all_goals try first | with_reducible assumption | with_reducible apply State.syncSet_formed | split

theorem State.unpin_formed {s : State} {h : Handle} {v : Nat} (hs : s.Formed) : (State.unpin s h v).Formed := by
  unfold State.unpin
  iterate 4 all_goals try first
      | with_reducible assumption | with_reducible apply State.settleObj_formed | with_reducible apply State.modObj_formed
      | split

theorem State.unpinStarter_formed {s : State} {h : Handle} {v : Nat} (hs : s.Formed) :
    (State.unpinStarter s h v).Formed := by
  unfold State.unpinStarter
  iterate 3 all_goals try first
      | with_reducible assumption | with_reducible apply State.settleObj_formed | with_reducible apply State.modObj_formed

theorem State.useCore_formed {s : State} {c : Nat} {bytes : Nat} (hs : s.Formed) : (State.useCore s c bytes).Formed := by
  unfold State.useCore
  iterate 2 all_goals try first | with_reducible assumption | with_reducible apply formed_mk

theorem State.wantRb_formed {s : State} (hs : s.Formed) : (State.wantRb s).Formed := by
  unfold State.wantRb
  iterate 2 all_goals try first | with_reducible assumption | with_reducible apply formed_mk

/-! ### TokStream.lean -/

theorem State.modTok_formed {s : State} {h : Handle} {f : TokStream → TokStream} (hs : s.Formed) :
    (State.modTok s h f).Formed := by
  unfold State.modTok
  iterate 2 all_goals try first | with_reducible assumption | with_reducible apply State.modT_formed

theorem State.tokEnd_formed {s : State} {h : Handle} {st : Nat} {free : Bool} (hs : s.Formed) :
    (State.tokEnd s h st free).Formed := by
  unfold State.tokEnd
  iterate 16 all_goals try first
      | with_reducible assumption | with_reducible apply State.forEach_formed | with_reducible apply State.dropTask_formed
      | with_reducible apply State.chargeTask_formed | with_reducible apply State.unpin_formed
      | with_reducible apply State.final_formed | with_reducible apply State.finish_formed
      | with_reducible apply State.bumpGen_formed | with_reducible apply State.modT_formed
      | with_reducible apply State.modTok_formed | intro _ | split

theorem State.tokFail_formed {s : State} {h : Handle} {put : Option Nat} {putSt : Nat} {r0 : Nat} {others : Nat}
    {openSt : Nat} (hs : s.Formed) : (State.tokFail s h put putSt r0 others openSt).Formed := by
  unfold State.tokFail
  iterate 12 all_goals try first
      | with_reducible assumption | with_reducible apply State.forEach_formed | with_reducible apply State.final_formed
      | with_reducible apply State.tokEnd_formed | intro _ | split

theorem State.siftCount_formed {s : State} {t : Nat} {core : Nat} {st : SiftStats} (hs : s.Formed) :
    (State.siftCount s t core st).Formed := by
  unfold State.siftCount
  iterate 12 all_goals try first
      | with_reducible assumption | with_reducible apply State.searched_formed | with_reducible apply State.count_formed

theorem State.tokSettle_formed {s : State} {h : Handle} {x : TokStream} {core : Nat} {final : Bool} (hs : s.Formed) :
    (State.tokSettle s h x core final).Formed := by
  unfold State.tokSettle
  iterate 4 all_goals try first
      | with_reducible assumption | with_reducible apply State.siftCount_formed | with_reducible apply State.modTok_formed
      | split

theorem State.absorbPut_formed {s : State} {h : Handle} (hs : s.Formed) : (State.absorbPut s h).Formed := by
  unfold State.absorbPut
  dsimp only
  iterate 12 all_goals try first
      | with_reducible assumption | with_reducible apply State.final_formed | with_reducible apply State.modTok_formed
      | with_reducible apply State.tokFail_formed | with_reducible apply State.tokSettle_formed | split

theorem State.announceWindows_formed {s : State} {h : Handle} {a2 : Nat} (hs : s.Formed) :
    (State.announceWindows s h a2).Formed := by
  induction a2 generalizing s with
  | zero => unfold State.announceWindows; assumption
  | succ n ih =>
    unfold State.announceWindows
    iterate 8 all_goals try first
        | with_reducible assumption | with_reducible apply ih | with_reducible apply State.complete_formed
        | with_reducible apply State.modTok_formed | with_reducible apply State.syncAdd_formed | split

theorem State.formWindows_formed {s : State} {h : Handle} {a2 : Nat} (hs : s.Formed) :
    (State.formWindows s h a2).Formed := by
  induction a2 generalizing s with
  | zero => unfold State.formWindows; assumption
  | succ n ih =>
    unfold State.formWindows
    iterate 12 all_goals try first
        | with_reducible assumption | with_reducible apply ih | with_reducible apply State.hfpIssue_formed
        | with_reducible apply State.modTok_formed | with_reducible apply State.mpIssue_formed | split

theorem State.putRead_formed {s : State} {h : Handle} {id : Nat} {d : HostData} (hs : s.Formed) :
    (State.putRead s h id d).Formed := by
  unfold State.putRead
  iterate 6 all_goals try first
      | with_reducible assumption | with_reducible apply State.addTask_formed | with_reducible apply State.modTok_formed
      | with_reducible apply State.tokFail_formed | split

theorem State.tokClose_formed {s : State} {h : Handle} (hs : s.Formed) : (State.tokClose s h).Formed := by
  unfold State.tokClose
  dsimp only
  iterate 6 all_goals try first
      | with_reducible assumption | with_reducible apply State.tokFail_formed | with_reducible apply State.tokSettle_formed
      | with_reducible apply State.tokEnd_formed | split

theorem State.tokPoke_formed {s : State} {h : Handle} {a2 : Nat} (hs : s.Formed) : (State.tokPoke s h a2).Formed := by
  induction a2 generalizing s with
  | zero => unfold State.tokPoke; assumption
  | succ n ih =>
    unfold State.tokPoke
    iterate 8 all_goals try first
        | with_reducible assumption | with_reducible apply ih | with_reducible apply State.absorbPut_formed
        | with_reducible apply State.announceWindows_formed | with_reducible apply State.formWindows_formed
        | with_reducible apply State.modTok_formed | with_reducible apply State.tokClose_formed | split

theorem State.tokRun_formed {s : State} {h : Handle} (hs : s.Formed) : (State.tokRun s h).Formed := by
  unfold State.tokRun
  iterate 3 all_goals try first | with_reducible assumption | with_reducible apply State.tokPoke_formed | split

theorem State.putTask_formed {s : State} {h : Handle} {id : Nat} {core : Nat} (hs : s.Formed) :
    (State.putTask s h id core).Formed := by
  unfold State.putTask
  iterate 3 all_goals try first
      | with_reducible assumption | with_reducible apply State.tokRun_formed | with_reducible apply State.modTok_formed

theorem State.tokAck_formed {s : State} {h : Handle} {k : Nat} (hs : s.Formed) : (State.tokAck s h k).Formed := by
  unfold State.tokAck
  iterate 3 all_goals try first
      | with_reducible assumption | with_reducible apply State.tokRun_formed | with_reducible apply State.modTok_formed

theorem State.tokRunAll_formed {s : State} {t : Nat} (hs : s.Formed) : (State.tokRunAll s t).Formed := by
  unfold State.tokRunAll
  iterate 4 all_goals try first
      | with_reducible assumption | with_reducible apply State.forEach_formed | with_reducible apply State.tokRun_formed
      | intro _

theorem State.tokStreamClose_formed {s : State} {src : Src} {c : Bytes} (hs : s.Formed) :
    (State.tokStreamClose s src c).Formed := by
  unfold State.tokStreamClose
  dsimp only
  iterate 8 all_goals try first
      | with_reducible assumption | with_reducible apply State.refuse_formed | with_reducible apply State.bumpGen_formed
      | with_reducible apply State.modT_formed | with_reducible apply State.only_formed
      | with_reducible apply State.modTok_formed | with_reducible apply State.defer_formed
      | with_reducible apply State.tokFail_formed | with_reducible apply State.tokRun_formed | split

theorem State.tokStreamOpen_formed {s : State} {src : Src} {c : Bytes} (hs : s.Formed) :
    (State.tokStreamOpen s src c).Formed := by
  unfold State.tokStreamOpen
  dsimp only
  iterate 6 all_goals try first
      | with_reducible assumption | with_reducible apply State.complete_formed | with_reducible apply State.refuse_formed
      | with_reducible apply State.first_formed | with_reducible apply State.engage_formed
      | with_reducible apply State.modT_formed | split

theorem State.tokStreamPut_formed {s : State} {src : Src} {c : Bytes} (hs : s.Formed) :
    (State.tokStreamPut s src c).Formed := by
  unfold State.tokStreamPut
  dsimp only
  iterate 8 all_goals try first
      | with_reducible assumption | with_reducible apply State.refuse_formed | with_reducible apply State.newId_formed
      | with_reducible apply State.modTok_formed | with_reducible apply State.first_formed
      | with_reducible apply State.addTask_formed | with_reducible apply State.hfpIssue_formed | split

theorem State.tokWriteFail_formed {s : State} {h : Handle} (hs : s.Formed) : (State.tokWriteFail s h).Formed := by
  unfold State.tokWriteFail
  iterate 4 all_goals try first
      | with_reducible assumption | with_reducible apply State.syncFail_formed | with_reducible apply State.tokFail_formed
      | split

/-! ### ObjOps.lean -/

theorem State.endUsers_formed {s : State} {h : Handle} {ver : Nat} {st : Nat} (hs : s.Formed) :
    (State.endUsers s h ver st).Formed := by
  unfold State.endUsers
  iterate 12 all_goals try first
      | with_reducible assumption | with_reducible apply State.modT_formed | with_reducible apply State.forEach_formed
      | with_reducible apply State.tokFail_formed | with_reducible apply State.final_formed
      | with_reducible apply State.dropTask_formed | with_reducible apply State.unpin_formed | intro _ | split

theorem State.liftQuarantine_formed {s : State} {h : Handle} {ver : Nat} (hs : s.Formed) :
    (State.liftQuarantine s h ver).Formed := by
  unfold State.liftQuarantine
  iterate 3 all_goals try first
      | with_reducible assumption | with_reducible apply State.fault_formed | with_reducible apply State.modObj_formed

theorem State.loseVersion_formed {s : State} {h : Handle} {ver : Nat} (hs : s.Formed) :
    (State.loseVersion s h ver).Formed := by
  unfold State.loseVersion
  iterate 8 all_goals try first
      | with_reducible assumption | with_reducible apply State.modObj_formed | with_reducible apply State.fault_formed
      | with_reducible apply State.settleObj_formed | with_reducible apply State.endUsers_formed | split

theorem State.place_formed {s : State} {h : Handle} {ver : Nat} {b : ObjBody} (hs : s.Formed) : ∀ u, State.place s h ver b
    = some u → u.Formed := by
  intro u hu
  unfold State.place at hu
  dsimp only at hu
  split at hu
  · cases hu
  · split at hu
    · rw [Option.map_eq_some_iff] at hu
      obtain ⟨te', -, rfl⟩ := hu
      exact formed_mk (State.modT_formed hs)
    · cases hu
      exact formed_mk (State.modT_formed hs)
    · cases hu
      exact hs

theorem State.refetch_formed {s : State} {h : Handle} {ver : Nat} (hs : s.Formed) : (State.refetch s h ver).Formed := by
  unfold State.refetch
  iterate 6 all_goals try first
      | with_reducible assumption | with_reducible apply State.hfpIssue_formed
      | with_reducible apply State.loseVersion_formed | with_reducible apply State.flashAsk_formed | split

theorem State.quarantine_formed {s : State} {h : Handle} {ver : Nat} {cause : Cause} (hs : s.Formed) :
    (State.quarantine s h ver cause).Formed := by
  unfold State.quarantine
  iterate 8 all_goals try first
      | with_reducible assumption | with_reducible apply State.modObj_formed | with_reducible apply State.refetch_formed
      | with_reducible apply State.fault_formed | split

theorem State.refetchFail_formed {s : State} {h : Handle} {ver : Nat} {rewrite : Bool} (hs : s.Formed) :
    (State.refetchFail s h ver rewrite).Formed := by
  unfold State.refetchFail
  iterate 6 all_goals try first
      | with_reducible assumption | with_reducible apply State.loseVersion_formed
      | with_reducible apply State.refetch_formed | with_reducible apply State.modObj_formed | split

theorem State.refetchRead_formed {s : State} {h : Handle} {ver : Nat} {img : Option Bytes} (hs : s.Formed) :
    (State.refetchRead s h ver img).Formed := by
  unfold State.refetchRead
  iterate 6 all_goals try first
      | with_reducible assumption | with_reducible apply State.mpOwn_formed | with_reducible apply State.refetchFail_formed
      | split

theorem State.sealFail_formed {s : State} {h : Handle} {st : Nat} (hs : s.Formed) : (State.sealFail s h st).Formed := by
  unfold State.sealFail
  iterate 8 all_goals try first
      | with_reducible assumption | with_reducible apply State.modT_formed | with_reducible apply State.finish_formed
      | with_reducible apply State.modObj_formed | split

theorem State.sealDone_formed {s : State} {h : Handle} (hs : s.Formed) : (State.sealDone s h).Formed := by
  unfold State.sealDone
  iterate 12 all_goals try first
      | with_reducible assumption | with_reducible apply State.sealFail_formed | with_reducible apply State.modObj_formed
      | with_reducible apply State.fault_formed | with_reducible apply State.finish_formed
      | with_reducible apply State.settleObj_formed | split

theorem State.sealPin_formed {s : State} {h : Handle} (hs : s.Formed) : (State.sealPin s h).Formed := by
  unfold State.sealPin
  iterate 4 all_goals try first
      | with_reducible assumption | with_reducible apply State.mpOwn_formed | with_reducible apply State.sealDone_formed
      | split

theorem State.sealRead_formed {s : State} {h : Handle} {ok : Bool} {body : Option ObjBody} (hs : s.Formed) :
    (State.sealRead s h ok body).Formed := by
  unfold State.sealRead
  split
  · iterate 3
      split
      · first | exact hs | exact State.sealFail_formed hs
    dsimp only
    iterate 3
      split
      · exact State.sealFail_formed hs
    have hm := @State.modObj_formed s h (fun o => { o with sealBody := body }) hs
    have hu : ∀ u, (if (Obj.versions ‹Obj›).isEmpty = true then
        (match body with
          | some b => (s.modObj h (fun o => { o with sealBody := body })).place h 1 b
          | none => none)
        else some (s.modObj h (fun o => { o with sealBody := body }))) = some u → u.Formed := by
      intro u hp
      split at hp
      · split at hp
        · exact State.place_formed hm _ hp
        · cases hp
      · cases hp
        exact hm
    split
    · exact State.sealFail_formed hm
    · have := hu _ ‹_›
      split
      · split
        · exact State.sealFail_formed this
        · split
          · exact State.flashAsk_formed this
          · exact State.sealFail_formed this
      · exact State.sealPin_formed this
  · exact hs

/-! ### Pantry.lean -/

theorem State.fetchAhead_formed {s : State} {k : Task} {quad : Nat} {cur : Need} {n : Need} (hs : s.Formed) :
    (State.fetchAhead s k quad cur n).Formed := by
  unfold State.fetchAhead
  dsimp only
  iterate 6 all_goals try first | with_reducible assumption | with_reducible apply State.mpOwn_formed | split

theorem State.putLine_formed {s : State} {t : Nat} {quad : Nat} {l : VLine} {unread : Nat} (hs : s.Formed) :
    (State.putLine s t quad l unread).Formed := by
  unfold State.putLine
  iterate 8 all_goals try first
      | with_reducible assumption | with_reducible apply State.modT_formed | with_reducible apply State.count_formed | split

theorem State.lineArrived_formed {s : State} {t : Nat} {l : VLine} {quad : Nat} {task : Nat} {ahead : Bool}
    (hs : s.Formed) : (State.lineArrived s t l quad task ahead).Formed := by
  unfold State.lineArrived
  iterate 4 all_goals try first
      | with_reducible assumption | with_reducible apply State.modTask_formed | with_reducible apply State.putLine_formed
      | split

theorem State.mpAhead_formed {s : State} {o : MpOp} (hs : s.Formed) : (State.mpAhead s o).Formed := by
  unfold State.mpAhead
  iterate 2 all_goals try first | with_reducible assumption | with_reducible apply formed_mk

theorem State.mpDemand_formed {s : State} {t : Nat} {k : MpKind} (hs : s.Formed) : (State.mpDemand s t k).Formed := by
  unfold State.mpDemand
  iterate 3 all_goals try first
      | with_reducible assumption | with_reducible apply State.mpAhead_formed | with_reducible apply formed_mk

theorem State.lineDemand_formed {s : State} {t : Nat} {quad : Nat} {task : Nat} {l : VLine} (hs : s.Formed) :
    (State.lineDemand s t quad task l).Formed := by
  unfold State.lineDemand
  iterate 8 all_goals try first
      | with_reducible assumption | with_reducible apply State.mpAhead_formed | with_reducible apply State.mpDemand_formed
      | split | with_reducible apply formed_mk

theorem State.readOn_formed {s : State} {k : Task} {quad : Nat} {a3 : List Need} (hs : s.Formed) :
    (State.readOn s k quad a3).1.Formed := by
  induction a3 generalizing s with
  | nil => unfold State.readOn; assumption
  | cons n r ih =>
    unfold State.readOn
    split
    · exact ih hs
    · split
      · exact ih (State.modT_formed hs)
      · exact hs

theorem State.readTask_formed {s : State} {id : Nat} (hs : s.Formed) : (State.readTask s id).1.Formed := by
  unfold State.readTask
  dsimp only
  iterate 12 all_goals try first
      | with_reducible assumption | with_reducible apply State.readOn_formed | with_reducible apply State.modTask_formed
      | with_reducible apply State.lineDemand_formed | with_reducible apply State.fetchAhead_formed
      | with_reducible apply formed_foldl | intro _ | split

/-! ### Objects.lean -/

theorem State.pinFill_formed {s : State} {h : Handle} {o : Obj} (hs : s.Formed) : (State.pinFill s h o).Formed := by
  unfold State.pinFill
  iterate 4 all_goals try first
      | with_reducible assumption | with_reducible apply State.forEach_formed | with_reducible apply State.mpOwn_formed
      | intro _

theorem State.hintNow_formed {s : State} {h : Handle} {o : Obj} {tk : Ticket} {hint : Nat} (hs : s.Formed) :
    (State.hintNow s h o tk hint).Formed := by
  unfold State.hintNow
  iterate 4 all_goals try first
      | with_reducible assumption | with_reducible apply State.pinFill_formed | with_reducible apply State.modObj_formed
      | with_reducible apply State.finish_formed | split

theorem State.loadEnd_formed {s : State} {k : Task} {h : Handle} {off : Nat} {len : Nat} {ok : Bool} (hs : s.Formed) :
    (State.loadEnd s k h off len ok).Formed := by
  unfold State.loadEnd
  iterate 6 all_goals try first
      | with_reducible assumption | with_reducible apply State.modObj_formed | with_reducible apply State.dropTask_formed
      | with_reducible apply State.final_formed | with_reducible apply formed_mk

theorem State.objCreate_formed {s : State} {src : Src} {c : Bytes} {hdr : HostRead} (hs : s.Formed) :
    (State.objCreate s src c hdr).Formed := by
  unfold State.objCreate
  dsimp only
  iterate 6 all_goals try first
      | with_reducible assumption | with_reducible apply State.refuse_formed | with_reducible apply State.only_formed
      | with_reducible apply State.modT_formed | split

theorem State.onObj_formed {s : State} {tk : Ticket} {h : Handle} {f : Obj → State} (hs : s.Formed)
    (hf : ∀ (x0 : Obj), (f x0).Formed) : (State.onObj s tk h f).Formed := by
  unfold State.onObj
  iterate 4 all_goals try first
      | with_reducible assumption | with_reducible apply hf | with_reducible apply State.refuse_formed | split

theorem State.objDestroy_formed {s : State} {src : Src} {c : Bytes} (hs : s.Formed) :
    (State.objDestroy s src c).Formed := by
  unfold State.objDestroy
  dsimp only
  iterate 12 all_goals try first
      | with_reducible assumption | with_reducible apply State.refuse_formed | with_reducible apply State.onObj_formed
      | with_reducible apply State.first_formed | with_reducible apply State.final_formed
      | with_reducible apply State.freeObj_formed | with_reducible apply State.forEach_formed
      | with_reducible apply State.endUsers_formed | with_reducible apply State.settleObj_formed
      | with_reducible apply State.modObj_formed | intro _ | split

theorem State.replaceDone_formed {s : State} {k : Task} {h : Handle} (hs : s.Formed) :
    (State.replaceDone s k h).Formed := by
  unfold State.replaceDone
  iterate 8 all_goals try first
      | with_reducible assumption | with_reducible apply State.modObj_formed | with_reducible apply State.modT_formed
      | with_reducible apply State.settleObj_formed | with_reducible apply State.final_formed
      | with_reducible apply State.dropTask_formed | split

theorem State.replaceFail_formed {s : State} {k : Task} {h : Handle} {st : Nat} {off : Nat} (hs : s.Formed) :
    (State.replaceFail s k h st off).Formed := by
  unfold State.replaceFail
  iterate 3 all_goals try first
      | with_reducible assumption | with_reducible apply State.final_formed | with_reducible apply State.dropTask_formed

theorem State.replaceUndo_formed {s : State} {k : Task} {h : Handle} (hs : s.Formed) :
    (State.replaceUndo s k h).Formed := by
  unfold State.replaceUndo
  iterate 4 all_goals try first
      | with_reducible assumption | with_reducible apply State.replaceFail_formed
      | with_reducible apply State.settleObj_formed | with_reducible apply State.modObj_formed

theorem State.objFilled_formed {s : State} {k : Task} {ok : Bool} (hs : s.Formed) : (State.objFilled s k ok).Formed := by
  unfold State.objFilled
  iterate 4 all_goals try first
      | with_reducible assumption | with_reducible apply State.replaceDone_formed
      | with_reducible apply State.replaceUndo_formed | split

theorem State.objHint_formed {s : State} {src : Src} {c : Bytes} (hs : s.Formed) : (State.objHint s src c).Formed := by
  unfold State.objHint
  dsimp only
  iterate 16 all_goals try first
      | with_reducible assumption | with_reducible apply State.refuse_formed | with_reducible apply State.onObj_formed
      | with_reducible apply State.only_formed | with_reducible apply State.modObj_formed
      | with_reducible apply State.defer_formed | with_reducible apply State.flashAsk_formed
      | with_reducible apply State.hintNow_formed | intro _ | split

theorem State.objLoad_formed {s : State} {src : Src} {c : Bytes} (hs : s.Formed) : (State.objLoad s src c).Formed := by
  unfold State.objLoad
  iterate 8 all_goals try first
      | with_reducible assumption | with_reducible apply State.onObj_formed | with_reducible apply State.refuse_formed
      | with_reducible apply State.first_formed | with_reducible apply State.hfpIssue_formed
      | with_reducible apply State.addTask_formed | intro _ | split

theorem State.objQuery_formed {s : State} {src : Src} {c : Bytes} (hs : s.Formed) : (State.objQuery s src c).Formed := by
  unfold State.objQuery
  iterate 6 all_goals try first
      | with_reducible assumption | with_reducible apply State.refuse_formed | with_reducible apply State.only_formed
      | split | with_reducible apply formed_mk

theorem State.objReplace_formed {s : State} {src : Src} {c : Bytes} (hs : s.Formed) :
    (State.objReplace s src c).Formed := by
  unfold State.objReplace
  iterate 8 all_goals try first
      | with_reducible assumption | with_reducible apply State.onObj_formed | with_reducible apply State.refuse_formed
      | with_reducible apply State.first_formed | with_reducible apply State.hfpIssue_formed
      | with_reducible apply State.addTask_formed | intro _ | split

theorem State.objSeal_formed {s : State} {src : Src} {c : Bytes} (hs : s.Formed) : (State.objSeal s src c).Formed := by
  unfold State.objSeal
  iterate 8 all_goals try first
      | with_reducible assumption | with_reducible apply State.onObj_formed | with_reducible apply State.refuse_formed
      | with_reducible apply State.modObj_formed | with_reducible apply State.mpOwn_formed
      | with_reducible apply State.defer_formed | intro _ | split

theorem State.pinDone_formed {s : State} {h : Handle} {ver : Nat} {ok : Bool} {cause : Cause} (hs : s.Formed) :
    (State.pinDone s h ver ok cause).Formed := by
  unfold State.pinDone
  iterate 8 all_goals try first
      | with_reducible assumption | with_reducible apply State.modObj_formed | with_reducible apply State.quarantine_formed
      | with_reducible apply State.sealDone_formed | with_reducible apply State.sealFail_formed
      | with_reducible apply State.finish_formed | split

theorem State.reloadExpiry_formed {s : State} {t : Nat} {obj : Nat} {ver : Nat} (hs : s.Formed) :
    (State.reloadExpiry s t obj ver).Formed := by
  unfold State.reloadExpiry
  iterate 6 all_goals try first | with_reducible assumption | with_reducible apply State.loseVersion_formed | split

theorem State.replacePin_formed {s : State} {k : Task} {h : Handle} (hs : s.Formed) :
    (State.replacePin s k h).Formed := by
  unfold State.replacePin
  iterate 6 all_goals try first
      | with_reducible assumption | with_reducible apply State.replaceDone_formed | with_reducible apply State.mpOwn_formed
      | split

theorem State.replaceRun_formed {s : State} {k : Task} {h : Handle} {backing : Nat} {limit : Nat} {backAddr : Nat}
    {switch : Bool} (hs : s.Formed) : (State.replaceRun s k h backing limit backAddr switch).Formed := by
  unfold State.replaceRun
  split
  · dsimp only
    split
    · exact State.replaceFail_formed hs
    · split
      · exact State.replaceFail_formed hs
      · have hu : ∀ u, (match k.image with
            | some b => s.place h (Obj.nextVer ‹Obj›) b
            | none => none) = some u → u.Formed := by
          intro u hp
          split at hp
          · exact State.place_formed hs _ hp
          · cases hp
        split
        · exact State.replaceFail_formed hs
        · exact State.mpOwn_formed (State.modTask_formed (State.modObj_formed (hu _ ‹_›)))
  · exact State.replaceFail_formed hs

theorem State.replaceWritten_formed {s : State} {k : Task} {ok : Bool} (hs : s.Formed) :
    (State.replaceWritten s k ok).Formed := by
  unfold State.replaceWritten
  iterate 6 all_goals try first
      | with_reducible assumption | with_reducible apply State.replaceUndo_formed
      | with_reducible apply State.flashAsk_formed | with_reducible apply State.replacePin_formed | split

end Sys2Proof.Machine
end

