-- ==== Sys2Proof/Laws/FormedReqs.lean ====
section
/-! SUPPORT. `State.Formed` is kept by the operations of
tasks, requests, streams and the pool:
one lemma each, which a proof about a step cites without unfolding it. -/

namespace Sys2Proof.Machine

/-! ### Tasks.lean -/

theorem State.asmCount_formed {s : State} {t : Nat} {core : Nat} {w : AsmWork} (hs : s.Formed) :
    (State.asmCount s t core w).Formed := by
  unfold State.asmCount
  iterate 4 all_goals try first
      | with_reducible assumption | with_reducible apply State.count_formed | with_reducible apply State.searched_formed
      | with_reducible apply State.siftCount_formed

theorem State.endTask_formed {s : State} {k : Task} {st : Nat} {off : Nat} {r0 : Nat} {r1 : Nat} (hs : s.Formed) :
    (State.endTask s k st off r0 r1).Formed := by
  unfold State.endTask
  iterate 6 all_goals try first
      | with_reducible assumption | with_reducible apply State.dropTask_formed
      | with_reducible apply State.chargeTask_formed | with_reducible apply State.final_formed
      | with_reducible apply State.forEach_formed | with_reducible apply State.unpin_formed | intro _

theorem State.kneadCount_formed {s : State} {t : Nat} {core : Nat} {recs : Bool} {seqs : List KSeq} (hs : s.Formed) :
    (State.kneadCount s t core recs seqs).Formed := by
  unfold State.kneadCount
  iterate 4 all_goals try first | with_reducible assumption | with_reducible apply State.count_formed

theorem State.packStart_formed {s : State} {pair : Bool} {src : Src} {c : Bytes} {desc : HostRead} (hs : s.Formed) :
    (State.packStart s pair src c desc).Formed := by
  unfold State.packStart
  dsimp only
  iterate 12 all_goals try first
      | with_reducible assumption | with_reducible apply State.refuse_formed | with_reducible apply State.complete_formed
      | with_reducible apply State.first_formed | with_reducible apply State.engage_formed
      | with_reducible apply State.addTask_formed | with_reducible apply State.hfpIssue_formed
      | with_reducible apply formed_foldl | split

theorem State.setResult_formed {s : State} {k : Task} {r : Nat × Nat × Nat × Nat} {outs : Nat} (hs : s.Formed) :
    (State.setResult s k r outs).Formed := by
  unfold State.setResult
  iterate 2 all_goals try first | with_reducible assumption | with_reducible apply State.modTask_formed

theorem State.runDetok_formed {s : State} {k : Task} {vocab : Handle} {ver : Nat} {outAddr : Nat} {cap : Nat}
    {ctrl : Bool} {hold : Bool} (hs : s.Formed) : (State.runDetok s k vocab ver outAddr cap ctrl hold).Formed := by
  unfold State.runDetok
  dsimp only
  iterate 12 all_goals try first
      | with_reducible assumption | with_reducible apply State.endTask_formed | with_reducible apply State.count_formed
      | with_reducible apply State.hfpIssue_formed | with_reducible apply State.setResult_formed | split

theorem State.writeRecords_formed {s : State} {k : Task} {shared : Bool} {sync : Handle} {l : List PackRec}
    (hs : s.Formed) : (State.writeRecords s k shared sync l).Formed := by
  unfold State.writeRecords
  iterate 8 all_goals try first
      | with_reducible assumption | with_reducible apply State.forEach_formed | with_reducible apply State.modTask_formed
      | with_reducible apply State.mpIssue_formed | with_reducible apply State.hfpIssue_formed | intro _ | split

theorem State.runPack_formed {s : State} {k : Task} {core : Nat} {pair : Bool} {tp : Handle} {v : Handle} {st : Handle}
    {sync : Handle} {tv : Nat} {vv : Nat} {sv : Nat} {outAddr : Nat} {cap : Nat} {a : Assembly} (hs : s.Formed) :
    (State.runPack s k core pair tp v st sync tv vv sv outAddr cap a).Formed := by
  unfold State.runPack
  dsimp only
  iterate 12 all_goals try first
      | with_reducible assumption | with_reducible apply State.endTask_formed | with_reducible apply State.asmCount_formed
      | with_reducible apply State.writeRecords_formed | with_reducible apply State.setResult_formed
      | with_reducible apply State.kneadCount_formed | split

theorem State.runTok_formed {s : State} {k : Task} {core : Nat} {vocab : Handle} {ver : Nat} {outAddr : Nat}
    {offsAddr : Nat} {cap : Nat} {reject : Bool} (hs : s.Formed) :
    (State.runTok s k core vocab ver outAddr offsAddr cap reject).Formed := by
  unfold State.runTok
  dsimp only
  iterate 12 all_goals try first
      | with_reducible assumption | with_reducible apply State.setResult_formed
      | with_reducible apply State.siftCount_formed | with_reducible apply State.hfpIssue_formed | split

theorem State.taskError_formed {s : State} {k : Task} (hs : s.Formed) : (State.taskError s k).Formed := by
  unfold State.taskError
  iterate 4 all_goals try first
      | with_reducible assumption | with_reducible apply State.syncFail_formed | with_reducible apply State.endTask_formed
      | with_reducible apply State.loadEnd_formed | with_reducible apply State.chargeTask_formed
      | with_reducible apply State.replaceFail_formed | split

theorem State.taskRead_formed {s : State} {id : Nat} {d : HostData} (hs : s.Formed) : (State.taskRead s id d).Formed := by
  unfold State.taskRead
  iterate 4 all_goals try first
      | with_reducible assumption | with_reducible apply State.modTask_formed | with_reducible apply State.taskError_formed
      | split

theorem State.taskWritten_formed {s : State} {id : Nat} {addr : Nat} {sync : Handle} {ok : Bool} (hs : s.Formed) :
    (State.taskWritten s id addr sync ok).Formed := by
  unfold State.taskWritten
  iterate 12 all_goals try first
      | with_reducible assumption | with_reducible apply State.taskError_formed | with_reducible apply State.loadEnd_formed
      | with_reducible apply State.chargeTask_formed | with_reducible apply State.forEach_formed
      | with_reducible apply State.modTask_formed | with_reducible apply State.syncAdd_formed
      | with_reducible apply State.endTask_formed | intro _ | split

theorem State.tokDone_formed {s : State} {id : Nat} (hs : s.Formed) : (State.tokDone s id).Formed := by
  unfold State.tokDone
  iterate 6 all_goals try first | with_reducible assumption | with_reducible apply State.endTask_formed | split

theorem State.tokStart_formed {s : State} {src : Src} {c : Bytes} {k : Nat → TaskKind} {addrs : List (Nat × Nat)}
    (hs : s.Formed) : (State.tokStart s src c k addrs).Formed := by
  unfold State.tokStart
  dsimp only
  iterate 6 all_goals try first
      | with_reducible assumption | with_reducible apply State.complete_formed | with_reducible apply State.first_formed
      | with_reducible apply State.engage_formed | with_reducible apply State.hfpIssue_formed
      | with_reducible apply State.addTask_formed | split

/-! ### ReqOps.lean -/

theorem State.modReq_formed {s : State} {h : Handle} {f : Req → Req} (hs : s.Formed) : (State.modReq s h f).Formed := by
  unfold State.modReq
  iterate 2 all_goals try first | with_reducible assumption | with_reducible apply State.modT_formed

theorem State.present_formed {s : State} {t : Nat} (hs : s.Formed) : (State.present s t).Formed := by
  unfold State.present
  iterate 6 all_goals try first
      | with_reducible assumption | with_reducible apply State.modT_formed | split | with_reducible apply formed_mk

theorem State.send_formed {s : State} {t : Nat} {m : EMsg} (hs : s.Formed) : (State.send s t m).Formed := by
  unfold State.send
  dsimp only
  iterate 4 all_goals try first
      | with_reducible assumption | with_reducible apply State.modT_formed | with_reducible apply State.present_formed
      | split

theorem State.showReq_formed {t : Nat} {s : State} {x : Nat × Req} (hs : s.Formed) : (State.showReq t s x).Formed := by
  unfold State.showReq
  iterate 3 all_goals try first
      | with_reducible assumption | with_reducible apply State.modT_formed | with_reducible apply formed_mk

theorem State.showReqs_formed {s : State} {t : Nat} (hs : s.Formed) : (State.showReqs s t).Formed := by
  unfold State.showReqs
  iterate 2 all_goals try first
      | with_reducible assumption | with_reducible apply State.forEach_formed | with_reducible apply State.showReq_formed

/-! ### Mould.lean -/

theorem State.maskFill_formed {s : State} {h : Handle} {ver : Nat} {n : Nat} {bay : Nat} {owner : Handle} (hs : s.Formed)
    : (State.maskFill s h ver n bay owner).Formed := by
  unfold State.maskFill
  iterate 12 all_goals try first
      | with_reducible assumption | with_reducible apply State.mpAhead_formed | with_reducible apply State.count_formed
      | with_reducible apply State.mpDemand_formed | with_reducible apply State.mpOwn_formed | split
      | with_reducible apply formed_mk

theorem State.putMask_formed {s : State} {h : Handle} {ver : Nat} {n : Nat} {bay : Nat} {unread : Bool} (hs : s.Formed) :
    (State.putMask s h ver n bay unread).Formed := by
  unfold State.putMask
  iterate 6 all_goals try first
      | with_reducible assumption | with_reducible apply State.modT_formed | with_reducible apply State.count_formed | split

theorem State.readMask_formed {s : State} {h : Handle} {ver : Nat} {n : Nat} {bay : Nat} (hs : s.Formed) :
    (State.readMask s h ver n bay).Formed := by
  unfold State.readMask
  iterate 2 all_goals try first | with_reducible assumption | with_reducible apply State.modT_formed

theorem State.wantMask_formed {s : State} {h : Handle} {ver : Nat} {n : Nat} {bay : Nat} (hs : s.Formed) :
    (State.wantMask s h ver n bay).1.Formed := by
  unfold State.wantMask
  dsimp only
  iterate 8 all_goals try first
      | with_reducible assumption | with_reducible apply State.readMask_formed | with_reducible apply State.putMask_formed
      | with_reducible apply State.count_formed | with_reducible apply State.maskFill_formed | split

/-! ### Streams.lean -/

theorem State.modStream_formed {s : State} {h : Handle} {f : RStream → RStream} (hs : s.Formed) :
    (State.modStream s h f).Formed := by
  unfold State.modStream
  iterate 2 all_goals try first | with_reducible assumption | with_reducible apply State.modT_formed

theorem State.settleStream_formed {s : State} {h : Handle} (hs : s.Formed) : (State.settleStream s h).Formed := by
  unfold State.settleStream
  iterate 8 all_goals try first
      | with_reducible assumption | with_reducible apply State.final_formed | with_reducible apply State.bumpGen_formed
      | with_reducible apply State.modT_formed | split

theorem State.reqFinal_formed {s : State} {h : Handle} (hs : s.Formed) : (State.reqFinal s h).Formed := by
  unfold State.reqFinal
  iterate 6 all_goals try first
      | with_reducible assumption | with_reducible apply State.settleStream_formed | with_reducible apply State.final_formed
      | with_reducible apply State.modReq_formed | split

theorem State.burstEnd_formed {s : State} {h : Handle} (hs : s.Formed) : (State.burstEnd s h).Formed := by
  unfold State.burstEnd
  iterate 8 all_goals try first
      | with_reducible assumption | with_reducible apply State.modStream_formed | with_reducible apply State.syncTo_formed
      | with_reducible apply State.settleStream_formed | with_reducible apply State.forEach_formed
      | with_reducible apply State.reqFinal_formed | split

theorem State.drainStream_formed {s : State} {h : Handle} {a2 : Nat} (hs : s.Formed) :
    (State.drainStream s h a2).Formed := by
  induction a2 generalizing s with
  | zero => unfold State.drainStream; assumption
  | succ n ih =>
    unfold State.drainStream
    dsimp only
    iterate 12 all_goals try first
        | with_reducible assumption | with_reducible apply ih | with_reducible apply State.hfpIssue_formed
        | with_reducible apply State.modStream_formed | with_reducible apply State.tally_formed | split

theorem State.runStream_formed {s : State} {h : Handle} (hs : s.Formed) : (State.runStream s h).Formed := by
  unfold State.runStream
  iterate 3 all_goals try first | with_reducible assumption | with_reducible apply State.drainStream_formed | split

theorem State.pushRecord_formed {s : State} {h : Handle} {r : Rec} (hs : s.Formed) : (State.pushRecord s h r).Formed := by
  unfold State.pushRecord
  dsimp only
  iterate 8 all_goals try first
      | with_reducible assumption | with_reducible apply State.runStream_formed
      | with_reducible apply State.modStream_formed | with_reducible apply State.tally_formed | split

theorem State.testStreamIrq_formed {s : State} {h : Handle} (hs : s.Formed) : (State.testStreamIrq s h).Formed := by
  unfold State.testStreamIrq
  dsimp only
  iterate 6 all_goals try first
      | with_reducible assumption | with_reducible apply State.raise_formed | with_reducible apply State.modStream_formed
      | split

theorem State.recordAck_formed {s : State} {h : Handle} {r : Option Rec} (hs : s.Formed) :
    (State.recordAck s h r).Formed := by
  unfold State.recordAck
  iterate 8 all_goals try first
      | with_reducible assumption | with_reducible apply State.burstEnd_formed | with_reducible apply State.modStream_formed
      | with_reducible apply State.tokRunAll_formed | with_reducible apply State.testStreamIrq_formed | split

theorem State.reqFinalError_formed {s : State} {h : Handle} (hs : s.Formed) : (State.reqFinalError s h).Formed := by
  unfold State.reqFinalError
  iterate 3 all_goals try first
      | with_reducible assumption | with_reducible apply State.reqFinal_formed | with_reducible apply State.modReq_formed

theorem State.recordFail_formed {s : State} {h : Handle} (hs : s.Formed) : (State.recordFail s h).Formed := by
  unfold State.recordFail
  iterate 12 all_goals try first
      | with_reducible assumption | with_reducible apply State.modStream_formed | with_reducible apply State.burstEnd_formed
      | with_reducible apply State.modT_formed | with_reducible apply State.forEach_formed
      | with_reducible apply State.reqFinalError_formed | with_reducible apply State.syncFail_formed
      | with_reducible apply State.testStreamIrq_formed | split

theorem State.streamCredit_formed {s : State} {src : Src} {c : Bytes} (hs : s.Formed) :
    (State.streamCredit s src c).Formed := by
  unfold State.streamCredit
  dsimp only
  iterate 6 all_goals try first
      | with_reducible assumption | with_reducible apply State.modStream_formed
      | with_reducible apply State.runStream_formed | with_reducible apply State.only_formed | split

theorem State.streamOpen_formed {s : State} {src : Src} {c : Bytes} (hs : s.Formed) :
    (State.streamOpen s src c).Formed := by
  unfold State.streamOpen
  dsimp only
  iterate 6 all_goals try first
      | with_reducible assumption | with_reducible apply State.refuse_formed | with_reducible apply State.only_formed
      | with_reducible apply State.modT_formed | split

theorem State.streamTimer_formed {s : State} {t : Nat} {idx : Nat} (hs : s.Formed) :
    (State.streamTimer s t idx).Formed := by
  unfold State.streamTimer
  iterate 4 all_goals try first | with_reducible assumption | with_reducible apply State.testStreamIrq_formed | split

/-! ### Requests.lean -/

theorem State.admitFail_formed {s : State} {t : Nat} {st : Nat} (hs : s.Formed) : (State.admitFail s t st).Formed := by
  unfold State.admitFail
  iterate 4 all_goals try first | with_reducible assumption | with_reducible apply State.tally_formed | split

theorem State.promptCount_formed {s : State} {t : Nat} {core : Nat} {x : PromptOut} (hs : s.Formed) :
    (State.promptCount s t core x).Formed := by
  unfold State.promptCount
  iterate 6 all_goals try first
      | with_reducible assumption | with_reducible apply State.siftCount_formed
      | with_reducible apply State.kneadCount_formed | with_reducible apply State.asmCount_formed | split

theorem State.intakeFail_formed {s : State} {h : Handle} {st : Nat} {off : Nat} (hs : s.Formed) :
    (State.intakeFail s h st off).Formed := by
  unfold State.intakeFail
  iterate 8 all_goals try first
      | with_reducible assumption | with_reducible apply State.stopIntake_formed | with_reducible apply State.modReq_formed

theorem State.intakeComplete_formed {s : State} {t : Nat} {idx : Nat} (hs : s.Formed) :
    (State.intakeComplete s t idx).Formed := by
  unfold State.intakeComplete
  dsimp only
  iterate 16 all_goals try first
      | with_reducible assumption | with_reducible apply State.promptCount_formed
      | with_reducible apply State.intakeFail_formed | with_reducible apply State.stopIntake_formed
      | with_reducible apply State.modReq_formed | with_reducible apply State.maskFill_formed | intro _ | split

theorem State.intakeTask_formed {s : State} {h : Handle} {i : Nat} {prio : Nat} {tk : Ticket} {cls : Nat} (hs : s.Formed)
    : (State.intakeTask s h i prio tk cls).Formed := by
  unfold State.intakeTask
  iterate 2 all_goals try first | with_reducible assumption | with_reducible apply State.addTask_formed

theorem State.intakeRead_formed {s : State} {h : Handle} {d : HostData} (hs : s.Formed) :
    (State.intakeRead s h d).Formed := by
  unfold State.intakeRead
  iterate 6 all_goals try first
      | with_reducible assumption | with_reducible apply State.intakeTask_formed | with_reducible apply State.modReq_formed
      | with_reducible apply State.intakeFail_formed | split

theorem State.reqAmend_formed {s : State} {src : Src} {c : Bytes} (hs : s.Formed) : (State.reqAmend s src c).Formed := by
  unfold State.reqAmend
  iterate 3 all_goals try first
      | with_reducible assumption | with_reducible apply State.modReq_formed | with_reducible apply State.first_formed

theorem State.reqCancel_formed {s : State} {src : Src} {c : Bytes} (hs : s.Formed) :
    (State.reqCancel s src c).Formed := by
  unfold State.reqCancel
  iterate 12 all_goals try first
      | with_reducible assumption | with_reducible apply State.stopIntake_formed | with_reducible apply State.only_formed
      | with_reducible apply State.modReq_formed | intro _

theorem State.reqQuery_formed {s : State} {src : Src} {c : Bytes} (hs : s.Formed) : (State.reqQuery s src c).Formed := by
  unfold State.reqQuery
  dsimp only
  iterate 6 all_goals try first
      | with_reducible assumption | with_reducible apply State.refuse_formed | with_reducible apply State.only_formed
      | with_reducible apply State.hfpIssue_formed | with_reducible apply State.defer_formed | split

theorem State.stopFull_formed {s : State} {te : Terrace} {i : Nat} {h : Handle} {r : Req} (hs : s.Formed) :
    (State.stopFull s te i h r).Formed := by
  unfold State.stopFull
  iterate 4 all_goals try first | with_reducible assumption | with_reducible apply State.count_formed | split

theorem State.startIntake_formed {s : State} {h : Handle} {b : Sub} {named : List Nat} (hs : s.Formed) :
    (State.startIntake s h b named).Formed := by
  unfold State.startIntake
  dsimp only
  iterate 8 all_goals try first
      | with_reducible assumption | with_reducible apply State.intakeFail_formed
      | with_reducible apply State.intakeTask_formed | with_reducible apply State.modReq_formed
      | with_reducible apply State.hfpIssue_formed | split

theorem State.reqSubmit_formed {s : State} {src : Src} {c : Bytes} {arrival : Tick} {rd_ : SubmitReads} (hs : s.Formed) :
    (State.reqSubmit s src c arrival rd_).Formed := by
  unfold State.reqSubmit
  dsimp only
  iterate 16 all_goals try first
      | with_reducible assumption | with_reducible apply State.refuse_formed | with_reducible apply State.complete_formed
      | with_reducible apply State.admitFail_formed | with_reducible apply State.stopFull_formed
      | with_reducible apply State.modT_formed | with_reducible apply State.tally_formed
      | with_reducible apply State.count_formed | with_reducible apply State.engage_formed
      | with_reducible apply State.startIntake_formed | with_reducible apply State.first_formed
      | with_reducible apply formed_foldl | split

theorem State.siftStage_formed {s : State} {k : Task} {core : Nat} {h : Handle} (hs : s.Formed) :
    (State.siftStage s k core h).Formed := by
  unfold State.siftStage
  dsimp only
  iterate 12 all_goals try first
      | with_reducible assumption | with_reducible apply State.siftCount_formed
      | with_reducible apply State.intakeFail_formed | with_reducible apply State.intakeTask_formed
      | with_reducible apply State.modReq_formed | with_reducible apply State.dropTask_formed
      | with_reducible apply State.chargeTask_formed | split

/-! ### Slicer.lean -/

theorem State.heal_formed {s : State} {t : Nat} (hs : s.Formed) : (State.heal s t).Formed := by
  unfold State.heal
  iterate 12 all_goals try first
      | with_reducible assumption | with_reducible apply State.forEach_formed | with_reducible apply State.count_formed
      | with_reducible apply State.modT_formed | intro _ | split

/-! ### Pool.lean -/

theorem State.freeStarter_formed {s : State} {t : Nat} {i : Nat} (hs : s.Formed) : (State.freeStarter s t i).Formed := by
  unfold State.freeStarter
  iterate 8 all_goals try first
      | with_reducible assumption | with_reducible apply State.forEach_formed | with_reducible apply State.bumpGen_formed
      | with_reducible apply State.modT_formed | intro _ | split

theorem State.cancelBuild_formed {s : State} {t : Nat} {i : Nat} {x : Starter} (hs : s.Formed) :
    (State.cancelBuild s t i x).Formed := by
  unfold State.cancelBuild
  iterate 8 all_goals try first
      | with_reducible assumption | with_reducible apply State.modT_formed | with_reducible apply State.unpinStarter_formed
      | with_reducible apply State.freeStarter_formed | with_reducible apply State.final_formed | split

theorem State.dropHold_formed {s : State} {t : Nat} {i : Nat} {x : Starter} (hs : s.Formed) :
    (State.dropHold s t i x).Formed := by
  unfold State.dropHold
  dsimp only
  iterate 4 all_goals try first | with_reducible assumption | with_reducible apply State.modT_formed | split

theorem State.findStarter_formed {s : State} {t : Nat} {d : Bytes} (hs : s.Formed) :
    (State.findStarter s t d).1.Formed := by
  unfold State.findStarter
  dsimp only
  iterate 8 all_goals try first
      | with_reducible assumption | with_reducible apply State.searched_formed | with_reducible apply State.modT_formed
      | with_reducible apply State.count_formed | split

theorem State.matchStarter_formed {s : State} {t : Nat} {i : Nat} (hs : s.Formed) : ∀ u, State.matchStarter s t i = some u
    → u.Formed := by
  intro u hu
  unfold State.matchStarter at hu
  split at hu
  · cases hu
  · split at hu
    · cases hu
    · cases hu
      exact State.tally_formed (State.modT_formed hs)

theorem State.poolSet_formed {s : State} {t : Nat} {c : Bytes} (hs : s.Formed) : (State.poolSet s t c).Formed := by
  unfold State.poolSet
  iterate 4 all_goals try first
      | with_reducible assumption | with_reducible apply State.modT_formed | with_reducible apply State.bumpGen_formed
      | split

theorem State.poolConfig_formed {s : State} {src : Src} {c : Bytes} (hs : s.Formed) :
    (State.poolConfig s src c).Formed := by
  unfold State.poolConfig
  dsimp only
  iterate 6 all_goals try first
      | with_reducible assumption | with_reducible apply State.refuse_formed | with_reducible apply State.poolSet_formed
      | with_reducible apply State.only_formed | split

theorem State.poolCommand_formed {s : State} {row : Bool} {src : Src} {c : Bytes} (hs : s.Formed) :
    (State.poolCommand s row src c).Formed := by
  unfold State.poolCommand
  iterate 3 all_goals try first
      | with_reducible assumption | with_reducible apply State.command_formed | with_reducible apply State.poolConfig_formed
      | intro _

theorem State.spanBuild_formed {s : State} {te : Terrace} {src : Src} {c : Bytes} {ts : List Tok} {digest : Bytes}
    (hs : s.Formed) : (State.spanBuild s te src c ts digest).Formed := by
  unfold State.spanBuild
  iterate 6 all_goals try first
      | with_reducible assumption | with_reducible apply State.first_formed | with_reducible apply State.pinStarter_formed
      | with_reducible apply State.engage_formed | with_reducible apply State.modT_formed

theorem State.starterFinal_formed {s : State} {t : Nat} {i : Nat} {tk : Ticket} {shared : Bool} (hs : s.Formed) :
    (State.starterFinal s t i tk shared).Formed := by
  unfold State.starterFinal
  iterate 3 all_goals try first | with_reducible assumption | with_reducible apply State.final_formed | split

theorem State.starterFrom_formed {s : State} {src : Src} {c : Bytes} (hs : s.Formed) :
    (State.starterFrom s src c).Formed := by
  unfold State.starterFrom
  dsimp only
  iterate 12 all_goals try first
      | with_reducible assumption | with_reducible apply State.refuse_formed | with_reducible apply State.modReq_formed
      | with_reducible apply State.modT_formed | with_reducible apply State.first_formed
      | with_reducible apply State.pinStarter_formed | split

theorem State.starterReady_formed {s : State} {t : Nat} {i : Nat} {f : Starter → Starter} (hs : s.Formed) :
    (State.starterReady s t i f).Formed := by
  unfold State.starterReady
  iterate 2 all_goals try first | with_reducible assumption | with_reducible apply State.modT_formed

theorem State.starterRelease_formed {s : State} {src : Src} {c : Bytes} (hs : s.Formed) :
    (State.starterRelease s src c).Formed := by
  unfold State.starterRelease
  dsimp only
  iterate 6 all_goals try first
      | with_reducible assumption | with_reducible apply State.refuse_formed | with_reducible apply State.only_formed
      | with_reducible apply State.cancelBuild_formed | with_reducible apply State.dropHold_formed | split

theorem State.starterSpan_formed {s : State} {src : Src} {c : Bytes} {toks : HostRead} (hs : s.Formed) :
    (State.starterSpan s src c toks).Formed := by
  unfold State.starterSpan
  dsimp only
  iterate 12 all_goals try first
      | with_reducible assumption | (with_reducible refine State.matchStarter_formed ?_ _ ‹_›)
      | with_reducible apply State.refuse_formed | with_reducible apply State.complete_formed
      | with_reducible apply State.heal_formed | with_reducible apply State.findStarter_formed
      | with_reducible apply State.starterFinal_formed | with_reducible apply State.first_formed
      | with_reducible apply State.spanBuild_formed | split

end Sys2Proof.Machine
end

