-- ==== Sys2Proof/Laws/FormedSteps.lean ====
section
/-! SUPPORT. `State.Formed` is kept by the operations of
the chain of a step, growth, boundaries and the step port:
one lemma each, which a proof about a step cites without unfolding it. -/

namespace Sys2Proof.Machine

/-! ### Growth.lean -/

theorem Bd.on_formed {b : Bd} {f : State → State} (hb : b.s.Formed) (hf : ∀ (x0 : State), x0.Formed → (f x0).Formed) :
    (Bd.on b f).s.Formed := by
  unfold Bd.on
  iterate 2 all_goals try first | with_reducible assumption | with_reducible apply hf

theorem Bd.tally_formed {b : Bd} {c : Cause} (hb : b.s.Formed) : (Bd.tally b c).s.Formed := by
  unfold Bd.tally
  iterate 3 all_goals try first
      | with_reducible assumption | with_reducible apply Bd.on_formed | with_reducible apply State.tally_formed | intro _

/-! ### Chain.lean -/

theorem State.modSp_formed {s : State} {t : Nat} {f : StepPort → StepPort} (hs : s.Formed) :
    (State.modSp s t f).Formed := by
  unfold State.modSp
  iterate 2 all_goals try first | with_reducible assumption | with_reducible apply State.modT_formed

theorem State.modStep_formed {s : State} {t : Nat} {old : Bool} {f : Step → Step} (hs : s.Formed) :
    (State.modStep s t old f).Formed := by
  unfold State.modStep
  iterate 2 all_goals try first | with_reducible assumption | with_reducible apply State.modSp_formed

theorem State.modRow_formed {s : State} {t : Nat} {old : Bool} {i : Nat} {f : Row → Row} (hs : s.Formed) :
    (State.modRow s t old i f).Formed := by
  unfold State.modRow
  iterate 2 all_goals try first | with_reducible assumption | with_reducible apply State.modStep_formed

theorem State.askTiles_formed {s : State} {t : Nat} {id : Nat} {i : Nat} {row : Row} {full : Bool} {tiles : List Nat}
    (hs : s.Formed) : (State.askTiles s t id i row full tiles).Formed := by
  unfold State.askTiles
  iterate 6 all_goals try first
      | with_reducible assumption | with_reducible apply State.modRow_formed | with_reducible apply State.tally_formed
      | with_reducible apply State.send_formed | split

theorem State.echoKeys_formed {s : State} {t : Nat} {idx : Nat} {lo : Nat} {hi : Nat} {new : List Tok} (hs : s.Formed) :
    (State.echoKeys s t idx lo hi new).Formed := by
  unfold State.echoKeys
  iterate 6 all_goals try first
      | with_reducible assumption | with_reducible apply State.count_formed | with_reducible apply State.modT_formed | split

theorem State.echoDraft_formed {s : State} {t : Nat} {core : Nat} {idx : Nat} {new : List Tok} (hs : s.Formed) :
    (State.echoDraft s t core idx new).Formed := by
  unfold State.echoDraft
  iterate 6 all_goals try first
      | with_reducible assumption | with_reducible apply State.echoKeys_formed | with_reducible apply State.modStep_formed
      | with_reducible apply State.searched_formed | split

theorem State.chainEnd_formed {s : State} {t : Nat} {idx : Nat} {core : Nat} {res : OwnerRes} {wasted : Nat}
    (hs : s.Formed) : (State.chainEnd s t idx core res wasted).Formed := by
  unfold State.chainEnd
  dsimp only
  iterate 12 all_goals try first
      | with_reducible assumption | with_reducible apply State.modStep_formed | with_reducible apply State.searched_formed
      | with_reducible apply State.count_formed | with_reducible apply State.forEach_formed
      | with_reducible apply State.fault_formed | with_reducible apply State.echoDraft_formed | intro _ | split

theorem State.countFlags_formed {s : State} {t : Nat} {flags : Nat} (hs : s.Formed) :
    (State.countFlags s t flags).Formed := by
  unfold State.countFlags
  iterate 4 all_goals try first
      | with_reducible assumption | with_reducible apply State.forEach_formed | with_reducible apply State.tally_formed
      | intro _

theorem State.drawFills_formed {s : State} {t : Nat} {te : Terrace} {r : Req} {row : Row} {y : Tok} {cands : List Tok}
    (hs : s.Formed) : (State.drawFills s t te r row y cands).Formed := by
  unfold State.drawFills
  iterate 6 all_goals try first
      | with_reducible assumption | with_reducible apply State.modT_formed | with_reducible apply State.maskFill_formed
      | with_reducible apply formed_foldl | intro _ | split

theorem State.failStep_formed {s : State} {t : Nat} {parity : Bool} (hs : s.Formed) :
    (State.failStep s t parity).Formed := by
  unfold State.failStep
  dsimp only
  iterate 8 all_goals try first
      | with_reducible assumption | with_reducible apply State.tally_formed | with_reducible apply State.modSp_formed
      | with_reducible apply State.raise_formed | split

theorem State.generate_formed {s : State} {t : Nat} (hs : s.Formed) : (State.generate s t).Formed := by
  unfold State.generate
  iterate 3 all_goals try first
      | with_reducible assumption | with_reducible apply State.modT_formed | with_reducible apply formed_mk

theorem State.wantLines_formed {s : State} {t : Nat} {quad : Nat} {a3 : List VLine} (hs : s.Formed) :
    (State.wantLines s t quad a3).1.Formed := by
  induction a3 generalizing s with
  | nil => unfold State.wantLines; assumption
  | cons l r ih =>
    unfold State.wantLines
    dsimp only
    split
    · exact State.modT_formed (ih hs)
    · exact State.lineDemand_formed (ih hs)

theorem State.rowBlock_formed {s : State} {t : Nat} {te : Terrace} {r : Req} {row : Row} (hs : s.Formed) :
    (State.rowBlock s t te r row).1.Formed := by
  unfold State.rowBlock
  dsimp only
  iterate 12 all_goals try first
      | with_reducible assumption | with_reducible apply State.mpOwn_formed | with_reducible apply State.wantMask_formed
      | with_reducible apply State.wantLines_formed | split

theorem State.variates_formed {s : State} {t : Nat} (hs : s.Formed) : (State.variates s t).1.Formed := by
  unfold State.variates
  iterate 6 all_goals try first | with_reducible assumption | with_reducible apply State.generate_formed | split

theorem State.useVariates_formed {s : State} {t : Nat} {n : Nat} (hs : s.Formed) : (State.useVariates s t n).Formed := by
  unfold State.useVariates
  iterate 3 all_goals try first
      | with_reducible assumption | with_reducible apply State.count_formed | with_reducible apply State.modT_formed

theorem State.rowVerdict_formed {s : State} {t : Nat} {te : Terrace} {f : Step} {r : Req} {row : Row} (hs : s.Formed) :
    (State.rowVerdict s t te f r row).1.Formed := by
  unfold State.rowVerdict
  dsimp only
  iterate 8 all_goals try first
      | with_reducible assumption | with_reducible apply State.tally_formed | with_reducible apply State.variates_formed
      | with_reducible apply State.count_formed | with_reducible apply State.useVariates_formed | split

theorem State.withdrawOwner_formed {s : State} {t : Nat} {idx : Nat} {code : Nat} (hs : s.Formed) :
    (State.withdrawOwner s t idx code).Formed := by
  unfold State.withdrawOwner
  iterate 3 all_goals try first
      | with_reducible assumption | with_reducible apply State.tally_formed | with_reducible apply State.modStep_formed

theorem State.rowDraw_formed {s : State} {t : Nat} {i : Nat} {te : Terrace} {f : Step} {r : Req} {row : Row}
    (hs : s.Formed) : (State.rowDraw s t i te f r row).Formed := by
  unfold State.rowDraw
  dsimp only
  iterate 6 all_goals try first
      | with_reducible assumption | with_reducible apply State.rowVerdict_formed
      | with_reducible apply State.withdrawOwner_formed | with_reducible apply State.tally_formed
      | with_reducible apply State.chainEnd_formed | with_reducible apply State.drawFills_formed
      | with_reducible apply State.modStep_formed | split

theorem State.rowSelected_formed {s : State} {t : Nat} {i : Nat} {d : Option RowCtx.Dist} (hs : s.Formed) :
    (State.rowSelected s t i d).Formed := by
  unfold State.rowSelected
  iterate 8 all_goals try first
      | with_reducible assumption | with_reducible apply State.tally_formed | with_reducible apply State.modRow_formed
      | with_reducible apply State.countFlags_formed | with_reducible apply State.count_formed | split

theorem State.rowStep_formed {s : State} {t : Nat} {i : Nat} {te : Terrace} {f : Step} {r : Req} {row : Row}
    (hs : s.Formed) : (State.rowStep s t i te f r row).Formed := by
  unfold State.rowStep
  dsimp only
  iterate 8 all_goals try first
      | with_reducible assumption | with_reducible apply State.modRow_formed | with_reducible apply State.rowSelected_formed
      | with_reducible apply State.askTiles_formed | with_reducible apply State.count_formed
      | with_reducible apply State.rowDraw_formed | split

theorem State.rowWait_formed {s : State} {t : Nat} {i : Nat} {row : Row} {code : Nat} (hs : s.Formed) :
    (State.rowWait s t i row code).Formed := by
  unfold State.rowWait
  iterate 8 all_goals try first
      | with_reducible assumption | with_reducible apply State.modRow_formed | with_reducible apply State.modT_formed
      | with_reducible apply State.count_formed | with_reducible apply State.modStep_formed | split

theorem State.rowTry_formed {s : State} {t : Nat} {i : Nat} {a3 : Nat} (hs : s.Formed) :
    (State.rowTry s t i a3).Formed := by
  induction a3 generalizing s with
  | zero => unfold State.rowTry; assumption
  | succ n ih =>
    unfold State.rowTry
    dsimp only
    iterate 12 all_goals try first
        | with_reducible assumption | with_reducible apply ih | with_reducible apply State.rowBlock_formed
        | with_reducible apply State.rowStep_formed | with_reducible apply State.rowWait_formed
        | with_reducible apply State.wantRb_formed | split

theorem State.runRows_formed {s : State} {t : Nat} (hs : s.Formed) : (State.runRows s t).Formed := by
  unfold State.runRows
  iterate 6 all_goals try first
      | with_reducible assumption | with_reducible apply State.forEach_formed | with_reducible apply State.heal_formed
      | with_reducible apply State.rowTry_formed | intro _ | split

/-! ### Growth.lean -/

theorem Bd.apply_formed {b : Bd} {x : Room} {pages : Nat} (hb : b.s.Formed) : (Bd.apply b x pages).s.Formed := by
  unfold Bd.apply
  iterate 8 all_goals try first
      | with_reducible assumption | with_reducible apply State.modT_formed | with_reducible apply State.count_formed
      | with_reducible apply State.forEach_formed | with_reducible apply State.mpOwn_formed | intro _

theorem Bd.withReq_formed {b : Bd} {i : Nat} {f : Terrace → Req → Bd} (hb : b.s.Formed)
    (hf : ∀ (x0 : Terrace) (x1 : Req), (f x0 x1).s.Formed) : (Bd.withReq b i f).s.Formed := by
  unfold Bd.withReq
  iterate 2 all_goals try first | with_reducible assumption | with_reducible apply hf | split

theorem Bd.mod_formed {b : Bd} {i : Nat} {f : Req → Req} (hb : b.s.Formed) : (Bd.mod b i f).s.Formed := by
  unfold Bd.mod
  iterate 3 all_goals try first
      | with_reducible assumption | with_reducible apply Bd.on_formed | with_reducible apply State.modT_formed | intro _

theorem Bd.refuse_formed {b : Bd} {i : Nat} (hb : b.s.Formed) : (Bd.refuse b i).s.Formed := by
  unfold Bd.refuse
  iterate 6 all_goals try first
      | with_reducible assumption | with_reducible apply Bd.withReq_formed | with_reducible apply Bd.on_formed
      | with_reducible apply Bd.mod_formed | with_reducible apply State.fault_formed | intro _

theorem Bd.check_formed {b : Bd} {i : Nat} {st : Nat} {f : Terrace → Req → Bd} (hb : b.s.Formed)
    (hf : ∀ (x0 : Terrace) (x1 : Req), (f x0 x1).s.Formed) : (Bd.check b i st f).s.Formed := by
  unfold Bd.check
  iterate 6 all_goals try first
      | with_reducible assumption | with_reducible apply hf | with_reducible apply Bd.withReq_formed
      | with_reducible apply Bd.refuse_formed | intro _ | split

theorem Bd.withT_formed {b : Bd} {f : Terrace → Bd} (hb : b.s.Formed) (hf : ∀ (x0 : Terrace), (f x0).s.Formed) :
    (Bd.withT b f).s.Formed := by
  unfold Bd.withT
  iterate 2 all_goals try first | with_reducible assumption | with_reducible apply hf | split

theorem Bd.countRuns_formed {b : Bd} (hb : b.s.Formed) : (Bd.countRuns b).s.Formed := by
  unfold Bd.countRuns
  iterate 6 all_goals try first
      | with_reducible assumption | with_reducible apply Bd.withT_formed | with_reducible apply Bd.on_formed
      | with_reducible apply State.count_formed | intro _

theorem Bd.each_formed {b : Bd} {f : Bd → Nat → Bd} (hb : b.s.Formed)
    (hf : ∀ (x0 : Bd) (x1 : Nat), x0.s.Formed → (f x0 x1).s.Formed) : (Bd.each b f).s.Formed := by
  unfold Bd.each
  iterate 2 all_goals try first | with_reducible assumption | with_reducible apply Bd.foldl_formed

theorem Bd.place_formed {b : Bd} {i : Nat} (hb : b.s.Formed) : (Bd.place b i).s.Formed := by
  unfold Bd.place
  iterate 4 all_goals try first | with_reducible assumption | with_reducible apply Bd.withReq_formed | intro _

theorem Bd.release_formed {b : Bd} {i : Nat} {keep : Nat} (hb : b.s.Formed) : (Bd.release b i keep).s.Formed := by
  unfold Bd.release
  iterate 8 all_goals try first
      | with_reducible assumption | with_reducible apply Bd.withT_formed | with_reducible apply Bd.on_formed
      | with_reducible apply State.count_formed | with_reducible apply State.modT_formed | intro _

theorem Bd.short_formed {b : Bd} {i : Nat} {n : Nat} {out : Nat} (hb : b.s.Formed) : (Bd.short b i n out).s.Formed := by
  unfold Bd.short
  dsimp only
  iterate 6 all_goals try first
      | with_reducible assumption | with_reducible apply Bd.withT_formed | with_reducible apply Bd.tally_formed | intro _
      | split

/-! ### Commit.lean -/

theorem Bd.cancel_formed {b : Bd} {i : Nat} (hb : b.s.Formed) : (Bd.cancel b i).s.Formed := by
  unfold Bd.cancel
  iterate 12 all_goals try first
      | with_reducible assumption | with_reducible apply Bd.withReq_formed | with_reducible apply Bd.tally_formed
      | with_reducible apply Bd.mod_formed | intro _ | split

theorem State.starterFail_formed {s : State} {t : Nat} {i : Nat} {st : Nat} {off : Nat} (hs : s.Formed) :
    (State.starterFail s t i st off).Formed := by
  unfold State.starterFail
  iterate 6 all_goals try first
      | with_reducible assumption | with_reducible apply State.unpinStarter_formed
      | with_reducible apply State.freeStarter_formed | with_reducible apply State.final_formed | split

theorem Bd.capture_formed {b : Bd} {te : Terrace} {i : Nat} {r : Req} {x : Nat} {len : Nat} {tk : Ticket}
    (hb : b.s.Formed) : (Bd.capture b te i r x len tk).s.Formed := by
  unfold Bd.capture
  dsimp only
  iterate 12 all_goals try first
      | with_reducible assumption | (with_reducible refine State.matchStarter_formed ?_ _ ‹_›)
      | with_reducible apply Bd.on_formed | with_reducible apply State.starterFail_formed
      | with_reducible apply State.findStarter_formed | with_reducible apply State.unpinStarter_formed
      | with_reducible apply State.modT_formed | with_reducible apply State.starterFinal_formed
      | with_reducible apply Bd.mod_formed | with_reducible apply State.starterReady_formed | intro _ | split

theorem State.commitCount_formed {s : State} {t : Nat} {c : Commit} {r : Req} (hs : s.Formed) :
    (State.commitCount s t c r).Formed := by
  unfold State.commitCount
  iterate 12 all_goals try first
      | with_reducible assumption | with_reducible apply State.count_formed | with_reducible apply State.tally_formed
      | split

theorem Bd.commitRes_formed {f : Step} {b : Bd} {i : Nat} {te : Terrace} {h : Handle} {r : Req} {res : OwnerRes}
    (hb : b.s.Formed) : (Bd.commitRes f b i te h r res).s.Formed := by
  unfold Bd.commitRes
  iterate 3 all_goals try first
      | with_reducible assumption | with_reducible apply Bd.mod_formed | with_reducible apply Bd.on_formed
      | with_reducible apply State.commitCount_formed | intro _

theorem Bd.commitRows_formed {f : Step} {b : Bd} {i : Nat} {te : Terrace} {r : Req} (hb : b.s.Formed) :
    (Bd.commitRows f b i te r).s.Formed := by
  unfold Bd.commitRows
  dsimp only
  iterate 8 all_goals try first
      | with_reducible assumption | with_reducible apply Bd.mod_formed | with_reducible apply Bd.on_formed
      | with_reducible apply State.echoKeys_formed | with_reducible apply Bd.commitRes_formed | intro _ | split

theorem Bd.commitOwner_formed {f : Step} {b : Bd} {i : Nat} (hb : b.s.Formed) : (Bd.commitOwner f b i).s.Formed := by
  unfold Bd.commitOwner
  iterate 12 all_goals try first
      | with_reducible assumption | with_reducible apply Bd.withReq_formed | with_reducible apply Bd.mod_formed
      | with_reducible apply Bd.commitRows_formed | with_reducible apply Bd.refuse_formed | intro _ | split

theorem Bd.deadline_formed {b : Bd} {i : Nat} (hb : b.s.Formed) : (Bd.deadline b i).s.Formed := by
  unfold Bd.deadline
  dsimp only
  iterate 12 all_goals try first
      | with_reducible assumption | with_reducible apply Bd.withReq_formed | with_reducible apply Bd.tally_formed
      | with_reducible apply Bd.mod_formed | intro _ | split

theorem Bd.doom_formed {b : Bd} {i : Nat} (hb : b.s.Formed) : (Bd.doom b i).s.Formed := by
  unfold Bd.doom
  iterate 8 all_goals try first
      | with_reducible assumption | with_reducible apply Bd.withReq_formed | with_reducible apply Bd.mod_formed | intro _
      | split

theorem Bd.endBuild_formed {b : Bd} {i : Nat} {x : Nat} {r : Req} (hb : b.s.Formed) : (Bd.endBuild b i x r).s.Formed := by
  unfold Bd.endBuild
  iterate 12 all_goals try first
      | with_reducible assumption | with_reducible apply Bd.release_formed | with_reducible apply Bd.on_formed
      | with_reducible apply State.unpin_formed | with_reducible apply Bd.mod_formed
      | with_reducible apply State.starterReady_formed | with_reducible apply State.starterFinal_formed
      | with_reducible apply State.starterFail_formed | intro _ | split

theorem Bd.endOwner_formed {b : Bd} {i : Nat} (hb : b.s.Formed) : (Bd.endOwner b i).s.Formed := by
  unfold Bd.endOwner
  iterate 16 all_goals try first
      | with_reducible assumption | with_reducible apply Bd.withReq_formed | with_reducible apply Bd.check_formed
      | with_reducible apply Bd.endBuild_formed | with_reducible apply Bd.capture_formed
      | with_reducible apply Bd.release_formed | with_reducible apply Bd.on_formed
      | with_reducible apply State.stopIntake_formed | with_reducible apply State.modT_formed
      | with_reducible apply State.forEach_formed | with_reducible apply State.unpin_formed
      | with_reducible apply Bd.mod_formed | intro _ | split

theorem Bd.freeDone_formed {b : Bd} {i : Nat} (hb : b.s.Formed) : (Bd.freeDone b i).s.Formed := by
  unfold Bd.freeDone
  iterate 8 all_goals try first
      | with_reducible assumption | with_reducible apply Bd.on_formed | with_reducible apply State.bumpGen_formed
      | with_reducible apply State.modT_formed | intro _ | split

theorem Bd.freeStarter_formed {b : Bd} {i : Nat} (hb : b.s.Formed) : (Bd.freeStarter b i).s.Formed := by
  unfold Bd.freeStarter
  iterate 12 all_goals try first
      | with_reducible assumption | with_reducible apply Bd.withT_formed | with_reducible apply State.count_formed
      | with_reducible apply State.modT_formed | with_reducible apply State.unpinStarter_formed
      | with_reducible apply State.freeStarter_formed | intro _ | split

theorem Bd.idleStarters_formed {b : Bd} {a1 : Nat} (hb : b.s.Formed) : (Bd.idleStarters b a1).s.Formed := by
  induction a1 generalizing b with
  | zero => unfold Bd.idleStarters; assumption
  | succ n ih =>
    unfold Bd.idleStarters
    iterate 3 all_goals try first
        | with_reducible assumption | with_reducible apply ih | with_reducible apply Bd.freeStarter_formed
        | with_reducible apply Bd.foldl_formed

theorem Bd.part1_formed {b : Bd} (hb : b.s.Formed) : (Bd.part1 b).s.Formed := by
  unfold Bd.part1
  dsimp only
  iterate 4 all_goals try first
      | with_reducible assumption | with_reducible apply Bd.each_formed | with_reducible apply Bd.doom_formed
      | with_reducible apply Bd.commitOwner_formed | split

theorem Bd.pushOwner_formed {last : List Nat} {b : Bd} {i : Nat} (hb : b.s.Formed) :
    (Bd.pushOwner last b i).s.Formed := by
  unfold Bd.pushOwner
  dsimp only
  iterate 12 all_goals try first
      | with_reducible assumption | with_reducible apply Bd.withReq_formed | with_reducible apply Bd.mod_formed
      | with_reducible apply Bd.on_formed | with_reducible apply State.reqFinalError_formed
      | with_reducible apply State.count_formed | with_reducible apply State.pushRecord_formed | intro _ | split

theorem Bd.records_formed {b : Bd} (hb : b.s.Formed) : (Bd.records b).s.Formed := by
  unfold Bd.records
  iterate 4 all_goals try first
      | with_reducible assumption | with_reducible apply Bd.withT_formed | with_reducible apply Bd.pushOwner_formed
      | with_reducible apply Bd.foldl_formed | intro _

theorem Bd.part4_formed {b : Bd} (hb : b.s.Formed) : (Bd.part4 b).s.Formed := by
  unfold Bd.part4
  iterate 6 all_goals try first
      | with_reducible assumption | with_reducible apply Bd.records_formed | with_reducible apply Bd.each_formed
      | with_reducible apply Bd.endOwner_formed | with_reducible apply Bd.freeDone_formed
      | with_reducible apply Bd.idleStarters_formed

theorem Bd.rollback_formed {b : Bd} {i : Nat} (hb : b.s.Formed) : (Bd.rollback b i).s.Formed := by
  unfold Bd.rollback
  iterate 8 all_goals try first
      | with_reducible assumption | with_reducible apply Bd.withReq_formed | with_reducible apply Bd.release_formed
      | with_reducible apply Bd.mod_formed | intro _ | split

/-! ### Boundary.lean -/

theorem Bd.accel_formed {b : Bd} {i : Nat} {r : Req} (hb : b.s.Formed) : (Bd.accel b i r).1.s.Formed := by
  unfold Bd.accel
  dsimp only
  iterate 12 all_goals try first
      | with_reducible assumption | with_reducible apply Bd.mod_formed | with_reducible apply Bd.tally_formed | split

theorem Bd.unstall_formed {b : Bd} {i : Nat} (hb : b.s.Formed) : (Bd.unstall b i).s.Formed := by
  unfold Bd.unstall
  dsimp only
  iterate 16 all_goals try first
      | with_reducible assumption | with_reducible apply Bd.withReq_formed | with_reducible apply Bd.check_formed
      | with_reducible apply Bd.mod_formed | with_reducible apply Bd.short_formed | with_reducible apply Bd.place_formed
      | with_reducible apply Bd.on_formed | with_reducible apply State.count_formed | with_reducible apply State.modT_formed
      | intro _ | split

theorem Bd.copyPage_formed {b : Bd} {i : Nat} (hb : b.s.Formed) : (Bd.copyPage b i).s.Formed := by
  unfold Bd.copyPage
  dsimp only
  iterate 6 all_goals try first
      | with_reducible assumption | with_reducible apply Bd.withReq_formed | with_reducible apply Bd.tally_formed | intro _
      | split

theorem Bd.resume_formed {b : Bd} {i : Nat} (hb : b.s.Formed) : (Bd.resume b i).s.Formed := by
  unfold Bd.resume
  dsimp only
  iterate 16 all_goals try first
      | with_reducible assumption | with_reducible apply Bd.withReq_formed | with_reducible apply Bd.check_formed
      | with_reducible apply Bd.short_formed | with_reducible apply Bd.apply_formed | with_reducible apply Bd.mod_formed
      | with_reducible apply Bd.on_formed | with_reducible apply Bd.tally_formed | with_reducible apply State.mpOwn_formed
      | with_reducible apply Bd.copyPage_formed | with_reducible apply Bd.place_formed | intro _ | split

theorem Bd.join_formed {b : Bd} {i : Nat} (hb : b.s.Formed) : (Bd.join b i).s.Formed := by
  unfold Bd.join
  dsimp only
  iterate 16 all_goals try first
      | with_reducible assumption | with_reducible apply Bd.withReq_formed | with_reducible apply Bd.check_formed
      | with_reducible apply Bd.short_formed | with_reducible apply Bd.apply_formed | with_reducible apply Bd.mod_formed
      | with_reducible apply Bd.copyPage_formed | with_reducible apply Bd.on_formed | with_reducible apply Bd.tally_formed
      | with_reducible apply State.mpOwn_formed | with_reducible apply Bd.place_formed | intro _ | split

theorem Bd.admitOne_formed {b : Bd} {x : Nat × Nat} (hb : b.s.Formed) : (Bd.admitOne b x).s.Formed := by
  unfold Bd.admitOne
  iterate 8 all_goals try first
      | with_reducible assumption | with_reducible apply Bd.withReq_formed | with_reducible apply Bd.unstall_formed
      | with_reducible apply Bd.resume_formed | with_reducible apply Bd.join_formed | intro _ | split

theorem Bd.amend_formed {i : Nat} {b : Bd} {a : Amend} (hb : b.s.Formed) : (Bd.amend i b a).s.Formed := by
  unfold Bd.amend
  iterate 12 all_goals try first
      | with_reducible assumption | with_reducible apply Bd.withReq_formed | with_reducible apply Bd.on_formed
      | with_reducible apply State.final_formed | with_reducible apply Bd.mod_formed | intro _ | split

theorem Bd.amends_formed {b : Bd} {i : Nat} (hb : b.s.Formed) : (Bd.amends b i).s.Formed := by
  unfold Bd.amends
  iterate 8 all_goals try first
      | with_reducible assumption | with_reducible apply Bd.withReq_formed | with_reducible apply Bd.amend_formed
      | with_reducible apply Bd.mod_formed | with_reducible apply Bd.foldl_formed | intro _ | split

theorem Bd.stall_formed {b : Bd} {i : Nat} {code : Nat} (hb : b.s.Formed) : (Bd.stall b i code).s.Formed := by
  unfold Bd.stall
  iterate 6 all_goals try first
      | with_reducible assumption | with_reducible apply Bd.check_formed | with_reducible apply Bd.mod_formed | intro _

theorem Bd.grow_formed {b : Bd} {i : Nat} (hb : b.s.Formed) : (Bd.grow b i).s.Formed := by
  unfold Bd.grow
  dsimp only
  iterate 8 all_goals try first
      | with_reducible assumption | with_reducible apply Bd.withReq_formed | with_reducible apply Bd.place_formed
      | with_reducible apply Bd.apply_formed | with_reducible apply Bd.stall_formed | with_reducible apply Bd.short_formed
      | intro _ | split

theorem Bd.continue_formed {b : Bd} {i : Nat} (hb : b.s.Formed) : (Bd.continue b i).s.Formed := by
  unfold Bd.continue
  dsimp only
  iterate 12 all_goals try first
      | with_reducible assumption | with_reducible apply Bd.withReq_formed | with_reducible apply Bd.stall_formed
      | with_reducible apply Bd.accel_formed | with_reducible apply Bd.grow_formed | intro _ | split

theorem Bd.destroy_formed {b : Bd} (hb : b.s.Formed) : (Bd.destroy b).s.Formed := by
  unfold Bd.destroy
  iterate 12 all_goals try first
      | with_reducible assumption | with_reducible apply Bd.withT_formed | with_reducible apply State.count_formed
      | with_reducible apply State.modT_formed | with_reducible apply State.forEach_formed
      | with_reducible apply State.tokFail_formed | with_reducible apply State.syncCancel_formed | intro _ | split

theorem Bd.draft_formed {b : Bd} {i : Nat} (hb : b.s.Formed) : (Bd.draft b i).s.Formed := by
  unfold Bd.draft
  iterate 16 all_goals try first
      | with_reducible assumption | with_reducible apply Bd.withReq_formed | with_reducible apply Bd.mod_formed
      | with_reducible apply Bd.on_formed | with_reducible apply State.count_formed
      | with_reducible apply State.forEach_formed | with_reducible apply State.maskFill_formed | intro _ | split

theorem Bd.sendNotices_formed {b : Bd} {next : Nat} (hb : b.s.Formed) : (Bd.sendNotices b next).s.Formed := by
  unfold Bd.sendNotices
  iterate 4 all_goals try first
      | with_reducible assumption | with_reducible apply Bd.on_formed | with_reducible apply State.send_formed | intro _
      | split

theorem Bd.sendCommit_formed {b : Bd} {next : Nat} (hb : b.s.Formed) : (Bd.sendCommit b next).s.Formed := by
  unfold Bd.sendCommit
  iterate 6 all_goals try first
      | with_reducible assumption | with_reducible apply Bd.mod_formed | with_reducible apply Bd.on_formed
      | with_reducible apply State.send_formed | with_reducible apply Bd.foldl_formed | intro _ | split

theorem Bd.openStep_formed {b : Bd} {rows : List Row} (hb : b.s.Formed) : (Bd.openStep b rows).s.Formed := by
  unfold Bd.openStep
  iterate 12 all_goals try first
      | with_reducible assumption | with_reducible apply Bd.withT_formed | with_reducible apply State.modSp_formed
      | with_reducible apply State.count_formed | with_reducible apply State.tally_formed
      | with_reducible apply State.modT_formed | with_reducible apply Bd.on_formed | with_reducible apply State.send_formed
      | intro _

theorem Bd.emit_formed {b : Bd} (hb : b.s.Formed) : (Bd.emit b).s.Formed := by
  unfold Bd.emit
  dsimp only
  iterate 8 all_goals try first
      | with_reducible assumption | with_reducible apply Bd.withT_formed | with_reducible apply Bd.sendNotices_formed
      | with_reducible apply Bd.sendCommit_formed | with_reducible apply Bd.openStep_formed | intro _ | split

theorem Bd.openRanges_formed {b : Bd} (hb : b.s.Formed) : (Bd.openRanges b).s.Formed := by
  unfold Bd.openRanges
  iterate 3 all_goals try first
      | with_reducible assumption | with_reducible apply Bd.on_formed | with_reducible apply State.modT_formed | intro _

theorem Bd.switch1_formed {h : Handle} {num : Nat} {b : Bd} {i : Nat} (hb : b.s.Formed) :
    (Bd.switch1 h num b i).s.Formed := by
  unfold Bd.switch1
  dsimp only
  iterate 16 all_goals try first
      | with_reducible assumption | with_reducible apply Bd.withReq_formed | with_reducible apply Bd.mod_formed
      | with_reducible apply Bd.on_formed | with_reducible apply State.unpin_formed | with_reducible apply State.pin_formed
      | intro _ | split

theorem Bd.switches_formed {b : Bd} (hb : b.s.Formed) : (Bd.switches b).s.Formed := by
  unfold Bd.switches
  iterate 12 all_goals try first
      | with_reducible assumption | with_reducible apply Bd.withT_formed | with_reducible apply Bd.each_formed
      | with_reducible apply Bd.switch1_formed | with_reducible apply Bd.on_formed
      | with_reducible apply State.forEach_formed | with_reducible apply State.modT_formed
      | with_reducible apply State.settleObj_formed | with_reducible apply Bd.foldl_formed | intro _

theorem Bd.part6_formed {b : Bd} (hb : b.s.Formed) : (Bd.part6 b).s.Formed := by
  unfold Bd.part6
  iterate 4 all_goals try first
      | with_reducible assumption | with_reducible apply Bd.switches_formed | with_reducible apply Bd.each_formed
      | with_reducible apply Bd.amends_formed | with_reducible apply Bd.on_formed | with_reducible apply State.modSp_formed
      | intro _

theorem Bd.part7_formed {b : Bd} (hb : b.s.Formed) : (Bd.part7 b).s.Formed := by
  unfold Bd.part7
  iterate 4 all_goals try first
      | with_reducible assumption | with_reducible apply Bd.each_formed | with_reducible apply Bd.openRanges_formed
      | with_reducible apply Bd.continue_formed | with_reducible apply Bd.draft_formed

theorem Bd.part8_formed {b : Bd} (hb : b.s.Formed) : (Bd.part8 b).s.Formed := by
  unfold Bd.part8
  iterate 6 all_goals try first
      | with_reducible assumption | with_reducible apply Bd.withT_formed | with_reducible apply Bd.countRuns_formed
      | with_reducible apply Bd.admitOne_formed | with_reducible apply Bd.foldl_formed | intro _

theorem State.sleepFinal_formed {s : State} {st : Nat} {r0 : Nat} {r1 : Nat} (hs : s.Formed) :
    (State.sleepFinal s st r0 r1).Formed := by
  unfold State.sleepFinal
  iterate 6 all_goals try first
      | with_reducible assumption | with_reducible apply State.final_formed | with_reducible apply State.raise_formed
      | split | with_reducible apply formed_mk

theorem State.sleepStop_formed {s : State} {st : Nat} {r0 : Nat} (hs : s.Formed) : (State.sleepStop s st r0).Formed := by
  unfold State.sleepStop
  iterate 3 all_goals try first
      | with_reducible assumption | with_reducible apply State.sleepFinal_formed | with_reducible apply formed_mk

theorem Bd.sleepSpill_formed {b : Bd} {i : Nat} (hb : b.s.Formed) : (Bd.sleepSpill b i).s.Formed := by
  unfold Bd.sleepSpill
  iterate 12 all_goals try first
      | with_reducible assumption | with_reducible apply Bd.withReq_formed | with_reducible apply Bd.on_formed
      | with_reducible apply Bd.mod_formed | with_reducible apply State.mpOwn_formed
      | with_reducible apply State.tally_formed | with_reducible apply State.sleepStop_formed | intro _ | split

theorem Bd.quiesce_formed {b : Bd} (hb : b.s.Formed) : (Bd.quiesce b).s.Formed := by
  unfold Bd.quiesce
  iterate 6 all_goals try first
      | with_reducible assumption | with_reducible apply Bd.on_formed | with_reducible apply Bd.each_formed
      | with_reducible apply Bd.sleepSpill_formed | intro _ | split | with_reducible apply formed_mk

theorem State.destroyPool_formed {s : State} {t : Nat} (hs : s.Formed) : (State.destroyPool s t).Formed := by
  unfold State.destroyPool
  iterate 6 all_goals try first
      | with_reducible assumption | with_reducible apply State.modT_formed | with_reducible apply State.bumpGen_formed
      | split

theorem State.boundary_formed {s : State} {t : Nat} (hs : s.Formed) : (State.boundary s t).Formed := by
  unfold State.boundary
  iterate 22 all_goals try first
      | with_reducible assumption | with_reducible apply State.heal_formed | with_reducible apply State.modT_formed
      | with_reducible apply Bd.destroy_formed | with_reducible apply Bd.part4_formed | with_reducible apply Bd.each_formed
      | with_reducible apply Bd.part1_formed | with_reducible apply Bd.cancel_formed
      | with_reducible apply Bd.deadline_formed | with_reducible apply Bd.part6_formed
      | with_reducible apply Bd.rollback_formed | with_reducible apply Bd.quiesce_formed
      | with_reducible apply Bd.openRanges_formed | with_reducible apply Bd.part8_formed
      | with_reducible apply Bd.part7_formed | with_reducible apply State.showReqs_formed
      | with_reducible apply State.destroyPool_formed | with_reducible apply Bd.emit_formed
      | with_reducible apply State.mpOwn_formed | split

/-! ### StepPort.lean -/

theorem State.protoErr_formed {s : State} {t : Nat} {code : Nat} {fails : Bool} (hs : s.Formed) :
    (State.protoErr s t code fails).Formed := by
  unfold State.protoErr
  iterate 6 all_goals try first
      | with_reducible assumption | with_reducible apply State.fault_formed | with_reducible apply State.tally_formed
      | with_reducible apply State.failStep_formed | split

theorem State.message_formed {s : State} {m : SpMsg} {body : Step → Bool → State} (hs : s.Formed)
    (hbody : ∀ (x0 : Step) (x1 : Bool), (body x0 x1).Formed) : (State.message s m body).Formed := by
  unfold State.message
  iterate 6 all_goals try first
      | with_reducible assumption | with_reducible apply hbody | with_reducible apply State.tally_formed
      | with_reducible apply State.protoErr_formed | split

theorem State.attnAbort_formed {s : State} {m : SpMsg} (hs : s.Formed) : (State.attnAbort s m).Formed := by
  unfold State.attnAbort
  iterate 8 all_goals try first
      | with_reducible assumption | with_reducible apply State.message_formed | with_reducible apply State.protoErr_formed
      | with_reducible apply State.modStep_formed | intro _ | split

theorem State.attnDone_formed {s : State} {m : SpMsg} (hs : s.Formed) : (State.attnDone s m).Formed := by
  unfold State.attnDone
  iterate 8 all_goals try first
      | with_reducible assumption | with_reducible apply State.message_formed | with_reducible apply State.protoErr_formed
      | with_reducible apply State.modStep_formed | intro _ | split

theorem State.attnDrafts_formed {s : State} {m : SpMsg} (hs : s.Formed) : (State.attnDrafts s m).Formed := by
  unfold State.attnDrafts
  dsimp only
  iterate 8 all_goals try first
      | with_reducible assumption | with_reducible apply State.protoErr_formed | with_reducible apply State.modReq_formed
      | with_reducible apply State.tally_formed | split

theorem State.maskHit_formed {s : State} {t : Nat} {row : Row} (hs : s.Formed) : (State.maskHit s t row).Formed := by
  unfold State.maskHit
  iterate 6 all_goals try first
      | with_reducible assumption | with_reducible apply State.count_formed | with_reducible apply State.maskFill_formed
      | split

theorem State.bounds_formed {s : State} {m : SpMsg} (hs : s.Formed) : (State.bounds s m).Formed := by
  unfold State.bounds
  iterate 12 all_goals try first
      | with_reducible assumption | with_reducible apply State.message_formed | with_reducible apply State.protoErr_formed
      | with_reducible apply State.modRow_formed | with_reducible apply State.runRows_formed
      | with_reducible apply State.maskHit_formed | intro _ | split

theorem State.breachTest_formed {s : State} {t : Nat} (hs : s.Formed) : (State.breachTest s t).Formed := by
  unfold State.breachTest
  dsimp only
  iterate 6 all_goals try first
      | with_reducible assumption | with_reducible apply State.fault_formed | with_reducible apply State.modSp_formed
      | split

theorem State.reservedMsg_formed {s : State} {m : SpMsg} (hs : s.Formed) : (State.reservedMsg s m).Formed := by
  unfold State.reservedMsg
  iterate 3 all_goals try first | with_reducible assumption | with_reducible apply State.protoErr_formed | split

theorem State.rowTimeout_formed {s : State} {t : Nat} {i : Nat} (hs : s.Formed) : (State.rowTimeout s t i).Formed := by
  unfold State.rowTimeout
  iterate 6 all_goals try first | with_reducible assumption | with_reducible apply State.withdrawOwner_formed | split

theorem State.tileMsg_formed {s : State} {m : SpMsg} {full : Bool} (hs : s.Formed) : (State.tileMsg s m full).Formed := by
  unfold State.tileMsg
  dsimp only
  iterate 16 all_goals try first
      | with_reducible assumption | with_reducible apply State.message_formed | with_reducible apply State.protoErr_formed
      | with_reducible apply State.modRow_formed | with_reducible apply State.count_formed
      | with_reducible apply State.tally_formed | with_reducible apply State.maskHit_formed
      | with_reducible apply State.runRows_formed | with_reducible apply State.breachTest_formed | intro _ | split

theorem State.rowsFullIn_formed {s : State} {m : SpMsg} (hs : s.Formed) : (State.rowsFullIn s m).Formed := by
  unfold State.rowsFullIn
  iterate 3 all_goals try first | with_reducible assumption | with_reducible apply State.tileMsg_formed | split

theorem State.spConfig_formed {s : State} {src : Src} {c : Bytes} {act : State → Nat → State} (hs : s.Formed)
    (hact : ∀ (x0 : State) (x1 : Nat), x0.Formed → (act x0 x1).Formed) : (State.spConfig s src c act).Formed := by
  unfold State.spConfig
  dsimp only
  iterate 4 all_goals try first
      | with_reducible assumption | with_reducible apply hact | with_reducible apply State.refuse_formed
      | with_reducible apply State.only_formed | split

theorem State.spSet_formed {s : State} {src : Src} {c : Bytes} (hs : s.Formed) : (State.spSet s src c).Formed := by
  unfold State.spSet
  dsimp only
  iterate 8 all_goals try first
      | with_reducible assumption | with_reducible apply State.refuse_formed | with_reducible apply State.spConfig_formed
      | with_reducible apply State.modSp_formed | intro _ | split

theorem State.stepTimeout_formed {s : State} {t : Nat} (hs : s.Formed) : (State.stepTimeout s t).Formed := by
  unfold State.stepTimeout
  iterate 4 all_goals try first | with_reducible assumption | with_reducible apply State.protoErr_formed | split

theorem State.tilesIn_formed {s : State} {m : SpMsg} (hs : s.Formed) : (State.tilesIn s m).Formed := by
  unfold State.tilesIn
  iterate 3 all_goals try first | with_reducible assumption | with_reducible apply State.tileMsg_formed | split

end Sys2Proof.Machine
end

