-- ==== Sys2Proof/Laws/FormedBlock.lean ====
section
/-! SUPPORT. `State.Formed` is kept by the operations of
terraces, turns, mailboxes, power, start-up, sleep and counters:
one lemma each, which a proof about a step cites without unfolding it. -/

namespace Sys2Proof.Machine

/-! ### Terraces.lean -/

theorem State.clearTerrace_formed {s : State} {t : Nat} {te : Terrace} (hs : s.Formed) :
    (State.clearTerrace s t te).Formed := by
  unfold State.clearTerrace
  dsimp only
  exact formed_mk_terr (State.modMb_formed hs (fun _ _ => Mailbox.fresh_formed _))
    (Tbl.wf_del hs.table t)

theorem State.discardHeld_formed {s : State} {t : Nat} {te : Terrace} (hs : s.Formed) :
    (State.discardHeld s t te).Formed := by
  unfold State.discardHeld
  iterate 3 all_goals try first
      | with_reducible assumption | with_reducible apply State.count_formed | with_reducible apply State.modMb_formed
      | (intro _ hx; exact hx)

theorem State.discardRecords_formed {s : State} {te : Terrace} {h : Handle} {x : RStream} (hs : s.Formed) :
    (State.discardRecords s te h x).Formed := by
  unfold State.discardRecords
  iterate 6 all_goals try first
      | with_reducible assumption | with_reducible apply State.count_formed | with_reducible apply State.modStream_formed
      | with_reducible apply State.settleStream_formed | with_reducible apply State.forEach_formed
      | with_reducible apply State.reqFinal_formed | intro _ | split

theorem State.destroyDiscard_formed {s : State} {t : Nat} (hs : s.Formed) : (State.destroyDiscard s t).Formed := by
  unfold State.destroyDiscard
  iterate 8 all_goals try first
      | with_reducible assumption | with_reducible apply State.discardHeld_formed
      | with_reducible apply State.forEach_formed | with_reducible apply State.discardRecords_formed | intro _ | split

theorem State.destroyDone_formed {s : State} {t : Nat} (hs : s.Formed) : (State.destroyDone s t).Formed := by
  unfold State.destroyDone
  iterate 6 all_goals try first
      | with_reducible assumption | with_reducible apply State.final_formed | with_reducible apply State.clearTerrace_formed
      | split

theorem State.freshLogs_formed {s : State} {t : Nat} (hs : s.Formed) : (State.freshLogs s t).Formed := by
  unfold State.freshLogs
  exact formed_mk_faults hs ⟨hs.logs.1, fun e he => hs.logs.2 e (Tbl.mem_del he)⟩

theorem State.instantiate_formed {s : State} {t : Nat} (hs : s.Formed) : (State.instantiate s t).Formed := by
  unfold State.instantiate
  iterate 3 all_goals try first
      | with_reducible assumption | with_reducible apply State.modT_formed | with_reducible apply formed_mk

theorem State.keyInstall_formed {s : State} {src : Src} {c : Bytes} {blob : HostRead} (hs : s.Formed) :
    (State.keyInstall s src c blob).Formed := by
  unfold State.keyInstall
  dsimp only
  iterate 8 all_goals try first
      | with_reducible assumption | with_reducible apply State.refuse_formed | with_reducible apply State.only_formed
      | with_reducible apply State.modT_formed | split

theorem State.terraceCreate_formed {s : State} {src : Src} {c : Bytes} {desc : HostRead} (hs : s.Formed) :
    (State.terraceCreate s src c desc).Formed := by
  unfold State.terraceCreate
  dsimp only
  iterate 6 all_goals try first
      | with_reducible assumption | with_reducible apply State.refuse_formed | with_reducible apply State.instantiate_formed
      | with_reducible apply State.freshLogs_formed | with_reducible apply State.only_formed | split
      | (with_reducible refine formed_mk_terr ?_ (Tbl.wf_put (State.Formed.table ?_) _ _))

/-! ### Turns.lean -/

theorem State.startMgmt_formed {s : State} {next : Option Nat} (hs : s.Formed) : (State.startMgmt s next).Formed := by
  unfold State.startMgmt
  iterate 6 all_goals try first
      | with_reducible assumption | with_reducible apply State.modT_formed | split | with_reducible apply formed_mk

theorem State.newRound_formed {s : State} (hs : s.Formed) : (State.newRound s).Formed := by
  unfold State.newRound
  iterate 2 all_goals try first
      | with_reducible assumption | (with_reducible refine formed_mk_terr ?_ (Tbl.wf_mapVals (State.Formed.table ?_) _))

theorem State.afterTurn_formed {s : State} {done : Option Nat} (hs : s.Formed) : (State.afterTurn s done).Formed := by
  unfold State.afterTurn
  iterate 4 all_goals try first
      | with_reducible assumption | with_reducible apply State.startMgmt_formed | with_reducible apply State.newRound_formed
      | split

theorem State.overrun_formed {s : State} {t : Nat} (hs : s.Formed) : (State.overrun s t).Formed := by
  unfold State.overrun
  iterate 4 all_goals try first
      | with_reducible assumption | with_reducible apply State.count_formed | split | with_reducible apply formed_mk

theorem State.startTurn_formed {s : State} {t : Nat} {len : Nat} (hs : s.Formed) : (State.startTurn s t len).Formed := by
  unfold State.startTurn
  iterate 6 all_goals try first
      | with_reducible assumption | with_reducible apply State.modT_formed | with_reducible apply State.present_formed
      | with_reducible apply State.tally_formed | split | with_reducible apply formed_mk

theorem State.slotEnd_formed {s : State} (hs : s.Formed) : (State.slotEnd s).Formed := by
  unfold State.slotEnd
  iterate 6 all_goals try first
      | with_reducible assumption | with_reducible apply State.afterTurn_formed | with_reducible apply State.modT_formed
      | with_reducible apply State.overrun_formed | with_reducible apply State.startTurn_formed | split

/-! ### Mailboxes.lean -/

theorem State.disableMb_formed {s : State} {mb : Nat} (hs : s.Formed) : (State.disableMb s mb).Formed := by
  unfold State.disableMb
  iterate 2 all_goals try first
      | with_reducible assumption | with_reducible apply State.modMb_formed | (intro _ hx; exact hx)

theorem State.passProgress_formed {s : State} {h : Handle} (hs : s.Formed) : (State.passProgress s h).Formed := by
  unfold State.passProgress
  iterate 2 all_goals try first | with_reducible assumption | with_reducible apply State.modTok_formed

theorem State.roomMade_formed {s : State} {mb : Nat} (hs : s.Formed) : (State.roomMade s mb).Formed := by
  unfold State.roomMade
  iterate 4 all_goals try first
      | with_reducible assumption | with_reducible apply State.flushHeld_formed
      | with_reducible apply State.tokRunAll_formed | split

theorem State.enableMb_formed {s : State} {mb : Nat} (hs : s.Formed) : (State.enableMb s mb).Formed := by
  unfold State.enableMb
  dsimp only
  iterate 12 all_goals try first
      | with_reducible assumption
      | (rename_i hm; exact Mailbox.formed_ring hm rfl rfl rfl rfl rfl rfl
           (by first | exact .inl rfl | exact .inr ⟨0, rfl⟩ | exact .inr ⟨_, rfl⟩)
           (by first | exact .inl rfl | exact .inr ⟨0, rfl⟩ | exact .inr ⟨_, rfl⟩))
      | with_reducible apply State.modMb_formed | with_reducible apply State.forEach_formed
      | with_reducible apply State.passProgress_formed | with_reducible apply State.mbError_formed
      | with_reducible apply State.roomMade_formed | intro _ | split

theorem State.moveHead_formed {s : State} {mb : Nat} {v : Word} (hs : s.Formed) : (State.moveHead s mb v).Formed := by
  unfold State.moveHead
  dsimp only
  iterate 12 all_goals try first
      | with_reducible assumption
      | (rename_i hm; exact Mailbox.formed_ring hm rfl rfl rfl rfl rfl rfl
           (by first | exact .inl rfl | exact .inr ⟨0, rfl⟩ | exact .inr ⟨_, rfl⟩)
           (by first | exact .inl rfl | exact .inr ⟨0, rfl⟩ | exact .inr ⟨_, rfl⟩))
      | with_reducible apply State.modMb_formed | with_reducible apply State.mbError_formed
      | with_reducible apply State.forEach_formed | with_reducible apply State.passProgress_formed
      | with_reducible apply State.roomMade_formed | intro _ | split

theorem State.ringTail_formed {s : State} {mb : Nat} {v : Word} {at_ : Tick} (hs : s.Formed) :
    (State.ringTail s mb v at_).Formed := by
  unfold State.ringTail
  dsimp only
  iterate 12 all_goals try first
      | with_reducible assumption
      | (rename_i hm; exact Mailbox.formed_ring hm rfl rfl rfl rfl rfl rfl
           (by first | exact .inl rfl | exact .inr ⟨0, rfl⟩ | exact .inr ⟨_, rfl⟩)
           (by first | exact .inl rfl | exact .inr ⟨0, rfl⟩ | exact .inr ⟨_, rfl⟩))
      | with_reducible apply State.modMb_formed | with_reducible apply State.mbError_formed
      | with_reducible apply State.readAhead_formed | intro _ | split

theorem State.readShadows_formed {s : State} (hs : s.Formed) : (State.readShadows s).Formed := by
  unfold State.readShadows
  dsimp only
  iterate 12 all_goals try first
      | with_reducible assumption | with_reducible apply State.forEach_formed | with_reducible apply State.modMb_formed
      | with_reducible apply State.ringTail_formed | with_reducible apply State.moveHead_formed | (intro _ hx; exact hx)
      | intro _ | split

theorem State.writeMbIrq_formed {s : State} {mb : Nat} {v : Word} (hs : s.Formed) : (State.writeMbIrq s mb v).Formed := by
  unfold State.writeMbIrq
  dsimp only
  iterate 8 all_goals try first
      | with_reducible assumption | exact Mailbox.irq_formed ‹_› | with_reducible apply State.testMbIrq_formed
      | with_reducible apply State.modMb_formed | with_reducible apply State.unmaskMsg_formed | intro _ | split

/-! ### Power.lean -/

theorem State.taintModels_formed {s : State} (hs : s.Formed) : (State.taintModels s).Formed := by
  unfold State.taintModels
  iterate 2 all_goals try first
      | with_reducible assumption | (with_reducible refine formed_mk_terr ?_ (Tbl.wf_mapVals (State.Formed.table ?_) _))

theorem State.modPwr_formed {s : State} {f : Power → Power} (hs : s.Formed) : (State.modPwr s f).Formed := by
  unfold State.modPwr
  iterate 2 all_goals try first | with_reducible assumption | with_reducible apply formed_mk

theorem State.beginChange_formed {s : State} {b : Nat} {bySet : Bool} (hs : s.Formed) :
    (State.beginChange s b bySet).Formed := by
  unfold State.beginChange
  iterate 3 all_goals try first
      | with_reducible assumption | with_reducible apply State.taintModels_formed | with_reducible apply State.modPwr_formed

theorem State.powerNext_formed {s : State} (hs : s.Formed) : (State.powerNext s).Formed := by
  unfold State.powerNext
  iterate 6 all_goals try first
      | with_reducible assumption | with_reducible apply State.beginChange_formed | with_reducible apply State.finish_formed
      | with_reducible apply State.modPwr_formed | split

theorem State.autoLevel_formed {s : State} {busy : Nat} {total : Nat} (hs : s.Formed) :
    (State.autoLevel s busy total).Formed := by
  unfold State.autoLevel
  dsimp only
  iterate 12 all_goals try first
      | with_reducible assumption | with_reducible apply State.powerNext_formed
      | with_reducible apply State.beginChange_formed | split
      | (with_reducible refine formed_mk_terr ?_ (Tbl.wf_mapVals (State.Formed.table ?_) _))

theorem State.biasSettled_formed {s : State} (hs : s.Formed) : (State.biasSettled s).Formed := by
  unfold State.biasSettled
  iterate 3 all_goals try first | with_reducible assumption | with_reducible apply State.modPwr_formed | split

theorem State.changeFails_formed {s : State} {detail : Nat} (hs : s.Formed) : (State.changeFails s detail).Formed := by
  unfold State.changeFails
  dsimp only
  iterate 12 all_goals try first
      | with_reducible assumption | with_reducible apply State.tally_formed | with_reducible apply State.modPwr_formed
      | with_reducible apply State.taintModels_formed | with_reducible apply State.fault_formed
      | with_reducible apply State.finish_formed | with_reducible apply State.powerNext_formed | split

theorem State.endChange_formed {s : State} (hs : s.Formed) : (State.endChange s).Formed := by
  unfold State.endChange
  iterate 6 all_goals try first
      | with_reducible assumption | with_reducible apply State.powerNext_formed | with_reducible apply State.tally_formed
      | with_reducible apply State.modPwr_formed | with_reducible apply State.taintModels_formed

theorem State.scaleModels_formed {s : State} {old : Nat} {new : Nat} (hs : s.Formed) :
    (State.scaleModels s old new).Formed := by
  unfold State.scaleModels
  iterate 3 all_goals try first
      | with_reducible assumption | split
      | (with_reducible refine formed_mk_terr ?_ (Tbl.wf_mapVals (State.Formed.table ?_) _))

theorem State.freqDone_formed {s : State} (hs : s.Formed) : (State.freqDone s).Formed := by
  unfold State.freqDone
  dsimp only
  iterate 6 all_goals try first
      | with_reducible assumption | with_reducible apply State.taintModels_formed | with_reducible apply State.modPwr_formed
      | with_reducible apply State.scaleModels_formed | with_reducible apply State.endChange_formed | split

theorem State.voltDone_formed {s : State} (hs : s.Formed) : (State.voltDone s).Formed := by
  unfold State.voltDone
  dsimp only
  iterate 4 all_goals try first
      | with_reducible assumption | with_reducible apply State.modPwr_formed | with_reducible apply State.endChange_formed
      | split

/-! ### Boot.lean -/

theorem State.advanceEnd_formed {s : State} {a : Advance} {st : Nat} {r0 : Nat} {reset : Bool} (hs : s.Formed) :
    (State.advanceEnd s a st r0 reset).Formed := by
  unfold State.advanceEnd
  iterate 8 all_goals try first
      | with_reducible assumption | with_reducible apply State.final_formed | with_reducible apply State.raise_formed
      | split | with_reducible apply formed_mk

theorem State.advanceRead_formed {s : State} {a : Advance} {w1 : Word} {w2 : Word} (hs : s.Formed) :
    (State.advanceRead s a w1 w2).Formed := by
  unfold State.advanceRead
  iterate 8 all_goals try first
      | with_reducible assumption | with_reducible apply State.advanceEnd_formed | split | with_reducible apply formed_mk

theorem State.advanceWritten_formed {s : State} (hs : s.Formed) : (State.advanceWritten s).Formed := by
  unfold State.advanceWritten
  iterate 6 all_goals try first
      | with_reducible assumption | with_reducible apply State.raise_formed | split | with_reducible apply formed_mk

theorem State.bootPdWh_formed {s : State} (hs : s.Formed) : (State.bootPdWh s).Formed := by
  unfold State.bootPdWh
  iterate 3 all_goals try first | with_reducible assumption | split | with_reducible apply formed_mk

theorem State.bootClocks_formed {s : State} (hs : s.Formed) : (State.bootClocks s).Formed := by
  unfold State.bootClocks
  iterate 3 all_goals try first
      | with_reducible assumption | with_reducible apply State.bootPdWh_formed | with_reducible apply formed_mk

theorem State.bootFail_formed {s : State} {code : Nat} {raise : Bool} (hs : s.Formed) :
    (State.bootFail s code raise).Formed := by
  unfold State.bootFail
  iterate 6 all_goals try first
      | with_reducible assumption | with_reducible apply State.raise_formed | split | with_reducible apply formed_mk

theorem State.fusesRead_formed {s : State} (hs : s.Formed) : (State.fusesRead s).Formed := by
  unfold State.fusesRead
  iterate 2 all_goals try first | with_reducible assumption | with_reducible apply formed_mk

theorem State.imageBody_formed {s : State} {ok : Bool} {b : Bytes} (hs : s.Formed) : (State.imageBody s ok b).Formed := by
  unfold State.imageBody
  iterate 12 all_goals try first
      | with_reducible assumption | with_reducible apply State.bootFail_formed
      | with_reducible apply State.beginChange_formed | split | with_reducible apply formed_mk

theorem State.imageHeader_formed {s : State} {ok : Bool} {h : Bytes} (hs : s.Formed) :
    (State.imageHeader s ok h).Formed := by
  unfold State.imageHeader
  iterate 12 all_goals try first
      | with_reducible assumption | with_reducible apply State.bootFail_formed | with_reducible apply State.hfpIssue_formed
      | with_reducible apply State.mpIssue_formed | split | with_reducible apply formed_mk

theorem State.keepInputs_formed {s : State} {r : State} (_hs : s.Formed) (hr : r.Formed) :
    (State.keepInputs s r).Formed := by
  unfold State.keepInputs
  iterate 2 all_goals try first | with_reducible assumption | with_reducible apply formed_mk

theorem State.otpWord_formed {s : State} {w : Word} (hs : s.Formed) : (State.otpWord s w).Formed := by
  unfold State.otpWord
  iterate 8 all_goals try first
      | with_reducible assumption | with_reducible apply State.bootFail_formed | with_reducible apply State.fusesRead_formed
      | split | with_reducible apply formed_mk

theorem State.powerUp_formed {s : State} {straps : Straps} (hs : s.Formed) (hr : State.reset.Formed) :
    (State.powerUp s straps).Formed := by
  unfold State.powerUp
  exact formed_mk (State.keepInputs_formed hs hr)

theorem State.readHeader_formed {s : State} (hs : s.Formed) : (State.readHeader s).Formed := by
  unfold State.readHeader
  iterate 6 all_goals try first
      | with_reducible assumption | with_reducible apply State.hfpIssue_formed | with_reducible apply State.mpIssue_formed
      | with_reducible apply State.bootFail_formed | split | with_reducible apply formed_mk

theorem State.refileKept_formed {s : State} (hs : s.Formed) : (State.refileKept s).Formed := by
  unfold State.refileKept
  split
  · exact hs
  · apply State.raise_formed
    apply State.tally_formed
    exact formed_mk_faults hs (Faults.file_formed (r := _) hs.logs)

theorem State.setReady_formed {s : State} (hs : s.Formed) : (State.setReady s).Formed := by
  unfold State.setReady
  iterate 4 all_goals try first
      | with_reducible assumption | with_reducible apply State.refileKept_formed | with_reducible apply State.raise_formed
      | with_reducible apply formed_mk

theorem State.startUp_formed {s : State} {straps : Straps} (hs : s.Formed) : (State.startUp s straps).Formed := by
  unfold State.startUp
  iterate 2 all_goals try first | with_reducible assumption | with_reducible apply formed_mk

theorem State.sysReset_formed {s : State} {cause : Nat} {straps : Straps} (hs : s.Formed) (hr : State.reset.Formed) :
    (State.sysReset s cause straps).Formed := by
  unfold State.sysReset
  have h := State.keepInputs_formed hs hr
  apply State.startUp_formed
  exact ⟨h.pages, h.boxes, h.irq, hs.tick, ⟨by simp, by simp⟩, h.select, h.bays, h.table⟩

theorem State.watchdog_formed {s : State} {straps : Straps} {parity : Option ParityErr} (hs : s.Formed)
    (hr : State.reset.Formed) : (State.watchdog s straps parity).Formed := by
  unfold State.watchdog
  split
  · exact hs
  · dsimp only
    apply State.sysReset_formed _ hr
    split
    · exact formed_mk_faults hs hs.logs
    · exact hs

/-! ### Sleep.lean -/

theorem State.finishSleep_formed {s : State} {outcome : Nat} (hs : s.Formed) : (State.finishSleep s outcome).Formed := by
  unfold State.finishSleep
  iterate 12 all_goals try first
      | with_reducible assumption | with_reducible apply State.newRound_formed
      | with_reducible apply State.readShadows_formed | with_reducible apply State.taintModels_formed
      | with_reducible apply State.startMgmt_formed | with_reducible apply State.raise_formed
      | with_reducible apply State.sleepFinal_formed | split | with_reducible apply formed_mk

theorem State.abandon_formed {s : State} (hs : s.Formed) : (State.abandon s).Formed := by
  unfold State.abandon
  iterate 12 all_goals try first
      | with_reducible assumption | with_reducible apply State.tally_formed | with_reducible apply State.finishSleep_formed
      | split | with_reducible apply formed_mk

theorem State.ackFault_formed {s : State} {detail : Nat} (hs : s.Formed) : (State.ackFault s detail).Formed := by
  unfold State.ackFault
  iterate 3 all_goals try first
      | with_reducible assumption | with_reducible apply State.fault_formed | with_reducible apply State.tally_formed

theorem State.exitClocks_formed {s : State} (hs : s.Formed) : (State.exitClocks s).Formed := by
  unfold State.exitClocks
  iterate 3 all_goals try first | with_reducible assumption | with_reducible apply formed_mk

theorem State.ackTimeout_formed {s : State} (hs : s.Formed) : (State.ackTimeout s).Formed := by
  unfold State.ackTimeout
  iterate 12 all_goals try first
      | with_reducible assumption | with_reducible apply State.ackFault_formed | with_reducible apply State.modPwr_formed
      | with_reducible apply State.exitClocks_formed | with_reducible apply State.changeFails_formed | split
      | with_reducible apply formed_mk

theorem State.exitVolt_formed {s : State} (hs : s.Formed) : (State.exitVolt s).Formed := by
  unfold State.exitVolt
  iterate 2 all_goals try first | with_reducible assumption | with_reducible apply formed_mk

theorem State.actWake_formed {s : State} (hs : s.Formed) : (State.actWake s).Formed := by
  unfold State.actWake
  iterate 6 all_goals try first
      | with_reducible assumption | with_reducible apply State.abandon_formed
      | with_reducible apply State.finishSleep_formed | with_reducible apply State.exitClocks_formed
      | with_reducible apply State.exitVolt_formed | split

theorem State.enterSleep_formed {s : State} (hs : s.Formed) : (State.enterSleep s).Formed := by
  unfold State.enterSleep
  iterate 3 all_goals try first
      | with_reducible assumption | with_reducible apply State.actWake_formed | with_reducible apply formed_mk

theorem State.autoS1_formed {s : State} (hs : s.Formed) : (State.autoS1 s).Formed := by
  unfold State.autoS1
  iterate 4 all_goals try first
      | with_reducible assumption | with_reducible apply State.enterSleep_formed | split | with_reducible apply formed_mk

theorem State.clkackSet_formed {s : State} {v : BitVec 6} (hs : s.Formed) : (State.clkackSet s v).Formed := by
  unfold State.clkackSet
  iterate 8 all_goals try first
      | with_reducible assumption | with_reducible apply State.bootPdWh_formed
      | with_reducible apply State.finishSleep_formed | split | with_reducible apply formed_mk

theorem State.dropMasks_formed {s : State} (hs : s.Formed) : (State.dropMasks s).Formed := by
  unfold State.dropMasks
  iterate 2 all_goals try first
      | with_reducible assumption | (with_reducible refine formed_mk_terr ?_ (Tbl.wf_mapVals (State.Formed.table ?_) _))

theorem State.dropScratch_formed {s : State} (hs : s.Formed) : (State.dropScratch s).Formed := by
  unfold State.dropScratch
  iterate 2 all_goals try first | with_reducible assumption | with_reducible apply formed_mk

theorem State.latchWake_formed {s : State} {src : Nat} (hs : s.Formed) : (State.latchWake s src).Formed := by
  unfold State.latchWake
  iterate 8 all_goals try first
      | with_reducible assumption | with_reducible apply State.actWake_formed | split | with_reducible apply formed_mk

theorem State.powerSleep_formed {s : State} {tk : Ticket} {c : Bytes} (hs : s.Formed) :
    (State.powerSleep s tk c).Formed := by
  unfold State.powerSleep
  iterate 6 all_goals try first
      | with_reducible assumption | with_reducible apply State.first_formed | with_reducible apply State.enterSleep_formed
      | split | with_reducible apply formed_mk

theorem State.reachSleep_formed {s : State} {ph : SleepPhase} {code : Nat} {c : Cause} (hs : s.Formed) :
    (State.reachSleep s ph code c).Formed := by
  unfold State.reachSleep
  iterate 4 all_goals try first
      | with_reducible assumption | with_reducible apply State.actWake_formed | with_reducible apply State.tally_formed
      | with_reducible apply formed_mk

theorem State.rebuildBank_formed {s : State} {q : Nat} (hs : s.Formed) : (State.rebuildBank s q).Formed := by
  unfold State.rebuildBank
  iterate 8 all_goals try first
      | with_reducible assumption | with_reducible apply State.forEach_formed | with_reducible apply State.modT_formed
      | with_reducible apply State.count_formed | intro _

theorem State.refillPins_formed {s : State} (hs : s.Formed) : (State.refillPins s).Formed := by
  unfold State.refillPins
  iterate 12 all_goals try first
      | with_reducible assumption | with_reducible apply State.forEach_formed | with_reducible apply State.pinFill_formed
      | with_reducible apply State.modObj_formed | intro _

theorem State.restart_formed {s : State} (hs : s.Formed) : (State.restart s).Formed := by
  unfold State.restart
  apply State.readHeader_formed
  exact formed_mk_faults hs ⟨by simp, by simp⟩

theorem State.sleepTick_formed {s : State} (hs : s.Formed) : (State.sleepTick s).Formed := by
  unfold State.sleepTick
  iterate 12 all_goals try first
      | with_reducible assumption | with_reducible apply State.reachSleep_formed | split | with_reducible apply formed_mk

theorem State.vackRise_formed {s : State} (hs : s.Formed) : (State.vackRise s).Formed := by
  unfold State.vackRise
  dsimp only
  iterate 8 all_goals try first
      | with_reducible assumption | with_reducible apply State.modPwr_formed | with_reducible apply State.bootClocks_formed
      | with_reducible apply State.reachSleep_formed | with_reducible apply State.exitClocks_formed
      | with_reducible apply State.voltDone_formed | split

theorem State.wakeRestored_formed {s : State} (hs : s.Formed) : (State.wakeRestored s).Formed := by
  unfold State.wakeRestored
  dsimp only
  iterate 8 all_goals try first
      | with_reducible assumption | with_reducible apply State.refillPins_formed
      | with_reducible apply State.dropScratch_formed | with_reducible apply State.dropMasks_formed
      | with_reducible apply State.forEach_formed | with_reducible apply State.rebuildBank_formed
      | with_reducible apply State.restart_formed | with_reducible apply State.finishSleep_formed | split

/-! ### Counters.lean -/

theorem Faults.clearLogs_formed {f : Faults} {sel : Nat} {tick : Tick} (h : f.formed) : (f.clearLogs sel tick).formed :=
  ⟨Nat.zero_le _, fun _ he => h.2 _ (List.mem_filter.1 he).1⟩

theorem State.cntSelect_formed {s : State} {v : Word} (hs : s.Formed) : (State.cntSelect s v).Formed := by
  unfold State.cntSelect
  split
  · exact hs
  · exact ⟨hs.pages, hs.boxes, hs.irq, hs.tick, hs.logs, masked_zero _ (by decide), hs.bays, hs.table⟩

theorem State.readCounters_formed {s : State} {src : Src} {c : Bytes} (hs : s.Formed) :
    (State.readCounters s src c).Formed := by
  unfold State.readCounters
  iterate 4 all_goals try first
      | with_reducible assumption | with_reducible apply State.only_formed | with_reducible apply State.hfpIssue_formed
      | with_reducible apply State.defer_formed | split

theorem State.readFaults_formed {s : State} {src : Src} {c : Bytes} (hs : s.Formed) :
    (State.readFaults s src c).Formed := by
  unfold State.readFaults
  dsimp only
  iterate 4 all_goals try first
      | with_reducible assumption | with_reducible apply State.only_formed | with_reducible apply State.hfpIssue_formed
      | with_reducible apply State.defer_formed | split

theorem State.snapshot_formed {s : State} (hs : s.Formed) : (State.snapshot s).Formed := by
  unfold State.snapshot
  dsimp only
  split
  · exact hs
  · exact ⟨hs.pages, hs.boxes, hs.irq, hs.tick, hs.logs, hs.select, hs.bays, hs.table⟩

end Sys2Proof.Machine
end

