-- ==== Sys2Proof/Laws/FormedPorts.lean ====
section
/-! SUPPORT. `State.Formed` is kept by the operations of
registers, debug, the sideband, flash, background work, the ports and the tick:
one lemma each, which a proof about a step cites without unfolding it. -/

namespace Sys2Proof.Machine

/-! ### Registers.lean -/

theorem State.touch_formed {s : State} (hs : s.Formed) : s.touch.Formed := by
  unfold State.touch
  split
  · exact State.latchWake_formed hs
  · exact hs

theorem State.doorbell_formed {s : State} {mb : Nat} {v : Word} (hs : s.Formed) : (State.doorbell s mb v).Formed := by
  unfold State.doorbell
  iterate 6 all_goals try first
      | with_reducible assumption | with_reducible apply State.latchWake_formed | with_reducible apply State.modMb_formed
      | with_reducible apply State.ringTail_formed | (intro _ hx; exact hx) | split

theorem State.headWrite_formed {s : State} {mb : Nat} {v : Word} (hs : s.Formed) : (State.headWrite s mb v).Formed := by
  unfold State.headWrite
  iterate 6 all_goals try first
      | with_reducible assumption | with_reducible apply State.modMb_formed | with_reducible apply State.touch_formed
      | with_reducible apply State.moveHead_formed | (intro _ hx; exact hx) | split

theorem State.hostWrite_formed {s : State} {f : State → State} (hs : s.Formed)
    (hf : ∀ (x0 : State), x0.Formed → (f x0).Formed) : (State.hostWrite s f).Formed := by
  unfold State.hostWrite
  iterate 6 all_goals try first
      | with_reducible assumption | with_reducible apply hf | with_reducible apply State.tally_formed
      | with_reducible apply State.touch_formed | split

theorem State.statusWrite_formed {s : State} {mb : Nat} {on : Bool} (hs : s.Formed) :
    (State.statusWrite s mb on).Formed := by
  unfold State.statusWrite
  iterate 8 all_goals try first
      | with_reducible assumption | with_reducible apply State.hostWrite_formed | with_reducible apply State.enableMb_formed
      | with_reducible apply State.disableMb_formed | intro _ | split

theorem State.mbIrqReg_formed {s : State} {mb : Nat} {v : Word} (hs : s.Formed) : (State.mbIrqReg s mb v).Formed := by
  unfold State.mbIrqReg
  iterate 6 all_goals try first
      | with_reducible assumption | with_reducible apply State.hostWrite_formed
      | with_reducible apply State.writeMbIrq_formed | intro _ | split

theorem State.pageWrite_formed {s : State} {mb : Nat} {off : Nat} {v : Word} (hs : s.Formed) :
    (State.pageWrite s mb off v).Formed := by
  unfold State.pageWrite
  iterate 12 all_goals try first
      | with_reducible assumption | with_reducible apply Mailbox.write_formed | with_reducible apply State.doorbell_formed
      | with_reducible apply State.headWrite_formed | with_reducible apply State.statusWrite_formed
      | with_reducible apply State.mbIrqReg_formed | with_reducible apply State.hostWrite_formed
      | with_reducible apply State.modMb_formed | intro _ | split

theorem State.alwaysWrite_formed {s : State} {f : State → State} (hs : s.Formed)
    (hf : ∀ (x0 : State), x0.Formed → (f x0).Formed) : (State.alwaysWrite s f).Formed := by
  unfold State.alwaysWrite
  iterate 6 all_goals try first
      | with_reducible assumption | with_reducible apply hf | with_reducible apply State.touch_formed | split

theorem State.irqStatusReg_formed {s : State} {v : Word} {raised : Word} (hs : s.Formed) :
    (State.irqStatusReg s v raised).Formed := by
  unfold State.irqStatusReg
  exact State.alwaysWrite_formed hs (fun u hu =>
    formed_irq hu ⟨and_and_zero _ hu.irq.1, hu.irq.2⟩ rfl rfl rfl rfl rfl rfl)

theorem State.irqMaskReg_formed {s : State} {v : Word} (hs : s.Formed) : (State.irqMaskReg s v).Formed := by
  unfold State.irqMaskReg
  refine State.alwaysWrite_formed hs (fun u hu => ?_)
  dsimp only
  refine State.forEach_formed ?_ (fun _ _ h => State.unmaskMsg_formed h)
  exact formed_irq hu ⟨hu.irq.1, masked_zero _ (by decide), hu.irq.2.2⟩ rfl rfl rfl rfl rfl rfl

theorem State.irqModeReg_formed {s : State} {v : Word} (hs : s.Formed) : (State.irqModeReg s v).Formed := by
  unfold State.irqModeReg
  refine State.hostWrite_formed hs (fun u hu => ?_)
  dsimp only
  refine State.forEach_formed ?_ (fun _ _ h => State.unmaskMsg_formed h)
  exact formed_irq hu ⟨hu.irq.1, hu.irq.2.1, masked_zero _ (by decide), hu.irq.2.2.2⟩ rfl rfl rfl rfl rfl rfl

theorem State.debugWrite_formed {s : State} {word : Nat} {v : Word} (hs : s.Formed) :
    (State.debugWrite s word v).Formed := by
  unfold State.debugWrite
  iterate 3 all_goals try first | with_reducible assumption | split | with_reducible apply formed_mk

theorem State.regWrite_formed {s : State} {off : Nat} {v : Word} (hs : s.Formed) : (State.regWrite s off v).Formed := by
  unfold State.regWrite
  iterate 12 all_goals try first
      | with_reducible assumption | (rename_i hx; exact formed_irq hx (Irq.write_formed hx.irq) rfl rfl rfl rfl rfl rfl)
      | with_reducible apply State.pageWrite_formed | with_reducible apply State.irqStatusReg_formed
      | with_reducible apply State.irqMaskReg_formed | with_reducible apply State.irqModeReg_formed
      | with_reducible apply State.hostWrite_formed | with_reducible apply State.cntSelect_formed
      | with_reducible apply State.debugWrite_formed | intro _ | split

theorem State.timebaseLo_formed {s : State} {port : Nat} (hs : s.Formed) : (State.timebaseLo s port).Formed := by
  unfold State.timebaseLo
  iterate 2 all_goals try first | with_reducible assumption | with_reducible apply formed_mk

theorem State.debugRead_formed {s : State} (hs : s.Formed) : (State.debugRead s).Formed := by
  unfold State.debugRead
  iterate 3 all_goals try first | with_reducible assumption | split | with_reducible apply formed_mk

theorem State.regRead_formed {s : State} {port : Nat} {off : Nat} (hs : s.Formed) :
    (State.regRead s port off).Formed := by
  unfold State.regRead
  iterate 6 all_goals try first
      | with_reducible assumption | with_reducible apply State.timebaseLo_formed
      | with_reducible apply State.debugRead_formed | split | with_reducible apply formed_mk

theorem State.access_formed {s : State} {a : Access} (hs : s.Formed) : (State.access s a).Formed := by
  unfold State.access
  iterate 12 all_goals try first
      | with_reducible assumption | with_reducible apply State.tally_formed | with_reducible apply State.regWrite_formed
      | with_reducible apply State.regRead_formed | with_reducible apply State.touch_formed | split
      | with_reducible apply formed_mk

/-! ### Debug.lean -/

theorem State.closePort_formed {s : State} (hs : s.Formed) : (State.closePort s).Formed := by
  unfold State.closePort
  iterate 4 all_goals try first
      | with_reducible assumption | with_reducible apply State.raise_formed | split | with_reducible apply formed_mk

theorem State.tapOut_formed {s : State} {ir : BitVec 8} {dr : Nat} (hs : s.Formed) : (State.tapOut s ir dr).Formed := by
  unfold State.tapOut
  iterate 2 all_goals try first | with_reducible assumption | with_reducible apply formed_mk

theorem State.tapBypass_formed {s : State} (hs : s.Formed) : (State.tapBypass s).Formed := by
  unfold State.tapBypass
  iterate 2 all_goals try first | with_reducible assumption | with_reducible apply State.tapOut_formed

theorem State.dbgAccess_formed {s : State} {dr : BitVec 128} (hs : s.Formed) : (State.dbgAccess s dr).Formed := by
  unfold State.dbgAccess
  iterate 8 all_goals try first
      | with_reducible assumption | with_reducible apply State.tapBypass_formed | with_reducible apply State.tapOut_formed
      | with_reducible apply State.debugWrite_formed | split | with_reducible apply formed_mk

theorem State.dbgResult_formed {s : State} {r : Nat} (hs : s.Formed) : (State.dbgResult s r).Formed := by
  unfold State.dbgResult
  iterate 2 all_goals try first | with_reducible assumption | with_reducible apply formed_mk

theorem State.dbgChallenge_formed {s : State} (hs : s.Formed) : (State.dbgChallenge s).Formed := by
  unfold State.dbgChallenge
  iterate 8 all_goals try first
      | with_reducible assumption | with_reducible apply State.dbgResult_formed
      | with_reducible apply State.tapBypass_formed | with_reducible apply State.tapOut_formed
      | with_reducible apply State.tally_formed | split | with_reducible apply formed_mk

theorem State.openPort_formed {s : State} {erased : Bool} (hs : s.Formed) : (State.openPort s erased).Formed := by
  unfold State.openPort
  iterate 4 all_goals try first
      | with_reducible assumption | with_reducible apply State.raise_formed | with_reducible apply State.tally_formed
      | with_reducible apply formed_mk

theorem State.responseFail_formed {s : State} {r : Nat} (hs : s.Formed) : (State.responseFail s r).Formed := by
  unfold State.responseFail
  iterate 4 all_goals try first
      | with_reducible assumption | with_reducible apply State.dbgResult_formed | with_reducible apply State.tally_formed
      | with_reducible apply formed_mk

theorem State.erase_formed {s : State} (hs : s.Formed) : (State.erase s).Formed := by
  unfold State.erase
  dsimp only
  apply State.startMgmt_formed
  apply State.newRound_formed
  refine ⟨?_, ?_, hs.irq, hs.tick, hs.logs, hs.select, hs.bays, List.Pairwise.nil⟩
  · simp [hs.pages]
  · intro m hm
    obtain ⟨x, hx, rfl⟩ := List.mem_map.mp hm
    have := hs.boxes _ (List.of_mem_zip hx).1
    exact Mailbox.abandon_formed this

theorem State.dbgResponse_formed {s : State} {dr : Bytes} (hs : s.Formed) : (State.dbgResponse s dr).Formed := by
  unfold State.dbgResponse
  iterate 16 all_goals try first
      | with_reducible assumption | with_reducible apply State.tapOut_formed | with_reducible apply State.dbgResult_formed
      | with_reducible apply State.tapBypass_formed | with_reducible apply State.openPort_formed
      | with_reducible apply State.responseFail_formed | with_reducible apply State.erase_formed | split
      | with_reducible apply formed_mk

/-! ### Sideband.lean -/

theorem State.modSb_formed {s : State} {f : Sideband → Sideband} (hs : s.Formed) : (State.modSb s f).Formed := by
  unfold State.modSb
  iterate 2 all_goals try first | with_reducible assumption | with_reducible apply formed_mk

theorem State.sbAck_formed {s : State} (hs : s.Formed) : (State.sbAck s).Formed := by
  unfold State.sbAck
  iterate 2 all_goals try first | with_reducible assumption | with_reducible apply State.modSb_formed

theorem State.sbAnswer_formed {s : State} {b : Bytes} (hs : s.Formed) : (State.sbAnswer s b).Formed := by
  unfold State.sbAnswer
  iterate 2 all_goals try first | with_reducible assumption | with_reducible apply State.modSb_formed

theorem State.sbGo_formed {s : State} (hs : s.Formed) : (State.sbGo s).Formed := by
  unfold State.sbGo
  iterate 3 all_goals try first | with_reducible assumption | with_reducible apply State.modSb_formed | split

theorem State.sbByte_formed {s : State} {at_ : Nat} {v : Byte} (hs : s.Formed) : (State.sbByte s at_ v).Formed := by
  unfold State.sbByte
  iterate 6 all_goals try first
      | with_reducible assumption | with_reducible apply State.modSb_formed | with_reducible apply State.sbGo_formed
      | with_reducible apply State.sbAck_formed | split

theorem State.sbWrite_formed {s : State} {ptr : Byte} {data : Bytes} (hs : s.Formed) :
    (State.sbWrite s ptr data).Formed := by
  unfold State.sbWrite
  iterate 4 all_goals try first
      | with_reducible assumption | with_reducible apply State.sbByte_formed | with_reducible apply State.modSb_formed
      | with_reducible apply formed_foldl | intro _

theorem State.setDyn_formed {s : State} {a : BitVec 7} (hs : s.Formed) : (State.setDyn s a).Formed := by
  unfold State.setDyn
  iterate 2 all_goals try first | with_reducible assumption | with_reducible apply State.modSb_formed

/-! ### Flash.lean -/

theorem State.coldDone_formed {s : State} {h : Handle} {tk : Ticket} (hs : s.Formed) :
    (State.coldDone s h tk).Formed := by
  unfold State.coldDone
  iterate 4 all_goals try first
      | with_reducible assumption | with_reducible apply State.finish_formed | with_reducible apply State.settleObj_formed
      | with_reducible apply State.modObj_formed

theorem State.dropJob_formed {s : State} {j : FlashOp} (hs : s.Formed) : (State.dropJob s j).Formed := by
  unfold State.dropJob
  iterate 2 all_goals try first | with_reducible assumption | with_reducible apply formed_mk

theorem State.promoted_formed {s : State} {h : Handle} (hs : s.Formed) : (State.promoted s h).Formed := by
  unfold State.promoted
  iterate 4 all_goals try first
      | with_reducible assumption | with_reducible apply State.modObj_formed | with_reducible apply State.tokRunAll_formed
      | with_reducible apply State.runRows_formed

theorem State.promoteFail_formed {s : State} {h : Handle} (hs : s.Formed) : (State.promoteFail s h).Formed := by
  unfold State.promoteFail
  iterate 6 all_goals try first
      | with_reducible assumption | with_reducible apply State.modObj_formed | with_reducible apply State.quarantine_formed
      | with_reducible apply State.loseVersion_formed | split

theorem State.jobRead_formed {s : State} {j : FlashJob} {data : Bytes} (hs : s.Formed) :
    (State.jobRead s j data).Formed := by
  unfold State.jobRead
  iterate 8 all_goals try first
      | with_reducible assumption | with_reducible apply State.promoted_formed
      | with_reducible apply State.promoteFail_formed | with_reducible apply State.hintNow_formed
      | with_reducible apply State.finish_formed | with_reducible apply State.modObj_formed
      | with_reducible apply State.refetchRead_formed | split

theorem State.flashLate_formed {s : State} {op : Nat} (hs : s.Formed) : (State.flashLate s op).Formed := by
  unfold State.flashLate
  iterate 6 all_goals try first
      | with_reducible assumption | with_reducible apply State.jobRead_formed | with_reducible apply State.dropJob_formed
      | with_reducible apply State.tally_formed | split

theorem State.modBlock_formed {s : State} {n : Nat} {f : FBlock → FBlock} (hs : s.Formed) :
    (State.modBlock s n f).Formed := by
  unfold State.modBlock
  iterate 2 all_goals try first | with_reducible assumption | with_reducible apply formed_mk

theorem flashFault_formed {s : State} (hs : s.Formed) : (flashFault s).Formed := by
  unfold flashFault
  iterate 2 all_goals try first | with_reducible assumption | with_reducible apply State.fault_formed

theorem State.retireBlock_formed {s : State} {n : Nat} (hs : s.Formed) : (State.retireBlock s n).Formed := by
  unfold State.retireBlock
  iterate 6 all_goals try first
      | with_reducible assumption | with_reducible apply State.modBlock_formed | with_reducible apply flashFault_formed
      | with_reducible apply State.tally_formed | with_reducible apply formed_mk

theorem State.moveBlock_formed {s : State} {n : Nat} (hs : s.Formed) : (State.moveBlock s n).Formed := by
  unfold State.moveBlock
  iterate 4 all_goals try first
      | with_reducible assumption | with_reducible apply State.modBlock_formed | split | with_reducible apply formed_mk

theorem State.readBlocks_formed {s : State} {h : Handle} {retry : Nat} (hs : s.Formed) :
    (State.readBlocks s h retry).Formed := by
  unfold State.readBlocks
  dsimp only
  iterate 8 all_goals try first
      | with_reducible assumption | with_reducible apply State.forEach_formed | with_reducible apply State.modBlock_formed
      | with_reducible apply State.retireBlock_formed | with_reducible apply State.moveBlock_formed | intro _ | split

theorem State.flashRead_formed {s : State} {data : Bytes} {retry : Nat} (hs : s.Formed) :
    (State.flashRead s data retry).Formed := by
  unfold State.flashRead
  iterate 6 all_goals try first
      | with_reducible assumption | with_reducible apply State.jobRead_formed | with_reducible apply State.dropJob_formed
      | with_reducible apply State.readBlocks_formed | split

theorem State.jobWritten_formed {s : State} {j : FlashJob} (hs : s.Formed) : (State.jobWritten s j).Formed := by
  unfold State.jobWritten
  iterate 6 all_goals try first
      | with_reducible assumption | with_reducible apply State.sealPin_formed | with_reducible apply State.coldDone_formed
      | with_reducible apply State.replacePin_formed | split

theorem State.flashReady_formed {s : State} {chan : Nat} {target : Nat} {ok : Bool} (hs : s.Formed) :
    (State.flashReady s chan target ok).Formed := by
  unfold State.flashReady
  iterate 8 all_goals try first
      | with_reducible assumption | with_reducible apply State.retireBlock_formed
      | with_reducible apply State.modBlock_formed | with_reducible apply State.jobWritten_formed
      | with_reducible apply State.dropJob_formed | split | with_reducible apply formed_mk

theorem State.refreshBlock_formed {s : State} {p : FBlock → Bool} (hs : s.Formed) : (State.refreshBlock s p).Formed := by
  unfold State.refreshBlock
  iterate 6 all_goals try first
      | with_reducible assumption | with_reducible apply State.tally_formed | with_reducible apply State.modBlock_formed
      | with_reducible apply State.moveBlock_formed | split

theorem State.ftlWork_formed {s : State} {w : FtlWork} (hs : s.Formed) : (State.ftlWork s w).Formed := by
  unfold State.ftlWork
  iterate 6 all_goals try first
      | with_reducible assumption | with_reducible apply State.moveBlock_formed
      | with_reducible apply State.refreshBlock_formed | with_reducible apply State.retireBlock_formed
      | with_reducible apply State.modBlock_formed | split

theorem State.jobFails_formed {s : State} {j : FlashJob} (hs : s.Formed) : (State.jobFails s j).Formed := by
  unfold State.jobFails
  iterate 6 all_goals try first
      | with_reducible assumption | with_reducible apply State.sealFail_formed | with_reducible apply State.finish_formed
      | with_reducible apply State.modObj_formed | with_reducible apply State.replaceUndo_formed
      | with_reducible apply State.endUsers_formed | with_reducible apply State.loseVersion_formed | split

theorem State.mountFails_formed {s : State} (hs : s.Formed) : (State.mountFails s).Formed := by
  unfold State.mountFails
  iterate 4 all_goals try first
      | with_reducible assumption | with_reducible apply flashFault_formed | with_reducible apply State.forEach_formed
      | with_reducible apply State.jobFails_formed | intro _ | with_reducible apply formed_mk

theorem State.mountDone_formed {s : State} (hs : s.Formed) : (State.mountDone s).Formed := by
  unfold State.mountDone
  iterate 8 all_goals try first
      | with_reducible assumption | with_reducible apply State.mountFails_formed | with_reducible apply State.forEach_formed
      | with_reducible apply flashFault_formed | intro _ | split | with_reducible apply formed_mk

/-! ### Spring.lean -/

theorem State.reinstantiate_formed {s : State} {t : Nat} (hs : s.Formed) : (State.reinstantiate s t).Formed := by
  unfold State.reinstantiate
  iterate 4 all_goals try first
      | with_reducible assumption | with_reducible apply State.instantiate_formed | split | with_reducible apply formed_mk

theorem State.springFail_formed {s : State} (hs : s.Formed) : (State.springFail s).Formed := by
  unfold State.springFail
  iterate 4 all_goals try first
      | with_reducible assumption | with_reducible apply State.tally_formed | with_reducible apply State.raise_formed
      | (with_reducible refine formed_mk_terr ?_ (Tbl.wf_mapVals (State.Formed.table ?_) _))

theorem State.springRetry_formed {s : State} {raw : List Bool} (hs : s.Formed) : (State.springRetry s raw).Formed := by
  unfold State.springRetry
  iterate 6 all_goals try first
      | with_reducible assumption | with_reducible apply State.springFail_formed | split | with_reducible apply formed_mk

/-! ### Background.lean -/

theorem State.baseWrite_formed {s : State} {t : Nat} (hs : s.Formed) : (State.baseWrite s t).Formed := by
  unfold State.baseWrite
  iterate 6 all_goals try first
      | with_reducible assumption | with_reducible apply State.mpOwn_formed | with_reducible apply State.modT_formed | split

theorem State.compact_formed {s : State} {t : Nat} {i : Nat} (hs : s.Formed) : (State.compact s t i).Formed := by
  unfold State.compact
  iterate 6 all_goals try first
      | with_reducible assumption | with_reducible apply State.count_formed | with_reducible apply State.modT_formed | split

theorem State.echoCleanup_formed {s : State} {t : Nat} (hs : s.Formed) : (State.echoCleanup s t).Formed := by
  unfold State.echoCleanup
  iterate 4 all_goals try first | with_reducible assumption | with_reducible apply State.modT_formed | split

/-! ### Parity.lean -/

theorem State.parityRec_formed {s : State} {t : Nat} {e : ParityErr} {lost : Bool} {h : Handle} (hs : s.Formed) :
    (State.parityRec s t e lost h).Formed := by
  unfold State.parityRec
  iterate 3 all_goals try first
      | with_reducible assumption | with_reducible apply State.fault_formed | with_reducible apply State.count_formed

theorem State.cacheParity_formed {s : State} {t : Nat} {e : ParityErr} (hs : s.Formed) :
    (State.cacheParity s t e).Formed := by
  unfold State.cacheParity
  iterate 4 all_goals try first
      | with_reducible assumption | with_reducible apply State.parityRec_formed
      | with_reducible apply State.quarantine_formed | split

theorem State.doomReq_formed {s : State} {t : Nat} {i : Nat} {st : Nat} (hs : s.Formed) :
    (State.doomReq s t i st).Formed := by
  unfold State.doomReq
  iterate 2 all_goals try first | with_reducible assumption | with_reducible apply State.modT_formed

theorem State.loseStarter_formed {s : State} {t : Nat} {i : Nat} (hs : s.Formed) : (State.loseStarter s t i).Formed := by
  unfold State.loseStarter
  iterate 2 all_goals try first | with_reducible assumption | with_reducible apply State.modT_formed

theorem State.journalParity_formed {s : State} {t : Nat} {e : ParityErr} (hs : s.Formed) :
    (State.journalParity s t e).Formed := by
  unfold State.journalParity
  dsimp only
  iterate 6 all_goals try first
      | with_reducible assumption | with_reducible apply State.fault_formed | with_reducible apply State.tally_formed | with_reducible apply State.count_formed
      | with_reducible apply State.parityRec_formed | with_reducible apply State.loseStarter_formed
      | with_reducible apply State.doomReq_formed | split

theorem State.riddleParity_formed {s : State} {t : Nat} {e : ParityErr} (hs : s.Formed) :
    (State.riddleParity s t e).Formed := by
  unfold State.riddleParity
  iterate 8 all_goals try first
      | with_reducible assumption | with_reducible apply State.parityRec_formed | with_reducible apply State.count_formed
      | with_reducible apply State.modT_formed | with_reducible apply State.doomReq_formed
      | with_reducible apply State.loseStarter_formed | with_reducible apply State.quarantine_formed | split

theorem State.stepParity_formed {s : State} {t : Nat} {e : ParityErr} (hs : s.Formed) :
    (State.stepParity s t e).Formed := by
  unfold State.stepParity
  iterate 6 all_goals try first
      | with_reducible assumption | with_reducible apply State.parityRec_formed | with_reducible apply State.tally_formed
      | with_reducible apply State.modSp_formed | split

theorem State.wellheadStops_formed {s : State} {e : ParityErr} (hs : s.Formed) : (State.wellheadStops s e).Formed := by
  unfold State.wellheadStops
  exact formed_mk_faults hs hs.logs

theorem State.secretLost_formed {s : State} {t : Nat} {owner : Nat} (hs : s.Formed) :
    (State.secretLost s t owner).Formed := by
  unfold State.secretLost
  iterate 12 all_goals try first
      | with_reducible assumption | with_reducible apply State.modT_formed | with_reducible apply State.forEach_formed
      | with_reducible apply State.doomReq_formed | with_reducible apply State.modObj_formed
      | with_reducible apply State.loseVersion_formed | intro _ | split | with_reducible apply formed_mk

theorem State.parity_formed {s : State} {t : Nat} {err : ParityErr} (hs : s.Formed) : (State.parity s t err).Formed := by
  unfold State.parity
  iterate 12 all_goals try first
      | with_reducible assumption | with_reducible apply State.cacheParity_formed
      | with_reducible apply State.riddleParity_formed | with_reducible apply State.doomReq_formed
      | with_reducible apply State.parityRec_formed | with_reducible apply State.stepParity_formed
      | with_reducible apply State.journalParity_formed | with_reducible apply State.wellheadStops_formed
      | with_reducible apply State.secretLost_formed | split | with_reducible apply formed_mk

theorem State.parityFirst_formed {s : State} {t : Nat} {p : Option ParityErr} (hs : s.Formed) :
    (State.parityFirst s t p).Formed := by
  unfold State.parityFirst
  iterate 3 all_goals try first | with_reducible assumption | with_reducible apply State.parity_formed | split

theorem State.withTe_formed {s : State} {t : Nat} {f : State → State} (hs : s.Formed)
    (hf : ∀ (x0 : State), x0.Formed → (f x0).Formed) : (State.withTe s t f).Formed := by
  unfold State.withTe
  iterate 6 all_goals try first
      | with_reducible assumption | with_reducible apply hf | with_reducible apply State.wantRb_formed | split
      | with_reducible apply formed_mk

/-! ### Dispatcher.lean -/

theorem State.confined_formed {s : State} {t : Nat} {core : Nat} {f : State → State} (hs : s.Formed)
    (hf : ∀ (x0 : State), x0.Formed → (f x0).Formed) : (State.confined s t core f).Formed := by
  unfold State.confined
  iterate 8 all_goals try first
      | with_reducible assumption | with_reducible apply hf | with_reducible apply State.modT_formed
      | with_reducible apply State.fault_formed | split

theorem State.runLoad_formed {s : State} {k : Task} {h : Handle} {off : Nat} (hs : s.Formed) :
    (State.runLoad s k h off).Formed := by
  unfold State.runLoad
  iterate 2 all_goals try first | with_reducible assumption | with_reducible apply State.mpOwn_formed

theorem State.runTask_formed {s : State} {k : Task} {core : Nat} (hs : s.Formed) : (State.runTask s k core).Formed := by
  unfold State.runTask
  iterate 6 all_goals try first
      | with_reducible assumption | with_reducible apply State.runTok_formed | with_reducible apply State.runDetok_formed
      | with_reducible apply State.runPack_formed | with_reducible apply State.runLoad_formed
      | with_reducible apply State.replaceRun_formed | with_reducible apply State.putTask_formed
      | with_reducible apply State.dropTask_formed | with_reducible apply State.chargeTask_formed
      | with_reducible apply State.siftStage_formed | split

theorem State.goTask_formed {s : State} {id : Nat} (hs : s.Formed) : (State.goTask s id).Formed := by
  unfold State.goTask
  dsimp only
  iterate 8 all_goals try first
      | with_reducible assumption | with_reducible apply State.wantRb_formed | with_reducible apply State.readTask_formed
      | with_reducible apply State.confined_formed | with_reducible apply State.runTask_formed | intro _ | split

theorem State.startTask_formed {s : State} {k : Task} {core : Nat} (hs : s.Formed) :
    (State.startTask s k core).Formed := by
  unfold State.startTask
  iterate 6 all_goals try first
      | with_reducible assumption | with_reducible apply State.useCore_formed | with_reducible apply State.heal_formed
      | with_reducible apply State.goTask_formed | with_reducible apply State.modTask_formed

theorem State.taskLost_formed {s : State} {k : Task} (hs : s.Formed) : (State.taskLost s k).Formed := by
  unfold State.taskLost
  iterate 6 all_goals try first
      | with_reducible assumption | with_reducible apply State.endTask_formed | with_reducible apply State.syncFail_formed
      | with_reducible apply State.final_formed | with_reducible apply State.dropTask_formed
      | with_reducible apply State.chargeTask_formed | with_reducible apply State.replaceFail_formed
      | with_reducible apply State.tokFail_formed | with_reducible apply State.intakeFail_formed | split

theorem State.runWith_formed {s : State} {k : Task} {core : Nat} {p : Option ParityErr} (hs : s.Formed) :
    (State.runWith s k core p).Formed := by
  unfold State.runWith
  dsimp only
  iterate 8 all_goals try first
      | with_reducible assumption | with_reducible apply State.startTask_formed
      | with_reducible apply State.parityRec_formed | with_reducible apply State.taskLost_formed
      | with_reducible apply State.modTask_formed | with_reducible apply State.parity_formed | split

theorem State.dispatch_formed {s : State} {bay : Nat} {p : Option ParityErr} (hs : s.Formed) :
    (State.dispatch s bay p).Formed := by
  unfold State.dispatch
  split
  · exact hs
  · split
    · exact hs
    · dsimp only
      split
      · split
        · exact State.modT_formed (formed_bay hs)
        · exact State.runWith_formed (State.modTask_formed (State.modT_formed (formed_bay hs)))
      · exact formed_bay hs

theorem State.goTasks_formed {s : State} {t : Nat} (hs : s.Formed) : (State.goTasks s t).Formed := by
  unfold State.goTasks
  iterate 4 all_goals try first
      | with_reducible assumption | with_reducible apply State.forEach_formed | with_reducible apply State.goTask_formed
      | intro _

/-! ### Ports.lean -/

theorem State.afterFinal_formed {s : State} {c : Cpl} (hs : s.Formed) : (State.afterFinal s c).Formed := by
  unfold State.afterFinal
  iterate 6 all_goals try first
      | with_reducible assumption | with_reducible apply State.raise_formed
      | with_reducible apply State.advanceWritten_formed | split

theorem State.modJournal_formed {s : State} {t : Nat} {f : Journal → Journal} (hs : s.Formed) :
    (State.modJournal s t f).Formed := by
  unfold State.modJournal
  iterate 2 all_goals try first | with_reducible assumption | with_reducible apply State.modT_formed

theorem State.memFault_formed {s : State} {t : Nat} {port : Nat} {cause : Cause} {h : Handle} (hs : s.Formed) :
    (State.memFault s t port cause h).Formed := by
  unfold State.memFault
  iterate 3 all_goals try first
      | with_reducible assumption | with_reducible apply State.fault_formed | with_reducible apply formed_mk

theorem State.degrade_formed {s : State} {t : Nat} {port : Nat} (hs : s.Formed) : (State.degrade s t port).Formed := by
  unfold State.degrade
  iterate 6 all_goals try first
      | with_reducible assumption | with_reducible apply State.memFault_formed | with_reducible apply State.tally_formed
      | with_reducible apply State.modJournal_formed | split

theorem State.baseDone_formed {s : State} {t : Nat} {port : Nat} {retry : Bool} {ok : Bool} (hs : s.Formed) :
    (State.baseDone s t port retry ok).Formed := by
  unfold State.baseDone
  iterate 6 all_goals try first
      | with_reducible assumption | with_reducible apply State.modJournal_formed | with_reducible apply State.mpIssue_formed
      | with_reducible apply State.degrade_formed | split

theorem State.cplFailed_formed {s : State} {mb : Nat} {epoch : Nat} {c : Cpl} (hs : s.Formed) :
    (State.cplFailed s mb epoch c).Formed := by
  unfold State.cplFailed
  iterate 6 all_goals try first
      | with_reducible assumption | with_reducible apply State.mbError_formed | with_reducible apply State.modMb_formed
      | with_reducible apply State.flushHeld_formed | (intro _ hx; exact hx) | split

theorem State.cplVisible_formed {s : State} {mb : Nat} {c : Cpl} (hs : s.Formed) : (State.cplVisible s mb c).Formed := by
  unfold State.cplVisible
  iterate 6 all_goals try first
      | with_reducible assumption | with_reducible apply State.modMb_formed | with_reducible apply State.afterFinal_formed
      | with_reducible apply State.announceCpl_formed | (intro _ hx; exact hx) | split

theorem State.ctrlReady_formed {s : State} {port : Nat} {level : Bool} (hs : s.Formed) :
    (State.ctrlReady s port level).Formed := by
  unfold State.ctrlReady
  iterate 4 all_goals try first | with_reducible assumption | split | with_reducible apply formed_mk

theorem State.deltaDone_formed {s : State} {t : Nat} {port : Nat} {retry : Bool} {ok : Bool} (hs : s.Formed) :
    (State.deltaDone s t port retry ok).Formed := by
  unfold State.deltaDone
  iterate 6 all_goals try first
      | with_reducible assumption | with_reducible apply State.modJournal_formed | with_reducible apply State.mpIssue_formed
      | with_reducible apply State.degrade_formed | split

theorem State.entryRead_formed {s : State} {mb : Nat} {epoch : Nat} {idx : Nat} {d : HostData} (hs : s.Formed) :
    (State.entryRead s mb epoch idx d).Formed := by
  unfold State.entryRead
  dsimp only
  split
  · exact hs
  · split
    · exact State.modMb_formed hs (fun m hm => by split <;> exact hm)
    · exact State.mbError_formed hs

theorem State.filled_formed {s : State} {h : Handle} (hs : s.Formed) : (State.filled s h).Formed := by
  unfold State.filled
  iterate 3 all_goals try first
      | with_reducible assumption | with_reducible apply State.runRows_formed | with_reducible apply State.modStep_formed

theorem State.spillBack_formed {s : State} {h : Handle} (hs : s.Formed) : (State.spillBack s h).Formed := by
  unfold State.spillBack
  iterate 3 all_goals try first
      | with_reducible assumption | with_reducible apply State.runRows_formed | with_reducible apply State.modReq_formed

theorem State.mpData_formed {s : State} {k : MpKind} {ok : Bool} {cause : Cause} {d : MpData} (hs : s.Formed) :
    (State.mpData s k ok cause d).Formed := by
  unfold State.mpData
  iterate 6 all_goals try first
      | with_reducible assumption | with_reducible apply State.pinDone_formed | with_reducible apply State.objFilled_formed
      | with_reducible apply State.runRows_formed | with_reducible apply State.putMask_formed
      | with_reducible apply State.quarantine_formed | with_reducible apply State.goTasks_formed
      | with_reducible apply State.lineArrived_formed | with_reducible apply State.sealRead_formed
      | with_reducible apply State.filled_formed | with_reducible apply State.doomReq_formed
      | with_reducible apply State.spillBack_formed | with_reducible apply State.modReq_formed
      | with_reducible apply State.loseStarter_formed | with_reducible apply State.imageHeader_formed
      | with_reducible apply State.imageBody_formed | split

theorem State.fillLate_formed {s : State} {op : Nat} (hs : s.Formed) : (State.fillLate s op).Formed := by
  unfold State.fillLate
  iterate 8 all_goals try first
      | with_reducible assumption | with_reducible apply State.mpData_formed | with_reducible apply State.memFault_formed
      | with_reducible apply State.tally_formed | with_reducible apply State.mpDone_formed
      | with_reducible apply State.flashLate_formed | split

theorem State.hfpData_formed {s : State} {k : HfpKind} {d : HostData} (hs : s.Formed) : (State.hfpData s k d).Formed := by
  unfold State.hfpData
  iterate 3 all_goals try first
      | with_reducible assumption | with_reducible apply State.entryRead_formed | with_reducible apply State.taskRead_formed
      | with_reducible apply State.putRead_formed | with_reducible apply State.intakeRead_formed
      | with_reducible apply State.refetchRead_formed | with_reducible apply State.imageHeader_formed
      | with_reducible apply State.imageBody_formed | split

theorem State.hfpWritten_formed {s : State} {k : HfpKind} {ok : Bool} (hs : s.Formed) :
    (State.hfpWritten s k ok).Formed := by
  unfold State.hfpWritten
  iterate 6 all_goals try first
      | with_reducible assumption | with_reducible apply State.cplVisible_formed
      | with_reducible apply State.cplFailed_formed | with_reducible apply State.setStatus_formed
      | with_reducible apply State.tokRunAll_formed | with_reducible apply State.syncFail_formed
      | with_reducible apply State.recordAck_formed | with_reducible apply State.recordFail_formed
      | with_reducible apply State.taskWritten_formed | with_reducible apply State.tokAck_formed
      | with_reducible apply State.tokWriteFail_formed | with_reducible apply State.finish_formed | split

theorem State.hfpLate_formed {s : State} {op : Nat} (hs : s.Formed) : (State.hfpLate s op).Formed := by
  unfold State.hfpLate
  iterate 6 all_goals try first
      | with_reducible assumption | with_reducible apply State.hfpData_formed | with_reducible apply State.hfpDone_formed
      | with_reducible apply State.hfpWritten_formed | split

theorem State.mpRead_formed {s : State} {o : MpOp} {resp : BitVec 2} {tagOk : Bool} {d : MpData} (hs : s.Formed) :
    (State.mpRead s o resp tagOk d).Formed := by
  unfold State.mpRead
  iterate 8 all_goals try first
      | with_reducible assumption | with_reducible apply State.mpDone_formed | with_reducible apply State.tally_formed
      | with_reducible apply State.memFault_formed | with_reducible apply State.mpData_formed | split

theorem State.rewritten_formed {s : State} {h : Handle} {ver : Nat} {ok : Bool} (hs : s.Formed) :
    (State.rewritten s h ver ok).Formed := by
  unfold State.rewritten
  iterate 6 all_goals try first
      | with_reducible assumption | with_reducible apply State.tokRunAll_formed | with_reducible apply State.runRows_formed
      | with_reducible apply State.liftQuarantine_formed | with_reducible apply State.refetchFail_formed | split

theorem State.mpWritten_formed {s : State} {o : MpOp} {ok : Bool} (hs : s.Formed) : (State.mpWritten s o ok).Formed := by
  unfold State.mpWritten
  iterate 8 all_goals try first
      | with_reducible assumption | with_reducible apply State.rewritten_formed | with_reducible apply State.runRows_formed
      | with_reducible apply State.modT_formed | with_reducible apply State.doomReq_formed
      | with_reducible apply State.modReq_formed | with_reducible apply State.deltaDone_formed
      | with_reducible apply State.baseDone_formed | with_reducible apply State.replaceWritten_formed
      | with_reducible apply State.tokRunAll_formed | with_reducible apply State.tokAck_formed
      | with_reducible apply State.tokWriteFail_formed | with_reducible apply State.taskWritten_formed
      | with_reducible apply State.syncFail_formed | split

/-! ### Query.lean -/

theorem State.fwStarted_formed {s : State} (hs : s.Formed) : (State.fwStarted s).Formed := by
  unfold State.fwStarted
  iterate 8 all_goals try first
      | with_reducible assumption | with_reducible apply State.setReady_formed
      | with_reducible apply State.finishSleep_formed | split | with_reducible apply formed_mk

/-! ### Sync.lean -/

theorem State.applySignal_formed {s : State} {g : Signal} (hs : s.Formed) : (State.applySignal s g).Formed := by
  unfold State.applySignal
  iterate 8 all_goals try first
      | with_reducible assumption | with_reducible apply State.finish_formed | with_reducible apply State.tokRunAll_formed
      | with_reducible apply State.syncSet_formed | split

theorem State.noteTimeout_formed {s : State} {t : Nat} {idx : Nat} (hs : s.Formed) :
    (State.noteTimeout s t idx).Formed := by
  unfold State.noteTimeout
  iterate 2 all_goals try first | with_reducible assumption | with_reducible apply formed_mk

theorem State.syncCreate_formed {s : State} {src : Src} {c : Bytes} (hs : s.Formed) :
    (State.syncCreate s src c).Formed := by
  unfold State.syncCreate
  dsimp only
  iterate 6 all_goals try first
      | with_reducible assumption | with_reducible apply State.refuse_formed | with_reducible apply State.only_formed
      | with_reducible apply State.modT_formed | split

theorem State.syncDestroy_formed {s : State} {src : Src} {c : Bytes} (hs : s.Formed) :
    (State.syncDestroy s src c).Formed := by
  unfold State.syncDestroy
  dsimp only
  iterate 8 all_goals try first
      | with_reducible assumption | with_reducible apply State.refuse_formed | with_reducible apply State.only_formed
      | with_reducible apply State.bumpGen_formed | with_reducible apply State.modT_formed
      | with_reducible apply State.syncCancel_formed | split

theorem State.syncSignal_formed {s : State} {src : Src} {c : Bytes} (hs : s.Formed) :
    (State.syncSignal s src c).Formed := by
  unfold State.syncSignal
  iterate 3 all_goals try first
      | with_reducible assumption | with_reducible apply State.defer_formed | with_reducible apply formed_mk

theorem State.syncTimeout_formed {s : State} {t : Nat} {idx : Nat} (hs : s.Formed) :
    (State.syncTimeout s t idx).Formed := by
  unfold State.syncTimeout
  iterate 6 all_goals try first
      | with_reducible assumption | with_reducible apply State.forEach_formed | with_reducible apply State.modSync_formed
      | with_reducible apply State.final_formed | intro _ | split

theorem State.syncTick_formed {s : State} (hs : s.Formed) : (State.syncTick s).Formed := by
  unfold State.syncTick
  iterate 4 all_goals try first
      | with_reducible assumption | with_reducible apply State.forEach_formed
      | with_reducible apply State.applySignal_formed | with_reducible apply State.syncTimeout_formed | intro _
      | with_reducible apply formed_mk

theorem State.syncWait_formed {s : State} {src : Src} {c : Bytes} (hs : s.Formed) : (State.syncWait s src c).Formed := by
  unfold State.syncWait
  dsimp only
  iterate 8 all_goals try first
      | with_reducible assumption | with_reducible apply State.refuse_formed | with_reducible apply State.only_formed
      | with_reducible apply State.first_formed | with_reducible apply State.modSync_formed | split

/-! ### Waits.lean -/

theorem State.lentTick_formed {s : State} {t : Nat} {te : Terrace} (hs : s.Formed) : (State.lentTick s t te).Formed := by
  unfold State.lentTick
  iterate 4 all_goals try first
      | with_reducible assumption | with_reducible apply State.count_formed | split | with_reducible apply formed_mk

theorem State.stallTick_formed {s : State} (hs : s.Formed) : (State.stallTick s).Formed := by
  unfold State.stallTick
  dsimp only
  iterate 8 all_goals try first
      | with_reducible assumption | with_reducible apply State.forEach_formed | with_reducible apply State.modT_formed
      | with_reducible apply State.count_formed | intro _ | split

theorem State.terraceTick_formed {s : State} {t : Nat} {te : Terrace} (hs : s.Formed) :
    (State.terraceTick s t te).Formed := by
  unfold State.terraceTick
  iterate 16 all_goals try first
      | with_reducible assumption | with_reducible apply State.count_formed | with_reducible apply State.lentTick_formed
      | with_reducible apply State.modT_formed | with_reducible apply State.forEach_formed
      | with_reducible apply State.runRows_formed | with_reducible apply State.goTasks_formed | intro _ | split

theorem State.waitTick_formed {s : State} (hs : s.Formed) : (State.waitTick s).Formed := by
  unfold State.waitTick
  iterate 12 all_goals try first
      | with_reducible assumption | with_reducible apply State.forEach_formed
      | with_reducible apply State.terraceTick_formed | with_reducible apply State.count_formed | intro _ | split
      | with_reducible apply formed_mk

/-! ### Tick.lean -/

theorem State.tickOn_formed {s : State} (hs : s.Formed) : (State.tickOn s).Formed := by
  unfold State.tickOn
  dsimp only
  apply State.modPwr_formed
  apply State.sleepTick_formed
  have h := State.waitTick_formed (State.stallTick_formed (State.syncTick_formed hs))
  exact ⟨h.pages, h.boxes, h.irq, Nat.mod_lt _ (by decide), h.logs, h.select, h.bays, h.table⟩

/-! ### Step.lean -/

theorem State.withFetchWord_formed {s : State} {nbits : Nat} {w : Nat} (hs : s.Formed) :
    (State.withFetchWord s nbits w).Formed := by
  unfold State.withFetchWord
  iterate 3 all_goals try first | with_reducible assumption | split | with_reducible apply formed_mk

end Sys2Proof.Machine
end

