-- ==== Sys2Proof/Laws/PerInstr.lean ====
section
/-! SUPPORT. Statements made per command: one lemma for each constructor of `Instr`. -/

namespace Sys2Proof.Laws

/-- A well-formed command carries 64 bytes where it is a ring or sideband command (R89), and a header beat of 256 bytes with
whole payload beats where it is a step-port message (R339, R343). -/
def Sized.Statement (i : Instr) : Prop :=
  i.wf = true → (∀ e, i.entry = some e → e.2.length = 64) ∧
    ∀ m, i.message = some m → m.head.length = 256 ∧ m.payload.length = 256 * (m.beats - 1)

theorem entry_length {src : Src} {c : Bytes} (h : entryOk src c = true) : c.length = 64 := by
  simp only [entryOk, Bool.and_eq_true, beq_iff_eq] at h
  exact h.1

theorem message_lengths {m : SpMsg} (h : m.wf = true) : m.head.length = 256 ∧ m.payload.length = 256 * (m.beats - 1) := by
  simp only [SpMsg.wf, Bool.and_eq_true, beq_iff_eq] at h
  exact ⟨h.1.1, h.2⟩

theorem entry_sized {i : Instr} {src : Src} {c : Bytes} (he : i.entry = some (src, c)) (hm : i.message = none)
    (h : entryOk src c = true) : (∀ e, i.entry = some e → e.2.length = 64) ∧
      ∀ m, i.message = some m → m.head.length = 256 ∧ m.payload.length = 256 * (m.beats - 1) :=
  ⟨fun _ h' => Option.some.inj (he.symm.trans h') ▸ entry_length h, fun _ h' => (nomatch hm.symm.trans h')⟩

theorem message_sized {i : Instr} {m : SpMsg} (he : i.entry = none) (hm : i.message = some m) (h : m.wf = true) :
    (∀ e, i.entry = some e → e.2.length = 64) ∧
      ∀ n, i.message = some n → n.head.length = 256 ∧ n.payload.length = 256 * (n.beats - 1) :=
  ⟨fun _ h' => (nomatch he.symm.trans h'), fun _ h' => Option.some.inj (hm.symm.trans h') ▸ message_lengths h⟩

theorem plain_sized {i : Instr} (he : i.entry = none) (hm : i.message = none) :
    (∀ e, i.entry = some e → e.2.length = 64) ∧
      ∀ m, i.message = some m → m.head.length = 256 ∧ m.payload.length = 256 * (m.beats - 1) :=
  ⟨fun _ h' => (nomatch he.symm.trans h'), fun _ h' => (nomatch hm.symm.trans h')⟩

theorem Sized.fwQuery (src : Src) (c : Bytes) : Sized.Statement (.fwQuery src c) := fun h => entry_sized rfl rfl h
theorem Sized.commandUnassigned (src : Src) (c : Bytes) : Sized.Statement (.commandUnassigned src c) :=
  fun h => entry_sized rfl rfl h
theorem Sized.terraceCreate (src : Src) (c : Bytes) (desc : HostRead) : Sized.Statement (.terraceCreate src c desc) :=
  fun h => entry_sized rfl rfl h
theorem Sized.terraceDestroy (src : Src) (c : Bytes) : Sized.Statement (.terraceDestroy src c) :=
  fun h => entry_sized rfl rfl h
theorem Sized.terraceDestroyDone (t : Nat) : Sized.Statement (.terraceDestroyDone t) := fun _ => plain_sized rfl rfl
theorem Sized.t1ClearDone (job : Nat) : Sized.Statement (.t1ClearDone job) := fun _ => plain_sized rfl rfl
theorem Sized.destroyDiscardTimer (t : Nat) : Sized.Statement (.destroyDiscardTimer t) := fun _ => plain_sized rfl rfl
theorem Sized.terraceSetTerrace (src : Src) (c : Bytes) : Sized.Statement (.terraceSetTerrace src c) :=
  fun h => entry_sized rfl rfl h
theorem Sized.terraceSetSchedule (src : Src) (c : Bytes) : Sized.Statement (.terraceSetSchedule src c) :=
  fun h => entry_sized rfl rfl h
theorem Sized.keyInstall (src : Src) (c : Bytes) (blob : HostRead) : Sized.Statement (.keyInstall src c blob) :=
  fun h => entry_sized rfl rfl h
theorem Sized.lifecycleAdvance (src : Src) (c : Bytes) : Sized.Statement (.lifecycleAdvance src c) :=
  fun h => entry_sized rfl rfl h
theorem Sized.otpAdvAck (w1 w2 : Word) : Sized.Statement (.otpAdvAck w1 w2) := fun _ => plain_sized rfl rfl
theorem Sized.otpAdvTimeout (w1 w2 : Word) : Sized.Statement (.otpAdvTimeout w1 w2) := fun _ => plain_sized rfl rfl
theorem Sized.lifecycleReset (straps : Straps) : Sized.Statement (.lifecycleReset straps) :=
  fun _ => plain_sized rfl rfl
theorem Sized.powerSet (src : Src) (c : Bytes) : Sized.Statement (.powerSet src c) :=
  fun h => entry_sized rfl rfl h
theorem Sized.powerSleep (src : Src) (c : Bytes) : Sized.Statement (.powerSleep src c) :=
  fun h => entry_sized rfl rfl h
theorem Sized.quiesceDone : Sized.Statement (.quiesceDone) := fun _ => plain_sized rfl rfl
theorem Sized.quiesceTimeout : Sized.Statement (.quiesceTimeout) := fun _ => plain_sized rfl rfl
theorem Sized.countersReadCounters (src : Src) (c : Bytes) : Sized.Statement (.countersReadCounters src c) :=
  fun h => entry_sized rfl rfl h
theorem Sized.countersReadFaults (src : Src) (c : Bytes) : Sized.Statement (.countersReadFaults src c) :=
  fun h => entry_sized rfl rfl h
theorem Sized.countersClear (src : Src) (c : Bytes) : Sized.Statement (.countersClear src c) :=
  fun h => entry_sized rfl rfl h
theorem Sized.stepPortConfigSet (src : Src) (c : Bytes) : Sized.Statement (.stepPortConfigSet src c) :=
  fun h => entry_sized rfl rfl h
theorem Sized.stepPortConfigResume (src : Src) (c : Bytes) : Sized.Statement (.stepPortConfigResume src c) :=
  fun h => entry_sized rfl rfl h
theorem Sized.stepPortConfigQuery (src : Src) (c : Bytes) : Sized.Statement (.stepPortConfigQuery src c) :=
  fun h => entry_sized rfl rfl h
theorem Sized.poolConfigCreate (src : Src) (c : Bytes) : Sized.Statement (.poolConfigCreate src c) :=
  fun h => entry_sized rfl rfl h
theorem Sized.poolConfigAddRange (src : Src) (c : Bytes) : Sized.Statement (.poolConfigAddRange src c) :=
  fun h => entry_sized rfl rfl h
theorem Sized.poolConfigDelete (src : Src) (c : Bytes) : Sized.Statement (.poolConfigDelete src c) :=
  fun h => entry_sized rfl rfl h
theorem Sized.objCreate (src : Src) (c : Bytes) (hdr : HostRead) : Sized.Statement (.objCreate src c hdr) :=
  fun h => entry_sized rfl rfl h
theorem Sized.objLoad (src : Src) (c : Bytes) : Sized.Statement (.objLoad src c) := fun h => entry_sized rfl rfl h
theorem Sized.objSeal (src : Src) (c : Bytes) : Sized.Statement (.objSeal src c) := fun h => entry_sized rfl rfl h
theorem Sized.objReplace (src : Src) (c : Bytes) : Sized.Statement (.objReplace src c) :=
  fun h => entry_sized rfl rfl h
theorem Sized.objDestroy (src : Src) (c : Bytes) : Sized.Statement (.objDestroy src c) :=
  fun h => entry_sized rfl rfl h
theorem Sized.objHint (src : Src) (c : Bytes) : Sized.Statement (.objHint src c) := fun h => entry_sized rfl rfl h
theorem Sized.objQuery (src : Src) (c : Bytes) : Sized.Statement (.objQuery src c) :=
  fun h => entry_sized rfl rfl h
theorem Sized.reloadLimitExpiry (t : Nat) (obj : Nat) (ver : Nat) : Sized.Statement (.reloadLimitExpiry t obj ver) :=
  fun _ => plain_sized rfl rfl
theorem Sized.tok (src : Src) (c : Bytes) : Sized.Statement (.tok src c) := fun h => entry_sized rfl rfl h
theorem Sized.tokDone (task : Nat) : Sized.Statement (.tokDone task) := fun _ => plain_sized rfl rfl
theorem Sized.tokStreamOpen (src : Src) (c : Bytes) : Sized.Statement (.tokStreamOpen src c) :=
  fun h => entry_sized rfl rfl h
theorem Sized.tokStreamPut (src : Src) (c : Bytes) : Sized.Statement (.tokStreamPut src c) :=
  fun h => entry_sized rfl rfl h
theorem Sized.tokStreamClose (src : Src) (c : Bytes) : Sized.Statement (.tokStreamClose src c) :=
  fun h => entry_sized rfl rfl h
theorem Sized.detok (src : Src) (c : Bytes) : Sized.Statement (.detok src c) := fun h => entry_sized rfl rfl h
theorem Sized.pack (src : Src) (c : Bytes) (desc : HostRead) : Sized.Statement (.pack src c desc) :=
  fun h => entry_sized rfl rfl h
theorem Sized.pair (src : Src) (c : Bytes) (desc : HostRead) : Sized.Statement (.pair src c desc) :=
  fun h => entry_sized rfl rfl h
theorem Sized.reqSubmit (src : Src) (c : Bytes) (rd : SubmitReads) : Sized.Statement (.reqSubmit src c rd) :=
  fun h => entry_sized rfl rfl h
theorem Sized.intakeComplete (t : Nat) (idx : Nat) : Sized.Statement (.intakeComplete t idx) :=
  fun _ => plain_sized rfl rfl
theorem Sized.reqCancel (src : Src) (c : Bytes) : Sized.Statement (.reqCancel src c) :=
  fun h => entry_sized rfl rfl h
theorem Sized.reqAmend (src : Src) (c : Bytes) : Sized.Statement (.reqAmend src c) :=
  fun h => entry_sized rfl rfl h
theorem Sized.reqQuery (src : Src) (c : Bytes) : Sized.Statement (.reqQuery src c) :=
  fun h => entry_sized rfl rfl h
theorem Sized.starterCreateSpan (src : Src) (c : Bytes) (toks : HostRead) : Sized.Statement (.starterCreateSpan src c toks) :=
  fun h => entry_sized rfl rfl h
theorem Sized.starterCreateFromRequest (src : Src) (c : Bytes) : Sized.Statement (.starterCreateFromRequest src c) :=
  fun h => entry_sized rfl rfl h
theorem Sized.starterRelease (src : Src) (c : Bytes) : Sized.Statement (.starterRelease src c) :=
  fun h => entry_sized rfl rfl h
theorem Sized.streamOpen (src : Src) (c : Bytes) : Sized.Statement (.streamOpen src c) :=
  fun h => entry_sized rfl rfl h
theorem Sized.streamClose (src : Src) (c : Bytes) : Sized.Statement (.streamClose src c) :=
  fun h => entry_sized rfl rfl h
theorem Sized.streamCredit (src : Src) (c : Bytes) : Sized.Statement (.streamCredit src c) :=
  fun h => entry_sized rfl rfl h
theorem Sized.syncCreate (src : Src) (c : Bytes) : Sized.Statement (.syncCreate src c) :=
  fun h => entry_sized rfl rfl h
theorem Sized.syncSignalAdd (src : Src) (c : Bytes) : Sized.Statement (.syncSignalAdd src c) :=
  fun h => entry_sized rfl rfl h
theorem Sized.syncSignalAdvanceTo (src : Src) (c : Bytes) : Sized.Statement (.syncSignalAdvanceTo src c) :=
  fun h => entry_sized rfl rfl h
theorem Sized.syncWait (src : Src) (c : Bytes) : Sized.Statement (.syncWait src c) :=
  fun h => entry_sized rfl rfl h
theorem Sized.syncWaitTimeout (t : Nat) (idx : Nat) : Sized.Statement (.syncWaitTimeout t idx) :=
  fun _ => plain_sized rfl rfl
theorem Sized.syncDestroy (src : Src) (c : Bytes) : Sized.Statement (.syncDestroy src c) :=
  fun h => entry_sized rfl rfl h
theorem Sized.doorbell (mb : Nat) (v : Word) : Sized.Statement (.doorbell mb v) := fun _ => plain_sized rfl rfl
theorem Sized.mbCqHeadWrite (mb : Nat) (v : Word) : Sized.Statement (.mbCqHeadWrite mb v) :=
  fun _ => plain_sized rfl rfl
theorem Sized.mbEnable (mb : Nat) : Sized.Statement (.mbEnable mb) := fun _ => plain_sized rfl rfl
theorem Sized.mbDisable (mb : Nat) : Sized.Statement (.mbDisable mb) := fun _ => plain_sized rfl rfl
theorem Sized.mbIrqWrite (mb : Nat) (v : Word) : Sized.Statement (.mbIrqWrite mb v) := fun _ => plain_sized rfl rfl
theorem Sized.mbCoalTimer (mb : Nat) : Sized.Statement (.mbCoalTimer mb) := fun _ => plain_sized rfl rfl
theorem Sized.irqStatusWrite (v : Word) (raised : Word) : Sized.Statement (.irqStatusWrite v raised) :=
  fun _ => plain_sized rfl rfl
theorem Sized.irqMaskWrite (v : Word) : Sized.Statement (.irqMaskWrite v) := fun _ => plain_sized rfl rfl
theorem Sized.irqModeWrite (v : Word) : Sized.Statement (.irqModeWrite v) := fun _ => plain_sized rfl rfl
theorem Sized.timebaseLoRead (port : Nat) : Sized.Statement (.timebaseLoRead port) := fun _ => plain_sized rfl rfl
theorem Sized.cntSelectWrite (v : Word) : Sized.Statement (.cntSelectWrite v) := fun _ => plain_sized rfl rfl
theorem Sized.cntSnapshotDone : Sized.Statement (.cntSnapshotDone) := fun _ => plain_sized rfl rfl
theorem Sized.registerWrite (a : Access) : Sized.Statement (.registerWrite a) := fun _ => plain_sized rfl rfl
theorem Sized.sbPrivateWrite (ptr : Byte) (data : Bytes) : Sized.Statement (.sbPrivateWrite ptr data) :=
  fun _ => plain_sized rfl rfl
theorem Sized.sbGo : Sized.Statement (.sbGo) := fun _ => plain_sized rfl rfl
theorem Sized.sbAck : Sized.Statement (.sbAck) := fun _ => plain_sized rfl rfl
theorem Sized.sidebandWake : Sized.Statement (.sidebandWake) := fun _ => plain_sized rfl rfl
theorem Sized.entdaa (addr : BitVec 7) : Sized.Statement (.entdaa addr) := fun _ => plain_sized rfl rfl
theorem Sized.setdasa (stat : BitVec 7) (addr : BitVec 7) : Sized.Statement (.setdasa stat addr) :=
  fun _ => plain_sized rfl rfl
theorem Sized.setnewda (addr : BitVec 7) : Sized.Statement (.setnewda addr) := fun _ => plain_sized rfl rfl
theorem Sized.rstdaa : Sized.Statement (.rstdaa) := fun _ => plain_sized rfl rfl
theorem Sized.getpid : Sized.Statement (.getpid) := fun _ => plain_sized rfl rfl
theorem Sized.getbcr : Sized.Statement (.getbcr) := fun _ => plain_sized rfl rfl
theorem Sized.getdcr : Sized.Statement (.getdcr) := fun _ => plain_sized rfl rfl
theorem Sized.getstatus : Sized.Statement (.getstatus) := fun _ => plain_sized rfl rfl
theorem Sized.idcode : Sized.Statement (.idcode) := fun _ => plain_sized rfl rfl
theorem Sized.bypass : Sized.Statement (.bypass) := fun _ => plain_sized rfl rfl
theorem Sized.dbgStatus : Sized.Statement (.dbgStatus) := fun _ => plain_sized rfl rfl
theorem Sized.dbgChallenge : Sized.Statement (.dbgChallenge) := fun _ => plain_sized rfl rfl
theorem Sized.dbgResponse (dr : Bytes) : Sized.Statement (.dbgResponse dr) := fun _ => plain_sized rfl rfl
theorem Sized.debugEraseDone : Sized.Statement (.debugEraseDone) := fun _ => plain_sized rfl rfl
theorem Sized.dbgAccess (dr : BitVec 128) : Sized.Statement (.dbgAccess dr) := fun _ => plain_sized rfl rfl
theorem Sized.dbgClose : Sized.Statement (.dbgClose) := fun _ => plain_sized rfl rfl
theorem Sized.trstN : Sized.Statement (.trstN) := fun _ => plain_sized rfl rfl
theorem Sized.aonResetN (straps : Straps) : Sized.Statement (.aonResetN straps) := fun _ => plain_sized rfl rfl
theorem Sized.sysResetN (straps : Straps) : Sized.Statement (.sysResetN straps) := fun _ => plain_sized rfl rfl
theorem Sized.watchdogReset (straps : Straps) (parity : Option ParityErr) : Sized.Statement (.watchdogReset straps parity) :=
  fun _ => plain_sized rfl rfl
theorem Sized.otpRvalid (w : Word) : Sized.Statement (.otpRvalid w) := fun _ => plain_sized rfl rfl
theorem Sized.otpReadTimeout : Sized.Statement (.otpReadTimeout) := fun _ => plain_sized rfl rfl
theorem Sized.fwReady : Sized.Statement (.fwReady) := fun _ => plain_sized rfl rfl
theorem Sized.firmwareStartTimeout : Sized.Statement (.firmwareStartTimeout) := fun _ => plain_sized rfl rfl
theorem Sized.t2MountDone : Sized.Statement (.t2MountDone) := fun _ => plain_sized rfl rfl
theorem Sized.t2MountTimeout : Sized.Statement (.t2MountTimeout) := fun _ => plain_sized rfl rfl
theorem Sized.ppVack (level : Bool) : Sized.Statement (.ppVack level) := fun _ => plain_sized rfl rfl
theorem Sized.ppFack (level : Bool) : Sized.Statement (.ppFack level) := fun _ => plain_sized rfl rfl
theorem Sized.biasSettled : Sized.Statement (.biasSettled) := fun _ => plain_sized rfl rfl
theorem Sized.ppAckTimeout : Sized.Statement (.ppAckTimeout) := fun _ => plain_sized rfl rfl
theorem Sized.ppClkack (v : BitVec 6) : Sized.Statement (.ppClkack v) := fun _ => plain_sized rfl rfl
theorem Sized.autoLevelTick (busy : Nat) (total : Nat) : Sized.Statement (.autoLevelTick busy total) :=
  fun _ => plain_sized rfl rfl
theorem Sized.autoS1Entry : Sized.Statement (.autoS1Entry) := fun _ => plain_sized rfl rfl
theorem Sized.s1Wake (cause : S1Cause) : Sized.Statement (.s1Wake cause) := fun _ => plain_sized rfl rfl
theorem Sized.wakeAlarm : Sized.Statement (.wakeAlarm) := fun _ => plain_sized rfl rfl
theorem Sized.spAttn : Sized.Statement (.spAttn) := fun _ => plain_sized rfl rfl
theorem Sized.wakeRestoreDone : Sized.Statement (.wakeRestoreDone) := fun _ => plain_sized rfl rfl
theorem Sized.bounds (m : SpMsg) : Sized.Statement (.bounds m) := fun h => message_sized rfl rfl h
theorem Sized.tiles (m : SpMsg) : Sized.Statement (.tiles m) := fun h => message_sized rfl rfl h
theorem Sized.rowsFull (m : SpMsg) : Sized.Statement (.rowsFull m) := fun h => message_sized rfl rfl h
theorem Sized.attnStepDone (m : SpMsg) : Sized.Statement (.attnStepDone m) := fun h => message_sized rfl rfl h
theorem Sized.attnDrafts (m : SpMsg) : Sized.Statement (.attnDrafts m) := fun h => message_sized rfl rfl h
theorem Sized.attnAbort (m : SpMsg) : Sized.Statement (.attnAbort m) := fun h => message_sized rfl rfl h
theorem Sized.spReservedMessage (m : SpMsg) : Sized.Statement (.spReservedMessage m) :=
  fun h => message_sized rfl rfl h
theorem Sized.stepTimeout (t : Nat) : Sized.Statement (.stepTimeout t) := fun _ => plain_sized rfl rfl
theorem Sized.rowWithdrawTimeout (t : Nat) (row : Nat) : Sized.Statement (.rowWithdrawTimeout t row) :=
  fun _ => plain_sized rfl rfl
theorem Sized.stepBoundary (t : Nat) (parity : Option ParityErr) : Sized.Statement (.stepBoundary t parity) :=
  fun _ => plain_sized rfl rfl
theorem Sized.idleBoundary (t : Nat) (parity : Option ParityErr) : Sized.Statement (.idleBoundary t parity) :=
  fun _ => plain_sized rfl rfl
theorem Sized.slotEnd : Sized.Statement (.slotEnd) := fun _ => plain_sized rfl rfl
theorem Sized.taskDispatch (bay : Nat) (parity : Option ParityErr) : Sized.Statement (.taskDispatch bay parity) :=
  fun _ => plain_sized rfl rfl
theorem Sized.hfpReadResponse (op : Nat) (d : HostData) : Sized.Statement (.hfpReadResponse op d) :=
  fun _ => plain_sized rfl rfl
theorem Sized.hfpWriteAck (op : Nat) (resp : BitVec 2) : Sized.Statement (.hfpWriteAck op resp) :=
  fun _ => plain_sized rfl rfl
theorem Sized.hfpResponseTimeout (op : Nat) : Sized.Statement (.hfpResponseTimeout op) := fun _ => plain_sized rfl rfl
theorem Sized.mpReadResponse (op : Nat) (resp : BitVec 2) (tagOk : Bool) (d : MpData) : Sized.Statement (.mpReadResponse op resp tagOk d) :=
  fun _ => plain_sized rfl rfl
theorem Sized.mpWriteAck (op : Nat) (resp : BitVec 2) : Sized.Statement (.mpWriteAck op resp) :=
  fun _ => plain_sized rfl rfl
theorem Sized.mpCtrlReady (port : Nat) (level : Bool) : Sized.Statement (.mpCtrlReady port level) :=
  fun _ => plain_sized rfl rfl
theorem Sized.fillWatchdog (op : Nat) : Sized.Statement (.fillWatchdog op) := fun _ => plain_sized rfl rfl
theorem Sized.journalBaseWrite (t : Nat) : Sized.Statement (.journalBaseWrite t) := fun _ => plain_sized rfl rfl
theorem Sized.riddleCompaction (t : Nat) (region : Nat) : Sized.Statement (.riddleCompaction t region) :=
  fun _ => plain_sized rfl rfl
theorem Sized.echoRowCleanup (t : Nat) : Sized.Statement (.echoRowCleanup t) := fun _ => plain_sized rfl rfl
theorem Sized.streamCoalTimer (t : Nat) (idx : Nat) : Sized.Statement (.streamCoalTimer t idx) :=
  fun _ => plain_sized rfl rfl
theorem Sized.springHealthFail (raw : List Bool) : Sized.Statement (.springHealthFail raw) :=
  fun _ => plain_sized rfl rfl
theorem Sized.springRetryTimer (raw : List Bool) : Sized.Statement (.springRetryTimer raw) :=
  fun _ => plain_sized rfl rfl
theorem Sized.drbgInstantiateDone (t : Nat) : Sized.Statement (.drbgInstantiateDone t) := fun _ => plain_sized rfl rfl
theorem Sized.drbgGenerate (t : Nat) : Sized.Statement (.drbgGenerate t) := fun _ => plain_sized rfl rfl
theorem Sized.drbgReseed (t : Nat) : Sized.Statement (.drbgReseed t) := fun _ => plain_sized rfl rfl
theorem Sized.fpRbReady (chan : Nat) (target : Nat) (ok : Bool) : Sized.Statement (.fpRbReady chan target ok) :=
  fun _ => plain_sized rfl rfl
theorem Sized.fpReadData (chan : Nat) (data : Bytes) (retry : Nat) : Sized.Statement (.fpReadData chan data retry) :=
  fun _ => plain_sized rfl rfl
theorem Sized.fpPhyReady (chan : Nat) (level : Bool) : Sized.Statement (.fpPhyReady chan level) :=
  fun _ => plain_sized rfl rfl
theorem Sized.ftlBackground (work : FtlWork) : Sized.Statement (.ftlBackground work) := fun _ => plain_sized rfl rfl
theorem Sized.pdWhRestoreDone : Sized.Statement (.pdWhRestoreDone) := fun _ => plain_sized rfl rfl
theorem Sized.sramClearDone : Sized.Statement (.sramClearDone) := fun _ => plain_sized rfl rfl
theorem Sized.privilegedDomainReady (te : Bool) : Sized.Statement (.privilegedDomainReady te) :=
  fun _ => plain_sized rfl rfl
theorem Sized.vddAonOff (straps : Straps) : Sized.Statement (.vddAonOff straps) := fun _ => plain_sized rfl rfl

end Sys2Proof.Laws
end

