-- ==== Sys2Proof/Machine/Wire.lean ====
section
/-! DEFINITION. What the block's outstanding work looks like on its ports: the beats of an egress message (R343 to R352), and
the addresses and bytes of a host fabric operation (R77, R82, R116, R119, R266, R433, R513, R584). -/

namespace Sys2Proof.Machine

/-! ### Egress messages -/

/-- Pad with zeros to whole units of `n` bytes. -/
def padTo (n : Nat) (b : Bytes) : Bytes := b ++ zeros (ceilDiv b.length n * n - b.length)

/-- The header of R343, then beat 0's type fields padded to 64 bytes, then the later beats of 64 bytes. -/
def message (mtype terr step count : Nat) (fields later : Bytes) : Bytes :=
  let rest := padTo 64 later
  padTo 64 (le 1 mtype ++ le 1 terr ++ le 2 0 ++ le 4 step ++ le 4 (1 + rest.length / 64) ++ le 4 count ++ fields) ++ rest

/-- A row record (R345). -/
def Row.record (r : Row) : Bytes :=
  le 4 r.owner ++ le 4 r.pos ++ le 4 r.tok ++ le 4 r.page ++ le 4 r.link ++ le 1 r.kind ++ le 1 0
    ++ le 2 (if r.kind = 0 then 0 else r.nt) ++ zeros 8

/-- A record of STEP_COMMIT (R351). -/
def commitRecord (r : Nat × Nat × Nat × Nat × Nat × Nat) : Bytes :=
  le 4 r.1 ++ le 4 r.2.1 ++ le 4 r.2.2.1 ++ le 1 r.2.2.2.1 ++ le 1 r.2.2.2.2.1 ++ le 1 r.2.2.2.2.2 ++ le 1 0

/-- A notice of PAGE_OP (R352). -/
def noticeRecord (n : Nat × Nat × Nat × Nat × Nat) : Bytes :=
  le 1 n.1 ++ le 1 0 ++ le 2 n.2.1 ++ le 4 n.2.2.1 ++ le 4 n.2.2.2.1 ++ le 4 n.2.2.2.2

/-- The bytes of a message, in the order of its beats (R20, R339). DEDUCED, log entry 31. -/
def EMsg.wire : EMsg → Bytes
  | .stepOpen t id lfmt bfmt psize flags pool tick outRows promptRows prev rows =>
    message 1 t id rows.length
      (le 1 lfmt ++ le 1 bfmt ++ le 1 psize ++ le 1 flags ++ le 4 pool ++ le 8 tick ++ le 4 outRows ++ le 4 promptRows ++ le 4 prev)
      (rows.flatMap Row.record)
  | .tileReq t id row round full tiles =>
    let l := if full then [] else tiles
    message 3 t id l.length
      (le 2 row ++ le 1 round ++ le 1 (b2n full) ++ zeros 12 ++ (l.take 16).flatMap (le 2)) ((l.drop 16).flatMap (le 2))
  | .stepCommit t id tick next failed recs =>
    message 6 t id recs.length (le 8 tick ++ le 4 next ++ le 1 (b2n failed)) (recs.flatMap commitRecord)
  | .pageOp t id pool notices =>
    message 7 t id notices.length (le 4 pool ++ zeros 12 ++ (notices.take 2).flatMap noticeRecord)
      ((notices.drop 2).flatMap noticeRecord)

/-! ### Host fabric operations -/

/-- Where the boot image lies: BOOT_ADDR[63:12] of the straps (R513). -/
def State.bootBase (s : State) : Nat := s.boot.straps.bootAddr.toNat * 4096

/-- Areas that an operation reads: first address and length, in order. Length 0 stands for a whole object image, header
first, whose header gives its length (R138). DEDUCED, log entry 31. DEDUCED, log entry 116. -/
def State.hfpReads (s : State) (k : HfpKind) : List (Nat × Nat) :=
  match k with
  | .sqRead mb _ idx => [((s.mailbox mb).sqBase + 64 * idx, 64)]
  | .taskRead _ as => as
  | .putRead _ _ a n => [(a, n)]
  | .intakeRead _ as => as
  | .refetch h ver a => [(a, (((s.obj h).bind (fun o => o.versions.find? (fun v => v.num = ver))).map (fun v => hdSize v.header)).getD 0)]
  | .bootHeader => [(s.bootBase, 256)]
  | .bootBody => [(s.bootBase + 256, ihSize s.boot.header - 256)]
  | .cplWrite .. | .msi .. | .mirror .. | .record .. | .taskWrite .. | .window .. | .queryWrite .. => []

/-- The writes of a record: every slot but the first, and once those are visible the first slot (R433). -/
def recordWrites (addr : Nat) (b : Bytes) : List (Nat × Bytes) :=
  (if b.length ≤ 64 then [] else [(addr + 64, b.drop 64)]) ++ [(addr, b.take 64)]

/-- Addresses and bytes that an operation writes, each write visible before the next is issued. DEDUCED, log entry 31. -/
def State.hfpWrites (s : State) (k : HfpKind) : List (Nat × Bytes) :=
  match k with
  | .cplWrite mb _ slot phase head c => [((s.mailbox mb).cqBase + 32 * slot, c.bytes phase head)]
  | .msi _ a v => [(a, le 4 v.toNat)]
  | .mirror _ h v => ((s.sync h).map (fun x => (x.addr, le 8 v))).toList
  | .record h at_ n phase r => ((s.rstream h).map (fun x => recordWrites (x.ring + 64 * (at_ % x.size))
      (match r with | some r => r.image phase | none => padImage n phase))).getD []
  | .taskWrite _ a b _ => [(a, b)]
  | .window _ _ a b => [(a, b)]
  | .queryWrite _ a b _ _ => [(a, b)]
  | .sqRead .. | .taskRead .. | .putRead .. | .intakeRead .. | .refetch .. | .bootHeader | .bootBody => []

end Sys2Proof.Machine
end

