-- ==== Sys2Proof/Tests/Slice0.lean ====
section
/-! SUPPORT. Named tests: an ill-formed command for each check of `Instr.wf`, worked examples of the manual, and for every
statement with hypotheses a state and operands that meet them. -/

namespace Sys2Proof.Tests

open Sys2Proof.Machine

/-! ### Small states -/

/-- The 64 bytes of a command with these fields: offset, size, value. -/
def ent (fs : List (Nat × Nat × Nat)) : Bytes :=
  fs.foldl (fun b f => b.take f.1 ++ le f.2.1 f.2.2 ++ b.drop (f.1 + f.2.1)) (zeros 64)

/-- A READY, awake block of configuration L in state DEPLOYED. -/
def up : State :=
  { State.reset with
    lcs := { state := lcDEPLOYED, otpValid := true, ready := true }
    boot := { step := .running }
    fuses := { rootKey := some (zeros 32), uid := zeros 16 }
    pwr := { vAcked := true, fAcked := true, changing := false, phase := .idle }
    programs := [0, 1, 2, 3] }

/-- An enabled mailbox whose next entry is `c`. -/
def box (c : Bytes) : Mailbox :=
  { enable := true, sqBase := 64, sqLog := 6, cqBase := 4096, cqLog := 6, sqTail := 1, ahead := [(0, c)], readNext := 1
    bells := [(1, 0)] }

/-- The state with `c` next on the management mailbox. -/
def onMgmt (c : Bytes) (s : State) : State := { s with mbs := s.mbs.set 16 (box c) }

/-- A terrace descriptor with quotas of 4 and two cores. -/
def desc : TDesc :=
  ⟨3, 0x4444, 4, 1, 4, 4, 64, 64, 64, 4, 4, 4, 4, 0, 1000, 16, 0, 0, 0, 4, 0, 4, 0, 0, 5000, 0, 0, 0⟩

/-- The header of an object: SIZE 192, VOCAB_SIZE 2. -/
def hdr0 : Bytes := zeros 16 ++ le 8 192 ++ zeros 24 ++ le 4 2 ++ zeros 76

/-- An object of one version. -/
def obj (kind state : Nat) (body : Option ObjBody) : Obj :=
  { kind := kind, gen := 1, state := state, overlay := false, uid := 0, dep := 0, base := 0, hint := 0, cur := 1, nextVer := 2
    versions := [⟨1, hdr0, body, 0, 0, 0, 0, false, false, 0, 0, 0, 0⟩], header := hdr0, chunks := [], t0Kib := 0
    pinned := false, cold := false, t1Gone := false, ticket := none, sealing := none }

/-- A handle of terrace 1. -/
def hd (ty idx : Nat) : Handle := mkHandle 1 ty idx 1

/-- A vocabulary of two tokens. -/
def voc : VocabBody where
  tokens := [⟨0, [0x61], 0, false, false, none⟩, ⟨1, [0x62], 0, false, false, none⟩]
  fallback := .unk 1
  merges := []
  split := ⟨[], List.replicate 1024 0, []⟩
  freq := [0, 1]

/-- A request that decodes. -/
def req : Req :=
  { gen := 1, state := rsDECODE, vocab := hd tyVocab 0, profile := hd tyProfile 0, stream := hd tyStream 0, maxNew := 8
    pins := { vocab := 1, profile := 1 }, ticket := ⟨.terrace 1, 7, 0x30, hd tyReq 0, false⟩ }

/-- A region of `n` empty rows. -/
def region (kind n : Nat) : Region := ⟨kind, 0, 0, 5, List.replicate n emptyRow, false, false⟩

/-- A terrace with one of each thing. -/
def te : Terrace :=
  { desc := desc, keys := zeros 96, drbg := { live := true, count := 1, gens := 1 }, inRound := true
    objs := [(hKey (hd tyVocab 0), obj tyVocab osREADY (some (.vocab voc))),
      (hKey (hd tyTemplate 0), obj tyTemplate osREADY (some (.template ⟨[]⟩))),
      (hKey (hd tyProfile 0), obj tyProfile osREADY (some (.profile ⟨0, 0, 0, 0, 0, 0, 0, 0, 0⟩)))]
    reqs := [(0, req)]
    syncs := [(0, ⟨1, 5, 0, 0, false, []⟩)]
    starters := [(0, ⟨1, stREADY, 1, 0, hd tyVocab 0, 1, [0], none, [], [], none, none, false, none⟩)]
    toks := [(0, { gen := 1, ticket := ⟨.terrace 1, 8, 0x21, hd tyTok 0, false⟩, vocab := hd tyVocab 0, ver := 1, dest := 0
                   kind := 0, sync := 0, release := 0, w := 16, o := 0, slots := 2, prefer := 0, reject := false })]
    streams := [(0, { gen := 1, ring := 0, log2 := 7, irqEn := true, ctrl := false, coalCount := 4, coalTime := 1, sync := 0 })] }

/-- The state with terrace 1 as given. -/
def with1 (x : Terrace) (s : State) : State := { s with terr := [(1, x)] }

/-- The state with `c` next on the mailbox of terrace 1, in the terrace's turn. -/
def onT (c : Bytes) (s : State) : State :=
  { s with mbs := s.mbs.set 1 (box c), sched := { turn := some 1, next := some 1, len := 5000 } }

/-- The block with terrace 1 and `c` next on its mailbox. -/
def atT (c : Bytes) : State := onT c (with1 te up)

/-- The command named by a code, a handle and body fields. -/
def cm (op h : Nat) (fs : List (Nat × Nat × Nat)) : Bytes := ent ([(0, 1, op), (4, 4, 9), (8, 4, h)] ++ fs)


/-! ### Every command of R89 can be accepted -/

theorem accepts_fwQuery : (onMgmt (cm 1 0 []) up).accepts (.fwQuery .mgmt (cm 1 0 [])) = true := rfl
def dsc0 : Bytes := zeros 256
theorem accepts_terraceCreate : (onMgmt (cm 2 0 [(24, 1, 3)]) up).accepts (.terraceCreate .mgmt (cm 2 0 [(24, 1, 3)]) (.okay dsc0)) = true := rfl
def cDestroy : Bytes := cm 3 (hd tyTerrace 0) []
theorem accepts_terraceDestroy : (onMgmt cDestroy (with1 te up)).accepts (.terraceDestroy .mgmt cDestroy) = true := rfl
def cSetT : Bytes := cm 4 (hd tyTerrace 0) [(17, 1, 1), (20, 4, 0x1111)]
theorem accepts_terraceSetTerrace : (onMgmt cSetT (with1 te up)).accepts (.terraceSetTerrace .mgmt cSetT) = true := rfl
def cSetS : Bytes := cm 4 0 [(16, 1, 1), (20, 4, 200)]
theorem accepts_terraceSetSchedule : (onMgmt cSetS up).accepts (.terraceSetSchedule .mgmt cSetS) = true := rfl
def cKey : Bytes := cm 5 (hd tyTerrace 0) []
theorem accepts_keyInstall : (onMgmt cKey (with1 te up)).accepts (.keyInstall .mgmt cKey (.okay (zeros 104))) = true := rfl
def cAdv : Bytes := cm 6 0 [(16, 1, 4), (20, 4, 0x4C434104)]
theorem accepts_lifecycleAdvance : (onMgmt cAdv up).accepts (.lifecycleAdvance .mgmt cAdv) = true := rfl
def cPwr : Bytes := cm 7 0 [(17, 1, 2)]
theorem accepts_powerSet : (onMgmt cPwr up).accepts (.powerSet .mgmt cPwr) = true := rfl
def cSleep : Bytes := cm 8 0 [(16, 1, 2)]
theorem accepts_powerSleep : (onMgmt cSleep up).accepts (.powerSleep .mgmt cSleep) = true := rfl
def cCnt : Bytes := cm 9 0 [(25, 1, 0x1F), (26, 2, 0xA000), (28, 1, 1), (29, 1, 1), (30, 2, 1)]
theorem accepts_countersReadCounters : (onMgmt cCnt up).accepts (.countersReadCounters .mgmt cCnt) = true := rfl
def cFlt : Bytes := cm 9 0 [(24, 1, 1), (25, 1, 0x1F), (30, 2, 1)]
theorem accepts_countersReadFaults : (onMgmt cFlt up).accepts (.countersReadFaults .mgmt cFlt) = true := rfl
def cClr : Bytes := cm 10 0 [(16, 1, 0x1E), (18, 1, 1)]
theorem accepts_countersClear : (onMgmt cClr up).accepts (.countersClear .mgmt cClr) = true := rfl
def cSp : Bytes := cm 11 (hd tyTerrace 0) [(17, 1, 1), (18, 1, 1), (22, 2, 512), (28, 2, 256), (30, 2, 16)]
theorem accepts_stepPortConfigSet : (onMgmt cSp (with1 te up)).accepts (.stepPortConfigSet .mgmt cSp) = true := rfl
def cRes : Bytes := cm 11 (hd tyTerrace 0) [(16, 1, 1)]
theorem accepts_stepPortConfigResume : (onMgmt cRes (with1 te up)).accepts (.stepPortConfigResume .mgmt cRes) = true := rfl
def cSpq : Bytes := cm 11 (hd tyTerrace 0) [(16, 1, 2)]
theorem accepts_stepPortConfigQuery : (onMgmt cSpq (with1 te up)).accepts (.stepPortConfigQuery .mgmt cSpq) = true := rfl
def cPc : Bytes := cm 12 (hd tyTerrace 0) [(24, 4, 8), (28, 4, 2)]
theorem accepts_poolConfigCreate : (onMgmt cPc (with1 te up)).accepts (.poolConfigCreate .mgmt cPc) = true := rfl
def cPa : Bytes := cm 12 (hd tyTerrace 0) [(16, 1, 1), (20, 4, 8), (24, 4, 8), (28, 4, 2)]
theorem accepts_poolConfigAddRange : (onMgmt cPa (with1 te up)).accepts (.poolConfigAddRange .mgmt cPa) = true := rfl
def cPd : Bytes := cm 12 (hd tyTerrace 0) [(16, 1, 2)]
theorem accepts_poolConfigDelete : (onMgmt cPd (with1 te up)).accepts (.poolConfigDelete .mgmt cPd) = true := rfl
def cOc : Bytes := cm 0x10 (hd tyTerrace 0) []
theorem accepts_objCreate : (atT cOc).accepts (.objCreate (.terrace 1) cOc (.okay (zeros 128))) = true := rfl
def cOs : Bytes := cm 0x12 (hd tyVocab 0) []
theorem accepts_objSeal : (atT cOs).accepts (.objSeal (.terrace 1) cOs) = true := rfl
def cOr : Bytes := cm 0x13 (hd tyProfile 0) []
theorem accepts_objReplace : (atT cOr).accepts (.objReplace (.terrace 1) cOr) = true := rfl
def cOd : Bytes := cm 0x14 (hd tyProfile 0) []
theorem accepts_objDestroy : (atT cOd).accepts (.objDestroy (.terrace 1) cOd) = true := rfl
def cOh : Bytes := cm 0x15 (hd tyProfile 0) []
theorem accepts_objHint : (atT cOh).accepts (.objHint (.terrace 1) cOh) = true := rfl
def cOq : Bytes := cm 0x16 (hd tyProfile 0) []
theorem accepts_objQuery : (atT cOq).accepts (.objQuery (.terrace 1) cOq) = true := rfl
def cTok : Bytes := cm 0x20 (hd tyVocab 0) [(40, 3, 1), (44, 4, 1)]
theorem accepts_tok : (atT cTok).accepts (.tok (.terrace 1) cTok) = true := rfl
def cDet : Bytes := cm 0x24 (hd tyVocab 0) [(32, 4, 1), (36, 4, 1)]
theorem accepts_detok : (atT cDet).accepts (.detok (.terrace 1) cDet) = true := rfl
def cTo : Bytes := cm 0x21 (hd tyVocab 0) [(32, 2, 16), (36, 4, 2)]
theorem accepts_tokStreamOpen : (atT cTo).accepts (.tokStreamOpen (.terrace 1) cTo) = true := rfl
def cTp : Bytes := cm 0x22 (hd tyTok 0) [(24, 3, 1)]
theorem accepts_tokStreamPut : (atT cTp).accepts (.tokStreamPut (.terrace 1) cTp) = true := rfl
def cTc : Bytes := cm 0x23 (hd tyTok 0) []
theorem accepts_tokStreamClose : (atT cTc).accepts (.tokStreamClose (.terrace 1) cTc) = true := rfl
def cPk : Bytes := cm 0x25 (hd tyTemplate 0) [(32, 4, hd tyVocab 0), (40, 4, 64)]
theorem accepts_pack : (atT cPk).accepts (.pack (.terrace 1) cPk (.okay (zeros 64))) = true := rfl
def cPr : Bytes := cm 0x26 (hd tyTemplate 0) [(32, 4, hd tyVocab 0), (40, 4, 64)]
theorem accepts_pair : (atT cPr).accepts (.pair (.terrace 1) cPr (.okay (zeros 64))) = true := rfl
def cSub : Bytes := cm 0x30 (hd tyVocab 0) [(24, 4, hd tyProfile 0), (28, 4, hd tyStream 0), (32, 4, 1)]
theorem accepts_reqSubmit : (atT cSub).accepts (.reqSubmit (.terrace 1) cSub ⟨.error, [], .error, []⟩) = true := rfl
def cCan : Bytes := cm 0x31 (hd tyReq 0) []
theorem accepts_reqCancel : (atT cCan).accepts (.reqCancel (.terrace 1) cCan) = true := rfl
def cAm : Bytes := cm 0x32 (hd tyReq 0) [(16, 1, 8), (40, 4, 1)]
theorem accepts_reqAmend : (atT cAm).accepts (.reqAmend (.terrace 1) cAm) = true := rfl
def cRq : Bytes := cm 0x33 (hd tyReq 0) []
theorem accepts_reqQuery : (atT cRq).accepts (.reqQuery (.terrace 1) cRq) = true := rfl
def cSc : Bytes := cm 0x34 (hd tyVocab 0) [(32, 4, 1)]
theorem accepts_starterCreateSpan : (atT cSc).accepts (.starterCreateSpan (.terrace 1) cSc (.okay (zeros 4))) = true := rfl
def cSf : Bytes := cm 0x34 (hd tyVocab 0) [(16, 1, 1), (20, 4, hd tyReq 0)]
theorem accepts_starterCreateFromRequest : (atT cSf).accepts (.starterCreateFromRequest (.terrace 1) cSf) = true := rfl
def cSr : Bytes := cm 0x35 (hd tyStarter 0) []
theorem accepts_starterRelease : (atT cSr).accepts (.starterRelease (.terrace 1) cSr) = true := rfl
def cSo : Bytes := cm 0x40 (hd tyTerrace 0) [(24, 1, 7)]
theorem accepts_streamOpen : (atT cSo).accepts (.streamOpen (.terrace 1) cSo) = true := rfl
def cSl : Bytes := cm 0x41 (hd tyStream 0) []
theorem accepts_streamClose : (atT cSl).accepts (.streamClose (.terrace 1) cSl) = true := rfl
def cSd : Bytes := cm 0x42 (hd tyStream 0) []
theorem accepts_streamCredit : (atT cSd).accepts (.streamCredit (.terrace 1) cSd) = true := rfl
def cYc : Bytes := cm 0x50 (hd tyTerrace 0) []
theorem accepts_syncCreate : (atT cYc).accepts (.syncCreate (.terrace 1) cYc) = true := rfl
def cYa : Bytes := cm 0x51 (hd tySync 0) [(16, 8, 2)]
theorem accepts_syncSignalAdd : (atT cYa).accepts (.syncSignalAdd (.terrace 1) cYa) = true := rfl
def cYt : Bytes := cm 0x51 (hd tySync 0) [(16, 8, 9), (24, 1, 1)]
theorem accepts_syncSignalAdvanceTo : (atT cYt).accepts (.syncSignalAdvanceTo (.terrace 1) cYt) = true := rfl
def cYw : Bytes := cm 0x52 (hd tySync 0) [(16, 8, 6)]
theorem accepts_syncWait : (atT cYw).accepts (.syncWait (.terrace 1) cYw) = true := rfl
def cYd : Bytes := cm 0x53 (hd tySync 0) []
theorem accepts_syncDestroy : (atT cYd).accepts (.syncDestroy (.terrace 1) cYd) = true := rfl
def teLoad : Terrace := { te with objs := [(hKey (hd tyProfile 0), { obj tyProfile osLOADING none with
  versions := [], cur := 0 })] }
def cOl : Bytes := cm 0x11 (hd tyProfile 0) [(32, 4, 192)]
theorem accepts_objLoad : (onT cOl (with1 teLoad up)).accepts (.objLoad (.terrace 1) cOl) = true := rfl


/-! ### Ill-formed commands, one for each check -/

theorem ill_entry_short : (Instr.fwQuery .mgmt (zeros 63)).wf = false := by decide
theorem ill_entry_long : (Instr.reqSubmit (.terrace 0) (zeros 65) ⟨.error, [], .error, []⟩).wf = false := by decide
theorem ill_entry_terrace : (Instr.syncWait (.terrace 16) (zeros 64)).wf = false := by decide
theorem ill_terrace : (Instr.stepTimeout 16).wf = false := by decide
theorem ill_mailbox : (Instr.doorbell 17 0).wf = false := by decide
theorem ill_port : (Instr.timebaseLoRead 4096).wf = false := by decide
theorem ill_offset : (Instr.registerWrite ⟨0x100000, true, 0, 0xF, true, 0⟩).wf = false := by decide
theorem ill_response : (Instr.dbgResponse (zeros 191)).wf = false := by decide +kernel
theorem ill_busy : (Instr.autoLevelTick 5 4).wf = false := by decide
theorem ill_message_head : (Instr.bounds ⟨zeros 255, zeros 256, 2⟩).wf = false := by decide +kernel
theorem ill_message_beats : (Instr.attnStepDone ⟨zeros 256, [], 0⟩).wf = false := by decide +kernel
theorem ill_message_payload : (Instr.tiles ⟨zeros 256, zeros 255, 2⟩).wf = false := by decide +kernel
theorem ill_bay : (Instr.taskDispatch 4 none).wf = false := by decide
theorem ill_memory_port : (Instr.mpCtrlReady 2 true).wf = false := by decide
theorem ill_channel : (Instr.fpRbReady 8 0 true).wf = false := by decide
theorem ill_target : (Instr.fpRbReady 7 4 true).wf = false := by decide
theorem ill_phy : (Instr.fpPhyReady 8 true).wf = false := by decide

theorem well_formed_ones : (Instr.fwQuery (.terrace 15) (zeros 64)).wf = true ∧
    (Instr.bounds ⟨zeros 256, zeros 256, 2⟩).wf = true ∧ (Instr.doorbell 16 0).wf = true ∧ (Instr.fpRbReady 7 3 true).wf = true := by
  decide +kernel

/-! ### Worked examples of the manual, and of the standards it names -/

/-- The example under R64: the two BF16 logits in crumbs under TEMP_SCALE 0x020F9D3B, and their difference as L40. -/
theorem test_score_example :
    scoreOf false true 0x020F9D3B ⟨0, 0, 0, 0, 0, 0⟩ (elemVal 1 0x4146) = (some 54771113232, 0) ∧
      scoreOf false true 0x020F9D3B ⟨0, 0, 0, 0, 0, 0⟩ (elemVal 1 0x4128) = (some 46472459712, 0) ∧
      unsgn 40 (46472459712 - 54771113232) = 0xFE115C98B0 := by decide +kernel

/-- `n` half bits below 0, in crumbs. -/
def halves (n : Nat) : Int := -((n : Int) * i2 30)

/-- The vocabulary of the example under R231. -/
def oafers : Vocab :=
  let row := fun (i n : Nat) (s : String) => (⟨i, ascii s, halves n, false, false, none⟩ : TokRow)
  let rows := [row 1204 18 " l", row 5318 20 " lo", row 41777 28 " loaf", row 78 9 "o", row 60112 24 "oaf", row 64 8 "a",
    row 2930 8 "af", row 98406 22 "afers", row 68 8 "e", row 261 12 "er", row 1077 14 "ers", row 82 6 "s"]
  { norm := 0, mode := 0, maxBytes := 8, size := 200000, rows := rows, ctrls := []
    all := rows ++ [⟨199852, ascii "l", halves 40, false, true, none⟩, ⟨199846, ascii "f", halves 40, false, true, none⟩,
      ⟨199858, ascii "r", halves 40, false, true, none⟩]
    fallback := .byte ((List.range 256).map (199744 + ·)), merges := [], merges2 := [], split := ⟨[], [], []⟩
    regs := [⟨0, 1, 0, 0, rows.map (fun r => mkRow (keyHash 0 none r.bytes) r.bytes.length r.id 0), rows, true⟩], ctl := [] }

/-- The example under R231: ` loafers` is ` loaf` and `ers`, found by probing the rows of a VOCAB region. -/
theorem test_lattice_example : (segment oafers (ascii " loafers")).1 = [(41777, 5, false), (1077, 3, false)] := by decide +kernel

/-- Tokens of the example under R217: each entry is a count of plain tokens and the boundary flags of the token after them. -/
def runs : List (Nat × Bool × Bool) → List STok
  | [] => []
  | (n, p, e) :: l => List.replicate n ⟨0, 0, false, false, 0⟩ ++ ⟨0, 0, p, e, 0⟩ :: runs l

/-- The document of that example, of 1,500 tokens, at the window that starts at `start`. -/
def doc (start : Nat) : TokStream :=
  { gen := 1, ticket := ⟨.terrace 1, 0, 0x21, 0, false⟩, vocab := 0, ver := 1, dest := 0, kind := 0, sync := 0, release := 0
    w := 512, o := 64, slots := 2, prefer := 2, reject := false, start := start, docDone := true
    toks := runs [(430, true, false), (39, true, false), (390, false, true), (33, false, true), (603, false, false)] }

/-- The example under R217: the starts of the four windows. -/
theorem test_window_example : (doc 0).toks.length = 1500 ∧ (doc 0).nextWindow = some (512, some 430) ∧
    (doc 430).nextWindow = some (512, some 861) ∧ (doc 861).nextWindow = some (512, some 1309) ∧
    (doc 1309).nextWindow = some (191, none) := by decide +kernel

/-- FIPS 180-4: the digest of "abc". -/
theorem test_sha384 : sha384 (ascii "abc") = be 48
    0xcb00753f45a35e8bb5a03d699ac65007272c32ab0eded1631a8b605a43ff5bed8086072ba1e7cc2358baeca134c825a7 := by decide +kernel

/-- The check value of CRC-32C. -/
theorem test_crc32c : crc32c (ascii "123456789") = 0xE3069283 := by decide +kernel

/-- The request handle of the example under R292. -/
theorem test_handle_fields : hTerr 0x48002A05 = 4 ∧ hType 0x48002A05 = 8 ∧ hIndex 0x48002A05 = 168 ∧ hGen 0x48002A05 = 5 := by decide


/-! ### States and operands that meet the hypotheses of the statements -/

theorem witness_StepRunsFrontCommand : ({ up with pending := [.getbcr, .getdcr] } : State).pending = .getbcr :: [.getdcr] := rfl

theorem witness_IdleStepAdvancesTimebase : (with1 te up).pending = [] ∧ (with1 te up).sleep.phase = .awake ∧
    (with1 te up).signals = [] ∧ (with1 te up).syncEnds = [] ∧ (with1 te up).tasks = [] ∧
    ∀ n x, (with1 te up).terrace n = some x → x.sp.flight = none := by
  refine ⟨rfl, rfl, rfl, rfl, rfl, fun n x h => ?_⟩
  by_cases hn : 1 = n
  · subst hn; cases h; rfl
  · simp [with1, State.terrace, Tbl.get, hn] at h

/-- The timebase at its last value. -/
def late : State := { up with tick := 2 ^ 64 - 1 }

theorem witness_EveryStepKeepsForm : late.Formed ∧ ∃ t, step late = .next t :=
  ⟨⟨rfl, fun m hm => by rw [List.eq_of_mem_replicate hm]; exact Mailbox.fresh_formed 0, ⟨rfl, rfl, rfl, rfl, rfl⟩, by decide, ⟨by decide, by decide⟩, rfl, rfl, List.Pairwise.nil⟩, _, rfl⟩

theorem witness_CapabilityRegistersRead :
    ({ up with cfg := .S } : State).cfg = .S ∧ ({ up with cfg := .M } : State).cfg = .M ∧ up.cfg = .L := ⟨rfl, rfl, rfl⟩

theorem witness_KdvIdReadsInEveryState :
    (⟨0, false, 0, 0, false, 4095⟩ : Access).off = 0 ∧ (⟨0, false, 0, 0, false, 4095⟩ : Access).write = false := ⟨rfl, rfl⟩

/-- The block in a sleep phase. -/
def inPhase (p : SleepPhase) : State := { up with sleep := { up.sleep with phase := p } }

theorem witness_RingRegisterWrites_passes :
    (privRange 0x1FFC = true ∧ privRange 0x2000 = false ∧ privRange 0x3FFFC = false ∧ privRange 0x40000 = true) ∧
    (0x1C002 % 2 ^ 20 % 4 ≠ 0 ∧ (7 : BitVec 4) ≠ 0xF) ∧ (0x014 : Nat) < 0x018 := by decide

theorem witness_RingRegisterWrites_places :
    (up.pageOf 0x1FFC = some 16 ∧ up.pageOf 0x10000 = some 0 ∧ up.pageOf 0x1FFFC = some 15 ∧ up.pageOf 0x20000 = none ∧
      up.pageOf 0xFFC = none) ∧
    (0x1FFFC % 0x1000 ∉ [0x00C, 0x01C, 0x020, 0x024] ∧ 0x030 ∉ [0x024, 0x028, 0x02C, 0x40000]) ∧ 0x100C % 0x1000 = 0x00C ∧
    0x101C % 0x1000 = 0x01C ∧ 0x1020 % 0x1000 = 0x020 ∧ 0x1024 % 0x1000 = 0x024 ∧ 0x060 = 0x048 + 4 * 6 ∧
    0x80000 ≤ 0xFFFFC ∧ (0x064 ≤ 0x7FFFC ∧ 0x7FFFC < 0x80000) := by decide

theorem witness_RingRegisterWrites_states : State.reset.lcs.ready = false ∧ up.lcs.ready = true ∧ (inPhase .s2).frontEnd = true ∧
    up.frontEnd = false ∧ (inPhase .s1).frontEnd = false ∧ (inPhase .s1).sleep.phase = .s1 ∧ (inPhase .s2).readable 0x030 = true ∧
    (inPhase .s2).readable 0x02C = false ∧ up.readable 0xFFFFC = true ∧ up.readable 0x7FFFC = true := by decide

theorem witness_UnprivilegedAccessDenied : (0x1FFC % 2 ^ 20 < 0x2000 ∧ 0x018 ≤ 0x1FFC % 2 ^ 20) ∧
    (0x40000 ≤ 0x40000 % 2 ^ 20 ∧ 0x018 ≤ 0x40000 % 2 ^ 20) ∧ 0x018 % 2 ^ 20 < 0x2000 ∧ (inPhase .s1).sleep.phase = .s1 ∧
    up.sleep.phase = .awake := by decide

/-- A configuration S. -/
def upS : State := { up with cfg := .S }

theorem witness_KidevonSHasEightTerraces :
    (upS.lcs.ready = true ∧ upS.sleep.phase = .awake ∧ 0x18000 ≤ 0x18000 ∧ 0x1FFFC < 0x20000) ∧
    ((onMgmt (cm 2 0 [(24, 1, 8)]) upS).accepts (.terraceCreate .mgmt (cm 2 0 [(24, 1, 8)]) (.okay [])) = true ∧
      upS.lcs.letsTerraces = true ∧ rd (cm 2 0 [(24, 1, 8)]) 24 1 = 8) ∧
    ((onMgmt (cm 2 0 [(24, 1, 15)]) upS).accepts (.terraceCreate .mgmt (cm 2 0 [(24, 1, 15)]) (.okay [])) = true ∧
      rd (cm 2 0 [(24, 1, 15)]) 24 1 = 15) ∧
    hTerr (mkHandle 8 tyReq 0 1) = 8 ∧ hGen (mkHandle 8 tyReq 0 1) = 1 := by
  and_intros <;> first | rfl | decide

/-- An enabled terrace mailbox 1 with `n` completions out. -/
def ring (n : Nat) : State := { up with mbs := up.mbs.set 1 { box [] with used := n, ahead := [] } }

theorem witness_DoorbellsAndHeads_setting : (ring 3).lcs.ready = true ∧ (ring 3).sleep.phase = .awake ∧ (ring 3).mbExists 1 = true ∧
    ((ring 3).mailbox 1).enable = true ∧ ((ring 3).mailbox 1).error = false := by and_intros <;> rfl

theorem witness_DoorbellsAndHeads_other : State.reset.lcs.ready = false ∧ upS.mbExists 8 = false ∧ upS.mbExists 7 = true ∧
    (inPhase .s2).clocked = false ∧ (inPhase .s1).clocked = false ∧ (ring 3).clocked = true ∧ (up.mailbox 1).enable = false ∧
    ({ box [] with error := true } : Mailbox).error = true ∧ (1 : Word).toNat % 65536 = ((ring 3).mailbox 1).sqTail.toNat ∧
    up.sleep.phase = .awake := by decide

theorem witness_DoorbellsAndHeads_doorbell : (63 : Word).toNat % 65536 < 2 ^ ((ring 3).mailbox 1).sqLog ∧
    (63 : Word).toNat % 65536 ≠ ((ring 3).mailbox 1).sqTail.toNat ∧ 2 ^ ((ring 3).mailbox 1).sqLog ≤ (64 : Word).toNat % 65536 := by
  decide

theorem witness_DoorbellsAndHeads_head : ((3 : Word).toNat % 65536 + 2 ^ 6 - 0 % 2 ^ 6) % 2 ^ 6 = 3 ∧
    (3 : Word).toNat % 65536 < 2 ^ ((ring 3).mailbox 1).cqLog ∧ 3 ≤ ((ring 3).mailbox 1).used ∧
    ((4 : Word).toNat % 65536 + 2 ^ 6 - 0 % 2 ^ 6) % 2 ^ 6 = 4 ∧ ((ring 3).mailbox 1).used < 4 ∧
    2 ^ ((ring 3).mailbox 1).cqLog ≤ (64 : Word).toNat % 65536 := by decide

/-- A disabled mailbox with ring sizes and bases. -/
def off_ (sl cl : Word) (held : List Cpl) : State :=
  { up with mbs := up.mbs.set 1 { sqBaseLo := 64, cqBaseLo := 4096, sqSize := sl, cqSize := cl, held := held } }

def cpl0 : Cpl := ⟨1, 2, 0, 1, 0, 0, 0xFFFF, 0, 0, false, 0, 0⟩

theorem witness_MailboxEnableAndDisable_enables : (off_ 1 16 []).mbExists 1 = true ∧ 1 < (off_ 1 16 []).mbs.length ∧
    ((off_ 1 16 []).mailbox 1).enable = false ∧ ((off_ 1 16 []).mailbox 1).sqSize.toNat % 32 = 1 ∧
    ((off_ 1 16 []).mailbox 1).cqSize.toNat % 32 = 16 ∧ ringBase ((off_ 1 16 []).mailbox 1).sqBaseLo 0 = 64 ∧
    ringBase ((off_ 1 16 []).mailbox 1).cqBaseLo 0 = 4096 ∧ ((off_ 1 16 []).mailbox 1).held.length + 2 ≤ 2 ^ 16 ∧
    (ring 0).lcs.ready = true ∧ ((ring 0).mailbox 1).enable = true := by
  and_intros <;> first | rfl | decide

theorem witness_MailboxEnableAndDisable_errors :
    2 ^ (((off_ 16 1 [cpl0]).mailbox 1).cqSize.toNat % 32) < ((off_ 16 1 [cpl0]).mailbox 1).held.length + 2 ∧
    ((off_ 0 16 []).mailbox 1).sqSize.toNat % 32 = 0 ∧ 16 < ((off_ 17 16 []).mailbox 1).sqSize.toNat % 32 ∧
    ((off_ 16 0 []).mailbox 1).cqSize.toNat % 32 = 0 ∧ 16 < ((off_ 16 17 []).mailbox 1).cqSize.toNat % 32 ∧
    ringBase (up.mailbox 1).sqBaseLo (up.mailbox 1).sqBaseHi = 0 := by decide

theorem witness_MailboxEnableAndDisable_other : State.reset.lcs.ready = false ∧ (inPhase .s3).frontEnd = true ∧
    (inPhase .s1).frontEnd = false ∧ upS.mbExists 15 = false ∧ upS.frontEnd = false := by decide

/-- Mailbox 1 with coalescing of 1 unit on and `n` completions unannounced since tick 0. -/
def coal (n at_ : Nat) : State := { up with tick := at_, mbs := up.mbs.set 1 { box [] with irq := 0x00010001, unann := n } }

theorem witness_MailboxInterruptCoalescing : (coal 1 16).lcs.ready = true ∧ (coal 1 16).frontEnd = false ∧
    (coal 1 16).mbExists 1 = true ∧ (coal 1 16).clocked = true ∧ coalTime ((coal 1 16).mailbox 1).irq ≠ 0 ∧
    ((coal 1 16).mailbox 1).irq.getLsbD 0 = true ∧ 0 < ((coal 1 16).mailbox 1).unann ∧
    ((coal 1 16).mailbox 1).firstAt + 16 * coalTime ((coal 1 16).mailbox 1).irq ≤ (coal 1 16).tick ∧
    max 1 (coalCount ((coal 1 15).mailbox 1).irq) ≤ ((coal 1 15).mailbox 1).unann := by
  decide

theorem witness_MailboxInterruptCoalescing_idle : (inPhase .s2).clocked = false ∧ coalTime (up.mailbox 1).irq = 0 ∧
    (up.mailbox 1).irq.getLsbD 0 = false ∧ ((coal 0 16).mailbox 1).unann = 0 ∧ (inPhase .s2).frontEnd = true ∧
    upS.mbExists 8 = false ∧ coalCount 0x00010201 = 2 ∧ (1 < max 1 (coalCount 0x00010201) ∧ 15 < 0 + 16 * coalTime 0x00010201) := by
  decide

theorem witness_InterruptRegisterWrites : up.lcs.ready = true ∧ up.frontEnd = false ∧ up.sleep.phase = .awake ∧ up.irq.status = 0 ∧
    State.reset.lcs.ready = false ∧ (inPhase .waking).frontEnd = true ∧ (inPhase .s1).frontEnd = false := by decide

/-- A snapshot under way. -/
def snapping : State := { up with cntWin := { up.cntWin with busy := true } }

theorem witness_TimebaseAndCounterWindow : up.lcs.ready = true ∧ up.frontEnd = false ∧ up.cntWin.busy = false ∧
    snapping.cntWin.busy = true ∧ snapping.clocked = true ∧ State.reset.lcs.ready = false ∧ (inPhase .s2).frontEnd = true ∧
    (inPhase .s1).clocked = false := by decide

/-- The ring row of the management command used in the witnesses below. -/
theorem witness_RingCommandsWaitTheirTurn : ∃ r, up.ringRow (.fwQuery .mgmt (cm 1 0 [])) = some r ∧ up.canTake r = false :=
  ⟨_, rfl, rfl⟩

def cBad : Bytes := ent [(0, 1, 1), (1, 1, 8)]

theorem witness_RingCommandsAreCheckedInOrder : ∃ r, (onMgmt cBad up).ringRow (.fwQuery .mgmt cBad) = some r ∧
    (onMgmt cBad up).canTake r = true ∧ (onMgmt cBad up).domainMissing r.src r.sh.op = false ∧
    (onMgmt cBad up).firstFailure r = some (stBAD_FIELD, 1) := ⟨_, rfl, rfl, rfl, rfl⟩

/-- Awake with PD_TE and PD_RB0 not yet restored. -/
def cold_ (s : State) : State := { s with sleep := { s.sleep with teOn := false, rbOn := false } }

theorem witness_RingCommandsAwaitDomains : ∃ r, (cold_ (onMgmt cDestroy (with1 te up))).ringRow (.terraceDestroy .mgmt cDestroy) = some r ∧
    (cold_ (onMgmt cDestroy (with1 te up))).canTake r = true ∧
    (cold_ (onMgmt cDestroy (with1 te up))).domainMissing r.src r.sh.op = true := ⟨_, rfl, rfl, rfl⟩

theorem witness_CompletionLayout : cpl0.tag < 2 ^ 32 ∧ cpl0.handle < 2 ^ 32 ∧ cpl0.status < 256 ∧ cpl0.opcode < 256 ∧ cpl0.kind < 256 ∧
    cpl0.flags < 255 ∧ cpl0.flags % 2 = 0 ∧ 65535 < 65536 ∧ cpl0.fieldOff < 65536 ∧ cpl0.res0 < 2 ^ 64 ∧ cpl0.res1 < 2 ^ 64 := by
  decide

theorem witness_CompletionTakesOneSlot : (Src.terrace 1 ≠ .sideband ∧ ((ring 62).mailbox 1).openOnly = [] ∧
      ((ring 62).mailbox 1).canWrite = true ∧ 1 < (ring 62).mbs.length) ∧
    ((ring 63).mailbox 1).canWrite = false ∧ (kONLY = kONLY ∨ kONLY = kFINAL) ∧ stOK ≠ stINTERNAL ∧
    ({ box [] with openOnly := [(⟨.terrace 1, 3, 4, 0, false⟩, [])] } : Mailbox).openOnly =
      [] ++ [(⟨.terrace 1, 3, 4, 0, false⟩, [])] := by decide

theorem witness_FirmwareQueryAnswers : opWhere (cOp (cm 0x7F 0 [])) = none ∧
    (onMgmt (cm 0x7F 0 []) up).takeable .mgmt (cm 0x7F 0 []) = true := by and_intros <;> rfl


/-! ### Terraces, lifecycle and power -/

/-- A descriptor that R451 accepts: one core, no T1. -/
def dsc1 : Bytes :=
  [(64, 8, 3), (72, 4, 0x4444), (76, 1, 4), (77, 1, 1), (78, 1, 4), (80, 2, 4), (84, 4, 64), (88, 4, 16), (92, 4, 16), (96, 4, 4),
   (100, 4, 4), (104, 4, 4), (108, 4, 4), (142, 1, 1), (148, 4, 0)].foldl
    (fun b f => b.take (f.1 - 64) ++ le f.2.1 f.2.2 ++ b.drop (f.1 - 64 + f.2.1)) (zeros 128)

def cCreate : Bytes := cm 2 0 [(24, 1, 15), (25, 1, 1)]

theorem witness_TerraceCreateMakesTerrace : (onMgmt cCreate up).accepts (.terraceCreate .mgmt cCreate (.okay dsc1)) = true ∧
    ((onMgmt cCreate up).take .mgmt).createChk (rd cCreate 24 1) (.okay dsc1) = none := by and_intros <;> rfl

theorem witness_TerraceCreateMakesTerrace_refused : (onMgmt cCreate up).accepts (.terraceCreate .mgmt cCreate .error) = true ∧
    ((onMgmt cCreate up).take .mgmt).createChk (rd cCreate 24 1) .error = some (stDATA_ERROR, noField) := ⟨rfl, rfl⟩

/-- Terrace 1 before any object, request or Starter. -/
def teNew : Terrace := { te with objs := [], reqs := [], starters := [], toks := [], streams := [] }

/-- The shortest wrapping that unwraps; one of a whole key set was compared with another implementation outside the package. -/
def blob : Bytes := List.replicate 8 0xA6

theorem witness_TerraceSettingsAndKeys :
    (onMgmt cKey (with1 teNew up)).accepts (.keyInstall .mgmt cKey (.okay blob)) = true ∧
    (onMgmt cKey (with1 teNew up)).terrace (hTerr (cHandle cKey)) = some teNew ∧ teNew.objs = [] ∧ teNew.reqs = [] ∧
    teNew.starters = [] ∧ (onMgmt cKey (with1 teNew up)).fuses.rootKey = some (zeros 32) ∧
    ∃ k, aesUnwrap (tkek (zeros 32) (hTerr (cHandle cKey)) lcDEPLOYED) (blob.take 104) = some k := by
  and_intros <;> first | rfl | exact ⟨_, rfl⟩

theorem witness_TerraceSettingsAndKeys_refused : State.reset.fuses.rootKey = none ∧ te.objs ≠ [] ∧ te.reqs ≠ [] ∧ te.starters ≠ [] ∧
    (onMgmt cKey (with1 te up)).terrace (hTerr (cHandle cKey)) = some te ∧
    (onMgmt cKey (with1 teNew up)).accepts (.keyInstall .mgmt cKey .error) = true ∧
    aesUnwrap (tkek (zeros 32) (hTerr (cHandle cKey)) lcDEPLOYED) (List.take 104 (zeros 8)) = none := by
  and_intros <;> first | rfl | decide

/-- Terrace 1 being destroyed, past its boundary and its FINALs. -/
def teEnd (step : Nat) : Terrace :=
  { teNew with destroying := some ⟨.mgmt, 1, 3, hd tyTerrace 0, false⟩, destroyStep := step, destroyAt := 7 }

/-- A block that destroys terrace 1, with one completion held since tick 5. -/
def ending (step at_ : Nat) (held : List Cpl) : State :=
  { with1 (teEnd step) up with tick := at_, mbs := up.mbs.set 1 { held := held } }

theorem witness_TerraceDestroyRunsToFree :
    ((ending 1 100007 [{ cpl0 with at_ := 5 }]).terrace 1 = some (teEnd 1) ∧ (teEnd 1).destroying.isSome = true ∧
      (teEnd 1).streams = [] ∧
      (∀ x ∈ ((ending 1 100007 [{ cpl0 with at_ := 5 }]).mailbox 1).held,
        max x.at_ (teEnd 1).destroyAt + 100000 ≤ (ending 1 100007 [{ cpl0 with at_ := 5 }]).tick)) ∧
    ((ending 2 9 []).terrace 1 = some (teEnd 2) ∧ (ending 2 9 []).destroyDrained 1 (teEnd 2) = true ∧
      1 < (ending 2 9 []).mbs.length) := by
  and_intros <;> first | rfl | decide

theorem witness_TerraceDestroyRunsToFree_waits : (ending 1 9 []).destroyDrained 1 (teEnd 1) = false ∧ te.destroying = none ∧
    (with1 te up).terrace 1 = some te ∧ up.terrace 2 = none := ⟨rfl, rfl, rfl, rfl⟩

/-- An advance from PROVISIONED to DEPLOYED that burns nibble 2. -/
def adv (nibble target : Nat) : Advance :=
  { ticket := ⟨.mgmt, 1, 6, 0, false⟩, old := nibble, target := target, nibble := nibble, since := 0 }

/-- A block with that advance. -/
def advancing (a : Advance) (at_ : Nat) : State := { up with advance := some a, tick := at_ }

theorem witness_LifecycleAdvanceBurnsAndResets :
    ((adv 0 2).done = false ∧ lifecycleOf 0xF = (adv 0 2).nibble + 1 ∧ (adv 0 2).nibble + 1 < (adv 0 2).target) ∧
    lifecycleOf 0xFFF = (adv 2 3).target ∧
    (lifecycleOf 0xFF = (adv 2 4).old ∧ (adv 2 4).old ≠ (adv 2 4).target ∧ (adv 2 4).old ≠ (adv 2 4).nibble + 1) ∧
    ((adv 2 3).since + 10000000 ≤ (advancing (adv 2 3) 10000000).tick ∧
      (advancing (adv 2 3) 9999999).tick < (adv 2 3).since + 10000000) ∧
    (advancing { adv 2 3 with ended := some 5 } 1005).advance = some { adv 2 3 with ended := some 5 } ∧
    5 + 1000 ≤ (advancing { adv 2 3 with ended := some 5 } 1005).tick ∧
    (advancing { adv 2 3 with ended := some 5 } 1004).tick < 5 + 1000 := by
  decide

theorem witness_LifecycleAdvanceBurnsAndResets_none : up.advance = none ∧ ({ adv 2 3 with done := true } : Advance).done = true ∧
    (adv 2 3).ended = none ∧ (lcINVALID ≠ (adv 2 3).old ∧ lcINVALID ≠ (adv 2 3).target ∧ lcINVALID ≠ (adv 2 3).nibble + 1) ∧
    (0xFF : Word) ≠ 0xFFF ∧ (adv 2 3).ticket.src ≠ .sideband ∧ Src.sideband = .sideband := by
  decide

/-- A block quiescing for S2 since tick 0 with a limit of 1,000 ticks. -/
def quiescing (at_ : Nat) : State :=
  { up with tick := at_, sleep := { up.sleep with
      phase := .quiesce, goal := 2, limit := 1000, alarm := 9, attnWake := true
      ticket := some ⟨.mgmt, 1, 8, 0, false⟩ } }

theorem witness_PowerCommandsStart : (quiescing 3).sleep.phase = .quiesce ∧ (quiescing 3).quiet = true ∧
    (quiescing 3).sleep.wakeAt = none ∧ (quiescing 1000).sleep.since + (quiescing 1000).sleep.limit ≤ (quiescing 1000).tick := by
  decide

/-- What a POWER_SET leaves before its change. -/
def set_ (lo : Nat) : State := up.modPwr (fun p => { p with s1Idle := 0, auto := false, levelHi := 2, levelLo := lo, fLevel := 2 })

theorem witness_PowerCommandsStart_set : up.pwr.phase = .idle ∧ ({ up.pwr with phase := .volt } : Power).phase ≠ .idle ∧
    (set_ 0).pwr.level = (set_ 0).desiredLevel ∧
    ((set_ 0).modPwr (fun p => { p with fLevel := 3 })).pwr.level ≠ ((set_ 0).modPwr (fun p => { p with fLevel := 3 })).desiredLevel ∧
    rd cSleep 16 1 ≠ 1 ∧ rd (cm 8 0 [(16, 1, 1)]) 16 1 = 1 ∧
    (onMgmt (cm 8 0 [(16, 1, 1)]) up).accepts (.powerSleep .mgmt (cm 8 0 [(16, 1, 1)])) = true := by
  and_intros <;> first | rfl | decide

theorem witness_PowerCommandsStart_other : up.sleep.phase ≠ .quiesce ∧
    ({ quiescing 3 with sleep := { (quiescing 3).sleep with wakeAt := some 2 } } : State).sleep.wakeAt ≠ none ∧
    ({ with1 te (quiescing 3) with pending := [] } : State).quiet = false ∧
    (quiescing 999).tick < (quiescing 999).sleep.since + (quiescing 999).sleep.limit := by
  decide

def cCntW : Bytes := cm 9 0 [(16, 8, 64), (25, 1, 0x1F), (26, 2, 0xA000), (28, 1, 1), (29, 1, 1), (30, 2, 255)]
def cFltW : Bytes := cm 9 0 [(16, 8, 64), (24, 1, 1), (25, 1, 0x1F), (30, 2, 1024)]

/-- A block with one fault record. -/
def faulted : State := { up with faults := up.faults.file ⟨0, 1, noTerr, 0, 0, 0, 0, 0, 0, 0⟩ }

theorem witness_CounterCommandsAnswer :
    ((onMgmt cCntW up).accepts (.countersReadCounters .mgmt cCntW) = true ∧ rd cCntW 16 8 ≠ 0 ∧ rd cCnt 16 8 = 0) ∧
    ((onMgmt cFltW up).accepts (.countersReadFaults .mgmt cFltW) = true ∧ rd cFltW 16 8 ≠ 0 ∧ rd cFlt 16 8 = 0) ∧
    (((onMgmt cFlt faulted).take .mgmt).logOf .mgmt).1 ≠ [] ∧ (((onMgmt cFlt up).take .mgmt).logOf .mgmt).1 = [] := by
  and_intros <;> first | rfl | decide

def cSpOk : Bytes := cm 11 (hd tyTerrace 0) [(17, 1, 1), (18, 1, 1), (20, 2, 68), (22, 2, 512), (28, 2, 256), (30, 2, 16)]
def teHalted : Terrace := { te with sp := { te.sp with halted := true, failures := 8 } }

theorem witness_StepPortConfigActs :
    ((onMgmt cSpOk (with1 te up)).accepts (.stepPortConfigSet .mgmt cSpOk) = true ∧
      (onMgmt cSpOk (with1 te up)).terrace (hTerr (cHandle cSpOk)) = some te ∧
      (onMgmt cSpOk (with1 te up)).spSetChk te (cSpSet cSpOk) = none ∧
      (onMgmt cSpOk (with1 te up)).stagingUsed (hTerr (cHandle cSpOk)) + rd cSpOk 28 2 ≤ Cfg.stagingKiB .L) ∧
    ((onMgmt cRes (with1 teHalted up)).accepts (.stepPortConfigResume .mgmt cRes) = true ∧ teHalted.sp.halted = true) := by
  and_intros <;> first | rfl | decide

/-- Terrace 2 holds the rest of the staging SRAM. -/
def staged : State :=
  { with1 te up with terr := [(1, te), (2, { te with sp := { te.sp with cur := { te.sp.cur with stage := 8192 } } })] }

theorem witness_StepPortConfigActs_refused :
    ((onMgmt cSp (with1 te up)).accepts (.stepPortConfigSet .mgmt cSp) = true ∧
      (onMgmt cSp (with1 te up)).spSetChk te (cSpSet cSp) = some (stBAD_FIELD, 20)) ∧
    ((onMgmt cSpOk staged).accepts (.stepPortConfigSet .mgmt cSpOk) = true ∧ (onMgmt cSpOk staged).spSetChk te (cSpSet cSpOk) = none ∧
      (onMgmt cSpOk staged).cfg.stagingKiB < (onMgmt cSpOk staged).stagingUsed (hTerr (cHandle cSpOk)) + rd cSpOk 28 2) ∧
    (onMgmt cRes (with1 te up)).accepts (.stepPortConfigResume .mgmt cRes) = true ∧ te.sp.halted = false ∧
    (onMgmt cSpq (with1 te up)).accepts (.stepPortConfigQuery .mgmt cSpq) = true := by
  and_intros <;> first | rfl | decide

def pool0 : Pool := ⟨1, 4, [⟨0, 8⟩], [], 2⟩
def tePool : Terrace := { teNew with pool := some pool0 }

theorem witness_PoolConfigActs :
    ((onMgmt cPc (with1 te up)).terrace (hTerr (cHandle cPc)) = some te ∧ ((onMgmt cPc (with1 te up)).take .mgmt).poolFail te cPc = none) ∧
    ((onMgmt cPa (with1 tePool up)).accepts (.poolConfigAddRange .mgmt cPa) = true ∧ tePool.pool = some pool0 ∧
      ((onMgmt cPa (with1 tePool up)).take .mgmt).poolFail tePool cPa = none) ∧
    ((onMgmt cPd (with1 tePool up)).accepts (.poolConfigDelete .mgmt cPd) = true ∧
      ((onMgmt cPd (with1 tePool up)).take .mgmt).poolFail tePool cPd = none) := by
  and_intros <;> rfl


theorem witness_PoolConfigActs_refused :
    ((onMgmt cPa (with1 te up)).accepts (.poolConfigAddRange .mgmt cPa) = true ∧
      ((onMgmt cPa (with1 te up)).take .mgmt).poolFail te cPa = some (stSTALE_HANDLE, noField)) ∧
    ((onMgmt cPd (with1 te up)).accepts (.poolConfigDelete .mgmt cPd) = true ∧
      ((onMgmt cPd (with1 te up)).take .mgmt).poolFail te cPd = some (stSTALE_HANDLE, noField)) ∧
    ((onMgmt cPc (with1 tePool up)).accepts (.poolConfigCreate .mgmt cPc) = true ∧
      ((onMgmt cPc (with1 tePool up)).take .mgmt).poolFail tePool cPc = some (stNOT_PERMITTED, noField)) := by
  and_intros <;> rfl


/-! ### Objects, tokenizing, packing and requests -/

/-- The header of a sampling profile image of 192 bytes: its first 24 bytes, the rest up to the CRC, the CRC and the digest. -/
def hdrA : Bytes := le 4 0x4F515745 ++ [0, 2, 6, 0] ++ le 2 128 ++ le 6 0 ++ le 8 192
def hdrP : Bytes := hdrA ++ zeros 68 ++ le 4 106496195 ++ zeros 32

/-- The CRC-32C of R126 over 92 bytes, in steps of at most 24. -/
theorem crc_header : crc32c (hdrP.take 92) = 106496195 := by
  have e : hdrP.take 92 = hdrA ++ (zeros 17 ++ (zeros 17 ++ (zeros 17 ++ zeros 17))) := by decide +kernel
  have step : ∀ (b : Bytes) (c d : BitVec 32),
      decide (b.foldl (fun c x => iter crcStep 8 (c ^^^ BitVec.setWidth 32 x)) c = d) = true →
      b.foldl (fun c x => iter crcStep 8 (c ^^^ BitVec.setWidth 32 x)) c = d := fun _ _ _ h => of_decide_eq_true h
  rw [e, crc32c, List.foldl_append, List.foldl_append, List.foldl_append, List.foldl_append,
    step hdrA _ 0x208cfb3d (by decide +kernel), step (zeros 17) 0x208cfb3d 0x8ea16380 (by decide +kernel),
    step (zeros 17) 0x8ea16380 0x5628e7bd (by decide +kernel), step (zeros 17) 0x5628e7bd 0x90703b09 (by decide +kernel),
    step (zeros 17) 0x90703b09 (~~~ 106496195) (by decide +kernel)]
  decide

theorem witness_ObjectLoadingStarts_create : (atT cOc).accepts (.objCreate (.terrace 1) cOc (.okay hdrP)) = true ∧
    ((atT cOc).take (.terrace 1)).terrace (hTerr (cHandle cOc)) = some te ∧
    ((atT cOc).take (.terrace 1)).headerChk te hdrP (rd cOc 24 4) = none := by
  refine ⟨rfl, rfl, ?_⟩
  have h : headerOk hdrP = true := by
    unfold headerOk
    rw [crc_header]
    decide +kernel
  unfold State.headerChk
  rw [h]
  decide +kernel

theorem witness_ObjectLoadingStarts_create_refused : (atT cOc).accepts (.objCreate (.terrace 1) cOc .error) = true ∧
    ((atT cOc).take (.terrace 1)).headerChk te (zeros 128) (rd cOc 24 4) = some (stBAD_FORMAT, noField) :=
  ⟨rfl, by decide +kernel⟩

/-- Terrace 1 with a profile loading, every chunk there. -/
def oLoad : Obj := { obj tyProfile osLOADING none with versions := [], cur := 0, chunks := [(0, zeros 192)] }
def teLoaded : Terrace := { te with objs := [(hKey (hd tyProfile 0), oLoad)] }
def cOsP : Bytes := cm 0x12 (hd tyProfile 0) []

theorem witness_ObjectLoadingStarts_load : ((onT cOl (with1 teLoad up)).take (.terrace 1)).obj (cHandle cOl) =
      some { oLoad with chunks := [] } ∧ ({ oLoad with chunks := [] } : Obj).loadable = true ∧
    ({ oLoad with chunks := [] } : Obj).state ≤ osDESTROYING ∧ allLoaded [] (hdSize hdr0) = false ∧
    (obj tyProfile osREADY none).loadable = false := by
  and_intros <;> first | rfl | decide

/-- A profile whose entry names no state of R130. -/
def teBad : Terrace := { te with objs := [(hKey (hd tyProfile 0), { oLoad with state := 6 })] }

theorem witness_ObjectLoadingStarts_internal : ((onT cOl (with1 teBad up)).take (.terrace 1)).obj (cHandle cOl) =
      some { oLoad with state := 6 } ∧ osDESTROYING < ({ oLoad with state := 6 } : Obj).state ∧
    (onT cOl (with1 teBad up)).accepts (.objLoad (.terrace 1) cOl) = true ∧
    (onT cOsP (with1 teBad up)).accepts (.objSeal (.terrace 1) cOsP) = true ∧
    (onT cOr (with1 teBad up)).accepts (.objReplace (.terrace 1) cOr) = true := by
  and_intros <;> first | rfl | decide

theorem witness_ObjectEndsHintsAndQueries_internal :
    (onT cOd (with1 teBad up)).accepts (.objDestroy (.terrace 1) cOd) = true ∧
    (onT cOh (with1 teBad up)).accepts (.objHint (.terrace 1) cOh) = true := by
  and_intros <;> first | rfl | decide

theorem witness_ObjectLoadingStarts_seal : (onT cOsP (with1 teLoaded up)).accepts (.objSeal (.terrace 1) cOsP) = true ∧
    ((onT cOsP (with1 teLoaded up)).take (.terrace 1)).obj (cHandle cOsP) = some oLoad ∧ oLoad.state = osLOADING ∧
    allLoaded oLoad.chunks (hdSize oLoad.hdr) = true := ⟨rfl, rfl, rfl, by decide +kernel⟩

def oProf : Obj := obj tyProfile osREADY (some (.profile ⟨0, 0, 0, 0, 0, 0, 0, 0, 0⟩))

theorem witness_ObjectLoadingStarts_replace : ((atT cOr).take (.terrace 1)).obj (cHandle cOr) = some oProf ∧
    oProf.state = osREADY ∧ oProf.kind ≠ tyVocab ∧ oLoad.state ≠ osREADY ∧ oProf.state ≤ osDESTROYING ∧
    (onT cOr (with1 teLoaded up)).accepts (.objReplace (.terrace 1) cOr) = true ∧
    ((obj tyVocab osREADY none).kind = tyVocab ∧ (obj tyVocab osREADY none).overlay = false) := by
  and_intros <;> first | rfl | decide

/-- A version quarantined at tick 3 with a limit of 10 units. -/
def vQuar : Version := ⟨1, hdr0, none, 0, 0, 10, 0, true, false, 3, 0, 0, 0⟩

theorem witness_ObjectEndsHintsAndQueries_destroy : ((atT cOd).take (.terrace 1)).obj (cHandle cOd) = some oProf ∧
    ((atT cOd).take (.terrace 1)).terrace (hTerr (cHandle cOd)) = some te ∧ te.isBase (cHandle cOd) = false ∧
    oProf.ostate = osREADY ∧ oLoad.ostate = osLOADING ∧
    (onT cOd (with1 teLoaded up)).accepts (.objDestroy (.terrace 1) cOd) = true := by and_intros <;> rfl

theorem witness_ObjectEndsHintsAndQueries_destroy2 :
    ({ te with objs := te.objs.mod (hKey (hd tyTemplate 0)) (fun o => { o with base := cHandle cOs }) } : Terrace).isBase
      (cHandle cOs) = true ∧ (onT cOs (with1 te up)).accepts (.objDestroy (.terrace 1) cOs) = false ∧
    ({ oProf with versions := [{ vQuar with lost := true }] } : Obj).ostate = osLOST ∧ oProf.ostate ≠ osLOADING ∧
    oProf.ostate ≠ osLOST := by and_intros <;> first | rfl | decide

/-- The hints: PIN, COLD and none of them, of a READY profile; terrace 1 with half of its ways to pin into, its profile cold. -/
def cHint (n : Nat) : Bytes := cm 0x15 (hd tyProfile 0) [(16, 1, n)]
def oCold : Obj := { oProf with cold := true, t1Gone := true }
def teCold : Terrace := { te with objs := [(hKey (hd tyProfile 0), oCold)] }

theorem witness_ObjectEndsHintsAndQueries_hints :
    ((atT (cHint 1)).accepts (.objHint (.terrace 1) (cHint 1)) = true ∧ rd (cHint 1) 16 1 = 1 ∧
      ((atT (cHint 1)).take (.terrace 1)).obj (cHandle (cHint 1)) = some oProf ∧ oProf.state ≠ osLOADING ∧ oProf.pinned = false ∧
      oProf.t1Gone = false ∧ oProf.t0Need = 0 ∧ te.pinFits oProf.kind oProf.t0Need = true ∧ te.pinFits oProf.kind 3 = false ∧
      te.pinFits oProf.kind 2 = true ∧ hdT0 (zeros 24 ++ le 4 2) = 2) ∧
    ((atT (cHint 2)).accepts (.objHint (.terrace 1) (cHint 2)) = true ∧ rd (cHint 2) 16 1 ≠ 3 ∧ rd (cHint 2) 16 1 ≠ 1) ∧
    ((onT (cHint 2) (with1 teCold up)).accepts (.objHint (.terrace 1) (cHint 2)) = true ∧ oCold.t1Gone = true ∧
      up.boot.t2Failed = false ∧ ({ up.boot with t2Failed := true } : Boot).t2Failed = true) := by
  and_intros <;> first | rfl | decide

theorem witness_ObjectEndsHintsAndQueries_cold : (atT (cHint 3)).accepts (.objHint (.terrace 1) (cHint 3)) = true ∧
    rd (cHint 3) 16 1 = 3 ∧ oProf.cold = false ∧ oCold.cold = true ∧
    (onT (cHint 3) (with1 teCold up)).accepts (.objHint (.terrace 1) (cHint 3)) = true := by
  and_intros <;> first | rfl | decide

theorem witness_ObjectEndsHintsAndQueries_hint : (onT cOh (with1 teLoaded up)).accepts (.objHint (.terrace 1) cOh) = true ∧
    ((onT cOh (with1 teLoaded up)).take (.terrace 1)).obj (cHandle cOh) = some oLoad ∧ oLoad.state = osLOADING := by
  and_intros <;> rfl

theorem witness_ObjectEndsHintsAndQueries_query : ((atT cOq).take (.terrace 1)).obj (cHandle cOq) = some oProf ∧
    ({ oProf with pinned := true } : Obj).pinned = true := ⟨rfl, rfl⟩

theorem witness_ObjectEndsHintsAndQueries_expiry : ({ oProf with versions := [vQuar] } : Obj).ver 1 = some vQuar ∧
    vQuar.quarantine = true ∧ vQuar.backing = 0 ∧ vQuar.quarAt + 100 * (if vQuar.limit = 0 then 100000 else vQuar.limit) ≤ 1003 ∧
    1002 < vQuar.quarAt + 100 * (if vQuar.limit = 0 then 100000 else vQuar.limit) ∧
    ({ vQuar with quarantine := false } : Version).quarantine = false ∧ ({ vQuar with backing := 1 } : Version).backing ≠ 0 := by
  decide

theorem witness_TokenizeAndDetokenizeStart : ((atT cTok).take (.terrace 1)).usable [cHandle cTok] = none ∧
    ((atT cDet).take (.terrace 1)).usable [cHandle cDet] = none := by and_intros <;> rfl

/-- Terrace 1 with a vocabulary not yet sealed. -/
def teCrude : Terrace := { te with objs := [(hKey (hd tyVocab 0), obj tyVocab osLOADING none)] }

theorem witness_TokenizeAndDetokenizeStart_unusable : (onT cTok (with1 teCrude up)).accepts (.tok (.terrace 1) cTok) = true ∧
    (onT cDet (with1 teCrude up)).accepts (.detok (.terrace 1) cDet) = true ∧
    ((onT cTok (with1 teCrude up)).take (.terrace 1)).usable [cHandle cTok] = some (stNOT_PERMITTED, 0) ∧
    (onT cTo (with1 teCrude up)).accepts (.tokStreamOpen (.terrace 1) cTo) = true ∧
    ((onT cTo (with1 teCrude up)).take (.terrace 1)).usable [cHandle cTo] = some (stNOT_PERMITTED, 0) := by and_intros <;> rfl

def ticket1 : Ticket := ⟨.terrace 1, 9, 0x20, hd tyVocab 0, false⟩
def task1 : Task := { id := 5, terr := 1, cls := 1, prio := 4, index := 0, ticket := ticket1
                      kind := .tok (hd tyVocab 0) 1 0 0 1 false, result := some (stOK, 1, 0, noField) }

theorem witness_TokenizeAndDetokenizeStart_done : ({ up with tasks := [task1] } : State).task 5 = some task1 ∧
    task1.kind = .tok (hd tyVocab 0) 1 0 0 1 false ∧ task1.result = some (stOK, 1, 0, noField) ∧ task1.outs = 0 ∧
    ({ task1 with result := none } : Task).result = none ∧ ({ task1 with outs := 1 } : Task).outs ≠ 0 ∧ up.task 5 = none := by decide

/-- Terrace 1 with a template that has a slot and one with a passage group, and a store, all made for the vocabulary. -/
def tePack : Terrace := { te with objs :=
  [(hKey (hd tyVocab 0), obj tyVocab osREADY (some (.vocab voc))),
   (hKey (hd tyTemplate 0), obj tyTemplate osREADY (some (.template
     ⟨[⟨.groupOpen, 0, false, 0⟩, ⟨.passage, 0, false, 0⟩, ⟨.groupClose, 0, false, 0⟩]⟩))),
   (hKey (hd tyStore 0), obj tyStore osREADY (some (.store ⟨[⟨zeros 16, [0]⟩]⟩)))] }
def cPr2 : Bytes := cm 0x26 (hd tyTemplate 0) [(32, 4, hd tyVocab 0), (36, 4, hd tyStore 0), (40, 4, 4096)]
/-- A budget of 16 tokens and one passage, number 0. -/
def asm1 : Bytes := le 4 16 ++ [0, 0] ++ le 2 1 ++ zeros 152

theorem witness_PackAndPairStart :
    ((onT cPk (with1 tePack up)).accepts (.pack (.terrace 1) cPk (.okay (zeros 160))) = true ∧
      ((onT cPk (with1 tePack up)).take (.terrace 1)).terrace 1 = some tePack ∧
      ((onT cPk (with1 tePack up)).take (.terrace 1)).usable [cHandle cPk, rd cPk 32 4, rd cPk 36 4] = none ∧
      tePack.packHandles cPk = none ∧ tePack.packDesc false cPk (zeros 160) = none) ∧
    ((onT cPr2 (with1 tePack up)).accepts (.pair (.terrace 1) cPr2 (.okay asm1)) = true ∧
      ((onT cPr2 (with1 tePack up)).take (.terrace 1)).usable [cHandle cPr2, rd cPr2 32 4, rd cPr2 36 4] = none ∧
      tePack.packHandles cPr2 = none ∧ tePack.packDesc true cPr2 asm1 = none) := by
  and_intros <;> rfl

/-- A store of another vocabulary, and a descriptor that asks for no text. -/
theorem witness_PackAndPairStart_refused :
    ((onT cPk (with1 { tePack with objs := tePack.objs.mod (hKey (hd tyTemplate 0)) (fun o => { o with state := osLOADING }) } up)).take
      (.terrace 1)).usable [cHandle cPk, rd cPk 32 4, rd cPk 36 4] = some (stNOT_PERMITTED, 0) ∧
    (onT cPk (with1 tePack up)).accepts (.pack (.terrace 1) cPk .error) = true ∧
    ({ tePack with objs := tePack.objs.mod (hKey (hd tyVocab 0)) (fun o => { o with
      versions := [], header := zeros 32 ++ le 8 9 ++ zeros 88 }) } : Terrace).packHandles cPk =
      some (stBAD_FIELD, 8) ∧
    tePack.packDesc false cPk (le 4 0 ++ [0, 0] ++ le 2 5 ++ zeros 152) ≠ none ∧
    asmReads (zeros 160) (tePack.slotNames (cHandle cPk)) true = [] ∧
    asmReads (zeros 32 ++ le 8 64 ++ le 3 4 ++ [1] ++ zeros 100) [1] true ≠ [] := by
  and_intros <;> first | rfl | decide

/-- A token stream of terrace 1. -/
def tok1 : TokStream :=
  { gen := 1, ticket := ⟨.terrace 1, 8, 0x21, hd tyTok 0, false⟩, vocab := hd tyVocab 0, ver := 1, dest := 0
    kind := 0, sync := 0, release := 0, w := 16, o := 0, slots := 2, prefer := 0, reject := false }

theorem witness_TokenStreamCommandsAct : ((atT cTo).take (.terrace 1)).usable [cHandle cTo] = none ∧ te.toks.length < 64 ∧
    ((atT cTp).take (.terrace 1)).tokStream (cHandle cTp) = some tok1 ∧ tok1.puts.length < 64 ∧ rd cTp 24 3 ≠ 0 ∧
    (((atT cTc).take (.terrace 1)).only (ticketOf (.terrace 1) cTc) stOK (cHandle cTc) 0 0).tokStream (cHandle cTc) = some tok1 ∧
    tok1.err = none ∧ bit (rd cTc 16 1) 0 = false := by
  and_intros <;> first | rfl | decide

theorem witness_TokenStreamCommandsAct_refused : 64 ≤ ({ te with toks := List.replicate 64 (0, tok1) } : Terrace).toks.length ∧
    64 ≤ ({ tok1 with puts := List.replicate 64 ⟨0, ticket1, none, false, false, 0, false⟩ } : TokStream).puts.length ∧
    rd (cm 0x22 (hd tyTok 0) []) 24 3 = 0 ∧ (atT (cm 0x22 (hd tyTok 0) [(27, 1, 1)])).accepts
      (.tokStreamPut (.terrace 1) (cm 0x22 (hd tyTok 0) [(27, 1, 1)])) = true ∧
    ({ tok1 with err := some 3 } : TokStream).err = some 3 ∧
    (atT (cm 0x23 (hd tyTok 0) [(16, 1, 1)])).accepts (.tokStreamClose (.terrace 1) (cm 0x23 (hd tyTok 0) [(16, 1, 1)])) = true ∧
    bit (rd (cm 0x23 (hd tyTok 0) [(16, 1, 1)]) 16 1) 0 = true := by
  and_intros <;> first | rfl | decide

/-- Terrace 1 with a pool and a STOP region. -/
def teSub : Terrace := { te with reqs := [], pool := some pool0, regions := [region rkSTOP 16] }
/-- A descriptor of one token. -/
def rq1 : Bytes := zeros 24 ++ zeros 8 ++ le 4 1 ++ [2] ++ zeros 259
def reads1 : SubmitReads := ⟨.okay rq1, [], .okay (zeros 4), []⟩
def sSub : State := (onT cSub (with1 teSub up)).take (.terrace 1)
def sub1 : Sub := mkSub cSub reads1

theorem witness_RequestsAreAdmitted_checks : (onT cSub (with1 teSub up)).accepts (.reqSubmit (.terrace 1) cSub reads1) = true ∧
    sSub.terrace (hTerr (cHandle cSub)) = some teSub ∧ subReadError reads1 = false ∧ sSub.subChk2 teSub (.terrace 1) sub1 = none ∧
    teSub.subTokens (sSub.curVer sub1.vocab) sub1 = none ∧ teSub.subChk3 sub1 = none ∧ sSub.subChk4 teSub sub1 = none := by
  and_intros <;> rfl

theorem witness_RequestsAreAdmitted_admit : ∃ reg moved, sSub.admission teSub (Tbl.fresh teSub.reqs) (sSub.handleOf 1 tyReq 0)
    (sSub.mkReq teSub (.terrace 1) sub1 (sSub.handleOf 1 tyReq 0) ((onT cSub (with1 teSub up)).arrival (.terrace 1))) =
      .ok (reg, moved) := ⟨_, _, rfl⟩

/-- The checks of REQ_SUBMIT, each failing with those before it passed. -/
theorem witness_RequestsAreAdmitted_refused :
    (subReadError ⟨.error, [], .okay (zeros 4), []⟩ = true ∧
      (onT cSub (with1 teSub up)).accepts (.reqSubmit (.terrace 1) cSub ⟨.error, [], .okay (zeros 4), []⟩) = true) ∧
    (subReadError ⟨.okay (zeros 292), [], .okay [], []⟩ = false ∧
      (sSub.subChk2 teSub (.terrace 1) (mkSub cSub ⟨.okay (zeros 292), [], .okay [], []⟩)).isSome = true) ∧
    (sSub.subChk2 teSub (.terrace 1) (mkSub cSub ⟨.okay rq1, [], .okay (le 4 7), []⟩) = none ∧
      (teSub.subTokens (sSub.curVer sub1.vocab) (mkSub cSub ⟨.okay rq1, [], .okay (le 4 7), []⟩)).isSome = true) ∧
    (teSub.subChk3 { sub1 with d := le 4 (hd tyTemplate 5) ++ zeros 288 }).isSome = true ∧
    (sSub.subChk4 teSub { sub1 with c := cm 0x30 (hd tyVocab 1) [] }).isSome = true ∧
    (∃ e, sSub.admission { teSub with regions := [] } 0 (sSub.handleOf 1 tyReq 0) req = .error e) := by
  and_intros <;> first | rfl | exact ⟨_, rfl⟩

/-- A request whose prompt is one known token, at intake. -/
def reqIn : Req := { req with state := rsADMIT_WAIT, intake := .tokens [0] }
def teIn : Terrace := { teSub with reqs := [(2 ^ 18 - 1, { reqIn with gen := 63 })] }

theorem witness_IntakeCompletes : (with1 teIn up).terrace 1 = some teIn ∧ teIn.reqs.get (2 ^ 18 - 1) = some { reqIn with gen := 63 } ∧
    reqIn.build = none ∧ reqIn.state = rsADMIT_WAIT ∧ reqIn.cancel = false ∧ (1 < 16 ∧ 2 ^ 18 - 1 < 2 ^ 18 ∧ 63 < 64) ∧
    (with1 teIn up).intakeReady (mkHandle 1 tyReq (2 ^ 18 - 1) 63) { reqIn with gen := 63 } = true ∧
    (teIn.promptTokens { reqIn with gen := 63 }).fail = none ∧ (teIn.promptTokens { reqIn with gen := 63 }).toks = [0] ∧
    reqIn.promptFail 1 = none := by
  and_intros <;> first | rfl | decide

theorem witness_IntakeCompletes_fails : te.reqs.get 1 = none ∧ req.state ≠ rsADMIT_WAIT ∧ ({ req with cancel := true } : Req).cancel = true ∧
    (with1 teIn up).intakeReady (mkHandle 1 tyReq 0 1) { reqIn with intake := .text false none } = false ∧
    (teIn.promptTokens { reqIn with intake := .text true (some [0xFF]) }).fail.isSome = true ∧
    reqIn.promptFail 0 = some (stBAD_FIELD, 96) ∧ reqIn.promptFail (2 ^ 22) = some (stBAD_FIELD, 32) := by
  and_intros <;> first | rfl | decide +kernel

theorem witness_RequestCommandsAnswer_cancel : (atT cCan).accepts (.reqCancel (.terrace 1) cCan) = true ∧
    ((atT cCan).take (.terrace 1)).terrace 1 = some te ∧ (atT cAm).accepts (.reqAmend (.terrace 1) cAm) = true := by
  and_intros <;> rfl

theorem witness_RequestCommandsAnswer : ((atT cRq).take (.terrace 1)).req (cHandle cRq) = some req ∧ rd cRq 16 8 = 0 ∧
    (atT (cm 0x33 (hd tyReq 0) [(16, 8, 64)])).accepts (.reqQuery (.terrace 1) (cm 0x33 (hd tyReq 0) [(16, 8, 64)])) = true ∧
    rd (cm 0x33 (hd tyReq 0) [(16, 8, 64)]) 16 8 ≠ 0 := by
  and_intros <;> first | rfl | decide


/-! ### Starters, streams and sync objects -/

/-- Terrace 1 ready for a Starter build of token 0: a pool and room. -/
def teSpan : Terrace := { tePool with objs := te.objs, desc := { desc with t1mp0 := Config.journalLines 4 4 + 1 } }
def sSpan : State := (onT cSc (with1 teSpan up)).take (.terrace 1)

theorem witness_StarterCommandsAct_span : (onT cSc (with1 teSpan up)).accepts (.starterCreateSpan (.terrace 1) cSc (.okay (zeros 4))) = true ∧
    sSpan.usable [cHandle cSc] = none ∧ teSpan.pool.isSome = true ∧
    (∃ vb, teSpan.vocab (cHandle cSc) (sSpan.curVer (cHandle cSc)) = some vb ∧ badToken vb [0] = none) ∧
    (toTokens (zeros 4)).take (rd cSc 32 4) = [0] ∧ (sSpan.findStarter 1 (zeros 32)).2 = none ∧
    sSpan.spanFail teSpan [(0 : Tok)].length = none := by
  refine ⟨rfl, rfl, rfl, ⟨_, rfl, rfl⟩, rfl, rfl, ?_⟩
  have h : ¬(teSpan.t1Free < tokLines 1) := by
    have u : teSpan.t1Used = Config.journalLines 4 4 := rfl
    have t : tokLines 1 = 1 := rfl
    rw [Terrace.t1Free, u, t, show teSpan.desc.t1mp0 = Config.journalLines 4 4 + 1 from rfl, dataLines]
    omega
  have q : sSpan.spanFail teSpan [(0 : Tok)].length = if 4 ≤ 0 ∨ teSpan.t1Free < tokLines 1 then some (stNO_RESOURCE, 0) else none := by
    unfold State.spanFail
    simp [h]
    decide
  rw [q]
  simp [h]

theorem witness_StarterCommandsAct_span_refused :
    ((onT cSc (with1 teCrude up)).accepts (.starterCreateSpan (.terrace 1) cSc .error) = true ∧
      ((onT cSc (with1 teCrude up)).take (.terrace 1)).usable [cHandle cSc] = some (stNOT_PERMITTED, 0)) ∧
    te.pool = none ∧ teSpan.pool ≠ none ∧
    (∃ vb, teSpan.vocab (cHandle cSc) (sSpan.curVer (cHandle cSc)) = some vb ∧ badToken vb [7] = some 0) ∧
    sSpan.spanFail { teSpan with desc := { teSpan.desc with starterQuota := 0 } } 1 = some (stNO_RESOURCE, 0) := by
  refine ⟨⟨rfl, rfl⟩, rfl, by decide, ⟨_, rfl, rfl⟩, rfl⟩

/-- Terrace 1 with a READY Starter of token 0, found through the directory. -/
def dig1 : Bytes := teSpan.digestOf (hd tyVocab 0) 1 [0]
def teMatch : Terrace :=
  { teSpan with
    starters := [(0, ⟨1, stREADY, 65534, 0, hd tyVocab 0, 1, [0], none, [], dig1, none, none, false, none⟩)]
    starterDir := [⟨(teSpan.dirChoices dig1).2, dig1, 0⟩], regions := [region rkSTARTER 4] }

theorem witness_StarterCommandsAct_found : (((with1 teMatch up).heal 1).findStarter 1 dig1).2 = some 0 := by decide +kernel

theorem witness_StarterCommandsAct_match : teMatch.dirFind dig1 = some 0 ∧
    ((with1 teMatch up).matchStarter 1 0).isSome = true ∧
    ((with1 { teMatch with starters := [(0, ⟨1, stREADY, 65535, 0, hd tyVocab 0, 1, [0], none, [], dig1, none, none, false, none⟩)] }
      up).matchStarter 1 0).isSome = false := by
  refine ⟨?_, rfl, rfl⟩
  simp [Terrace.dirFind, Terrace.dirChoices, Terrace.dirBuckets, teMatch, teSpan]

theorem witness_StarterCommandsAct_fromRequest : ((onT cSf (with1 { teSub with reqs := [(0, req)] } up)).accepts
      (.starterCreateFromRequest (.terrace 1) cSf) = true ∧ req.vocab = cHandle cSf ∧ req.capture = none ∧ req.starter = 0 ∧
      teSub.starters.length < teSub.desc.starterQuota ∧ teSub.pool.isSome = true) ∧
    ((onT cSf (with1 { teSub with reqs := [(0, req)] } up)).take (.terrace 1)).req (rd cSf 20 4) = some req ∧
    te.chainLen (hIndex (hd tyStarter 0)) < 8 := by
  and_intros <;> first | rfl | decide

theorem witness_StarterCommandsAct_fromRequest_refused : te.pool = none ∧ hd tyVocab 1 ≠ cHandle cSf ∧
    ({ req with capture := some (0, 0, ticket1) } : Req).capture ≠ none ∧ ({ req with starter := hd tyStarter 0 } : Req).starter ≠ 0 ∧
    8 ≤ ({ te with starters := (List.range 9).map (fun i => (i, ⟨1, stREADY, 1, 0, hd tyVocab 0, 1, [0],
      if i = 0 then none else some (i - 1), [], [], none, none, false, none⟩)) } : Terrace).chainLen 8 ∧
    ({ teSub.desc with starterQuota := 0 } : TDesc).starterQuota ≤ teSub.starters.length := by
  decide

theorem witness_StarterCommandsAct_release : te.starterIx (hIndex (cHandle cSr)) = 0 ∧ (te.starters.get 0).isSome = true ∧
    (te.starters.get 0).map (·.state) = some stREADY ∧ stREADY ≠ stBUILDING := by
  and_intros <;> first | rfl | decide

/-- A stream of terrace 1. -/
def str1 : RStream := { gen := 1, ring := 0, log2 := 7, irqEn := true, ctrl := false, coalCount := 4, coalTime := 1, sync := 0 }
/-- Terrace 1 with one unannounced record since tick 0. -/
def teCoal : Terrace := { te with streams := [(0, { str1 with unann := 1 })] }

theorem witness_StreamCommandsAct : te.streams.length < 256 ∧ ((atT cSd).take (.terrace 1)).rstream (cHandle cSd) = some str1 ∧
    (((with1 teCoal up).terrace 1).bind (fun te => te.streams.get 0)) = some { str1 with unann := 1 } ∧
    (with1 teCoal up).rstream (mkHandle 1 tyStream 0 1) = some { str1 with unann := 1 } ∧ str1.irqEn = true ∧ str1.coalTime ≠ 0 ∧
    ({ str1 with unann := 1 } : RStream).firstAt + 16 * str1.coalTime ≤ 16 ∧
    (atT cSl).accepts (.streamClose (.terrace 1) cSl) = true := by
  and_intros <;> first | rfl | decide

theorem witness_StreamCommandsAct_other : 256 ≤ ({ te with streams := List.replicate 256 (0, str1) } : Terrace).streams.length ∧
    ({ str1 with irqEn := false } : RStream).irqEn = false ∧ str1.unann = 0 ∧ ({ str1 with coalTime := 0 } : RStream).coalTime = 0 ∧
    ((1 < max 1 str1.coalCount ∨ (str1.coalCount ≤ 1 ∧ str1.out ≠ 0)) ∧
      15 < ({ str1 with unann := 1 } : RStream).firstAt + 16 * str1.coalTime) ∧
    (up.terrace 1).bind (fun te => te.streams.get 0) = none := by
  refine ⟨Nat.le_of_eq (List.length_replicate (n := 256)).symm, ?_⟩
  and_intros <;> first | rfl | decide

def sync1 : SyncObj := ⟨1, 5, 0, 0, false, []⟩
def waiter1 : SyncWaiter := ⟨ticket1, 9, 3⟩

theorem witness_SyncCommandsAct_values : te.syncs.length < te.desc.syncQuota ∧
    ((atT cYa).take (.terrace 1)).sync (cHandle cYa) = some sync1 ∧ sync1.err = false ∧
    (sync1.value + rd cYa 16 8 < 2 ^ 64 ∧ rd cYa 16 8 ≠ 0) ∧
    ((atT (cm 0x51 (hd tySync 0) [(16, 8, 2 ^ 64 - 5)])).accepts
      (.syncSignalAdd (.terrace 1) (cm 0x51 (hd tySync 0) [(16, 8, 2 ^ 64 - 5)])) = true ∧
      2 ^ 64 ≤ sync1.value + rd (cm 0x51 (hd tySync 0) [(16, 8, 2 ^ 64 - 5)]) 16 8) := by
  and_intros <;> first | rfl | decide

/-- Signals noted in the tick: one that adds 2, one that goes to 9, and one that is too large. -/
theorem witness_SyncCommandsAct_signals : (with1 te up).sync (hd tySync 0) = some sync1 ∧ sync1.err = false ∧
    ({ sync1 with err := true } : SyncObj).err = true ∧ 2 ^ 64 ≤ sync1.value + (2 ^ 64 - 5) ∧ sync1.value + (2 ^ 64 - 6) < 2 ^ 64 ∧
    max sync1.value 9 = 9 ∧ max sync1.value 5 = sync1.value ∧ (⟨ticket1, hd tySync 0, 1, 9⟩ : Signal).mode ≠ 0 ∧
    ({ te.desc with syncQuota := 1 } : TDesc).syncQuota ≤ te.syncs.length ∧
    ({ te with toks := te.toks.mapVals (fun _ x => { x with sync := hd tySync 0 }) } : Terrace).syncNamed (hd tySync 0) = true := by
  and_intros <;> first | rfl | decide

theorem witness_SyncCommandsAct_waits : (sync1.value < rd cYw 16 8 ∧ sync1.waiters.length < 256 ∧
      rd (cm 0x52 (hd tySync 0) [(16, 8, 5)]) 16 8 ≤ sync1.value ∧
      256 ≤ (List.replicate 256 waiter1).length) ∧
    (((with1 te up).terrace 1).bind (fun te => te.syncs.get 0)) = some sync1 ∧ te.syncNamed (cHandle cYd) = false := by
  refine ⟨⟨by decide, by decide, by decide, List.length_replicate.symm ▸ by decide⟩, rfl, rfl⟩


/-! ### Sideband, debug port, resets, start-up, flash, power and sleep -/

theorem witness_SidebandRegisters : up.sb.cmd.length = 64 ∧ (60 : Byte).toNat + (zeros 4).length ≤ 64 ∧ up.sb.busy = false ∧
    up.sb.done = false ∧ up.tap.erasing = none ∧ up.boot.step ≠ .failed ∧ ({ up.sb with busy := true } : Sideband).busy = true ∧
    ({ up.sb with done := true } : Sideband).done = true ∧ ({ up.tap with erasing := some 1 } : Tap).erasing.isSome = true ∧
    ({ up.boot with step := .failed } : Boot).step = .failed := by decide

theorem witness_SidebandRegisters_bytes : (∃ u, exec (.sbPrivateWrite 63 []) up = .next u ∧ u.sb.busy = false) ∧
    ((63 : Byte).toNat + ([] : Bytes).length) % 256 = 63 ∧ ((63 : Byte).toNat + ([0] : Bytes).length) % 256 = 64 ∧
    ((255 : Byte).toNat + ([0] : Bytes).length) % 256 = 0 ∧ (3 : Byte) ≠ 1 ∧ (3 : Byte) ≠ 2 := ⟨⟨_, rfl, rfl⟩, by decide⟩

theorem witness_SidebandAddressing : 0x0D9E * 2 ^ 33 + 0x4B44 * 2 ^ 16 + up.fuses.sbInstance.toNat * 2 ^ 12 + 0x072 = 0x1B3C4B440072 := by
  decide

/-- The block with its debug port open. -/
def open_ : State := { up with lcs := { up.lcs with debugOpen := true } }

/-- A debug access: operation and word address. -/
def dacc (op w : Nat) : BitVec 128 := BitVec.ofNat 128 (op + 4 * w)

theorem witness_TapInstructionsAnswer : open_.lcs.debugOpen = true ∧ up.lcs.debugOpen = false ∧
    ((dacc 2 0x1FFFF).toNat % 4 = 2 ∧ (dacc 2 0x1FFFF).toNat / 4 % 2 ^ 30 < 0x20000) ∧
    ((dacc 1 0x1FFFF).toNat % 4 = 1 ∧ (dacc 1 0x1FFFF).toNat / 4 % 2 ^ 30 < 0x20000) ∧
    ((dacc 1 0x20000).toNat % 4 = 1 ∧ 0x20000 ≤ (dacc 1 0x20000).toNat / 4 % 2 ^ 30) ∧
    ((dacc 2 0x20000).toNat % 4 = 2 ∧ 0x20000 ≤ (dacc 2 0x20000).toNat / 4 % 2 ^ 30) ∧ (dacc 0 5).toNat % 4 = 0 ∧
    (dacc 3 5).toNat % 4 = 3 := by decide

theorem witness_DebugStatusWordIsRead : up.lcs.state < 8 ∧ up.tap.attempts ≤ 3 ∧ ({ up.tap with result := 15 } : Tap).result < 16 ∧
    up.fuses.uid.length = 16 := by decide

theorem witness_DebugOpening_challenge : up.lcs.state ≠ lcSCRAPPED ∧ up.lcs.state ≠ lcINVALID ∧ up.lcs.ready = true ∧
    up.sleep.phase = .awake ∧ up.spring.failed = false := by decide

theorem witness_DebugOpening_closed : ({ up.lcs with state := lcSCRAPPED } : Lcs).state = lcSCRAPPED ∧ State.reset.lcs.ready = false ∧
    State.reset.lcs.state ≠ lcSCRAPPED ∧ State.reset.lcs.state ≠ lcINVALID ∧ (inPhase .s1).clocked = false ∧ up.clocked = true ∧
    ({ failed := true } : Spring).failed = true ∧ State.reset.lcs.otpValid = false ∧ up.tap.erasing = none ∧
    ({ up.tap with erasing := some 1 } : Tap).erasing ≠ none ∧ ({ up.tap with locked := true } : Tap).locked = true ∧
    open_.lcs.debugOpen = true := by decide

/-- A challenged block of the given lifecycle state, nonce 0, whose key hash is `kh`. -/
def challenged (l : Nat) (kh : Nat) : State :=
  { up with
    lcs := { up.lcs with state := l }
    fuses := { up.fuses with keyHash := be 48 kh }
    sleep := { up.sleep with code := 0 }
    tap := { up.tap with nonce := some (0, 0) } }

theorem witness_DebugOpening_early : (challenged lcTEST 0).lcs.otpValid = true ∧ (challenged lcTEST 0).lcs.debugOpen = false ∧
    (challenged lcTEST 0).tap.erasing = none ∧ (challenged lcTEST 0).lcs.state = lcTEST ∧ (challenged lcBLANK 0).lcs.state = lcBLANK ∧
    ({ up.tap with erasing := some 1 } : Tap).erasing.isSome = true := by decide

/-- Signed responses, each of a key made for it: the scalars of the check are small, so that it can be evaluated. -/
def dr2 : Bytes :=
  le 48 0x501f1ef71f1ce1495c53ba3861daa8be006a194adf460b52cfd4af14c1d3d1db74366843e08d7ac360ac850a683a25f4 ++
  le 48 0x2dd55a62c2876c5872d2ff8e69c1af5725f7139630796249a05de1a5fb86056b4169ead2da4490bc7bc630881ee7ffc5 ++
  le 48 0x473ef5825eede590fbfc132dced74afe4e3e8b31e32fa6e3189faa42fe22675b0b207f286294d16b146526f7efecc1a7 ++
  le 48 0x473ef5825eede590fbfc132dced74afe4e3e8b31e32fa6e3189faa42fe22675b0b207f286294d16b146526f7efecc1a7
def kh2 : Nat := 0x605dd915e8171a1e9bf48e021386db2f39d9734038dbc7ef61990e0bf9f5671a58e881092c3e559977a89469b706432f
def dr3 : Bytes :=
  le 48 0xdec4dceddf791c28240588bbc1a850193fe8d289376a7fe5743a16838d227ed5b1cd99247dae1b988caddfcc1d5a513e ++
  le 48 0x3bf40593058efbe892f1cacbb438fbd2452aab61de743baf5c4f4527b5422559a3cc3e2f72981fe0a57742be4a031170 ++
  le 48 0x36eb833c002a33d061460611d7f759e9b956709b171d29e7a43e69db763109dc6a55ce653f79f0482f50bdda1f9a1ec1 ++
  le 48 0x9b75c19e001519e830a30308ebfbacf4dcab384d8b8e94f3b5d0dbaeb5341bdde137ee0bc4154be18e1e6ba2762fa41a
def kh3 : Nat := 0x98b79cbfbaa62bc03ba966094c9ea90cf4a69f43d6392694259feff29c7a91232a797728b7ee313ae117da3e3b9c5092

theorem witness_DebugOpening_provisioned : ((challenged lcPROVISIONED kh2).tapOut 0x12 0).responseChk dr2 = none := by
  decide +kernel

theorem witness_DebugOpening_deployed : ((challenged lcDEPLOYED kh3).tapOut 0x12 0).responseChk dr3 = none := by
  decide +kernel

theorem witness_DebugOpening_refused : (challenged lcDEPLOYED kh3).tap.locked = false ∧
    (({ challenged lcDEPLOYED kh3 with tick := 100000000 } : State).tapOut 0x12 0).responseChk dr3 = some drSTALE_NONCE := by
  and_intros <;> rfl


theorem witness_ResetsRestart : up.clocked = true ∧ (inPhase .s2).clocked = false ∧ (none : Option ParityErr) = none ∧
    (some (⟨0, 0, true, 0, 0⟩ : ParityErr)).isSome = true := by decide

/-- Start-up at the given step. -/
def boot (b : Boot) (at_ : Nat) : State := { State.reset with boot := b, tick := at_ }

theorem witness_StartUpSequence_fuses : (boot { step := .pdWh } 0).boot.step = .pdWh ∧ (boot { step := .otp } 334).boot.step = .otp ∧
    (boot { step := .otp } 334).boot.otpFirst = none ∧ ({ step := .otp, otpFirst := some 7, otpWord := 31 } : Boot).otpFirst = some 7 ∧
    ({ step := .otp, otpFirst := some 7, otpWord := 31 } : Boot).otpWord ≠ 32 ∧
    ({ step := .otp, otpFirst := some 7, otpWord := 32 } : Boot).otpWord = 32 ∧ (7 : Word) ≠ 8 ∧
    (boot { step := .otp } 334).boot.since + 334 ≤ (boot { step := .otp } 334).tick := by decide

theorem witness_StartUpSequence_later : ({ boot { step := .sram } 0 with lcs := { state := lcSCRAPPED } } : State).lcs.state = lcSCRAPPED ∧
    (boot { step := .sram } 0).lcs.state ≠ lcSCRAPPED ∧ (boot { step := .sram } 0).lcs.state ≠ lcINVALID ∧
    (boot { step := .sram } 0).boot.straps.bootSrc = 0 ∧ (boot { step := .firmware } 1000000).boot.restart = false ∧
    (boot { step := .firmware } 1000000).boot.step = .firmware ∧
    (boot { step := .firmware } 1000000).boot.since + 1000000 ≤ (boot { step := .firmware } 1000000).tick := by decide

theorem witness_StartUpSequence_other : up.boot.step ≠ .pdWh ∧ up.boot.step ≠ .otp ∧ up.boot.step ≠ .sram ∧ up.boot.step ≠ .firmware ∧
    (boot { step := .otp } 333).tick < (boot { step := .otp } 333).boot.since + 334 ∧
    (boot { step := .firmware } 999999).tick < (boot { step := .firmware } 999999).boot.since + 1000000 ∧
    (boot { step := .sram, straps := { bootSrc := 1, bootAddr := 0 } } 0).boot.straps.bootSrc = 1 ∧ 2 ≤ (2 : BitVec 2).toNat ∧
    (boot { step := .firmware, restart := true } 0).boot.restart = true ∧ (inPhase .waking).sleep.phase = .waking ∧
    up.sleep.phase ≠ .waking ∧ ({ up.lcs with state := lcINVALID } : Lcs).state = lcINVALID := by decide

/-- Flash initialized on no channel, or on all; and mounted with the given jobs. -/
def mounting (b : Bool) (at_ : Nat) : State := { up with tick := at_, flash := { phyReady := List.replicate 8 b } }
def teFlash : Terrace := { te with objs := [(hKey (hd tyProfile 0), { oProf with versions := [{ vQuar with backing := 2 }] })] }
def mounted (jobs : List FlashJob) : State :=
  { with1 teFlash up with
    lcs := { up.lcs with t2Ready := true }, flash := { jobs := jobs.map (fun j => ⟨7, 0, j⟩), maps := [⟨hd tyProfile 0, 1, 0, 1, 0⟩] }
    medium := { blocks := [⟨0, 0, false, 1, 50000, true⟩, ⟨7, 3, false, 2, 0, false⟩, ⟨0, 1, false, 5000, 0, false⟩] } }

theorem witness_FlashEventsAct_mount : (mounting true 5).mounting = true ∧ (mounting true 5).cfg.hasFlash = true ∧ (mounting true 5).lcs.ready = true ∧
    (mounting true 5).lcs.t2Ready = false ∧ (mounting true 5).boot.t2Failed = false ∧ (mounting true 5).flash.phyReady ≠ [] ∧
    (∀ r ∈ (mounting true 5).flash.phyReady, r = true) ∧ (mounting false 5).flash.jobs = [] ∧
    (∀ r ∈ (mounting false 5).flash.phyReady, r = false) ∧
    (mounting false 300000000).boot.readyAt + 300000000 ≤ (mounting false 300000000).tick ∧
    (mounting false 299999999).tick < (mounting false 299999999).boot.readyAt + 300000000 := by decide

theorem witness_FlashEventsAct_jobs : (mounted []).lcs.t2Ready = true ∧
    (mounted [.promote 1, .sealCopy (hd tyProfile 0)]).flash.jobs.find? (fun o => o.job.writes) = some ⟨7, 0, .sealCopy (hd tyProfile 0)⟩ ∧
    (mounted [.sealCopy 2, .promote 1]).flash.jobs.find? (fun o => !o.job.writes) = some ⟨7, 0, .promote 1⟩ ∧
    (mounted []).freeBlock = some 1 ∧ (mounted []).medium.blocks[1]? = some ⟨7, 3, false, 2, 0, false⟩ := by
  decide

theorem witness_FlashEventsAct_pieces : ∃ n, (mounted []).jobPieces (.sealCopy (hd tyProfile 0)) = [(hd tyProfile 0, 1, 0, n)] := by
  have h : ceilDiv 1 unitsPerBlock = 1 := by
    have : 1 ≤ unitsPerBlock := by unfold unitsPerBlock; omega
    rw [ceilDiv, Nat.add_comm, Nat.add_sub_cancel]
    exact Nat.div_self this
  exact ⟨_, by rw [State.jobPieces]; simp only [show (mounted []).jobParts (.sealCopy (hd tyProfile 0)) = [(hd tyProfile 0, 1, 192)] from rfl,
    List.flatMap_cons, List.flatMap_nil, show ceilDiv 192 16384 = 1 from rfl, h, List.append_nil,
    show List.range 1 = [0] from rfl, List.map_cons, List.map_nil, Nat.zero_mul]; rfl⟩

theorem witness_FlashEventsAct_background : (mounted []).running = true ∧ (mounted []).slotWork = false ∧ (mounted []).flash.jobs = [] ∧
    (mounted []).wearBlock = some 0 ∧ (mounted []).dataBlocks = [(0, ⟨0, 0, false, 1, 50000, true⟩)] ∧
    (mounted []).disturbReads = 50000 := by
  decide

theorem witness_FlashEventsAct_none : up.lcs.t2Ready = false ∧ (mounted []).flash.jobs.find? (fun o => o.job.writes) = none ∧
    (mounted [.promote 1]).flash.jobs ≠ [] ∧ State.reset.running = false ∧ up.wearBlock = none ∧ up.freeBlock = none ∧
    up.dataBlocks.find? (fun b => b.2.due) = none ∧ (mounted []).mounting = false ∧ (7 ≠ 6 ∨ 3 ≠ 2) ∧
    (with1 (teIn) { up with sched := { turn := some 1 }, mbs := up.mbs.set 1 (box []) }).slotWork = true := by
  decide

/-- A block in the given power phase at the given tick. -/
def pwr (p : Power) (at_ : Nat) : State := { up with pwr := p, tick := at_ }
def pIdle : Power := up.pwr

theorem witness_LevelAcknowledgements_acks : pIdle.vreq = false ∧ pIdle.freq = false ∧
    ({ pIdle with vreq := true, phase := .volt } : Power).phase = .volt ∧ ({ pIdle with vreq := true } : Power).vreq = true ∧
    ({ pIdle with freq := true, phase := .freq } : Power).phase = .freq ∧ ({ pIdle with freq := true } : Power).freq = true ∧
    pIdle.phase ≠ .volt ∧ pIdle.phase ≠ .freq ∧ ({ step := .voltage } : Boot).step = .voltage ∧ up.boot.step ≠ .voltage ∧
    (inPhase .s3Enter).sleep.phase = .s3Enter ∧ (inPhase .wakeVolt).sleep.phase = .wakeVolt ∧ up.sleep.phase ≠ .s3Enter ∧
    up.sleep.phase ≠ .wakeVolt := by decide

theorem witness_LevelAcknowledgements_timers :
    (pwr { pIdle with phase := .bias } 200).pwr.since + 200 ≤ (pwr { pIdle with phase := .bias } 200).tick ∧
    (pwr { pIdle with phase := .bias } 199).tick < (pwr { pIdle with phase := .bias } 199).pwr.since + 200 ∧ pIdle.phase ≠ .bias ∧
    (pwr { pIdle with vreq := true } 9999).tick < (pwr { pIdle with vreq := true } 9999).pwr.since + 10000 ∧
    (pwr { pIdle with vreq := true } 10000).pwr.since + 10000 ≤ (pwr { pIdle with vreq := true } 10000).tick := by decide

theorem witness_LevelAcknowledgements_clocks : ({ step := .clocks } : Boot).step = .clocks ∧ up.boot.step ≠ .clocks ∧
    (inPhase .abort).sleep.phase = .abort ∧ (inPhase .wakeClk).sleep.phase = .wakeClk ∧
    ({ up with pwr := { up.pwr with clkreq := 0x3F, clkack := 0x3F } } : State).clocksUp = true ∧
    ({ up with pwr := { up.pwr with clkreq := 0x3F, clkack := 0x1F } } : State).clocksUp = false ∧
    (up.sleep.phase ≠ .abort ∧ up.sleep.phase ≠ .wakeClk) := by decide

/-- The automatic level on, at the given tick. -/
def auto_ (at_ : Nat) : State := pwr { pIdle with auto := true } at_

theorem witness_LevelAcknowledgements_auto : (auto_ 100000).running = true ∧ (auto_ 100000).pwr.auto = true ∧
    (auto_ 100000).pwr.lastAuto + 100000 ≤ (auto_ 100000).tick ∧ (auto_ 99999).tick < (auto_ 99999).pwr.lastAuto + 100000 ∧
    pIdle.auto = false ∧ pIdle.phase = .idle ∧ ({ pIdle with phase := .volt } : Power).phase ≠ .idle ∧ up.sched.sealed = false ∧
    3 * 4 < 4 * 4 ∧ (4 * 3 ≤ 3 * 4 ∧ 2 * 4 ≤ 5 * 3) ∧ (4 * 1 ≤ 3 * 3 ∧ 5 * 1 < 2 * 3) ∧
    (with1 te up).terr.any (fun x => x.2.lateAuto) = false ∧
    (with1 { te with lateAuto := true } up).terr.any (fun x => x.2.lateAuto) = true := by decide

/-- A block in the given sleep state. -/
def asleep (l : Sleep) (at_ : Nat) : State := { up with sleep := l, tick := at_, sched := { len := 5000 } }

theorem witness_WakeEventsAreLatched_events :
    ((asleep { phase := .s2, alarm := 3 } 3).sleep.alarm ≠ 0 ∧
      (asleep { phase := .s2, alarm := 3 } 3).sleep.alarm ≤ (asleep { phase := .s2, alarm := 3 } 3).tick ∧
      (asleep { phase := .s2, alarm := 3 } 3).sleep.phase ≠ .quiesce) ∧
    ((asleep { phase := .s1 } 0).sleep.phase = .s1 ∧ (asleep { phase := .s1 } 0).sleep.ticket = none) ∧
    ({ pIdle with spAwake := false } : Power).spAwake = false ∧ (quiescing 9).sleep.attnWake = true ∧
    (quiescing 9).sleep.phase = .quiesce ∧ (asleep { phase := .s1, alarm := 4 } 3).tick < 4 := by decide

theorem witness_WakeEventsAreLatched_phases : up.sleep.phase = .awake ∧ (inPhase .s1).sleep.phase ≠ .awake ∧
    ((asleep { phase := .entering, stage := 4 } 0).sleep.phase = .entering ∧ 4 ≤ 4 ∧ 4 < 5) ∧ (inPhase .s2).sleep.phase = .s2 ∧
    (inPhase .s3).sleep.phase = .s3 ∧ (inPhase .waking).sleep.phase ∉ [SleepPhase.entering, .s1, .s2, .s3] ∧
    (({ pIdle with spAwake := true } : Power).spAwake = true ∧ up.sleep.phase ≠ .s1) ∧
    (({ (quiescing 9).sleep with attnWake := false } : Sleep).attnWake = false ∧ (quiescing 9).sleep.ticket.isSome = true) := by
  decide

theorem witness_WakeEventsAreLatched_restore : (asleep { phase := .waking, goal := 2 } 0).sleep.phase = .waking ∧
    bit (asleep { phase := .waking, goal := 2 } 0).keptGroups 2 = true ∧
    bit (asleep { phase := .waking, goal := 3 } 0).keptGroups 2 = false ∧ ({ teWait := some 1 } : Sleep).teWait.isSome = true ∧
    ({ rbWait := some 1 } : Sleep).rbWait.isSome = true ∧ up.sleep.teWait = none ∧ up.sleep.rbWait = none := by decide

theorem witness_WakeEventsAreLatched_auto : (asleep {} 1000).running = true ∧ (asleep {} 1000).sched.sealed = false ∧
    (asleep {} 1000).pwr.s1Idle ≠ 0 ∧ (asleep {} 1000).idle = true ∧
    (asleep {} 1000).sleep.idleSince + (asleep {} 1000).pwr.s1Idle ≤ (asleep {} 1000).tick ∧ (with1 te up).idle = false ∧
    (asleep {} 999).tick < (asleep {} 999).sleep.idleSince + (asleep {} 999).pwr.s1Idle := by
  and_intros <;> first | rfl | decide

/-! ### Step port, boundaries, schedule -/

/-- A message of one header with these fields, and its payload beats. -/
def msg (fs : List (Nat × Nat × Nat)) (payload : Bytes) (beats : Nat) : SpMsg :=
  ⟨fs.foldl (fun b f => b.take f.1 ++ le f.2.1 f.2.2 ++ b.drop (f.1 + f.2.1)) (zeros 256), payload, beats⟩

/-- An output row of one tile. -/
def row1 : Row := { owner := hd tyReq 0, idx := 0, pos := 0, tok := 0, page := 0, link := 0, kind := 1, nt := 1, st := .waitBounds }
def treq (full : Bool) : TileReq := ⟨if full then 1 else 0, [0, 1], full, 1⟩
/-- A step of one row, presented at tick 0, in format 1. -/
def step1 (r : Row) : Step := { id := 5, lfmt := 1, bfmt := 1, fullRow := false, rows := [r], openAt := 0, sent := true }
/-- Terrace 1 with that step in flight. -/
def teFl (r : Row) : Terrace := { te with sp := { te.sp with flight := some (step1 r), nextId := 6 } }
def fl (r : Row) : State := with1 (teFl r) up
def mBounds : SpMsg := msg [(0, 1, 2), (1, 1, 1), (2, 1, 1), (4, 4, 5), (8, 4, 2), (12, 4, 1), (18, 2, 1)] (zeros 256) 2

theorem witness_StepPortRowsArrive_concern : (fl row1).ingressOpen = true ∧ mTerr mBounds = 1 ∧
    (fl row1).concernOf mBounds = .inr (step1 row1, false) ∧ mType mBounds = 2 ∧ (fl row1).tready 1 = true ∧
    (step1 row1).outRow mBounds = some row1 ∧ boundsErr mBounds (step1 row1) (some row1) = none ∧
    boundsErr mBounds (step1 { row1 with hasBounds := true }) (some { row1 with hasBounds := true }) = some peUNSOLICITED ∧
    up.concernOf mBounds = .inl (some peBAD_TERRACE) := by
  and_intros <;> first | rfl | decide


/-- Messages of another type; a terrace of the schedule with no READY; a BOUNDS in another format. -/
theorem witness_StepPortRowsArrive_errors : mType mBounds ≠ 4 ∧ State.reset.ingressOpen = false ∧
    (with1 { teFl row1 with sp := { (teFl row1).sp with halted := true } } up).tready 1 = false ∧
    boundsErr { mBounds with beats := 3 } (step1 row1) (some row1) = some peBAD_LENGTH ∧
    tilesErr mBounds (step1 row1) false (some row1) ≠ none := by
  and_intros <;> first | rfl | decide

theorem witness_StepPortRowsArrive_late :
    (with1 { te with sp := { te.sp with lastFailed := some 5 } } up).concernOf mBounds = .inl none := rfl

def rowT (full : Bool) : Row := { row1 with req := some (treq full), st := .waitTiles, hasBounds := true }
/-- The second of two tiles: TILES of round 0, or ROWS_FULL of round 1. -/
def mTiles (full : Bool) : SpMsg :=
  let n := 1 + ceilDiv (tileBytes 1) 256
  msg [(0, 1, if full then 5 else 4), (1, 1, 1), (2, 1, 1), (4, 4, 5), (8, 4, n), (12, 4, 1), (18, 1, if full then 1 else 0), (20, 2, 1)]
    (zeros (256 * (n - 1))) n

theorem witness_StepPortRowsArrive_tiles :
    ((fl (rowT false)).concernOf (mTiles false) = .inr (step1 (rowT false), false) ∧ (fl (rowT false)).tready 1 = true ∧
      (step1 (rowT false)).outRow (mTiles false) = some (rowT false) ∧ (fl (rowT false)).terrace 1 = some (teFl (rowT false)) ∧
      (rowT false).req = some (treq false) ∧ (teFl (rowT false)).reqs.get 0 = some req ∧ mType (mTiles false) = 4 ∧
      tilesErr (mTiles false) (step1 (rowT false)) false (some (rowT false)) = none) ∧
    ((fl (rowT true)).concernOf (mTiles true) = .inr (step1 (rowT true), false) ∧ mType (mTiles true) = 5 ∧
      (step1 (rowT true)).outRow (mTiles true) = some (rowT true) ∧
      tilesErr (mTiles true) (step1 (rowT true)) true (some (rowT true)) = none) := by
  and_intros <;> rfl

def mAttn (kind : Nat) (fs : List (Nat × Nat × Nat)) : SpMsg :=
  msg ([(0, 1, 8), (1, 1, 1), (4, 4, 5), (8, 4, 1), (16, 1, kind)] ++ fs) [] 1

theorem witness_StepPortAttention_step : (fl { row1 with hasBounds := true }).ingressOpen = true ∧ mTerr (mAttn 1 []) = 1 ∧
    (fl { row1 with hasBounds := true }).concernOf (mAttn 1 []) = .inr (step1 { row1 with hasBounds := true }, false) ∧
    (fl { row1 with hasBounds := true }).tready 1 = true ∧ attnErr (mAttn 1 []) = none ∧ attnErr (mAttn 3 [(24, 4, 77)]) = none ∧
    mType (mAttn 1 []) = 8 ∧ aKind (mAttn 1 []) = 1 ∧ aKind (mAttn 3 [(24, 4, 77)]) = 3 ∧
    (step1 { row1 with hasBounds := true }).done = false ∧ (step1 { row1 with hasBounds := true }).heard = true ∧
    (step1 row1).heard = false ∧ mType (msg [(0, 1, 3)] [] 1) ∉ [2, 4, 5, 8] := by
  and_intros <;> first | rfl | decide

/-- A request that takes one draft from the accelerator and was in step 5. -/
def reqD : Req := { req with draftSrc := 2, draftMax := 1, wantDrafts := true, lastStep := 5 }
def sDraft (r : Req) : State := with1 { te with reqs := [(0, r)] } up
def mDraft : SpMsg := mAttn 2 [(12, 4, 1), (20, 4, hd tyReq 0), (24, 4, 3)]

theorem witness_StepPortAttention_errors : aKind mBounds ≠ 2 ∧ mType mBounds ≠ 8 ∧ mType mBounds ∈ [2, 4, 5, 8] ∧
    attnErr { mAttn 1 [] with beats := 2 } = some peBAD_LENGTH ∧ ({ step1 row1 with done := true } : Step).done = true ∧
    (fl row1).concernOf { mAttn 1 [] with head := mBounds.head.set 4 9 } ≠ .inr (step1 row1, false) ∧
    up.terrace 1 = none ∧ draftsErr mDraft 0 = some peBAD_CONTENT := by
  and_intros <;> first | rfl | decide

theorem witness_StepPortAttention_drafts : (sDraft reqD).terrace 1 = some { te with reqs := [(0, reqD)] } ∧ (sDraft reqD).tready 1 = true ∧
    rd mDraft.head 20 4 = hd tyReq 0 ∧ hTerr (hd tyReq 0) = 1 ∧ hType (hd tyReq 0) = tyReq ∧ (sDraft reqD).req (hd tyReq 0) = some reqD ∧
    draftsErr mDraft reqD.draftMax = none ∧ reqD.lastStep = mStep mDraft ∧
    (∃ v, ({ te with reqs := [(0, reqD)] } : Terrace).vocab reqD.vocab reqD.pins.vocab = some v ∧ badToken v (draftToks mDraft) = none) ∧
    (sDraft { reqD with wantDrafts := false }).req (hd tyReq 0) = some { reqD with wantDrafts := false } := by
  and_intros <;> first | rfl | exact ⟨_, rfl, rfl⟩

def rowW : Row := { row1 with st := .waitTiles, waitAt := some (0, scFILL_LATE) }

theorem witness_StepTimersAct : ((fl rowW).terrace 1 = some (teFl rowW) ∧ (teFl rowW).sp.flight = some (step1 rowW)) ∧
    ((step1 rowW).sent = true ∧ (step1 rowW).complete = false ∧
      (step1 rowW).openAt + (if (teFl rowW).sp.cur.timeout = 0 then 10000000 else (teFl rowW).sp.cur.timeout) = 10000000) ∧
    ((step1 rowW).rows[0]? = some rowW ∧ rowW.waitAt = some (0, scFILL_LATE) ∧ rowW.isOver = false ∧ (step1 rowW).failed = false ∧
      (∀ r ∈ (step1 rowW).rows, r.idx = rowW.idx ∨ r.isOver = true ∨ r.kind = 0)) ∧
    (0 + 5000 ≤ ({ fl rowW with tick := 5000 } : State).tick ∧ ({ fl rowW with tick := 4999 } : State).tick < 0 + 5000) := by
  and_intros <;> first | rfl | decide

theorem witness_StepTimersAct_none : up.terrace 1 = none ∧ te.sp.flight = none ∧ (step1 row1).rows[1]? = none ∧ row1.waitAt = none ∧
    ({ step1 row1 with failed := true } : Step).failed = true ∧ ({ step1 row1 with sent := false } : Step).sent = false ∧
    ({ rowW with st := .done } : Row).isOver = true ∧
    (∃ r ∈ [rowW, { rowW with idx := 1 }], r.idx ≠ rowW.idx ∧ r.isOver = false ∧ r.kind ≠ 0) ∧
    ((0 : Nat) ≠ scOBJ_QUARANTINE ∧ (0 : Nat) ≠ scFILL_LATE) ∧ (fl rowW).tick < 0 + 5000 := by
  refine ⟨rfl, rfl, rfl, rfl, rfl, rfl, rfl, ⟨_, List.mem_cons_of_mem _ (List.mem_singleton.2 rfl), by decide⟩, by decide, by decide⟩

/-- A step whose rows are done. -/
def fDone : Step := { step1 { row1 with st := .done } with done := true }
def sDone : State := with1 { te with sp := { te.sp with flight := some fDone } } { up with sched := { turn := some 1, len := 5000 } }
def sIdle : State := with1 { te with idleDone := false } { up with sched := { turn := some 1, len := 5000 } }

theorem witness_BoundariesEndWithDelta : (sDone.stepBoundaryDue 1 = true ∧ sDone.sleep.teOn = true ∧ (cold_ sDone).sleep.teOn = false ∧
      (cold_ sDone).stepBoundaryDue 1 = true) ∧
    (sIdle.idleBoundaryDue 1 = true ∧ (cold_ sIdle).idleBoundaryDue 1 = true) ∧
    (sIdle.stepBoundaryDue 1 = false ∧ sDone.idleBoundaryDue 1 = false) ∧
    (State.parityFirst { sDone with sched := { sDone.sched with worked := true } } 1 none).terrace 1 =
      some { te with sp := { te.sp with flight := some fDone } } := by
  and_intros <;> rfl

/-- A request of the terrace waits for its capture while bank group 0 is not restored. -/
theorem witness_BoundariesEndWithDelta_waits :
    ((cold_ (with1 { te with sp := { te.sp with flight := some fDone }, reqs := [(0, { req with capture := some (0, 0, ticket1) })] }
      sIdle)).boundaryRb 1 = true) ∧ sDone.boundaryRb 1 = false ∧ sIdle.sleep.teOn = true ∧
    (State.parityFirst { up with sched := { up.sched with worked := true } } 1 none).terrace 1 = none ∧
    (quiescing 3).sleep.phase = .quiesce ∧ teHalted.sp.halted = true := by
  and_intros <;> rfl

/-- A management slot before the turn of terrace 1, past its end; a turn past its end; and a task ready on bay 0. -/
def sSlot (turn : Option Nat) (at_ : Nat) : State := with1 te { up with tick := at_, sched := { turn := turn, next := some 1, len := 200 } }
def taskR : Task := { task1 with result := none, input := some [zeros 1] }
def sTask : State := with1 te { up with tasks := [taskR], sched := { turn := some 1, len := 5000 } }

theorem witness_TurnsAndDispatch : ((sSlot none 200).slotEnds = true ∧ (sSlot none 200).sched.next = some 1 ∧
      (sSlot none 200).terrace 1 = some te) ∧ ((sSlot (some 1) 200).slotEnds = true ∧ (sSlot (some 1) 0).slotEnds = false) ∧
    (up.grant 0 = none ∧ sTask.running = true ∧ sTask.grant 0 = some 1 ∧ sTask.bayCore 0 1 = some 0 ∧
      (sTask.modT 1 (fun te => te.rollUse sTask.tick sTask.windowTicks)).pick 1 te = some taskR) := by
  and_intros <;> rfl

theorem witness_TurnsAndDispatch_other :
    ((with1 te up).nextTurnAfter (some 0) = some 1 ∧ (with1 te up).nextTurnAfter (some 1) = none ∧
      (with1 te up).nextTurnAfter none = some 1) ∧
    ({ sSlot none 200 with terr := [] } : State).terrace 1 = none ∧ up.sched.turn = none ∧ up.sched.next = none ∧
    State.reset.running = false ∧ up.bayCore 0 1 = none ∧ ({ sTask with programs := [] } : State).bayCore 0 1 = none ∧
    sIdle.pick 1 te = none ∧ ({ up.sched with sealed := true, busy := 3 } : Sched).busy ≠ 0 := by
  and_intros <;> first | rfl | decide

/-- One host fabric operation since tick 0. -/
def hf (k : HfpKind) (at_ : Nat) : State := { ring 1 with tick := at_, hfp := [⟨3, 1, 0, k⟩] }

theorem witness_HostFabricAnswers : up.hfpOp 3 = none ∧
    (hf (.sqRead 1 0 0) 100000).hfpOp 3 = some ⟨3, 1, 0, .sqRead 1 0 0⟩ ∧ (hf (.sqRead 1 0 0) 5).clocked = true ∧
    (HfpKind.sqRead 1 0 0).reads = true ∧ (HfpKind.msi 1 0 0).reads = false ∧
    0 + 100000 ≤ (hf (.sqRead 1 0 0) 100000).tick ∧ (hf (.msi 1 0 0) 99999).tick < 0 + 100000 ∧
    ((hf (.sqRead 1 0 0) 5).mailbox 1).epoch = 0 ∧ ((hf (.sqRead 1 0 0) 5).mailbox 1).enable = true ∧
    ((hf (.sqRead 1 0 0) 5).mailbox 1).error = false ∧ ({ cpl0 with kind := kFINAL } : Cpl).kind = kFINAL ∧ cpl0.opcode ≠ 0x06 ∧
    cpl0.opcode ≠ 0x08 ∧ (hf (.cplWrite 1 0 0 true 0 { cpl0 with kind := kFINAL }) 5).hfpOp 3 =
      some ⟨3, 1, 0, .cplWrite 1 0 0 true 0 { cpl0 with kind := kFINAL }⟩ := by
  and_intros <;> first | rfl | decide

theorem witness_HostFabricAnswers_other : (inPhase .s2).hears = false ∧ (hf (.sqRead 1 0 0) 5).hears = true ∧
    (hf (.sqRead 1 0 0) 99999).tick < 0 + 100000 ∧ ((hf (.sqRead 1 9 0) 5).mailbox 1).epoch ≠ 9 ∧ (up.mailbox 1).enable = false ∧
    ({ box [] with error := true } : Mailbox).error = true ∧ (2 : BitVec 2) ≠ 0 ∧
    ({ cpl0 with opcode := 0x06 } : Cpl).opcode = 0x06 ∧ ({ cpl0 with opcode := 0x08 } : Cpl).opcode = 0x08 ∧
    kONLY ≠ kFINAL := by decide

/-- One memory operation, issued at tick 0. -/
def mpo (k : MpKind) : MpOp := ⟨3, 0, true, 0, k⟩
def mpS (k : MpKind) (at_ : Nat) : State := with1 te { up with tick := at_, mp := [mpo k] }

theorem witness_MemoryPortAnswers : up.mpOp 3 = none ∧ (mpS (.fill (hd tyVocab 0) 1) 100000).mpOp 3 = some (mpo (.fill (hd tyVocab 0) 1)) ∧
    (mpS (.fill (hd tyVocab 0) 1) 0).clocked = true ∧ (mpo .bootBody).issued = true ∧ (MpKind.fill (hd tyVocab 0) 1).reads = true ∧
    (MpKind.fill (hd tyVocab 0) 1).tagged = true ∧ 0 + 100000 ≤ (mpS (.fill (hd tyVocab 0) 1) 100000).tick ∧
    (mpS (.fill (hd tyVocab 0) 1) 99999).tick < 0 + 100000 ∧ (MpKind.journalDelta 1 false).reads = false ∧
    (mpS (.journalDelta 1 false) 0).mpOp 3 = some (mpo (.journalDelta 1 false)) := by
  and_intros <;> first | rfl | decide

theorem witness_MemoryPortAnswers_other : (inPhase .s2).hears = false ∧ ({ mpo .bootBody with issued := false } : MpOp).issued = false ∧
    ({ mounted [.promote 1] with tick := 100000 } : State).flash.jobs.find? (fun o => o.id = 7 && !o.job.writes) =
      some ⟨7, 0, .promote 1⟩ ∧ ({ mounted [.promote 1] with tick := 100000 } : State).mpOp 7 = none ∧
    (0 + 100000 ≤ ({ mounted [.promote 1] with tick := 100000 } : State).tick ∧ (mounted [.promote 1]).tick < 0 + 100000) ∧
    up.flash.jobs.find? (fun o => o.id = 7 && !o.job.writes) = none ∧
    (mpo (.journalDelta 1 true)).kind = .journalDelta 1 true ∧ te.journal.degraded = false ∧
    (mpo (.journalBase 1 false)).kind = .journalBase 1 false ∧ (MpKind.bootBody).tagged = false := by
  and_intros <;> first | rfl | decide

def teReg : Terrace := { te with regions := [{ region rkVOCAB 4 with compact := true }] }
def sReg : State := with1 teReg { up with sched := { turn := some 1, len := 5000 } }

theorem witness_BackgroundWorkActs : sReg.terrace 1 = some teReg ∧ sReg.tableRuns = true ∧ sReg.basing 1 = false ∧
    State.reset.tableRuns = false ∧ (mpS (.journalBase 1 false) 0).basing 1 = true ∧
    teReg.regions[0]? = some { region rkVOCAB 4 with compact := true } ∧ sReg.idleTurn 1 = true ∧
    (region rkVOCAB 4).ordered = true ∧ up.idleTurn 1 = false ∧ up.terrace 1 = none ∧ teReg.regions[1]? = none ∧
    (region rkECHO 4).ordered = false ∧ (region rkVOCAB 4).compact = false ∧
    compactRows teReg.holes (region rkVOCAB 4).rows = ((region rkVOCAB 4).rows, 0) := by
  and_intros <;> rfl

/-- Spring FAILED at tick 0, then recovering terrace 1. -/
def sSpring (p : Spring) (at_ : Nat) : State := with1 te { up with spring := p, tick := at_ }
def alternating (n : Nat) : List Bool := (List.range n).map (fun i => i % 2 = 0)

theorem witness_SpringEventsAct_health : rawFails (List.replicate 80 true) = true ∧ rawFails [true, false] = false ∧
    up.lcs.ready = true ∧ up.sleep.phase = .awake := by decide +kernel

theorem witness_SpringEventsAct_retry : (sSpring { failed := true, failAt := [0] } 100000).spring.failed = true ∧
    (sSpring { failed := true, failAt := [0] } 100000).spring.dead = false ∧
    (sSpring { failed := true, failAt := [0] } 100000).spring.failAt.headD 0 + 100000 ≤
      (sSpring { failed := true, failAt := [0] } 100000).tick ∧ 1024 ≤ (alternating 1024).length := by
  refine ⟨rfl, rfl, by decide, by decide +kernel⟩

theorem witness_SpringEventsAct_other : State.reset.springOn = false ∧ (inPhase .s2).springOn = false ∧ up.springOn = true ∧
    up.spring.failed = false ∧ ({ up.spring with dead := true } : Spring).dead = true ∧
    (sSpring { failed := true, failAt := [0] } 99999).tick < 0 + 100000 ∧ [true].length < 1024 ∧ up.spring.queue.head? ≠ some 1 ∧
    ({ te.drbg with live := false } : Drbg).live = false ∧ 100 ≤ ({ te.drbg with buffer := List.replicate 100 0 } : Drbg).buffer.length ∧
    te.drbg.gens < 2 ^ 20 ∧ 2 ^ 20 ≤ ({ te.drbg with gens := 2 ^ 20 } : Drbg).gens ∧ up.terrace 1 = none ∧
    ({ te.drbg with buffer := List.replicate 100 0 } : Drbg).buffer.length ≤ 100 := by decide

theorem witness_SpringEventsAct_raw : rawFails ((alternating 1024).take 1024) = false := by decide +kernel

theorem witness_SpringEventsAct_terrace : (sSpring { queue := [1] } 0).spring.queue = 1 :: [] ∧ (sSpring { queue := [1] } 0).terrace 1 = some te ∧
    (sSpring { queue := [1] } 0).spring.failed = false ∧ te.drbg.live = true ∧ te.drbg.buffer.length < 100 ∧
    reseedLimit ≤ ({ te.drbg with gens := 2 ^ 20 } : Drbg).gens := by
  and_intros <;> first | rfl | decide

theorem witness_QueriesChangeNoTerrace : ∃ t, exec (.fwQuery .mgmt (cm 1 0 [])) (onMgmt (cm 1 0 []) up) = .next t := ⟨_, rfl⟩

end Sys2Proof.Tests
end

section
/-! SUPPORT. Every arm of `exec` leaves the form as it found it: the lemma of its operation, command by command. -/

namespace Sys2Proof.Machine

/-- An outcome whose next state, if it has one, is in form. -/
def NextFormed (o : Host.Outcome State Fault Refusal) : Prop := ∀ t, o = .next t → t.Formed

theorem formed_next {t : State} (h : t.Formed) : NextFormed (.next t) := by
  rintro _ ⟨⟩
  exact h

/-- A choice between two states in form. -/
theorem formed_ite {p : Prop} [Decidable p] {s t : State} (hs : s.Formed) (ht : t.Formed) :
    (if p then s else t).Formed := by
  split
  · exact hs
  · exact ht

/-- The resets start from `State.reset`: pages at their reset values, empty logs, no terrace. -/
theorem reset_formed : State.reset.Formed where
  pages := rfl
  boxes m hm := by
    rw [List.eq_of_mem_replicate hm]
    exact Mailbox.fresh_formed 0
  irq := ⟨rfl, rfl, rfl, rfl, rfl⟩
  tick := by decide
  logs := ⟨Nat.zero_le _, fun _ he => absurd he List.not_mem_nil⟩
  select := rfl
  bays := rfl
  table := List.Pairwise.nil

/-! ### Arms of several outcomes -/

/-- COUNTERS_CLEAR's own effect: it empties logs, and a log that is emptied keeps its depth (R553). -/
theorem clearCounters_formed {s : State} {cnt : Counters} {sel : Nat} {logs : Bool} (hs : s.Formed) :
    ({ s with cnt := cnt, faults := if logs then s.faults.clearLogs sel s.tick else s.faults } : State).Formed := by
  refine formed_mk_faults hs ?_
  split
  · exact Faults.clearLogs_formed hs.logs
  · exact hs.logs

theorem execOtpAdvAck_nextFormed {s : State} {w1 w2 : Word} (hs : s.Formed) : NextFormed (execOtpAdvAck w1 w2 s) := by
  unfold execOtpAdvAck
  refine formed_next ?_
  split
  · exact State.advanceRead_formed hs
  · exact hs

theorem execOtpAdvTimeout_nextFormed {s : State} {w1 w2 : Word} (hs : s.Formed) :
    NextFormed (execOtpAdvTimeout w1 w2 s) := by
  unfold execOtpAdvTimeout
  refine formed_next ?_
  split
  · exact formed_ite (State.advanceRead_formed hs) hs
  · exact hs

theorem execLifecycleReset_nextFormed {s : State} {straps : Straps} (hs : s.Formed) :
    NextFormed (execLifecycleReset straps s) := by
  unfold execLifecycleReset
  refine formed_next ?_
  split
  · exact formed_ite (State.sysReset_formed hs reset_formed) hs
  · exact hs

theorem execHfpReadResponse_nextFormed {s : State} {op : Nat} {d : HostData} (hs : s.Formed) :
    NextFormed (execHfpReadResponse op d s) := by
  unfold execHfpReadResponse
  refine formed_next ?_
  split
  · exact formed_ite (State.hfpData_formed (State.hfpDone_formed hs)) hs
  · exact hs

theorem execHfpWriteAck_nextFormed {s : State} {op : Nat} {resp : BitVec 2} (hs : s.Formed) :
    NextFormed (execHfpWriteAck op resp s) := by
  unfold execHfpWriteAck
  refine formed_next ?_
  split
  · exact formed_ite (State.hfpWritten_formed (State.hfpDone_formed hs)) hs
  · exact hs

theorem execMpReadResponse_nextFormed {s : State} {op : Nat} {resp : BitVec 2} {tagOk : Bool} {d : MpData} (hs : s.Formed) :
    NextFormed (execMpReadResponse op resp tagOk d s) := by
  unfold execMpReadResponse
  refine formed_next ?_
  split
  · exact formed_ite (State.mpRead_formed hs) hs
  · exact hs

theorem execMpWriteAck_nextFormed {s : State} {op : Nat} {resp : BitVec 2} (hs : s.Formed) :
    NextFormed (execMpWriteAck op resp s) := by
  unfold execMpWriteAck
  refine formed_next ?_
  split
  · exact formed_ite (State.mpWritten_formed (State.mpDone_formed hs)) hs
  · exact hs

theorem execDrbgGenerate_nextFormed {s : State} {t : Nat} (hs : s.Formed) : NextFormed (execDrbgGenerate t s) := by
  unfold execDrbgGenerate
  refine formed_next ?_
  split
  · exact formed_ite (State.generate_formed hs) hs
  · exact hs

theorem execDrbgReseed_nextFormed {s : State} {t : Nat} (hs : s.Formed) : NextFormed (execDrbgReseed t s) := by
  unfold execDrbgReseed
  refine formed_next ?_
  split
  · exact formed_ite (State.modT_formed (formed_mk hs)) hs
  · exact hs

theorem execS1Wake_nextFormed {s : State} {cause : S1Cause} (hs : s.Formed) : NextFormed (execS1Wake cause s) := by
  unfold execS1Wake
  refine formed_next ?_
  split
  · exact hs
  · split
    · exact State.latchWake_formed hs
    · exact State.latchWake_formed hs
    · exact formed_ite (State.latchWake_formed hs) hs

theorem execSpAttn_nextFormed {s : State} (hs : s.Formed) : NextFormed (execSpAttn s) := by
  have h : ({ s with spAttn := true } : State).Formed := formed_mk hs
  exact formed_next (formed_ite h (formed_ite (State.latchWake_formed h) h))

theorem execPpFack_nextFormed {s : State} {level : Bool} (hs : s.Formed) : NextFormed (execPpFack level s) := by
  have h : (s.modPwr (fun p => { p with fack := level })).Formed := State.modPwr_formed hs
  have hf := State.modPwr_formed (f := fun p => { p with freq := false }) h
  exact formed_next (formed_ite (State.modPwr_formed h)
    (formed_ite (formed_ite (State.freqDone_formed hf) hf) h))

/-! ### Every command, and a step -/

theorem exec_nextFormed {s : State} (hs : s.Formed) (i : Instr) : NextFormed (exec i s) :=
  match i with
  | .fwQuery .. => formed_next (State.command_formed hs fun _ h => State.only_formed h)
  | .commandUnassigned .. => formed_next (formed_ite (State.refuse_formed (State.take_formed hs)) hs)
  | .terraceCreate .. => formed_next (State.command_formed hs fun _ h => State.terraceCreate_formed h)
  | .terraceDestroy .. => formed_next (State.command_formed hs fun _ h => State.modT_formed (State.first_formed h))
  | .terraceDestroyDone .. => formed_next (State.destroyDone_formed hs)
  | .t1ClearDone .. => formed_next (formed_mk hs)
  | .destroyDiscardTimer .. => formed_next (State.destroyDiscard_formed hs)
  | .terraceSetTerrace .. => formed_next (State.command_formed hs fun _ h => State.only_formed (State.modT_formed h))
  | .terraceSetSchedule .. => formed_next (State.command_formed hs fun _ h => State.only_formed (formed_mk h))
  | .keyInstall .. => formed_next (State.command_formed hs fun _ h => State.keyInstall_formed h)
  | .lifecycleAdvance .. => formed_next (State.command_formed hs fun _ h => formed_mk (State.first_formed h))
  | .otpAdvAck .. => execOtpAdvAck_nextFormed hs
  | .otpAdvTimeout .. => execOtpAdvTimeout_nextFormed hs
  | .lifecycleReset .. => execLifecycleReset_nextFormed hs
  | .powerSet .. =>
    formed_next (State.command_formed hs fun _ h => State.powerNext_formed (State.modPwr_formed (State.defer_formed h)))
  | .powerSleep .. => formed_next (State.command_formed hs fun _ h => State.powerSleep_formed h)
  | .quiesceDone => formed_next (formed_ite (State.enterSleep_formed hs) hs)
  | .quiesceTimeout => formed_next (formed_ite (State.sleepStop_formed hs) hs)
  | .countersReadCounters .. => formed_next (State.command_formed hs fun _ h => State.readCounters_formed h)
  | .countersReadFaults .. => formed_next (State.command_formed hs fun _ h => State.readFaults_formed h)
  | .countersClear .. => formed_next (State.command_formed hs fun _ h => State.only_formed (clearCounters_formed h))
  | .stepPortConfigSet .. => formed_next (State.command_formed hs fun _ h => State.spSet_formed h)
  | .stepPortConfigResume .. =>
    formed_next (State.command_formed hs fun _ h => State.spConfig_formed h fun _ _ h => State.modSp_formed h)
  | .stepPortConfigQuery .. => formed_next (State.command_formed hs fun _ h => State.spConfig_formed h fun _ _ h => h)
  | .poolConfigCreate .. => formed_next (State.poolCommand_formed hs)
  | .poolConfigAddRange .. => formed_next (State.poolCommand_formed hs)
  | .poolConfigDelete .. => formed_next (State.poolCommand_formed hs)
  | .objCreate .. => formed_next (State.command_formed hs fun _ h => State.objCreate_formed h)
  | .objLoad .. => formed_next (State.command_formed hs fun _ h => State.objLoad_formed h)
  | .objSeal .. => formed_next (State.command_formed hs fun _ h => State.objSeal_formed h)
  | .objReplace .. => formed_next (State.command_formed hs fun _ h => State.objReplace_formed h)
  | .objDestroy .. => formed_next (State.command_formed hs fun _ h => State.objDestroy_formed h)
  | .objHint .. => formed_next (State.command_formed hs fun _ h => State.objHint_formed h)
  | .objQuery .. => formed_next (State.command_formed hs fun _ h => State.objQuery_formed h)
  | .reloadLimitExpiry .. => formed_next (State.reloadExpiry_formed hs)
  | .tok .. => formed_next (State.command_formed hs fun _ h => State.tokStart_formed h)
  | .tokDone .. => formed_next (State.tokDone_formed hs)
  | .tokStreamOpen .. => formed_next (State.command_formed hs fun _ h => State.tokStreamOpen_formed h)
  | .tokStreamPut .. => formed_next (State.command_formed hs fun _ h => State.tokStreamPut_formed h)
  | .tokStreamClose .. => formed_next (State.command_formed hs fun _ h => State.tokStreamClose_formed h)
  | .detok .. => formed_next (State.command_formed hs fun _ h => State.tokStart_formed h)
  | .pack .. => formed_next (State.command_formed hs fun _ h => State.packStart_formed h)
  | .pair .. => formed_next (State.command_formed hs fun _ h => State.packStart_formed h)
  | .reqSubmit .. => formed_next (State.command_formed hs fun _ h => State.reqSubmit_formed h)
  | .intakeComplete .. => formed_next (State.intakeComplete_formed hs)
  | .reqCancel .. => formed_next (State.command_formed hs fun _ h => State.reqCancel_formed h)
  | .reqAmend .. => formed_next (State.command_formed hs fun _ h => State.reqAmend_formed h)
  | .reqQuery .. => formed_next (State.command_formed hs fun _ h => State.reqQuery_formed h)
  | .starterCreateSpan .. => formed_next (State.command_formed hs fun _ h => State.starterSpan_formed h)
  | .starterCreateFromRequest .. => formed_next (State.command_formed hs fun _ h => State.starterFrom_formed h)
  | .starterRelease .. => formed_next (State.command_formed hs fun _ h => State.starterRelease_formed h)
  | .streamOpen .. => formed_next (State.command_formed hs fun _ h => State.streamOpen_formed h)
  | .streamClose .. =>
    formed_next (State.command_formed hs fun _ h => State.settleStream_formed (State.modStream_formed (State.first_formed h)))
  | .streamCredit .. => formed_next (State.command_formed hs fun _ h => State.streamCredit_formed h)
  | .syncCreate .. => formed_next (State.command_formed hs fun _ h => State.syncCreate_formed h)
  | .syncSignalAdd .. => formed_next (State.command_formed hs fun _ h => State.syncSignal_formed h)
  | .syncSignalAdvanceTo .. => formed_next (State.command_formed hs fun _ h => State.syncSignal_formed h)
  | .syncWait .. => formed_next (State.command_formed hs fun _ h => State.syncWait_formed h)
  | .syncWaitTimeout .. => formed_next (State.noteTimeout_formed hs)
  | .syncDestroy .. => formed_next (State.command_formed hs fun _ h => State.syncDestroy_formed h)
  | .doorbell .. => formed_next (State.doorbell_formed hs)
  | .mbCqHeadWrite .. => formed_next (State.headWrite_formed hs)
  | .mbEnable .. => formed_next (State.statusWrite_formed hs)
  | .mbDisable .. => formed_next (State.statusWrite_formed hs)
  | .mbIrqWrite .. => formed_next (State.mbIrqReg_formed hs)
  | .mbCoalTimer .. => formed_next (formed_ite (State.testMbIrq_formed hs) hs)
  | .irqStatusWrite .. => formed_next (State.irqStatusReg_formed hs)
  | .irqMaskWrite .. => formed_next (State.irqMaskReg_formed hs)
  | .irqModeWrite .. => formed_next (State.irqModeReg_formed hs)
  | .timebaseLoRead .. => formed_next (State.timebaseLo_formed (State.touch_formed hs))
  | .cntSelectWrite .. => formed_next (State.hostWrite_formed hs fun _ h => State.cntSelect_formed h)
  | .cntSnapshotDone => formed_next (State.snapshot_formed hs)
  | .registerWrite .. => formed_next (State.access_formed hs)
  | .sbPrivateWrite .. => formed_next (State.sbWrite_formed hs)
  | .sbGo => formed_next (State.sbGo_formed hs)
  | .sbAck => formed_next (State.sbAck_formed hs)
  | .sidebandWake => formed_next (State.latchWake_formed hs)
  | .entdaa .. => formed_next (State.setDyn_formed (State.sbAnswer_formed hs))
  | .setdasa .. => formed_next (formed_ite (State.setDyn_formed hs) hs)
  | .setnewda .. => formed_next (formed_ite (State.setDyn_formed hs) hs)
  | .rstdaa => formed_next (State.modSb_formed hs)
  | .getpid => formed_next (State.sbAnswer_formed hs)
  | .getbcr => formed_next (State.sbAnswer_formed hs)
  | .getdcr => formed_next (State.sbAnswer_formed hs)
  | .getstatus => formed_next (State.sbAnswer_formed hs)
  | .idcode => formed_next (State.tapOut_formed hs)
  | .bypass => formed_next (State.tapBypass_formed hs)
  | .dbgStatus => formed_next (State.tapOut_formed hs)
  | .dbgChallenge => formed_next (State.dbgChallenge_formed hs)
  | .dbgResponse .. => formed_next (State.dbgResponse_formed hs)
  | .debugEraseDone => formed_next (formed_ite hs (State.openPort_formed (formed_mk hs)))
  | .dbgAccess .. => formed_next (State.dbgAccess_formed hs)
  | .dbgClose =>
    formed_next (formed_ite (State.closePort_formed (State.tapOut_formed hs)) (State.tapBypass_formed hs))
  | .trstN => formed_next (State.closePort_formed (State.tapOut_formed hs))
  | .aonResetN .. => formed_next (State.powerUp_formed hs reset_formed)
  | .sysResetN .. => formed_next (State.sysReset_formed hs reset_formed)
  | .watchdogReset .. => formed_next (State.watchdog_formed hs reset_formed)
  | .otpRvalid .. => formed_next (State.otpWord_formed hs)
  | .otpReadTimeout => formed_next (formed_ite (State.bootFail_formed hs) hs)
  | .fwReady => formed_next (State.fwStarted_formed hs)
  | .firmwareStartTimeout => formed_next (formed_ite (State.bootFail_formed hs) hs)
  | .t2MountDone => formed_next (State.mountDone_formed hs)
  | .t2MountTimeout => formed_next (formed_ite (State.mountFails_formed hs) hs)
  | .ppVack .. =>
    formed_next (formed_ite (State.vackRise_formed (State.modPwr_formed hs)) (State.modPwr_formed (State.modPwr_formed hs)))
  | .ppFack .. => execPpFack_nextFormed hs
  | .biasSettled => formed_next (State.biasSettled_formed hs)
  | .ppAckTimeout => formed_next (State.ackTimeout_formed hs)
  | .ppClkack .. => formed_next (State.clkackSet_formed hs)
  | .autoLevelTick .. => formed_next (State.autoLevel_formed hs)
  | .autoS1Entry => formed_next (State.autoS1_formed hs)
  | .s1Wake .. => execS1Wake_nextFormed hs
  | .wakeAlarm => formed_next (formed_ite (State.latchWake_formed hs) hs)
  | .spAttn => execSpAttn_nextFormed hs
  | .wakeRestoreDone => formed_next (State.wakeRestored_formed hs)
  | .bounds .. => formed_next (State.bounds_formed hs)
  | .tiles .. => formed_next (State.tilesIn_formed hs)
  | .rowsFull .. => formed_next (State.rowsFullIn_formed hs)
  | .attnStepDone .. => formed_next (State.attnDone_formed hs)
  | .attnDrafts .. => formed_next (State.attnDrafts_formed hs)
  | .attnAbort .. => formed_next (State.attnAbort_formed hs)
  | .spReservedMessage .. => formed_next (State.reservedMsg_formed hs)
  | .stepTimeout .. => formed_next (State.stepTimeout_formed hs)
  | .rowWithdrawTimeout .. => formed_next (State.rowTimeout_formed hs)
  | .stepBoundary .. =>
    formed_next (formed_ite (State.withTe_formed hs fun _ h => State.boundary_formed (State.parityFirst_formed h)) hs)
  | .idleBoundary .. =>
    formed_next (formed_ite
      (State.withTe_formed hs fun _ h => State.modT_formed (State.boundary_formed (State.parityFirst_formed h))) hs)
  | .slotEnd => formed_next (State.slotEnd_formed hs)
  | .taskDispatch .. => formed_next (State.dispatch_formed hs)
  | .hfpReadResponse .. => execHfpReadResponse_nextFormed hs
  | .hfpWriteAck .. => execHfpWriteAck_nextFormed hs
  | .hfpResponseTimeout .. => formed_next (State.hfpLate_formed hs)
  | .mpReadResponse .. => execMpReadResponse_nextFormed hs
  | .mpWriteAck .. => execMpWriteAck_nextFormed hs
  | .mpCtrlReady .. => formed_next (State.ctrlReady_formed hs)
  | .fillWatchdog .. => formed_next (State.fillLate_formed hs)
  | .journalBaseWrite .. => formed_next (State.baseWrite_formed hs)
  | .riddleCompaction .. => formed_next (State.compact_formed hs)
  | .echoRowCleanup .. => formed_next (State.echoCleanup_formed hs)
  | .streamCoalTimer .. => formed_next (State.streamTimer_formed hs)
  | .springHealthFail .. => formed_next (formed_ite (State.springFail_formed hs) hs)
  | .springRetryTimer .. => formed_next (State.springRetry_formed hs)
  | .drbgInstantiateDone .. => formed_next (State.reinstantiate_formed hs)
  | .drbgGenerate .. => execDrbgGenerate_nextFormed hs
  | .drbgReseed .. => execDrbgReseed_nextFormed hs
  | .fpRbReady .. => formed_next (State.flashReady_formed hs)
  | .fpReadData .. => formed_next (State.flashRead_formed hs)
  | .fpPhyReady .. => formed_next (formed_mk hs)
  | .ftlBackground .. => formed_next (State.ftlWork_formed hs)
  | .pdWhRestoreDone => formed_next (formed_ite (formed_mk hs) hs)
  | .sramClearDone => formed_next (formed_ite hs (formed_ite (State.bootFail_formed hs) (State.readHeader_formed hs)))
  | .privilegedDomainReady .. =>
    formed_next (formed_ite (formed_ite (formed_mk hs) hs) (formed_ite (formed_mk hs) hs))
  | .vddAonOff .. => formed_next (State.powerUp_formed hs reset_formed)

theorem step_nextFormed {s : State} (hs : s.Formed) : NextFormed (step s) := by
  unfold step
  split
  · exact formed_next (State.tickOn_formed hs)
  · exact exec_nextFormed (formed_mk hs) _

/-- Settles O3: a tick keeps the form by `State.tickOn_formed`, and a command by the lemma of its arm. -/
theorem everyStepKeepsForm : Obligations.EveryStepKeepsForm :=
  fun _ t hs h => step_nextFormed hs t h

end Sys2Proof.Machine
end

section
/-! SUPPORT. Kidevon S: terraces 8 to 15 and the pages of their mailboxes do not exist (R10). -/

namespace Sys2Proof.Machine

section
variable {s : State} (hc : s.cfg = .S)
include hc

theorem badTerr_of_S {t : Nat} (h : 8 ≤ t) : s.badTerr t = true := by
  simp [State.badTerr, hc, Cfg.terraces, h]

/-- The window of R10: what would be the pages of terrace mailboxes 8 to 15 belongs to no mailbox. -/
theorem pageOf_absent {off : Nat} (h : 0x18000 ≤ off) : s.pageOf off = none := by
  have h1 : ¬ off < 0x2000 := by omega
  have h2 : ¬ off < 0x10000 + 0x1000 * 8 := by omega
  simp [State.pageOf, hc, Cfg.terraces, h1, h2]

theorem regValue_absentPage {off : Nat} (port : Nat) (h1 : 0x18000 ≤ off) (h2 : off < 0x20000) :
    s.regValue port off = 0 := by
  have hm : ¬ off < 0x064 := by omega
  have hw : ¬ 0x40000 ≤ off := by omega
  unfold State.regValue
  split
  case h_18 => simp [hm, hw, pageOf_absent hc h1]
  all_goals omega

end

/-- The message registers are the last ones below the windows: a write above them leaves the interrupt registers. -/
theorem Irq.write_above {q : Irq} {off : Nat} (h : 0x064 ≤ off) (v : Word) : q.write off v = q := by
  have h1 : off ≠ 0x040 := by omega
  have h2 : off ≠ 0x044 := by omega
  have h3 : ¬ off < 0x064 := by omega
  simp [Irq.write, h1, h2, h3]

theorem State.awake_touch {s : State} (ha : s.sleep.phase = .awake) : s.touch = s := by
  simp [State.touch, ha]

theorem regWrite_absentPage {s : State} (hc : s.cfg = .S) (hr : s.lcs.ready = true) (ha : s.sleep.phase = .awake)
    {off : Nat} (h1 : 0x18000 ≤ off) (h2 : off < 0x20000) (v : Word) : s.regWrite off v = s := by
  have n1 : off ≠ 0x024 := by omega
  have n2 : off ≠ 0x028 := by omega
  have n3 : off ≠ 0x02C := by omega
  have n4 : off ≠ 0x40000 := by omega
  have n5 : ¬ 0x80000 ≤ off := by omega
  have hq : s.irq.write off v = s.irq := Irq.write_above (by omega) v
  simp only [State.regWrite, pageOf_absent hc h1, n1, n2, n3, n4, n5, if_false, State.awake_hostWrite ha hr, hq]

/-- A write that meets one of the absent pages, whatever its privilege, alignment and strobes. -/
theorem access_absentPage {s : State} {a : Access} (hc : s.cfg = .S) (hr : s.lcs.ready = true)
    (ha : s.sleep.phase = .awake) (hw : a.write = true) (h1 : 0x18000 ≤ a.off) (h2 : a.off < 0x20000) :
    s.access a = { s with rsp := 0 } := by
  have hoff : a.off % 2 ^ 20 = a.off := Nat.mod_eq_of_lt (by omega)
  have hp : privRange a.off = false := by
    simp only [privRange, Bool.or_eq_false_iff, decide_eq_false_iff_not]
    omega
  have ht : State.touch { s with rsp := 0 } = { s with rsp := 0 } := State.awake_touch (s := { s with rsp := 0 }) ha
  have hg : State.regWrite { s with rsp := 0 } a.off a.data = { s with rsp := 0 } :=
    regWrite_absentPage (s := { s with rsp := 0 }) hc hr ha h1 h2 _
  simp only [State.access, hoff, hp, hw, hg, ht, Bool.and_false, Bool.false_and, Bool.false_eq_true, if_false, if_true,
    ite_self]

/-- Check order of TERRACE_CREATE (R452): behind the lifecycle and the descriptor's read, the terrace's number is first. -/
theorem createChk_badTerr {s : State} {t : Nat} {d : Bytes} (hl : s.lcs.letsTerraces = true) (ht : s.badTerr t = true) :
    s.createChk t (.okay d) = some (stBAD_FIELD, 24) := by
  simp [State.createChk, hl, ht, field, Chk.need, Chk.first]

theorem terraceCreate_refuses {s : State} {src : Src} {c : Bytes} {desc : HostRead} {st off : Nat}
    (h : s.createChk (rd c 24 1) desc = some (st, off)) :
    s.terraceCreate src c desc = s.refuse (ticketOf src c) st off := by
  simp only [State.terraceCreate, h]

/-- A handle's terrace is looked at before its type, and its generation 0 before that (R95). -/
theorem checkHandle_badTerr {s : State} {h : Nat} (ht : s.badTerr (hTerr h) = true) (hg : hGen h ≠ 0) (own : Option Nat)
    (f : HField) : s.checkHandle own f h = some (stSTALE_HANDLE, noField) := by
  have h0 : h ≠ 0 := by
    rintro rfl
    exact hg rfl
  simp [State.checkHandle, h0, hg, ht]

/-- Settles O10: each part reads `Cfg.terraces` of Kidevon S, by the lemmas above. -/
theorem kidevonSHasEightTerraces : Obligations.KidevonSHasEightTerraces := by
  intro s hc
  refine ⟨fun port off h1 h2 => regValue_absentPage hc port h1 h2, ?_, ?_, ?_⟩
  · intro a h1 h2 hw hr ha
    exact congrArg Host.Outcome.next (access_absentPage hc hr ha hw h1 h2)
  · intro src c d hacc hl h8 _
    rw [exec_accepted hacc rfl rfl]
    have hc' : (s.take src).cfg = .S := by rw [State.take_cfg, hc]
    have hl' : (s.take src).lcs.letsTerraces = true := by rw [State.take_lcs, hl]
    exact congrArg Host.Outcome.next (terraceCreate_refuses (createChk_badTerr hl' (badTerr_of_S hc' h8)))
  · intro own f h h8 hg
    exact checkHandle_badTerr (badTerr_of_S hc h8) hg own f

end Sys2Proof.Machine
end

section
/-! SUPPORT. A tick in which nothing is in progress: what of the state each of its parts leaves alone (R23). -/

namespace Sys2Proof.Machine

/-- `t` comes from `s` by counting and waiting alone: no queue, port, register, clock or log has moved, the block is awake,
and there is neither a task nor a step in flight. -/
structure State.Idles (s t : State) : Prop where
  tick    : t.tick = s.tick
  mbs     : t.mbs = s.mbs
  irq     : t.irq = s.irq
  hfp     : t.hfp = s.hfp
  faults  : t.faults = s.faults
  pending : t.pending = s.pending
  awake   : t.sleep.phase = .awake
  tasks   : t.tasks = []
  flight  : ∀ n te, t.terrace n = some te → te.sp.flight = none

namespace State.Idles

variable {s t : State}

theorem count (h : s.Idles t) (c : Cause) (terr loc n : Nat) : s.Idles (t.count c terr loc n) := by
  obtain ⟨_, e⟩ := State.count_changes t c terr loc n
  rw [e]
  exact ⟨h.tick, h.mbs, h.irq, h.hfp, h.faults, h.pending, h.awake, h.tasks, h.flight⟩

theorem modT (h : s.Idles t) (n : Nat) {f : Terrace → Terrace} (hf : ∀ te, (f te).sp = te.sp) : s.Idles (t.modT n f) := by
  refine ⟨h.tick, h.mbs, h.irq, h.hfp, h.faults, h.pending, h.awake, h.tasks, fun m te hte => ?_⟩
  rw [State.modT_terrace] at hte
  split at hte
  · obtain ⟨te', hte', rfl⟩ := Option.map_eq_some_iff.1 hte
    rw [hf]
    exact h.flight m te' hte'
  · exact h.flight m te hte

theorem ite {p : Prop} [Decidable p] {u : State} (ht : s.Idles t) (hu : s.Idles u) : s.Idles (if p then t else u) := by
  split
  · exact ht
  · exact hu

theorem lentTick (h : s.Idles t) (n : Nat) (te : Terrace) : s.Idles (t.lentTick n te) := by
  unfold State.lentTick
  split
  · have h' : s.Idles { t with fresh := t.fresh + 1 } :=
      ⟨h.tick, h.mbs, h.irq, h.hfp, h.faults, h.pending, h.awake, h.tasks, h.flight⟩
    exact h'.count ..
  · exact h

/-- With no step in flight there is no row to run, and with no task none goes on. -/
theorem runRows_goTasks (h : s.Idles t) (n : Nat) : (t.goTasks n).runRows n = t := by
  have hg : t.goTasks n = t := by simp [State.goTasks, h.tasks]
  have hn : (t.terrace n).bind (fun te => te.sp.flight) = none := by
    cases hte : t.terrace n with
    | none => rfl
    | some te => exact h.flight n te hte
  rw [hg, State.runRows, hn]

theorem forEach {α : Type} {f : State → α → State} (h : s.Idles t) (l : List α)
    (hf : ∀ t a, s.Idles t → s.Idles (f t a)) : s.Idles (t.forEach l f) :=
  State.forEach_induct hf l t h

theorem stallTick (h : s.Idles t) : s.Idles t.stallTick := by
  refine h.forEach _ fun t x h => ?_
  dsimp only
  split
  · exact h
  · exact (h.count ..).modT _ fun _ => rfl

theorem terraceTick (h : s.Idles t) (n : Nat) (te : Terrace) : s.Idles (t.terraceTick n te) := by
  unfold State.terraceTick
  extract_lets work turn wait e core s1 s2 s3 s4 s5 s6 s7 s8 s9 s10 s11 s12
  have h4 : s.Idles s4 := (((h.count ..).count ..).count ..).lentTick ..
  have h5 : s.Idles s5 := .ite (h4.modT _ fun _ => rfl) h4
  have h6 : s.Idles s6 := h5.forEach _ fun _ _ h => h.count ..
  have h11 : s.Idles s11 := ((((h6.count ..).count ..).count ..).count ..).count ..
  have h12 : s.Idles s12 := h11.forEach _ fun _ _ h => .ite (h.count ..) (h.count ..)
  rw [h12.runRows_goTasks]
  exact h12

theorem waitTick (h : s.Idles t) : s.Idles t.waitTick := by
  unfold State.waitTick
  extract_lets s1 s2 _ s3
  have h2 : s.Idles s2 := (h.forEach _ fun _ _ h => h.terraceTick ..).count ..
  have h3 : s.Idles s3 := ⟨h2.tick, h2.mbs, h2.irq, h2.hfp, h2.faults, h2.pending, h2.awake, h2.tasks, h2.flight⟩
  exact .ite h (.ite h3 ⟨h3.tick, h3.mbs, h3.irq, h3.hfp, h3.faults, h3.pending, h3.awake, h3.tasks, h3.flight⟩)

end State.Idles

theorem State.awake_sleepTick {s : State} (ha : s.sleep.phase = .awake) : s.sleepTick = s := by
  simp [State.sleepTick, ha]

/-- With no signal and no time-out noted, the sync objects rest. -/
theorem State.syncTick_of_none {s : State} (h1 : s.signals = []) (h2 : s.syncEnds = []) : s.syncTick = s := by
  simp only [State.syncTick, h1, h2, State.forEach_nil]
  rw [← h1, ← h2]

/-- Settles O2: the waiting that a tick counts moves nothing else, and behind it the timebase advances by one. -/
theorem idleStepAdvancesTimebase : Obligations.IdleStepAdvancesTimebase := by
  intro s hp ha hs he ht hf
  have h : s.Idles s.syncTick.stallTick.waitTick := by
    rw [State.syncTick_of_none hs he]
    exact State.Idles.waitTick (.stallTick ⟨rfl, rfl, rfl, rfl, rfl, rfl, ha, ht, hf⟩)
  refine ⟨s.tickOn, by rw [step, hp], ?_⟩
  unfold State.tickOn
  extract_lets s1 _ s2
  have hw : s2.sleepTick = s2 := State.awake_sleepTick h.awake
  rw [hw]
  exact ⟨congrArg (fun n => (n + 1) % 2 ^ 64) h.tick, h.mbs, h.irq, h.hfp, h.faults, h.pending.trans hp⟩

end Sys2Proof.Machine
end

section
/-! SUPPORT. The end of a request's intake tasks: those tasks go, and of a terrace only what counts core time and marks cache
lines moves (R239, R290, R456). -/

namespace Sys2Proof.Machine

/-! ### A terrace but for its core time and its cache lines -/

/-- The terrace without the core time its tasks have used and without its cache lines, which is all the end of a task moves. -/
def Terrace.bare (te : Terrace) : Terrace := { te with used := [], usedAt := 0, pantry := [] }

@[simp] theorem Terrace.bare_rollUse (te : Terrace) (tick win : Nat) : (te.rollUse tick win).bare = te.bare := by
  unfold Terrace.rollUse
  split <;> rfl

/-- Terraces with the same bare part differ in core time and cache lines alone. -/
theorem Terrace.eq_of_bare_eq {te te' : Terrace} (h : te'.bare = te.bare) :
    te' = { te with used := te'.used, usedAt := te'.usedAt, pantry := te'.pantry } :=
  calc te' = { te'.bare with used := te'.used, usedAt := te'.usedAt, pantry := te'.pantry } := rfl
    _ = { te.bare with used := te'.used, usedAt := te'.usedAt, pantry := te'.pantry } := by rw [h]

/-- A request is read from the bare part of its terrace. -/
theorem State.req_congr {s t : State} {h : Handle}
    (e : (t.terrace (hTerr h)).map Terrace.bare = (s.terrace (hTerr h)).map Terrace.bare) : t.req h = s.req h := by
  have reqs_of : ∀ u : State, (u.terrace (hTerr h)).bind (fun te => te.reqs.get (hIndex h)) =
      ((u.terrace (hTerr h)).map Terrace.bare).bind (fun te => te.reqs.get (hIndex h)) := fun u => by
    rw [Option.bind_map]
    rfl
  rw [State.req, State.req, reqs_of t, reqs_of s, e]

/-! ### The end of tasks -/

theorem State.chargeTask_bare (s : State) (k : Task) (n : Nat) :
    ((s.chargeTask k).terrace n).map Terrace.bare = (s.terrace n).map Terrace.bare := by
  unfold State.chargeTask
  split
  · rfl
  · rw [State.modT_terrace]
    split
    · rw [Option.map_map]
      exact Option.map_congr fun te _ => Terrace.bare_rollUse te _ _
    · rfl

theorem State.dropTask_bare (s : State) (id n : Nat) :
    ((s.dropTask id).terrace n).map Terrace.bare = (s.terrace n).map Terrace.bare := by
  obtain ⟨f, e⟩ := State.dropTask_terrace s id n
  rw [e, Option.map_map]
  rfl

@[simp] theorem State.chargeTask_tasks (s : State) (k : Task) : (s.chargeTask k).tasks = s.tasks := by
  obtain ⟨_, e⟩ := State.chargeTask_changes s k; rw [e]

@[simp] theorem State.dropTask_tasks (s : State) (id : Nat) :
    (s.dropTask id).tasks = s.tasks.filter (fun k => k.id != id) := by
  obtain ⟨_, _, _, e⟩ := State.dropTask_changes s id; rw [e]

/-- The tasks left behind the end of those in `l` are those with another number. -/
theorem State.mem_tasks_endTasks {l : List Task} {s : State} {k : Task} :
    k ∈ (s.forEach l (fun s k => (s.chargeTask k).dropTask k.id)).tasks ↔ k ∈ s.tasks ∧ ∀ j ∈ l, k.id ≠ j.id := by
  induction l generalizing s with
  | nil => simp
  | cons j l ih =>
    have next : s.forEach (j :: l) (fun s k => (s.chargeTask k).dropTask k.id) =
        ((s.chargeTask j).dropTask j.id).forEach l (fun s k => (s.chargeTask k).dropTask k.id) := rfl
    rw [next, ih]
    simp [and_assoc]

/-! ### stopIntake -/

theorem Task.isIntake_iff {h : Handle} {k : Task} : k.isIntake h = true ↔ k.kind = .intake h := by
  unfold Task.isIntake
  split
  · rename_i e
    simp [e]
  · rename_i hne
    simp only [Bool.false_eq_true, false_iff]
    exact hne h

namespace State

variable (s : State) (h : Handle)

/-- Besides the tasks, the memory ports' operations, the counters and terraces may change. -/
theorem stopIntake_changes : ∃ x y z w, s.stopIntake h = { s with mp := x, cnt := y, terr := z, tasks := w } := by
  refine forEach_induct (p := fun t => ∃ x y z w, t = { s with mp := x, cnt := y, terr := z, tasks := w }) ?_ _ s
    ⟨_, _, _, _, rfl⟩
  rintro _ k ⟨x, y, z, w, rfl⟩
  obtain ⟨_, _, _, e⟩ := dropTask_changes (chargeTask { s with mp := x, cnt := y, terr := z, tasks := w } k) k.id
  obtain ⟨_, e'⟩ := chargeTask_changes { s with mp := x, cnt := y, terr := z, tasks := w } k
  exact ⟨_, _, _, _, by rw [e, e']⟩

@[simp] theorem stopIntake_mbs : (s.stopIntake h).mbs = s.mbs := by
  obtain ⟨_, _, _, _, e⟩ := stopIntake_changes s h; rw [e]

@[simp] theorem stopIntake_hfp : (s.stopIntake h).hfp = s.hfp := by
  obtain ⟨_, _, _, _, e⟩ := stopIntake_changes s h; rw [e]

@[simp] theorem stopIntake_sb : (s.stopIntake h).sb = s.sb := by
  obtain ⟨_, _, _, _, e⟩ := stopIntake_changes s h; rw [e]

variable {s h}

theorem stopIntake_bare (n : Nat) : ((s.stopIntake h).terrace n).map Terrace.bare = (s.terrace n).map Terrace.bare :=
  forEach_same (v := fun t => (t.terrace n).map Terrace.bare)
    (fun t k => (dropTask_bare (t.chargeTask k) k.id n).trans (chargeTask_bare t k n)) _ s

@[simp] theorem stopIntake_req (q : Handle) : (s.stopIntake h).req q = s.req q := req_congr (stopIntake_bare _)

/-- A terrace keeps all but its core time and its cache lines. -/
theorem stopIntake_terrace {n : Nat} {te : Terrace} (hte : s.terrace n = some te) : ∃ te',
    (s.stopIntake h).terrace n = some te' ∧
    te' = { te with used := te'.used, usedAt := te'.usedAt, pantry := te'.pantry } := by
  have e : ((s.stopIntake h).terrace n).map Terrace.bare = some te.bare := by rw [stopIntake_bare, hte, Option.map_some]
  obtain ⟨te', hte', hbare⟩ := Option.map_eq_some_iff.1 e
  exact ⟨te', hte', Terrace.eq_of_bare_eq hbare⟩

/-- No task of the request's intake is left, and no task is new. -/
theorem stopIntake_task {k : Task} (hk : k ∈ (s.stopIntake h).tasks) : k ∈ s.tasks ∧ k.kind ≠ .intake h := by
  obtain ⟨hmem, hid⟩ := mem_tasks_endTasks.1 hk
  refine ⟨hmem, fun hkind => ?_⟩
  exact hid k (List.mem_filter.2 ⟨hmem, Task.isIntake_iff.2 hkind⟩) rfl

end State

/-! ### modReq -/

/-- A request that is changed under its own handle. -/
theorem State.modReq_req {s : State} {h : Handle} {f : Req → Req} (hf : ∀ r, (f r).gen = r.gen) :
    (s.modReq h f).req h = (s.req h).map f := by
  unfold State.req State.modReq
  rw [State.modT_terrace_self]
  cases s.terrace (hTerr h) with
  | none => rfl
  | some te =>
    simp only [Option.map_some, Option.bind_some, Terrace.modReq, Tbl.get_mod_self]
    cases te.reqs.get (hIndex h) with
    | none => rfl
    | some r =>
      simp only [Option.map_some, Option.bind_some, hf]
      split <;> rfl

/-- The change of one request leaves of every terrace all but the entries, and the entries of every other terrace. -/
theorem State.modReq_terrace {s : State} {h : Handle} {f : Req → Req} {n : Nat} {te : Terrace} (hte : s.terrace n = some te) :
    ∃ te', (s.modReq h f).terrace n = some te' ∧ (n ≠ hTerr h → te'.reqs = te.reqs) ∧ te' = { te with reqs := te'.reqs } := by
  by_cases hn : n = hTerr h
  · subst hn
    exact ⟨te.modReq (hIndex h) f, by rw [State.modReq, State.modT_terrace_self, hte, Option.map_some],
      fun hne => absurd rfl hne, rfl⟩
  · exact ⟨te, by rw [State.modReq, State.modT_terrace_ne hn, hte], fun _ => rfl, rfl⟩

end Sys2Proof.Machine
end

section
/-! SUPPORT. REQ_CANCEL, REQ_AMEND and REQ_QUERY (R290 to R295). -/

namespace Sys2Proof.Machine

/-- A cancellation moves the mark of its request alone. -/
theorem cancel_req (s : State) (h : Handle) :
    ((s.stopIntake h).modReq h (fun r => { r with cancel := true })).req h =
      (s.req h).map (fun r => { r with cancel := true }) := by
  rw [State.modReq_req (by intro r; rfl), State.stopIntake_req]

/-- Of a terrace a cancellation moves the request's entry, core time and cache lines alone, and no other terrace's entries. -/
theorem cancel_terrace {s : State} {h : Handle} {n : Nat} {te : Terrace} (hte : s.terrace n = some te) : ∃ te',
    ((s.stopIntake h).modReq h (fun r => { r with cancel := true })).terrace n = some te' ∧
    (n ≠ hTerr h → te'.reqs = te.reqs) ∧
    te' = { te with reqs := te'.reqs, used := te'.used, usedAt := te'.usedAt, pantry := te'.pantry } := by
  obtain ⟨te1, hte1, e1⟩ := State.stopIntake_terrace (h := h) hte
  obtain ⟨te2, hte2, hreqs, e2⟩ := State.modReq_terrace (h := h) (f := fun r => { r with cancel := true }) hte1
  have keep : te1.reqs = te.reqs := by rw [e1]
  refine ⟨te2, hte2, fun hn => (hreqs hn).trans keep, ?_⟩
  rw [e2, e1]

theorem reqQuery_of_req {s : State} {src : Src} {c : Bytes} {r : Req} (hr : s.req (cHandle c) = some r) :
    s.reqQuery src c =
      if rd c 16 8 = 0 then
        s.only (ticketOf src c) stOK (cHandle c) (entryResult0 (r.entry (cHandle c))) (entryResult1 (r.entry (cHandle c)))
      else (s.defer (ticketOf src c)).hfpIssue (hTerr (cHandle c)) (.queryWrite (ticketOf src c) (rd c 16 8)
        (r.entry (cHandle c)) (entryResult0 (r.entry (cHandle c))) (entryResult1 (r.entry (cHandle c)))) := by
  simp only [State.reqQuery, hr]

/-- Settles O37: `stopIntake` and `modReq` move only what a cancellation names, and the rows' own effects are the stated ones. -/
theorem requestCommandsAnswer : Obligations.RequestCommandsAnswer := by
  rintro s u src c tk h rfl rfl rfl
  refine ⟨?_, ?_, ?_⟩
  · rintro hacc w rfl
    exact ⟨exec_accepted hacc rfl rfl, cancel_req .., State.stopIntake_mbs .., State.stopIntake_hfp .., State.stopIntake_sb ..,
      fun k hk => State.stopIntake_task hk, fun n te hte => cancel_terrace hte⟩
  · intro hacc
    exact exec_accepted hacc rfl rfl
  · rintro r hacc hr b r0 r1 rfl rfl rfl
    rw [exec_accepted hacc rfl rfl, reqQuery_of_req hr]
    constructor
    · intro hzero
      rw [if_pos hzero]
      rfl
    · intro hzero
      rw [if_neg hzero]
      rfl

end Sys2Proof.Machine
end

section
/-! SUPPORT. Slots (R458 to R461): which slot follows the one that ends, and what the start of a slot leaves alone. -/

namespace Sys2Proof.Machine

/-! ### The next slot -/

section
variable {s : State} {t : Nat}

theorem State.slotEnd_of_open (h : s.slotEnds = false) : s.slotEnd = s := by
  simp [State.slotEnd, h]

theorem State.slotEnd_of_turn (h : s.slotEnds = true) (ht : s.sched.turn = some t) :
    s.slotEnd = ((s.overrun t).modT t Terrace.endTurn).afterTurn (some t) := by
  simp [State.slotEnd, h, ht]

theorem State.slotEnd_of_mgmt {te : Terrace} (h : s.slotEnds = true) (ht : s.sched.turn = none) (hn : s.sched.next = some t)
    (hte : s.terrace t = some te) : s.slotEnd = s.startTurn t te.desc.turn := by
  simp [State.slotEnd, h, ht, hn, hte]

theorem State.slotEnd_of_gone (h : s.slotEnds = true) (ht : s.sched.turn = none) (hn : s.sched.next = some t)
    (hte : s.terrace t = none) : s.slotEnd = s.afterTurn (some t) := by
  simp [State.slotEnd, h, ht, hn, hte]

theorem State.slotEnd_of_noTurn (h : s.slotEnds = true) (ht : s.sched.turn = none) (hn : s.sched.next = none) :
    s.slotEnd = s.afterTurn none := by
  simp [State.slotEnd, h, ht, hn]

/-- While the round has a terrace left, its slot comes next. -/
theorem State.afterTurn_next {n : Nat} (h : s.nextTurnAfter (some t) = some n) : s.afterTurn (some t) = s.startMgmt (some n) := by
  simp [State.afterTurn, h]

/-- Behind the last terrace a new round begins. -/
theorem State.afterTurn_round {done : Option Nat} (h : ∀ t, done = some t → s.nextTurnAfter (some t) = none) :
    s.afterTurn done = s.newRound.startMgmt (s.newRound.nextTurnAfter none) := by
  cases done with
  | none => rfl
  | some t => simp [State.afterTurn, h t rfl]

theorem State.overrun_eq : s.overrun t =
    if s.sched.sealed = true ∧ s.sched.busy ≠ 0 then
      State.count { s with fresh := s.fresh + 1 } cTURN_OVERRUN t locBlock (b2n (Config.overruns s.fresh))
    else s := by
  simp [State.overrun]

theorem State.startTurn_eq {te : Terrace} {len : Nat} {u : State} (hte : s.terrace t = some te)
    (hu : u = { s with sched := { s.sched with
      turn := some t, next := some t, start := s.tick, len := len, worked := !te.egressQ.isEmpty, busy := 0 } }) :
    s.startTurn t len = ((if s.sched.sealed then u else u.modT t Terrace.idleAtStart).count cTURNS t locBlock 1).present t := by
  subst hu
  simp only [State.startTurn, hte]
  rfl

end

/-! ### What the start of a slot leaves alone -/

/-- `t` is `s` in a slot that has just begun: no time has passed and the mailboxes' registers stand. -/
structure State.BeginsSlot (s t : State) : Prop where
  start : t.sched.start = s.tick
  tick  : t.tick = s.tick
  mbs   : t.mbs = s.mbs

/-- Presenting messages changes the schedule's `busy`, terraces and the egress queue alone. -/
theorem State.present_changes (s : State) (t : Nat) :
    ∃ x y z, s.present t = { s with terr := x, egress := y, sched := { s.sched with busy := z } } := by
  unfold State.present
  split
  · exact ⟨_, _, _, rfl⟩
  · dsimp only
    split
    · exact ⟨_, _, _, rfl⟩
    · exact ⟨_, _, _, rfl⟩

/-- A management slot changes the schedule and terraces alone. -/
theorem State.startMgmt_changes (s : State) (next : Option Nat) : ∃ x, s.startMgmt next = { s with
    terr := x
    sched := { s.sched with turn := none, next := next, start := s.tick, len := s.sched.mgmt, worked := false } } := by
  unfold State.startMgmt
  split
  · dsimp only
    split <;> exact ⟨_, rfl⟩
  · exact ⟨_, rfl⟩

theorem State.beginsSlot_startMgmt (s : State) (next : Option Nat) : s.BeginsSlot (s.startMgmt next) := by
  obtain ⟨_, e⟩ := State.startMgmt_changes s next
  rw [e]
  exact ⟨rfl, rfl, rfl⟩

theorem State.startMgmt_turn (s : State) (next : Option Nat) : (s.startMgmt next).sched.turn = none := by
  obtain ⟨_, e⟩ := State.startMgmt_changes s next
  rw [e]

/-- The slot behind a turn is a management slot. -/
theorem State.afterTurn_eq_startMgmt (s : State) (done : Option Nat) :
    ∃ (v : State) (n : Option Nat), s.afterTurn done = v.startMgmt n ∧ v.tick = s.tick ∧ v.mbs = s.mbs := by
  unfold State.afterTurn
  split
  · exact ⟨s, _, rfl, rfl, rfl⟩
  · exact ⟨s.newRound, _, rfl, rfl, rfl⟩

theorem State.beginsSlot_afterTurn {s v : State} (done : Option Nat) (htick : v.tick = s.tick) (hmbs : v.mbs = s.mbs) :
    s.BeginsSlot (v.afterTurn done) := by
  obtain ⟨w, n, e, ewtick, ewmbs⟩ := State.afterTurn_eq_startMgmt v done
  obtain ⟨hs, ht, hm⟩ := State.beginsSlot_startMgmt w n
  rw [e]
  exact ⟨(hs.trans ewtick).trans htick, (ht.trans ewtick).trans htick, (hm.trans ewmbs).trans hmbs⟩

theorem State.afterTurn_turn (s : State) (done : Option Nat) : (s.afterTurn done).sched.turn = none := by
  obtain ⟨v, n, e, -, -⟩ := State.afterTurn_eq_startMgmt s done
  rw [e, State.startMgmt_turn]

theorem State.beginsSlot_startTurn (s : State) (t len : Nat) : s.BeginsSlot (s.startTurn t len) := by
  unfold State.startTurn
  extract_lets had sched s1 s2
  obtain ⟨_, _, _, e⟩ := State.present_changes (s2.tally cTURNS t) t
  have h2 : s.BeginsSlot s2 := by
    unfold s2
    split <;> exact ⟨rfl, rfl, rfl⟩
  rw [e]
  refine ⟨?_, ?_, ?_⟩
  · simpa using h2.start
  · simpa using h2.tick
  · simpa using h2.mbs

theorem State.overrun_changes (s : State) (t : Nat) : ∃ x y, s.overrun t = { s with fresh := x, cnt := y } := by
  unfold State.overrun
  split
  · obtain ⟨_, e⟩ := State.count_changes { s with fresh := s.fresh + 1 } cTURN_OVERRUN t locBlock (b2n (Config.overruns s.fresh))
    exact ⟨_, _, e⟩
  · exact ⟨_, _, rfl⟩

theorem State.beginsSlot_endTurn (s : State) (t : Nat) (done : Option Nat) :
    s.BeginsSlot (((s.overrun t).modT t Terrace.endTurn).afterTurn done) := by
  obtain ⟨_, _, e⟩ := State.overrun_changes s t
  rw [e]
  exact State.beginsSlot_afterTurn done rfl rfl

/-- Whichever slot follows begins at this tick, and a turn is followed by a management slot. -/
theorem State.slotEnd_beginsSlot {s : State} (h : s.slotEnds = true) :
    s.BeginsSlot s.slotEnd ∧ (s.sched.turn ≠ none → s.slotEnd.sched.turn = none) := by
  cases ht : s.sched.turn with
  | some t =>
    rw [State.slotEnd_of_turn h ht]
    exact ⟨State.beginsSlot_endTurn .., fun _ => State.afterTurn_turn ..⟩
  | none =>
    refine ⟨?_, fun hne => absurd rfl hne⟩
    cases hn : s.sched.next with
    | none =>
      rw [State.slotEnd_of_noTurn h ht hn]
      exact State.beginsSlot_afterTurn _ rfl rfl
    | some t =>
      cases hte : s.terrace t with
      | none =>
        rw [State.slotEnd_of_gone h ht hn hte]
        exact State.beginsSlot_afterTurn _ rfl rfl
      | some te =>
        rw [State.slotEnd_of_mgmt h ht hn hte]
        exact State.beginsSlot_startTurn ..

end Sys2Proof.Machine
end

section
/-! SUPPORT. TASK_DISPATCH (R29, R456), case by case, and the statement on turns and dispatch. -/

namespace Sys2Proof.Machine

section
variable {s : State} {bay t : Nat} {p : Option ParityErr}

theorem State.dispatch_of_noGrant (h : s.running = false ∨ s.grant bay = none) : s.dispatch bay p = s := by
  unfold State.dispatch
  obtain h | h := h <;> simp [h]

variable (hr : s.running = true) (hg : s.grant bay = some t)
include hr hg

/-- The cycle of a terrace without a core for its task passes unused (R463). -/
theorem State.dispatch_unused (h : s.terrace t = none ∨ s.bayCore bay t = none) :
    s.dispatch bay p = { s with rrBay := setAt bay (fun _ => (t + 1) % 16) s.rrBay } := by
  have same_terrace : State.terrace { s with rrBay := setAt bay (fun _ => (t + 1) % 16) s.rrBay } t = s.terrace t := rfl
  have same_core : State.bayCore { s with rrBay := setAt bay (fun _ => (t + 1) % 16) s.rrBay } bay t = s.bayCore bay t := rfl
  simp only [State.dispatch, hr, hg, Bool.not_true, Bool.false_eq_true, if_false, same_terrace, same_core]
  split
  · rename_i hte hcore
    obtain h | h := h
    · cases hte.symm.trans h
    · cases hcore.symm.trans h
  · rfl

/-- With a core the granted terrace's window is brought up to date, and the picked task, if any, begins on it. -/
theorem State.dispatch_granted {te : Terrace} {core : Nat} {v : State} (hte : s.terrace t = some te)
    (hcore : s.bayCore bay t = some core)
    (hv : v = State.modT { s with rrBay := setAt bay (fun _ => (t + 1) % 16) s.rrBay } t
      (fun te => te.rollUse s.tick s.windowTicks)) :
    s.dispatch bay p = match v.pick t te with
      | none => v
      | some k => (v.modTask k.id (fun _ => { k with core := some core, began := s.tick })).runWith
          { k with core := some core, began := s.tick } core p := by
  have same_terrace : State.terrace { s with rrBay := setAt bay (fun _ => (t + 1) % 16) s.rrBay } t = some te := hte
  have same_core : State.bayCore { s with rrBay := setAt bay (fun _ => (t + 1) % 16) s.rrBay } bay t = some core := hcore
  subst hv
  simp only [State.dispatch, hr, hg, Bool.not_true, Bool.false_eq_true, if_false, same_terrace, same_core]
  rfl

end

/-- Settles O55: each slot's end and each dispatch by the lemma of its case. -/
theorem turnsAndDispatch : Obligations.TurnsAndDispatch := by
  intro s
  refine ⟨fun h => congrArg Host.Outcome.next (State.slotEnd_of_open h), fun h => ⟨?_, ?_, ?_, ?_, ?_⟩, fun bay p => ⟨?_, ?_⟩⟩
  · intro t te u ht hn hte hu
    exact congrArg Host.Outcome.next ((State.slotEnd_of_mgmt h ht hn hte).trans (State.startTurn_eq hte hu))
  · rintro t _ v ht rfl hv
    have hend : s.slotEnd = v.afterTurn (some t) := by rw [State.slotEnd_of_turn h ht, State.overrun_eq, hv]
    refine ⟨fun n hnext => ?_, fun hnext => ?_⟩
    · exact congrArg Host.Outcome.next (hend.trans (State.afterTurn_next hnext))
    · exact congrArg Host.Outcome.next (hend.trans (State.afterTurn_round (by simpa using hnext)))
  · intro t ht hn hte
    have hend := State.slotEnd_of_gone h ht hn hte
    refine ⟨fun n hnext => ?_, fun hnext => ?_⟩
    · exact congrArg Host.Outcome.next (hend.trans (State.afterTurn_next hnext))
    · exact congrArg Host.Outcome.next (hend.trans (State.afterTurn_round (by simpa using hnext)))
  · intro ht hn
    exact congrArg Host.Outcome.next ((State.slotEnd_of_noTurn h ht hn).trans (State.afterTurn_round (by simp)))
  · obtain ⟨⟨hstart, htick, hmbs⟩, hturn⟩ := State.slotEnd_beginsSlot h
    exact ⟨s.slotEnd, rfl, hstart, htick, hmbs, hturn⟩
  · intro h
    exact congrArg Host.Outcome.next (State.dispatch_of_noGrant h)
  · rintro hr t u hg rfl
    refine ⟨fun h => congrArg Host.Outcome.next (State.dispatch_unused hr hg h), fun te core v hte hcore hv => ?_⟩
    have hrun := State.dispatch_granted (p := p) hr hg hte hcore hv
    refine ⟨fun hpick => ?_, fun k hpick => ?_⟩
    · rw [hpick] at hrun
      exact congrArg Host.Outcome.next hrun
    · rw [hpick] at hrun
      exact congrArg Host.Outcome.next hrun

end Sys2Proof.Machine
end

section
/-! SUPPORT. TOK, DETOK and TOK_DONE (R206 to R208, R446). -/

namespace Sys2Proof.Machine

section
variable {s : State} {src : Src} {c : Bytes} {k : Nat → TaskKind} {addrs : List (Nat × Nat)}

theorem State.tokStart_of_unusable {st r0 : Nat} (h : s.usable [cHandle c] = some (st, r0)) :
    s.tokStart src c k addrs = s.complete (ticketOf src c) kONLY st (cHandle c) 0 noField r0 0 := by
  simp only [State.tokStart, h]
  rfl

theorem State.tokStart_of_usable (h : s.usable [cHandle c] = none) :
    s.tokStart src c k addrs = (((s.engage (cHandle c)).first (ticketOf src c) (cHandle c)).addTask (hTerr (cHandle c)) 1 4
      (hIndex (cHandle c)) (ticketOf src c) (k (s.curVer (cHandle c))) none).hfpIssue (hTerr (cHandle c))
        (.taskRead ((s.engage (cHandle c)).first (ticketOf src c) (cHandle c)).nextId addrs) := by
  simp only [State.tokStart, h]

end

section
variable {s : State} {id : Nat} {k : Task} {vo : Handle} {ve oa fa cap : Nat} {rj : Bool}

theorem State.tokDone_of_written {st r0 r1 off : Nat} (hk : s.task id = some k) (hkind : k.kind = .tok vo ve oa fa cap rj)
    (hres : k.result = some (st, r0, r1, off)) (houts : k.outs = 0) :
    s.tokDone id = (((s.chargeTask k).dropTask k.id).unpin vo ve).final k.ticket st k.ticket.handle 0 off r0 r1 := by
  simp only [State.tokDone, hk, hkind, hres, houts, if_true, State.endTask, TaskKind.pins]
  rfl

/-- Before its output is written, the task goes on. -/
theorem State.tokDone_of_unfinished (hk : s.task id = some k) (h : k.result = none ∨ k.outs ≠ 0) : s.tokDone id = s := by
  simp only [State.tokDone, hk]
  split
  · rename_i hres
    obtain h | h := h
    · cases hres.symm.trans h
    · rw [if_neg h]
  · rfl

theorem State.tokDone_of_other (h : ∀ k, s.task id = some k → ∀ vo ve oa fa cap rj, k.kind ≠ .tok vo ve oa fa cap rj) :
    s.tokDone id = s := by
  unfold State.tokDone
  split
  · rename_i k hk
    split
    · rename_i hkind _
      exact absurd hkind (h k hk _ _ _ _ _ _)
    · rfl
  · rfl

end

/-- Settles O32: TOK and DETOK both start by `tokStart`, and TOK_DONE ends the command of a task whose output is written. -/
theorem tokenizeAndDetokenizeStart : Obligations.TokenizeAndDetokenizeStart := by
  rintro s u src c tk v rfl rfl rfl
  refine ⟨fun hacc => ?_, fun hacc => ?_, ?_, fun id h => congrArg Host.Outcome.next (State.tokDone_of_other h)⟩
  · rw [exec_accepted hacc rfl rfl]
    exact ⟨fun st r0 h => congrArg Host.Outcome.next (State.tokStart_of_unusable h),
      fun h => congrArg Host.Outcome.next (State.tokStart_of_usable h)⟩
  · rw [exec_accepted hacc rfl rfl]
    exact ⟨fun st r0 h => congrArg Host.Outcome.next (State.tokStart_of_unusable h),
      fun h => congrArg Host.Outcome.next (State.tokStart_of_usable h)⟩
  · intro id k vo ve oa fa cap rj hk hkind
    exact ⟨fun st r0 r1 off hres houts => congrArg Host.Outcome.next (State.tokDone_of_written hk hkind hres houts),
      fun h => congrArg Host.Outcome.next (State.tokDone_of_unfinished hk h)⟩

end Sys2Proof.Machine
end

section
/-! SUPPORT. The front of the queue (log entry 13). -/

namespace Sys2Proof.Machine

/-- Settles O1: `step` takes the front command off the queue. -/
theorem stepRunsFrontCommand : Obligations.StepRunsFrontCommand := by
  intro s c r h
  rw [step, h]

end Sys2Proof.Machine
end

section
/-! SUPPORT. Every command of the rings and of the sideband runs by `State.command`, so what that does with an entry that cannot be
taken or that fails a check, each of them does (R79, R95 to R97). -/

namespace Sys2Proof.Machine

/-- The row of a command of R89 is `State.command` on the shape, the bytes and the checks that `State.ringRow` lists. -/
theorem exec_of_ringRow {s : State} {i : Instr} {r : RingRow} (h : s.ringRow i = some r) :
    ∃ act, exec i s = .next (s.command r.sh r.row r.src r.c r.own act) := by
  cases i <;> cases h <;> exact ⟨_, rfl⟩

/-- Settles O16: an entry that cannot be taken leaves `State.command` idle. -/
theorem ringCommandsWaitTheirTurn : Obligations.RingCommandsWaitTheirTurn := by
  intro s i r hr hcan
  obtain ⟨act, he⟩ := exec_of_ringRow hr
  rw [he, command_idle hcan]

/-- Settles O17: a taken entry whose checks fail is refused by `State.command`. -/
theorem ringCommandsAreCheckedInOrder : Obligations.RingCommandsAreCheckedInOrder := by
  intro s i r st off hr hcan hdom hfail
  obtain ⟨act, he⟩ := exec_of_ringRow hr
  rw [he, command_refuses hcan hdom hfail]

end Sys2Proof.Machine
end

section
/-! SUPPORT. Fields of a byte string that is put together from little-endian fields (R20), and the 32 bytes of a completion
(R97). -/

namespace Sys2Proof.Machine

section
variable {n off : Nat}

@[simp] theorem le_length (n v : Nat) : (le n v).length = n := by
  induction n generalizing v with
  | zero => rfl
  | succ n ih => simp [le, ih]

/-- The value of a field's bytes is read back, whatever follows them. -/
theorem leVal_le_append (n v : Nat) (b : Bytes) : leVal n (le n v ++ b) = v % 256 ^ n := by
  induction n generalizing v with
  | zero => simp [leVal, Nat.mod_one]
  | succ n ih => rw [le, List.cons_append, leVal, ih, BitVec.toNat_ofNat, Nat.pow_succ' (m := 256), Nat.mod_mul (a := 256)]

theorem rd_le_append (n v : Nat) (b : Bytes) : rd (le n v ++ b) 0 n = v % 256 ^ n :=
  leVal_le_append n v b

theorem rd_le (n v : Nat) : rd (le n v) 0 n = v % 256 ^ n := by
  simpa using rd_le_append n v []

/-- A field that begins behind the first one is read behind it. -/
theorem rd_le_append_of_le (h : n ≤ off) (v : Nat) (b : Bytes) (k : Nat) : rd (le n v ++ b) off k = rd b (off - n) k := by
  have hdrop : (le n v ++ b).drop off = b.drop (off - n) := by
    rw [List.drop_append, List.drop_eq_nil_of_le (by simpa using h), le_length, List.nil_append]
  rw [rd, rd, hdrop]

end

/-- Settles O19: each field is read behind those before it, and fits its width. -/
theorem completionLayout : Obligations.CompletionLayout := by
  intro c phase head htag hhandle hstatus hopcode hkind hflags heven hhead hoff hres0 hres1
  have hphase : c.flags + b2n phase < 256 := by cases phase <;> simp [b2n] <;> omega
  have hlength : (c.bytes phase head).length = 32 := by simp [Cpl.bytes]
  refine ⟨hlength, ?_⟩
  simp only [Cpl.bytes, List.append_assoc, rd_le_append, rd_le, rd_le_append_of_le, Nat.reduceLeDiff, Nat.reduceSub]
  exact ⟨Nat.mod_eq_of_lt htag, Nat.mod_eq_of_lt hhandle, Nat.mod_eq_of_lt hstatus, Nat.mod_eq_of_lt hopcode,
    Nat.mod_eq_of_lt hkind, Nat.mod_eq_of_lt hphase, Nat.mod_eq_of_lt hhead, Nat.mod_eq_of_lt hoff, Nat.mod_eq_of_lt hres0,
    Nat.mod_eq_of_lt hres1⟩

end Sys2Proof.Machine
end

section
/-! SUPPORT. The state after reset: its form, and what its registers read (R72 to R76, R565 to R568, R574). -/

namespace Sys2Proof.Machine

/-- Settles O4: the fields of the form at their reset values. -/
theorem resetHasForm : Obligations.ResetHasForm := reset_formed

/-- Every mailbox, one beyond the pages too, reads as a page at its reset values. -/
theorem State.reset_mailbox (mb : Nat) : State.reset.mailbox mb = {} := by
  rw [State.mailbox, show State.reset.mbs = List.replicate 17 {} from rfl, List.getD_eq_getElem?_getD, List.getElem?_replicate]
  split <;> rfl

/-- No bit of a page at its reset values is set. -/
theorem Mailbox.reset_reg (off : Nat) : ({} : Mailbox).reg off = 0 := by
  unfold Mailbox.reg
  split <;> rfl

/-- The message data registers of sources 17 to 23 stand from 0x048 on, and read 0 after reset. -/
theorem State.reset_msiData {n : Nat} (h : n < 7) (port : Nat) : State.reset.regValue port (0x048 + 4 * n) = 0 := by
  have cases7 : n = 0 ∨ n = 1 ∨ n = 2 ∨ n = 3 ∨ n = 4 ∨ n = 5 ∨ n = 6 := by omega
  obtain rfl | rfl | rfl | rfl | rfl | rfl | rfl := cases7 <;> rfl

/-- Settles O5: the pages by `Mailbox.reset_reg`, and each register of the global page by evaluation. -/
theorem resetRegisterValues : Obligations.ResetRegisterValues := by
  refine ⟨fun mb off => ?_, fun port => ⟨rfl, rfl, rfl, rfl, rfl, fun n hn => State.reset_msiData hn port, rfl, rfl⟩⟩
  rw [State.reset_mailbox, Mailbox.reset_reg]

end Sys2Proof.Machine
end

section
/-! SUPPORT. The sideband target (R108, R109): a private write byte by byte, GO and ACK. -/

namespace Sys2Proof.Machine

/-! ### A private write, byte by byte -/

/-- Induction over a list that grows at its end, as a write does. -/
theorem concat_induction {α : Type} {p : List α → Prop} (nil : p []) (concat : ∀ l a, p l → p (l ++ [a])) (l : List α) : p l := by
  rw [← List.reverse_reverse l]
  induction l.reverse with
  | nil => exact nil
  | cons a r ih =>
    rw [List.reverse_cons]
    exact concat _ _ ih

section
variable (s : State) (ptr : Byte) (data : Bytes) (v : Byte)

theorem State.sbWrite_nil : s.sbWrite ptr [] = s.modSb (fun b => { b with ptr := ptr }) := rfl

/-- The last byte of a write meets what the bytes before it left. -/
theorem State.sbWrite_concat :
    s.sbWrite ptr (data ++ [v]) = (s.sbWrite ptr data).sbByte ((ptr.toNat + data.length) % 256) v := by
  simp [State.sbWrite, List.range_succ, List.zip_append]

end

section
variable {s : State} {a : Nat} {v : Byte}

theorem State.sbByte_of_idle (ha : a < 64) (hb : s.sb.busy = false) :
    s.sbByte a v = s.modSb (fun b => { b with cmd := setAt a (fun _ => v) b.cmd }) := by
  simp [State.sbByte, ha, hb]

theorem State.sbByte_go : s.sbByte 64 1 = s.sbGo := rfl

theorem State.sbByte_ack : s.sbByte 64 2 = s.sbAck := rfl

/-- A byte of SB_CMD while BUSY, another value at the control byte and a byte beyond it have no effect (R108). -/
theorem State.sbByte_ignored (hbusy : a < 64 → s.sb.busy = true) (hctl : a = 64 → v ≠ 1 ∧ v ≠ 2) : s.sbByte a v = s := by
  by_cases ha : a < 64
  · simp [State.sbByte, ha, hbusy ha]
  · have hgo : ¬ (a = 0x40 && v = 0x01) = true := by simpa using fun h => (hctl h).1
    have hack : ¬ (a = 0x40 && v = 0x02) = true := by simpa using fun h => (hctl h).2
    rw [State.sbByte, if_neg ha, if_neg hgo, if_neg hack]

end

/-! ### Handshake -/

section
variable {s : State}

theorem State.sbGo_of_free (hbusy : s.sb.busy = false) (hdone : s.sb.done = false) (herase : s.tap.erasing = none)
    (hboot : s.boot.step ≠ .failed) :
    s.sbGo = s.modSb (fun b => { b with busy := true, queued := true, goAt := s.tick, refused := false }) := by
  simp [State.sbGo, hbusy, hdone, herase, hboot]

theorem State.sbGo_refused
    (h : s.sb.busy = true ∨ s.sb.done = true ∨ s.tap.erasing.isSome = true ∨ s.boot.step = .failed) :
    s.sbGo = s.modSb (fun b => { b with refused := true }) := by
  rw [State.sbGo, if_pos (by simpa [or_assoc] using h)]

theorem State.sbGo_ptr : s.sbGo.sb.ptr = s.sb.ptr := by
  unfold State.sbGo
  split <;> rfl

end

/-! ### What a whole write leaves -/

theorem State.sbByte_ptr (s : State) (a : Nat) (v : Byte) : (s.sbByte a v).sb.ptr = s.sb.ptr := by
  unfold State.sbByte
  split
  · split <;> rfl
  · split
    · exact State.sbGo_ptr
    · split <;> rfl

theorem State.sbWrite_ptr (s : State) (ptr : Byte) (data : Bytes) : (s.sbWrite ptr data).sb.ptr = ptr := by
  induction data using concat_induction with
  | nil => rfl
  | concat data v ih => rw [State.sbWrite_concat, State.sbByte_ptr, ih]

/-- The position behind `a` and `b` is replaced in a list cut there. -/
theorem setAt_append_cons {α : Type} {k : Nat} {a : List α} (h : k = a.length) (x : α) (r : List α) (f : α → α) :
    setAt k f (a ++ x :: r) = a ++ f x :: r := by
  subst h
  induction a with
  | nil => rfl
  | cons y a ih => simp [setAt, ih]

/-- One more byte of a splice is the change of one position. -/
theorem setAt_splice {b data : Bytes} {p : Nat} (h : p + data.length < b.length) (v : Byte) :
    setAt (p + data.length) (fun _ => v) (b.take p ++ data ++ b.drop (p + data.length)) =
      b.take p ++ (data ++ [v]) ++ b.drop (p + (data ++ [v]).length) := by
  have hpos : p + data.length = (b.take p ++ data).length := by
    rw [List.length_append, List.length_take_of_le (by omega)]
  rw [List.drop_eq_getElem_cons h, setAt_append_cons hpos]
  simp [Nat.add_assoc]

section
variable {s : State} {ptr : Byte} {data : Bytes}

/-- While BUSY a write within SB_CMD stores nothing (R108). -/
theorem State.sbWrite_of_busy (hb : s.sb.busy = true) (h : ptr.toNat + data.length ≤ 64) :
    s.sbWrite ptr data = s.modSb (fun b => { b with ptr := ptr }) := by
  induction data using concat_induction with
  | nil => rfl
  | concat data v ih =>
    have hlast : ptr.toNat + data.length < 64 := by simp at h; omega
    rw [State.sbWrite_concat, ih (Nat.le_of_lt hlast)]
    exact State.sbByte_ignored (fun _ => hb) (fun ha => by omega)

/-- While BUSY is 0 a write within SB_CMD is spliced into it (R108). -/
theorem State.sbWrite_of_idle (hb : s.sb.busy = false) (hcmd : s.sb.cmd.length = 64) (h : ptr.toNat + data.length ≤ 64) :
    s.sbWrite ptr data = s.modSb (fun b => { b with
      ptr := ptr
      cmd := b.cmd.take ptr.toNat ++ data ++ b.cmd.drop (ptr.toNat + data.length) }) := by
  induction data using concat_induction with
  | nil => simp [State.sbWrite_nil, State.modSb]
  | concat data v ih =>
    have hlast : ptr.toNat + data.length < 64 := by simp at h; omega
    rw [State.sbWrite_concat, ih (Nat.le_of_lt hlast), Nat.mod_eq_of_lt (by omega), State.sbByte_of_idle hlast]
    · simp only [State.modSb, setAt_splice (hcmd ▸ hlast)]
    · exact hb

end

/-- Settles O41: a private write byte by byte, by `State.sbWrite_concat`, and the two handshakes. -/
theorem sidebandRegisters : Obligations.SidebandRegisters := by
  intro s
  refine ⟨fun _ => rfl, fun ptr data => ⟨_, rfl, State.sbWrite_ptr s ptr data⟩, ?_, ?_, ?_, ?_, rfl⟩
  · rintro ptr data v _ a ⟨⟩ rfl
    have hlast : exec (.sbPrivateWrite ptr (data ++ [v])) s =
        .next ((s.sbWrite ptr data).sbByte ((ptr.toNat + data.length) % 256) v) :=
      congrArg Host.Outcome.next (State.sbWrite_concat ..)
    refine ⟨fun ha hb => ?_, fun ha hv => ?_, fun ha hv => ?_, fun hbusy hctl => ?_⟩
    · rw [hlast, State.sbByte_of_idle ha hb]
      rfl
    · rw [hlast, ha, hv, State.sbByte_go]
      rfl
    · rw [hlast, ha, hv, State.sbByte_ack]
      rfl
    · rw [hlast, State.sbByte_ignored hbusy hctl]
  · intro ptr data hcmd h
    cases hb : s.sb.busy with
    | true => exact ⟨s.sb.cmd, congrArg Host.Outcome.next (State.sbWrite_of_busy hb h), rfl⟩
    | false => exact ⟨_, congrArg Host.Outcome.next (State.sbWrite_of_idle hb hcmd h), rfl⟩
  · intro hbusy hdone herase hboot
    exact congrArg Host.Outcome.next (State.sbGo_of_free hbusy hdone herase hboot)
  · intro h
    exact congrArg Host.Outcome.next (State.sbGo_refused h)

end Sys2Proof.Machine
end

section
/-! SUPPORT. When a register takes a write (R495, R496, R509): before READY never, while the front end answers never, and
otherwise behind the wake that every access of S1 makes. -/

namespace Sys2Proof.Machine

variable {s : State} {f : State → State}

theorem State.hostWrite_of_notReady (h : s.lcs.ready = false) : s.hostWrite f = s := by
  simp [State.hostWrite, h]

theorem State.hostWrite_of_frontEnd (hr : s.lcs.ready = true) (hf : s.frontEnd = true) :
    s.hostWrite f = s.count cSLEEP_WRITE_DROP noTerr locBlock 1 := by
  simp [State.hostWrite, hr, hf, State.tally]

theorem State.hostWrite_of_live (hr : s.lcs.ready = true) (hf : s.frontEnd = false) : s.hostWrite f = f s.touch := by
  simp [State.hostWrite, hr, hf]

/-- Every access of the target side wakes S1, as an HFP access (R495). -/
theorem State.touch_eq (s : State) : s.touch = if s.sleep.phase = .s1 then s.latchWake 16 else s := rfl

end Sys2Proof.Machine
end

section
/-! SUPPORT. MB_IRQ and the coalescing timer (R76, R115, R569). -/

namespace Sys2Proof.Machine

/-- The two conditions of R115 on a mailbox: its interrupt is enabled, a completion is unannounced, and the count or the time is
reached. -/
def Mailbox.irqDue (m : Mailbox) (now : Tick) : Prop :=
  m.irq.getLsbD 0 = true ∧ 0 < m.unann ∧
    (max 1 (coalCount m.irq) ≤ m.unann ∨ (coalTime m.irq ≠ 0 ∧ m.firstAt + 16 * coalTime m.irq ≤ now))

section
variable {s : State} {mb : Nat}

theorem State.testMbIrq_of_due (h : (s.mailbox mb).irqDue s.tick) :
    s.testMbIrq mb = (s.modMb mb (fun m => { m with unann := 0 })).raise mb := by
  obtain ⟨hen, hun, hdue⟩ := h
  rw [State.testMbIrq, if_pos]
  simpa [hen, hun] using hdue

theorem State.testMbIrq_of_not_due (h : ¬ (s.mailbox mb).irqDue s.tick) : s.testMbIrq mb = s := by
  rw [State.testMbIrq, if_neg]
  simpa [Mailbox.irqDue, and_assoc] using h

end

/-- Settles O13: the register's write tests the conditions of R115 at once, and the timer tests them when its time runs out. -/
theorem mailboxInterruptCoalescing : Obligations.MailboxInterruptCoalescing := by
  intro s mb v
  refine ⟨fun hr => congrArg Host.Outcome.next (State.hostWrite_of_notReady hr),
    fun hr hf => congrArg Host.Outcome.next (State.hostWrite_of_frontEnd hr hf), ?_, ?_⟩
  · intro hr hf u hu
    have hexec : exec (.mbIrqWrite mb v) s = .next (if u.mbExists mb then u.writeMbIrq mb v else u) :=
      congrArg Host.Outcome.next ((State.hostWrite_of_live hr hf).trans (by rw [hu, State.touch_eq]))
    refine ⟨fun hno => by simp [hexec, hno], fun hyes w x m hw hm hx => ?_⟩
    have htest : w.testMbIrq mb = x := by
      rw [hx, hm]
      split
      · rename_i h
        exact State.testMbIrq_of_due h
      · rename_i h
        exact State.testMbIrq_of_not_due h
    rw [hexec, if_pos hyes, State.writeMbIrq, ← hw, htest]
    simp
  · rintro m rfl
    constructor
    · intro hclk htime hen hun hdue
      have due : (s.mailbox mb).irqDue s.tick := ⟨hen, hun, hdue.imp_right fun h => ⟨htime, h⟩⟩
      have hexec : exec (.mbCoalTimer mb) s = .next (s.testMbIrq mb) :=
        congrArg Host.Outcome.next (if_pos (by simp [hclk, htime]))
      rw [hexec, State.testMbIrq_of_due due]
    · intro h
      refine congrArg Host.Outcome.next (ite_eq_right_iff.2 fun hrun => State.testMbIrq_of_not_due ?_)
      rintro ⟨hen, hun, hdue⟩
      simp only [Bool.and_eq_true, decide_eq_true_eq] at hrun
      obtain h | h | h | h | ⟨hcount, htime⟩ := h
      · simp [h] at hrun
      · exact hrun.2 h
      · exact Bool.noConfusion (h.symm.trans hen)
      · exact absurd h (Nat.ne_of_gt hun)
      · exact hdue.elim (Nat.not_le_of_lt hcount) fun h => Nat.not_le_of_lt htime h.2

end Sys2Proof.Machine
end

section
/-! SUPPORT. ENABLE (R75, R85, R86): the rings that a mailbox starts with, and the settings it refuses. -/

namespace Sys2Proof.Machine

/-- A mailbox as ENABLE leaves it: the ring settings latched, both rings empty. -/
def Mailbox.latched (m : Mailbox) (sl cl sb cb : Nat) : Mailbox := { m with
  enable := true, sqBase := sb, sqLog := sl, cqBase := cb, cqLog := cl, sqHead := 0, cqTail := 0, phase := true
  sqTail := 0, cqHead := 0, used := 0, outQ := [], ahead := [], readNext := 0, bells := [], epoch := m.epoch + 1 }

section
variable {s : State} {mb : Nat}

theorem State.enableMb_of_enabled (h : (s.mailbox mb).enable = true) : s.enableMb mb = s := by
  simp [State.enableMb, h]

theorem State.enableMb_of_disabled {sl cl sb cb : Nat} {u : State} (h : (s.mailbox mb).enable = false)
    (hsl : sl = (s.mailbox mb).sqSize.toNat % 32) (hcl : cl = (s.mailbox mb).cqSize.toNat % 32)
    (hsb : sb = ringBase (s.mailbox mb).sqBaseLo (s.mailbox mb).sqBaseHi)
    (hcb : cb = ringBase (s.mailbox mb).cqBaseLo (s.mailbox mb).cqBaseHi)
    (hu : u = (s.modMb mb (fun m => m.latched sl cl sb cb)).forEach (((s.mailbox mb).outQ.map (·.2)).filter (· ≠ 0))
      State.passProgress) :
    s.enableMb mb =
      if sl < 1 || 16 < sl || cl < 1 || 16 < cl || sb = 0 || cb = 0 then u.mbError mb 3
      else if 2 ^ cl < (s.mailbox mb).held.length + 2 then u.mbError mb 6
      else u.roomMade mb := by
  subst hsl hcl hsb hcb hu
  rw [State.enableMb, if_neg (by simp [h])]
  rfl

end

/-- Settles O12: both writes by `State.hostWrite`, and ENABLE by the case of its settings. -/
theorem mailboxEnableAndDisable : Obligations.MailboxEnableAndDisable := by
  intro s mb sl cl sb cb
  refine ⟨fun hr => ⟨congrArg Host.Outcome.next (State.hostWrite_of_notReady hr),
    congrArg Host.Outcome.next (State.hostWrite_of_notReady hr)⟩,
    fun hr hf => ⟨congrArg Host.Outcome.next (State.hostWrite_of_frontEnd hr hf),
      congrArg Host.Outcome.next (State.hostWrite_of_frontEnd hr hf)⟩, ?_⟩
  rintro hr hf w hw
  have henable : exec (.mbEnable mb) s = .next (if w.mbExists mb then w.enableMb mb else w) :=
    congrArg Host.Outcome.next ((State.hostWrite_of_live hr hf).trans (by rw [hw, State.touch_eq]; rfl))
  have hdisable : exec (.mbDisable mb) s = .next (if w.mbExists mb then w.disableMb mb else w) :=
    congrArg Host.Outcome.next ((State.hostWrite_of_live hr hf).trans (by rw [hw, State.touch_eq]; rfl))
  refine ⟨fun hno => by simp [henable, hdisable, hno], fun hyes => ?_⟩
  rw [if_pos hyes] at henable hdisable
  refine ⟨hdisable, fun hon => by rw [henable, State.enableMb_of_enabled hon], fun hoff hsl hcl hsb hcb u hu => ?_⟩
  rw [henable, State.enableMb_of_disabled hoff hsl hcl hsb hcb hu]
  refine ⟨fun h1 h2 h3 h4 h5 h6 => ?_, fun hbad => by rw [if_pos (by simpa [or_assoc] using hbad)]⟩
  have hlegal : ¬ (sl < 1 || 16 < sl || cl < 1 || 16 < cl || sb = 0 || cb = 0) = true := by simp; omega
  rw [if_neg hlegal]
  exact ⟨fun hroom => by rw [if_neg (by omega)], fun hroom => by rw [if_pos hroom]⟩

end Sys2Proof.Machine
end

section
/-! SUPPORT. Doorbells and returned heads (R78, R79, R83, R85, R87, R88), case by case. -/

namespace Sys2Proof.Machine

/-! ### MB_SQ_TAIL -/

/-- What a new tail within the 16 bits of a ring index leaves of a mailbox: what stands before it (R79). -/
theorem Mailbox.retail_eq {t : Nat} (ht : t < 65536) (m : Mailbox) : m.retail t = { m with
    sqTail := BitVec.ofNat 32 t
    ahead := m.ahead.filter (fun e => m.ahead_ e.1 < m.ahead_ t)
    readNext := if m.ahead_ m.readNext < m.ahead_ t then m.readNext else t
    bells := m.bells.filter (fun b => m.ahead_ b.1 ≤ m.ahead_ t) } := by
  have hrange : ∀ i, Mailbox.inRange { m with sqTail := BitVec.ofNat 32 t } i = decide (m.ahead_ i < m.ahead_ t) := fun i => by
    rw [Mailbox.inRange, BitVec.toNat_ofNat, Nat.mod_eq_of_lt (by omega)]
    rfl
  simp only [Mailbox.retail, hrange, decide_eq_true_eq]
  rfl

section
variable {s : State} {mb t : Nat} {v : Word} {now : Tick} (ht : t = v.toNat % 65536)
include ht

/-- A disabled mailbox, and one in ERROR, takes the value and nothing else follows. -/
theorem State.ringTail_of_stopped (h : (s.mailbox mb).enable = false ∨ (s.mailbox mb).error = true) :
    s.ringTail mb v now = s.modMb mb (fun m => { m with sqTail := BitVec.ofNat 32 t }) := by
  subst ht
  exact if_pos (by simpa using h)

variable (hen : (s.mailbox mb).enable = true) (herr : (s.mailbox mb).error = false)
include hen herr

theorem State.ringTail_beyond (h : 2 ^ (s.mailbox mb).sqLog ≤ t) :
    s.ringTail mb v now = (s.modMb mb (fun m => { m with sqTail := BitVec.ofNat 32 t })).mbError mb 1 := by
  subst ht
  simp only [State.ringTail, hen, herr, h, Bool.not_true, Bool.or_false, Bool.false_eq_true, if_false, if_true]

theorem State.ringTail_same (h : t < 2 ^ (s.mailbox mb).sqLog) (hsame : t = (s.mailbox mb).sqTail.toNat) :
    s.ringTail mb v now = s.modMb mb (fun m => { m with sqTail := BitVec.ofNat 32 t }) := by
  subst ht
  simp only [State.ringTail, hen, herr, Nat.not_le_of_lt h, hsame.symm, Bool.not_true, Bool.or_false, Bool.false_eq_true, if_false, if_true]

theorem State.ringTail_moves (h : t < 2 ^ (s.mailbox mb).sqLog) (hnew : t ≠ (s.mailbox mb).sqTail.toNat) :
    s.ringTail mb v now = (s.modMb mb (fun m => { m with
      sqTail := BitVec.ofNat 32 t
      ahead := m.ahead.filter (fun e => m.ahead_ e.1 < m.ahead_ t)
      readNext := if m.ahead_ m.readNext < m.ahead_ t then m.readNext else t
      bells := m.bells.filter (fun b => m.ahead_ b.1 ≤ m.ahead_ t) ++ [(t, now)] })).readAhead mb 16 := by
  have hlt : t < 65536 := by omega
  subst ht
  simp only [State.ringTail, hen, herr, Nat.not_le_of_lt h, hnew.symm, Bool.not_true, Bool.or_false, Bool.false_eq_true, if_false,
    State.modMb_modMb, Mailbox.retail_eq hlt]
  rfl

end

/-! ### MB_CQ_HEAD -/

section
variable {s : State} {mb t n : Nat} {v : Word} (ht : t = v.toNat % 65536)
include ht

/-- A disabled mailbox, and one in ERROR, takes the value and no credit returns. -/
theorem State.moveHead_of_stopped (h : (s.mailbox mb).enable = false ∨ (s.mailbox mb).error = true) :
    s.moveHead mb v = s.modMb mb (fun m => { m with cqHead := BitVec.ofNat 32 t }) := by
  subst ht
  exact if_pos (by simpa using h)

variable (hen : (s.mailbox mb).enable = true) (herr : (s.mailbox mb).error = false)
  (hn : n = (t + 2 ^ (s.mailbox mb).cqLog - (s.mailbox mb).cqHead.toNat % 2 ^ (s.mailbox mb).cqLog) % 2 ^ (s.mailbox mb).cqLog)
include hen herr hn

theorem State.moveHead_returns (h : t < 2 ^ (s.mailbox mb).cqLog) (hused : n ≤ (s.mailbox mb).used) :
    s.moveHead mb v = ((s.modMb mb (fun m => { m with
      cqHead := BitVec.ofNat 32 t, used := m.used - n, outQ := m.outQ.drop n })).forEach
        ((((s.mailbox mb).outQ.take n).map (·.2)).filter (· ≠ 0)) State.passProgress).roomMade mb := by
  subst ht
  have hok : ¬ (2 ^ (s.mailbox mb).cqLog ≤ v.toNat % 65536 || (s.mailbox mb).used < n) = true := by simp; omega
  simp only [State.moveHead, hen, herr, ← hn, hok, Bool.not_true, Bool.or_false, Bool.false_eq_true, if_false, State.modMb_modMb]
  rfl

theorem State.moveHead_beyond (h : 2 ^ (s.mailbox mb).cqLog ≤ t ∨ (s.mailbox mb).used < n) :
    s.moveHead mb v = (s.modMb mb (fun m => { m with cqHead := BitVec.ofNat 32 t })).mbError mb 2 := by
  subst ht
  have hbad : (2 ^ (s.mailbox mb).cqLog ≤ v.toNat % 65536 || (s.mailbox mb).used < n) = true := by simpa using h
  simp only [State.moveHead, hen, herr, ← hn, hbad, Bool.not_true, Bool.or_false, Bool.false_eq_true, if_false, if_true]

end

/-! ### The two rows -/

section
variable {s : State} {mb : Nat} {v : Word}

/-- Before READY, and on a mailbox that the configuration lacks, neither register takes a value. -/
theorem State.bells_of_absent (h : s.lcs.ready = false ∨ s.mbExists mb = false) :
    s.doorbell mb v = s ∧ s.headWrite mb v = s :=
  ⟨if_pos (by simpa using h), if_pos (by simpa using h)⟩

variable (hr : s.lcs.ready = true) (hmb : s.mbExists mb = true)
include hr hmb

/-- While the block sleeps, both registers have a shadow; a doorbell wakes the block (R88). -/
theorem State.bells_of_asleep (h : s.clocked = false) :
    s.doorbell mb v = (s.modMb mb (fun m => { m with shTail := m.shTail ++ [(v, s.tick)] })).latchWake
      (if s.sleep.phase = .s1 then 17 else 1) ∧
    s.headWrite mb v = (s.modMb mb (fun m => { m with shHead := some v })).touch := by
  simp [State.doorbell, State.headWrite, State.shadowing, hr, hmb, h, wkDOORBELL, wkHFP]

theorem State.bells_of_clocked (h : s.clocked = true) :
    s.doorbell mb v = (s.ringTail mb v s.tick).latchWake 1 ∧ s.headWrite mb v = s.moveHead mb v := by
  simp [State.doorbell, State.headWrite, State.shadowing, hr, hmb, h, wkDOORBELL]

end

/-- Settles O11: asleep the shadows, awake each write by the lemma of its case. -/
theorem doorbellsAndHeads : Obligations.DoorbellsAndHeads := by
  intro s mb t v ht
  refine ⟨fun h => ?_, fun hr hmb => ⟨fun hclk => ?_, fun hclk u w hu hw => ?_⟩, fun u hu => State.awake_latchWake hu 1⟩
  · obtain ⟨hbell, hhead⟩ := State.bells_of_absent (v := v) h
    exact ⟨congrArg Host.Outcome.next hbell, congrArg Host.Outcome.next hhead⟩
  · obtain ⟨hbell, hhead⟩ := State.bells_of_asleep (v := v) hr hmb hclk
    refine ⟨congrArg Host.Outcome.next hbell, ?_⟩
    rintro u rfl
    exact congrArg Host.Outcome.next hhead
  · obtain ⟨hbell, hhead⟩ := State.bells_of_clocked (v := v) hr hmb hclk
    have hbell' : exec (.doorbell mb v) s = .next ((s.ringTail mb v s.tick).latchWake 1) := congrArg Host.Outcome.next hbell
    have hhead' : exec (.mbCqHeadWrite mb v) s = .next (s.moveHead mb v) := congrArg Host.Outcome.next hhead
    rw [hbell', hhead', hu, hw]
    refine ⟨fun hstop => ?_, fun hen herr => ⟨fun h => ?_, fun h hsame => ?_, fun h hnew => ?_,
      fun n hn => ⟨fun h hused => ?_, fun h => ?_⟩⟩⟩
    · rw [State.ringTail_of_stopped ht hstop, State.moveHead_of_stopped ht hstop]
      exact ⟨rfl, rfl⟩
    · rw [State.ringTail_beyond ht hen herr h]
    · rw [State.ringTail_same ht hen herr h hsame]
    · rw [State.ringTail_moves ht hen herr h hnew]
    · rw [State.moveHead_returns ht hen herr hn h hused]
    · rw [State.moveHead_beyond ht hen herr hn h]

end Sys2Proof.Machine
end

section
/-! SUPPORT. REGISTER_WRITE (R73, R74, R555, R556): which accesses the window lets through, and what a write and a read of each
register do. -/

namespace Sys2Proof.Machine

/-! ### Which accesses act -/

section
variable {s : State} {a : Access} {off : Nat} (hoff : off = a.off % 2 ^ 20)
include hoff

theorem State.access_of_denied (hp : a.priv = false) (hrange : off < 0x2000 ∨ 0x40000 ≤ off)
    (h : a.write = true ∨ 0x018 ≤ off) :
    s.access a = State.tally (State.touch { s with rsp := 0 }) cPRIV_DENIED noTerr := by
  simp only [State.access, ← hoff]
  exact if_pos (by simp [privRange, hp, hrange, h])

/-- An access that R555 lets through meets the checks of alignment and strobes, and then a register. -/
theorem State.access_of_allowed (hallowed : a.priv = true ∨ privRange off = false ∨ (a.write = false ∧ off < 0x018)) :
    s.access a = if off % 4 ≠ 0 ∨ (a.write = true ∧ a.strb ≠ 0xF) then State.touch { s with rsp := 0 }
      else if a.write then State.regWrite { s with rsp := 0 } off a.data
      else State.regRead (State.touch { s with rsp := 0 }) a.port off := by
  have hpass : ¬ (!a.priv && privRange off && (a.write || 0x018 ≤ off)) = true := by
    obtain h | h | ⟨hw, hlow⟩ := hallowed
    · simp [h]
    · simp [h]
    · simp [hw, Nat.not_le_of_lt hlow]
  simp only [State.access, ← hoff, if_neg hpass]
  simp

end

/-! ### Writes -/

section
variable {s : State} {mb off : Nat} {v : Word}

/-- The registers of a page that have a row of their own. -/
theorem State.regWrite_of_rowRegister (hp : s.pageOf off = some mb) :
    (off % 0x1000 = 0x00C → s.regWrite off v = s.doorbell mb v) ∧
    (off % 0x1000 = 0x01C → s.regWrite off v = s.headWrite mb v) ∧
    (off % 0x1000 = 0x020 → s.regWrite off v = s.statusWrite mb (v.getLsbD 0)) ∧
    (off % 0x1000 = 0x024 → s.regWrite off v = s.mbIrqReg mb v) := by
  simp only [State.regWrite, hp, State.pageWrite]
  refine ⟨fun h => ?_, fun h => ?_, fun h => ?_, fun h => ?_⟩ <;> rw [h] <;> rfl

/-- The ring and message registers of a page (R74). -/
theorem State.regWrite_of_ringRegister (hp : s.pageOf off = some mb)
    (ho : off % 0x1000 ∉ [0x00C, 0x01C, 0x020, 0x024]) :
    s.regWrite off v = s.hostWrite (fun s => s.modMb mb (fun m => m.write (off % 0x1000) v)) := by
  simp only [List.mem_cons, List.not_mem_nil, or_false, not_or] at ho
  obtain ⟨h1, h2, h3, h4⟩ := ho
  simp only [State.regWrite, hp, State.pageWrite, h1, h2, h3, h4, if_false]

/-- The interrupt registers and the counter window's select, outside the pages. -/
theorem State.regWrite_of_globalRow (hp : s.pageOf off = none) :
    (off = 0x024 → s.regWrite off v = s.irqStatusReg v 0) ∧
    (off = 0x028 → s.regWrite off v = s.irqMaskReg v) ∧
    (off = 0x02C → s.regWrite off v = s.irqModeReg v) ∧
    (off = 0x40000 → s.regWrite off v = s.hostWrite (fun s => s.cntSelect v)) := by
  simp only [State.regWrite, hp]
  refine ⟨fun h => ?_, fun h => ?_, fun h => ?_, fun h => ?_⟩ <;> rw [h] <;> rfl

/-- The debug window and the message registers of sources 17 to 23 (R568, R578). -/
theorem State.regWrite_of_global (hp : s.pageOf off = none) (ho : off ∉ [0x024, 0x028, 0x02C, 0x40000]) :
    s.regWrite off v = s.hostWrite (fun s =>
      if 0x80000 ≤ off then s.debugWrite ((off - 0x80000) / 4) v else { s with irq := s.irq.write off v }) := by
  simp only [List.mem_cons, List.not_mem_nil, or_false, not_or] at ho
  obtain ⟨h1, h2, h3, h4⟩ := ho
  simp only [State.regWrite, hp, h1, h2, h3, h4, if_false]
  split
  · rfl
  · rfl

/-- A register without a row of its own, in a page or outside, takes its write as `hostWrite` says. -/
theorem State.regWrite_of_plain (h : (∃ mb, s.pageOf off = some mb ∧ off % 0x1000 ∉ [0x00C, 0x01C, 0x020, 0x024]) ∨
    (s.pageOf off = none ∧ off ∉ [0x024, 0x028, 0x02C, 0x40000])) : ∃ f, s.regWrite off v = s.hostWrite f := by
  obtain ⟨mb, hp, ho⟩ | ⟨hp, ho⟩ := h
  · exact ⟨_, State.regWrite_of_ringRegister hp ho⟩
  · exact ⟨_, State.regWrite_of_global hp ho⟩

end

/-- A mailbox's ring and message registers, by offset, and their defined bits. -/
theorem Mailbox.write_eq (m : Mailbox) (o : Nat) (v : Word) : m.write o v =
    if m.enable then m
    else if o = 0x000 then { m with sqBaseLo := v &&& 0xFFFFFFC0 }
    else if o = 0x004 then { m with sqBaseHi := v }
    else if o = 0x008 then { m with sqSize := v &&& 0x1F }
    else if o = 0x010 then { m with cqBaseLo := v &&& 0xFFFFFFC0 }
    else if o = 0x014 then { m with cqBaseHi := v }
    else if o = 0x018 then { m with cqSize := v &&& 0x1F }
    else if o = 0x028 then { m with msiLo := v &&& 0xFFFFFFFC }
    else if o = 0x02C then { m with msiHi := v }
    else if o = 0x030 then { m with msiData := v } else m := by
  unfold Mailbox.write
  refine ite_congr rfl (fun _ => rfl) fun _ => ?_
  split
  case h_10 h0 h1 h2 h3 h4 h5 h6 h7 h8 =>
    simp only [if_neg h0, if_neg h1, if_neg h2, if_neg h3, if_neg h4, if_neg h5, if_neg h6, if_neg h7, if_neg h8]
  all_goals rfl

/-- Offsets below the message registers, and those between them and the windows, hold none. -/
theorem Irq.write_outside {q : Irq} {off : Nat} (h : off < 0x040 ∨ 0x064 ≤ off) (v : Word) : q.write off v = q := by
  obtain h | h := h
  · simp [Irq.write, show off ≠ 0x040 by omega, show off ≠ 0x044 by omega, show ¬ 0x048 ≤ off by omega]
  · exact Irq.write_above h v

/-- The data register of source 17 + `n` (R568). -/
theorem Irq.write_msiData {q : Irq} {n : Nat} (h : n < 7) (v : Word) :
    q.write (0x048 + 4 * n) v = { q with msiData := setAt n (fun _ => v) q.msiData } := by
  rw [Irq.write, if_neg (by omega), if_neg (by omega), if_pos (by simp; omega)]
  simp

/-! ### Reads -/

section
variable {s : State} {port off : Nat}

theorem State.regRead_of_unreadable (h : s.readable off = false) : s.regRead port off = { s with rsp := 0 } := by
  simp [State.regRead, h]

variable (h : s.readable off = true)
include h

theorem State.regRead_timebase (ho : off = 0x030) : s.regRead port off = s.timebaseLo port := by
  rw [State.regRead, if_neg (by simp [h]), if_pos ho]

theorem State.regRead_debug (ho : 0x80000 ≤ off) : s.regRead port off = s.debugRead := by
  rw [State.regRead, if_neg (by simp [h]), if_neg (by omega), if_pos ho]

theorem State.regRead_value (ho : off ≠ 0x030) (hlow : off < 0x80000) :
    s.regRead port off = { s with rsp := s.regValue port off } := by
  rw [State.regRead, if_neg (by simp [h]), if_neg ho, if_neg (Nat.not_le_of_lt hlow)]

end

/-- Settles O9: an access that R555 denies is counted behind the wake that every access makes. -/
theorem unprivilegedAccessDenied : Obligations.UnprivilegedAccessDenied := by
  rintro s a hp hrange h r u rfl rfl
  exact congrArg Host.Outcome.next (State.access_of_denied rfl hp hrange h)

/-- Settles O8: what the window lets through acts by the register it meets. -/
theorem ringRegisterWrites : Obligations.RingRegisterWrites := by
  rintro s r a off v hoff rfl hr hallowed
  refine ⟨fun hbad => ?_, fun hal hw hst => ?_, fun hal hw u hu => ?_⟩
  · rw [hr]
    exact congrArg Host.Outcome.next ((State.access_of_allowed hoff hallowed).trans (if_pos hbad))
  · have hexec : exec (.registerWrite a) s = .next (r.regWrite off a.data) := by
      rw [hr]
      exact congrArg Host.Outcome.next ((State.access_of_allowed hoff hallowed).trans (by simp [hal, hw, hst]))
    have hpage : r.pageOf off = s.pageOf off := by rw [hr]; rfl
    have hready : r.lcs.ready = s.lcs.ready := by rw [hr]
    have hfront : r.frontEnd = s.frontEnd := by rw [hr]; rfl
    have hphase : r.sleep.phase = s.sleep.phase := by rw [hr]
    simp only [hexec, ← hpage, ← hready, ← hfront, ← hphase, ← State.touch_eq]
    refine ⟨?_, fun hp => ?_, fun hplain => ⟨fun hnot => ?_, fun hrdy hfe => ?_, ?_⟩⟩
    · rintro mb o hp rfl
      obtain ⟨hbell, hhead, hstat, hirq⟩ := State.regWrite_of_rowRegister (v := a.data) hp
      refine ⟨fun h => congrArg Host.Outcome.next (hbell h), fun h => congrArg Host.Outcome.next (hhead h), fun h => ?_,
        fun h => congrArg Host.Outcome.next (hirq h)⟩
      rw [hstat h]
      cases a.data.getLsbD 0 <;> rfl
    · obtain ⟨hstat, hmask, hmode, hsel⟩ := State.regWrite_of_globalRow (v := a.data) hp
      exact ⟨fun h => congrArg Host.Outcome.next (hstat h), fun h => congrArg Host.Outcome.next (hmask h),
        fun h => congrArg Host.Outcome.next (hmode h), fun h => congrArg Host.Outcome.next (hsel h)⟩
    · obtain ⟨f, hf⟩ := State.regWrite_of_plain (v := a.data) hplain
      rw [hf, State.hostWrite_of_notReady hnot]
    · obtain ⟨f, hf⟩ := State.regWrite_of_plain (v := a.data) hplain
      rw [hf, State.hostWrite_of_frontEnd hrdy hfe]
    · rintro hrdy hfe u rfl
      obtain ⟨mb, hp, ho⟩ | ⟨hp, ho⟩ := hplain
      · refine ⟨?_, fun hnone => (nomatch hp.symm.trans hnone)⟩
        rintro mb' o hp' rfl
        obtain rfl : mb = mb' := Option.some.inj (hp.symm.trans hp')
        rw [State.regWrite_of_ringRegister hp ho, State.hostWrite_of_live hrdy hfe]
        simp only [Mailbox.write_eq]
      · refine ⟨fun mb o hp' => (nomatch hp.symm.trans hp'), fun _ => ?_⟩
        rw [State.regWrite_of_global hp ho, State.hostWrite_of_live hrdy hfe]
        refine ⟨?_, ?_, ?_, fun h => by rw [if_pos h]; rfl, fun h => ?_⟩
        · rintro rfl
          rfl
        · rintro rfl
          rfl
        · rintro n hn rfl
          rw [if_neg (by omega), Irq.write_msiData hn]
        · rw [if_neg (by omega), Irq.write_outside (by omega)]
  · have hexec : exec (.registerWrite a) s = .next (u.regRead a.port off) := by
      have htouch : u = State.touch { s with rsp := 0 } := by rw [hu, hr]; rfl
      exact congrArg Host.Outcome.next ((State.access_of_allowed hoff hallowed).trans (by simp [hal, hw, htouch]))
    rw [hexec]
    refine ⟨fun h => by rw [State.regRead_of_unreadable h], fun h => ⟨fun ho => ?_, fun ho => ?_, fun ho hlow => ?_⟩⟩
    · rw [State.regRead_timebase h ho]
      rfl
    · rw [State.regRead_debug h ho]
      rfl
    · rw [State.regRead_value h ho hlow]

end Sys2Proof.Machine
end

section
/-! SUPPORT. Producing a completion (R81 to R86, R97, R102, R109): in a slot of its ring, held, behind an open ONLY, or in the
registers of the sideband. -/

namespace Sys2Proof.Machine

/-! ### A completion of a ring -/

section
variable {s : State} {mb : Nat} {c : Cpl}

theorem State.orderCpl_of_noneOpen (h : (s.mailbox mb).openOnly = []) : s.orderCpl mb c = s.emitCpl mb c := by
  simp [State.orderCpl, waitBehind, h]

/-- An ONLY or FIRST waits behind the youngest open ONLY (R102). -/
theorem State.orderCpl_of_open {l : List (Ticket × List Cpl)} {o : Ticket} {ws : List Cpl} (hk : c.kind = kONLY ∨ c.kind = kFIRST)
    (h : (s.mailbox mb).openOnly = l ++ [(o, ws)]) :
    s.orderCpl mb c = s.modMb mb (fun m => { m with openOnly := l ++ [(o, ws ++ [c])] }) := by
  have hwait : waitBehind c (l ++ [(o, ws)]) = some (l ++ [(o, ws ++ [c])]) := by
    rw [waitBehind, if_neg (by simp), if_pos (by simpa using hk), setAt_append_cons (by simp)]
  simp only [State.orderCpl, h, hwait]

theorem State.emitCpl_of_canWrite (h : (s.mailbox mb).canWrite = true) :
    s.emitCpl mb c = s.newId.writeCpl mb { c with seq := s.nextId, at_ := s.tick } :=
  if_pos h

theorem State.emitCpl_of_full (h : (s.mailbox mb).canWrite = false) :
    s.emitCpl mb c = s.newId.modMb mb (fun m => { m with held := holdCpl { c with seq := s.nextId, at_ := s.tick } m.held }) :=
  if_neg (by simpa [State.newId, State.mailbox] using h)

/-- A mailbox whose completion ring has its next slot filled: one credit is used, and PHASE inverts at the wrap (R81, R82). -/
def Mailbox.filled (m : Mailbox) (c : Cpl) : Mailbox :=
  let last := m.cqTail + 1 = 2 ^ m.cqLog
  { m with
    used := m.used + 1
    cqTail := if last then 0 else m.cqTail + 1
    phase := if last then !m.phase else m.phase
    outQ := m.outQ ++ [(c.seq, if c.kind = kPROGRESS then c.handle else 0)] }

theorem State.writeCpl_hfp (s : State) (mb : Nat) (c : Cpl) :
    (s.writeCpl mb c).hfp = s.hfp ++ [⟨s.nextId, srcTerr mb, s.tick, .cplWrite mb (s.mailbox mb).epoch (s.mailbox mb).cqTail
      (s.mailbox mb).phase (s.mailbox mb).sqHead c⟩] := rfl

theorem State.writeCpl_mailbox_self (h : mb < s.mbs.length) : (s.writeCpl mb c).mailbox mb = (s.mailbox mb).filled c :=
  State.modMb_mailbox_self (s := s.hfpIssue _ _) h _

theorem State.writeCpl_mailbox_ne {n : Nat} (h : n ≠ mb) : (s.writeCpl mb c).mailbox n = s.mailbox n :=
  State.modMb_mailbox_ne (s := s.hfpIssue _ _) h _

end

/-! ### A completion of a command -/

section
variable {s : State} {tk : Ticket} {st : Nat} {h : Handle}

theorem State.inconsistent_of_ne (hst : st ≠ stINTERNAL) : s.inconsistent tk st h = s := if_neg hst

theorem State.complete_of_ring (hsrc : tk.src ≠ .sideband) (kind fl off r0 r1 : Nat) :
    s.complete tk kind st h fl off r0 r1 =
      (s.inconsistent tk st h).orderCpl (srcMb tk.src) (mkCpl tk kind st h fl off r0 r1) := by
  unfold State.complete
  split
  · rename_i hside
    exact absurd hside hsrc
  · rfl

theorem State.complete_of_sideband (hsrc : tk.src = .sideband) (kind fl off r0 r1 : Nat) :
    s.complete tk kind st h fl off r0 r1 = (s.inconsistent tk st h).sbComplete (mkCpl tk kind st h fl off r0 r1) := by
  simp only [State.complete, hsrc]

/-- The sideband shows an ONLY or FINAL, sets DONE for BUSY and raises source 17 (R109). -/
theorem State.sbComplete_of_last {c : Cpl} (hk : c.kind = kONLY ∨ c.kind = kFINAL) :
    s.sbComplete c = (({ s with sb := { s.sb with cpl := c.bytes true 0, busy := false, done := true } }).modMb 16
      (fun m => { m with live := m.live - 1 })).raise 17 := by
  refine if_neg ?_
  obtain hk | hk := hk <;> simp [hk, kONLY, kFINAL, kFIRST, kPROGRESS]

end

/-- Settles O20: the completion goes the way of its source and of its mailbox. -/
theorem completionTakesOneSlot : Obligations.CompletionTakesOneSlot := by
  rintro s u tk kind st h fl off r0 r1 hu c rfl mb rfl
  have hmbs : u.mbs = s.mbs := by rw [hu, State.inconsistent_mbs]
  refine ⟨fun hst => hu.trans (State.inconsistent_of_ne hst), fun hsrc hnone hcan hmb => ?_, fun hsrc hnone hfull => ?_,
    fun hsrc hk l o ws hopen => ?_, fun hsrc hk => ?_⟩
  · refine ⟨_, rfl, ?_⟩
    rw [State.complete_of_ring hsrc, ← hu, State.orderCpl_of_noneOpen hnone, State.emitCpl_of_canWrite hcan,
      State.writeCpl_mailbox_self (s := u.newId) (hmbs ▸ hmb)]
    exact ⟨rfl, rfl, rfl, rfl, fun k hk => (State.writeCpl_mailbox_ne hk).trans (State.mailbox_congr hmbs k)⟩
  · rw [State.complete_of_ring hsrc, ← hu, State.orderCpl_of_noneOpen hnone, State.emitCpl_of_full hfull]
    rfl
  · rw [State.complete_of_ring hsrc, ← hu, State.orderCpl_of_open hk hopen]
    rfl
  · rw [State.complete_of_sideband hsrc, ← hu, State.sbComplete_of_last hk]
    rfl

end Sys2Proof.Machine
end

section
/-! SUPPORT. FW_QUERY and an opcode that is not assigned (R95, R113). -/

namespace Sys2Proof.Machine

/-- What FW_QUERY reports is no business of the ring's. -/
theorem State.take_fwRes (s : State) (src : Src) : (s.take src).fwRes0 = s.fwRes0 ∧ (s.take src).fwRes1 = s.fwRes1 := by
  simp only [State.fwRes0, State.fwRes1, State.take_boot, State.take_lcs, and_self]

/-- Settles O21: the accepted query's own effect, and the one outcome of a taken entry with an opcode of no row. -/
theorem firmwareQueryAnswers : Obligations.FirmwareQueryAnswers := by
  intro s src c
  refine ⟨fun hacc => ?_, fun hop htake => congrArg Host.Outcome.next (if_pos (by simp [hop, htake]))⟩
  obtain ⟨h0, h1⟩ := State.take_fwRes s src
  rw [exec_accepted hacc rfl rfl, h0, h1]
  rfl

end Sys2Proof.Machine
end

section
/-! SUPPORT. The sync commands (R117 to R123), case by case. -/

namespace Sys2Proof.Machine

/-! ### SYNC_CREATE -/

section
variable {s : State} {src : Src} {c : Bytes} {te : Terrace}

theorem State.syncCreate_of_room {i : Nat} (hte : s.terrace (hTerr (cHandle c)) = some te)
    (hroom : te.syncs.length < te.desc.syncQuota) (hi : i = Tbl.fresh te.syncs) :
    s.syncCreate src c = (s.modT (hTerr (cHandle c)) (fun te => { te with
      syncs := te.syncs.put i ⟨hGen (s.handleOf (hTerr (cHandle c)) tySync i), rd c 16 8, rd c 32 1, rd c 24 8, false, []⟩ })).only
        (ticketOf src c) stOK (s.handleOf (hTerr (cHandle c)) tySync i) 0 0 := by
  subst hi
  simp only [State.syncCreate, hte, if_neg (Nat.not_le_of_lt hroom)]

theorem State.syncCreate_of_full (hte : s.terrace (hTerr (cHandle c)) = some te) (hfull : te.desc.syncQuota ≤ te.syncs.length) :
    s.syncCreate src c = s.refuse (ticketOf src c) stNO_RESOURCE noField := by
  simp only [State.syncCreate, hte, if_pos hfull]

end

/-! ### SYNC_SIGNAL -/

/-- The mode of an accepted SYNC_SIGNAL other than ADVANCE_TO is ADD: check 3 refuses the reserved codes (R24, R119). -/
theorem syncSignalAdd_mode {s : State} {src : Src} {c : Bytes} (h : s.accepts (.syncSignalAdd src c) = true) : rd c 24 1 = 0 := by
  have hrow := accepted_row rfl h
  have hcode := accepted_body rfl h (rc c 24 1) List.mem_cons_self
  simp [rc, field, Chk.need] at hrow hcode
  omega

theorem syncSignalAdvanceTo_mode {s : State} {src : Src} {c : Bytes} (h : s.accepts (.syncSignalAdvanceTo src c) = true) :
    rd c 24 1 = 1 := by
  have hrow := accepted_row rfl h
  simp at hrow
  exact hrow.2

section
variable {s : State} {g : Signal} {x : SyncObj} (hx : s.sync g.handle = some x)
include hx

theorem State.applySignal_of_err (he : x.err = true) :
    s.applySignal g = s.finish g.ticket stDATA_ERROR g.ticket.handle noField 0 0 := by
  simp only [State.applySignal, hx, he, if_true]

/-- An ADD that would carry changes nothing (R120). -/
theorem State.applySignal_of_carry (he : x.err = false) (hm : g.mode = 0) (hv : 2 ^ 64 ≤ x.value + g.value) :
    s.applySignal g = s.finish g.ticket stBAD_FIELD g.ticket.handle 16 0 0 := by
  have hsig : x.signal g.mode g.value = none := by
    rw [SyncObj.signal, if_pos hm, if_neg (by simp only [max64]; omega)]
  simp only [State.applySignal, hx, he, hsig, Bool.false_eq_true, if_false]

theorem State.applySignal_of_value {v : Nat} (he : x.err = false)
    (hv : v = if g.mode = 0 then x.value + g.value else max x.value g.value) (hlt : g.mode = 0 → v < 2 ^ 64) :
    s.applySignal g = ((if v = x.value then s else s.syncSet g.handle v).finish g.ticket stOK g.handle noField v 0).tokRunAll
      (hTerr g.handle) := by
  have hsig : x.signal g.mode g.value = some v := by
    unfold SyncObj.signal
    split
    · rename_i hm
      rw [if_pos hm] at hv
      have hlt := hlt hm
      rw [if_pos (by simp only [max64]; omega), hv]
    · rename_i hm
      rw [hv, if_neg hm]
  simp only [State.applySignal, hx, he, hsig, Bool.false_eq_true, if_false]

end

/-! ### SYNC_WAIT -/

section
variable {s : State} {src : Src} {c : Bytes} {x : SyncObj} (hx : s.sync (cHandle c) = some x)
include hx

theorem State.syncWait_of_err (he : x.err = true) : s.syncWait src c = s.refuse (ticketOf src c) stDATA_ERROR noField := by
  simp only [State.syncWait, hx, he, if_true]

variable (he : x.err = false)
include he

theorem State.syncWait_of_reached (hv : rd c 16 8 ≤ x.value) :
    s.syncWait src c = s.only (ticketOf src c) stOK (cHandle c) x.value 0 := by
  simp only [State.syncWait, hx, he, hv, Bool.false_eq_true, if_false, if_true]

variable (hv : x.value < rd c 16 8)
include hv

theorem State.syncWait_of_room (hroom : x.waiters.length < 256) :
    s.syncWait src c = (s.modSync (cHandle c) (fun y => { y with
      waiters := y.waiters ++ [⟨ticketOf src c, rd c 16 8, rd c 24 8⟩] })).first (ticketOf src c) (cHandle c) := by
  simp only [State.syncWait, hx, he, if_neg (Nat.not_le_of_lt hv), if_neg (Nat.not_le_of_lt hroom), Bool.false_eq_true, if_false]

theorem State.syncWait_of_full (hfull : 256 ≤ x.waiters.length) :
    s.syncWait src c = s.refuse (ticketOf src c) stNO_RESOURCE noField := by
  simp only [State.syncWait, hx, he, if_neg (Nat.not_le_of_lt hv), if_pos hfull, Bool.false_eq_true, if_false]

end

theorem State.syncTimeout_eq {s : State} {n idx : Nat} {x : SyncObj}
    (hx : (s.terrace n).bind (fun te => te.syncs.get idx) = some x) :
    s.syncTimeout n idx = (s.modSync (mkHandle n tySync idx x.gen) (fun y => { y with
      waiters := y.waiters.filter (fun w => !w.due s.tick) })).forEach (x.waiters.filter (fun w => w.due s.tick))
        (fun s w => s.final w.ticket stOK (mkHandle n tySync idx x.gen) 0 noField x.value 1) := by
  simp only [State.syncTimeout, hx]

/-! ### SYNC_DESTROY -/

section
variable {s : State} {src : Src} {c : Bytes} {te : Terrace} (hte : s.terrace (hTerr (cHandle c)) = some te)
include hte

theorem State.syncDestroy_of_named (h : te.syncNamed (cHandle c) = true) :
    s.syncDestroy src c = s.refuse (ticketOf src c) stNOT_PERMITTED noField := by
  simp only [State.syncDestroy, hte, h, if_true]

theorem State.syncDestroy_of_free (h : te.syncNamed (cHandle c) = false) :
    s.syncDestroy src c = (((s.syncCancel (cHandle c)).modT (hTerr (cHandle c)) (fun te =>
      { te with syncs := te.syncs.del (hIndex (cHandle c)) })).bumpGen (hTerr (cHandle c)) tySync (hIndex (cHandle c))).only
        (ticketOf src c) stOK (cHandle c) 0 0 := by
  simp only [State.syncDestroy, hte, h, Bool.false_eq_true, if_false]

end

/-- Settles O40: each accepted command's own effect, by the lemma of its case, and what a noted signal and time-out do. -/
theorem syncCommandsAct : Obligations.SyncCommandsAct := by
  rintro s u src c tk h t rfl rfl rfl rfl
  refine ⟨fun te i hacc hte hi => ?_, fun hacc => ?_, fun hacc => ?_, fun g x hx => ?_, fun x hacc hx => ?_, fun _ _ => rfl, ?_,
    rfl, fun te hacc hte => ?_⟩
  · rw [exec_accepted hacc rfl rfl]
    exact ⟨fun hroom => congrArg Host.Outcome.next (State.syncCreate_of_room hte hroom hi),
      fun hfull => congrArg Host.Outcome.next (State.syncCreate_of_full hte hfull)⟩
  · rw [exec_accepted hacc rfl rfl, State.syncSignal, syncSignalAdd_mode hacc]
  · rw [exec_accepted hacc rfl rfl, State.syncSignal, syncSignalAdvanceTo_mode hacc]
  · exact ⟨State.applySignal_of_err hx, State.applySignal_of_carry hx, fun v => State.applySignal_of_value hx⟩
  · rw [exec_accepted hacc rfl rfl]
    exact ⟨fun he => congrArg Host.Outcome.next (State.syncWait_of_err hx he),
      fun he hv => congrArg Host.Outcome.next (State.syncWait_of_reached hx he hv),
      fun he hv hroom => congrArg Host.Outcome.next (State.syncWait_of_room hx he hv hroom),
      fun he hv hfull => congrArg Host.Outcome.next (State.syncWait_of_full hx he hv hfull)⟩
  · rintro n idx x g hx rfl
    exact State.syncTimeout_eq hx
  · rw [exec_accepted hacc rfl rfl]
    exact ⟨fun hnamed => congrArg Host.Outcome.next (State.syncDestroy_of_named hte hnamed),
      fun hfree => congrArg Host.Outcome.next (State.syncDestroy_of_free hte hfree)⟩

end Sys2Proof.Machine
end

section
/-! SUPPORT. Queries and reports (R113, R295, R361, R551): the taking of their entry and their completion are all they do. -/

namespace Sys2Proof.Machine

/-! ### What a query may change -/

/-- `t` comes from `s` by the taking of an entry and by completions: rings, ports towards the host and the registers of the
sideband aside, nothing of it has moved. -/
structure State.Answers (s t : State) : Prop where
  terr    : t.terr = s.terr
  tasks   : t.tasks = s.tasks
  cnt     : t.cnt = s.cnt
  faults  : t.faults = s.faults
  turn    : t.sched.turn = s.sched.turn
  start   : t.sched.start = s.sched.start
  lcs     : t.lcs = s.lcs
  pwr     : t.pwr = s.pwr
  mp      : t.mp = s.mp
  tick    : t.tick = s.tick
  fuses   : t.fuses = s.fuses
  gens    : t.gens = s.gens
  pending : t.pending = s.pending

namespace State.Answers

variable {s t : State}

theorem refl (s : State) : s.Answers s := ⟨rfl, rfl, rfl, rfl, rfl, rfl, rfl, rfl, rfl, rfl, rfl, rfl, rfl⟩

/-- A change of the rings, the host port, the interrupts, the sideband and the sleep's waits alone. -/
theorem mk_ports {irq : Irq} {sb : Sideband} {mbs : List Mailbox} {hfp : List HfpOp} {nextId : Nat} {sleep : Sleep}
    (h : s.Answers t) :
    s.Answers { t with irq := irq, sb := sb, mbs := mbs, hfp := hfp, nextId := nextId, sleep := sleep } :=
  ⟨h.terr, h.tasks, h.cnt, h.faults, h.turn, h.start, h.lcs, h.pwr, h.mp, h.tick, h.fuses, h.gens, h.pending⟩

theorem take (h : s.Answers t) (src : Src) : s.Answers (t.take src) := by
  have hsched : (t.take src).sched = { t.sched with worked := true } := by
    cases src <;> simp [State.take]
  constructor
  case turn => rw [hsched, ← h.turn]
  case start => rw [hsched, ← h.start]
  all_goals simp [h.terr, h.tasks, h.cnt, h.faults, h.lcs, h.pwr, h.mp, h.tick, h.fuses, h.gens, h.pending]

/-- A completion files a report with INTERNAL alone. -/
theorem complete (h : s.Answers t) {st : Nat} (hst : st ≠ stINTERNAL) (tk : Ticket) (k : Nat) (hd : Handle) (fl off r0 r1 : Nat) :
    s.Answers (t.complete tk k st hd fl off r0 r1) := by
  by_cases hsrc : tk.src = .sideband
  · obtain ⟨_, _, _, _, _, e⟩ := State.sbComplete_changes t (mkCpl tk k st hd fl off r0 r1)
    rw [State.complete_of_sideband hsrc, State.inconsistent_of_ne hst, e]
    exact h.mk_ports
  · obtain ⟨_, _, _, e⟩ := State.orderCpl_changes t (srcMb tk.src) (mkCpl tk k st hd fl off r0 r1)
    rw [State.complete_of_ring hsrc, State.inconsistent_of_ne hst, e]
    exact h.mk_ports

theorem only (h : s.Answers t) {st : Nat} (hst : st ≠ stINTERNAL) (tk : Ticket) (hd : Handle) (r0 r1 : Nat) :
    s.Answers (t.only tk st hd r0 r1) := h.complete hst ..

theorem refuse (h : s.Answers t) {st : Nat} (hst : st ≠ stINTERNAL) (tk : Ticket) (off : Nat) :
    s.Answers (t.refuse tk st off) := h.complete hst ..

/-- The command's ONLY comes behind a write to the host. -/
theorem defer_hfpIssue (h : s.Answers t) (tk : Ticket) (n : Nat) (k : HfpKind) : s.Answers ((t.defer tk).hfpIssue n k) := by
  obtain ⟨_, e⟩ := State.defer_changes t tk
  rw [e]
  exact h.mk_ports

theorem awaitDomain (h : s.Answers t) (src : Src) (op : Nat) : s.Answers (t.awaitDomain src op) := h.mk_ports

end State.Answers

/-! ### No check answers INTERNAL -/

/-- The check passes, or fails with a status other than INTERNAL. -/
def Chk.Plain (c : Chk) : Prop := c.all (fun e => e.1 != stINTERNAL) = true

namespace Chk

theorem Plain.ne {st off : Nat} (h : Chk.Plain (some (st, off))) : st ≠ stINTERNAL := by
  simpa [Plain] using h

theorem plain_some {st : Nat} (h : st ≠ stINTERNAL) (off : Nat) : Chk.Plain (some (st, off)) := by
  simpa [Plain] using h

@[simp] theorem plain_none : Chk.Plain none := rfl

theorem plain_need {st : Nat} (h : st ≠ stINTERNAL) (ok : Bool) (off : Nat) : Chk.Plain (Chk.need ok st off) := by
  unfold Chk.need
  split
  · exact plain_none
  · exact plain_some h off

@[simp] theorem plain_field (ok : Bool) (off : Nat) : Chk.Plain (field ok off) := plain_need (by decide) ok off
@[simp] theorem plain_rz (c : Bytes) (off size : Nat) : Chk.Plain (rz c off size) := plain_field ..
@[simp] theorem plain_rm (c : Bytes) (off size mask : Nat) : Chk.Plain (rm c off size mask) := plain_field ..
@[simp] theorem plain_rc (c : Bytes) (off top : Nat) : Chk.Plain (rc c off top) := plain_field ..

theorem plain_ite {p : Prop} [Decidable p] {a b : Chk} (ha : Chk.Plain a) (hb : Chk.Plain b) : Chk.Plain (if p then a else b) := by
  split
  · exact ha
  · exact hb

theorem plain_first {l : List Chk} (h : ∀ c ∈ l, Chk.Plain c) : Chk.Plain (Chk.first l) := by
  induction l with
  | nil => exact plain_none
  | cons c l ih =>
    cases c with
    | none => exact ih fun d hd => h d (List.mem_cons_of_mem _ hd)
    | some e => exact h _ List.mem_cons_self

end Chk

theorem State.checkHandle_plain (s : State) (own : Option Nat) (f : HField) (h : Nat) : Chk.Plain (s.checkHandle own f h) := by
  unfold State.checkHandle
  refine Chk.plain_ite Chk.plain_none (Chk.plain_ite (Chk.plain_some (by decide) _) (Chk.plain_ite (Chk.plain_some (by decide) _)
    (Chk.plain_ite (Chk.plain_some (by decide) _) (Chk.plain_ite (Chk.plain_some (by decide) _) ?_))))
  split
  · exact Chk.plain_some (by decide) _
  · exact Chk.plain_ite Chk.plain_none (Chk.plain_some (by decide) _)
  · exact Chk.plain_none

theorem State.checkHandles_plain (s : State) (own : Option Nat) (b : Bytes) (base : Nat) (l : List HField) :
    Chk.Plain (s.checkHandles own b base l) := by
  induction l with
  | nil => exact Chk.plain_none
  | cons f l ih =>
    unfold State.checkHandles
    have h := s.checkHandle_plain own f (rd b (f.off - base) 4)
    split
    · rename_i e he
      exact he ▸ h
    · exact ih

theorem State.checkMailbox_plain (s : State) (src : Src) (sh : Shape) (c : Bytes) : Chk.Plain (s.checkMailbox src sh c) := by
  unfold State.checkMailbox
  dsimp only
  split
  · refine Chk.plain_first ?_
    simp only [List.forall_mem_cons, List.not_mem_nil, false_imp_iff, implies_true, and_true]
    exact ⟨Chk.plain_need (by decide) .., Chk.plain_need (by decide) .., Chk.plain_need (by decide) ..⟩
  · refine Chk.plain_first ?_
    simp only [List.forall_mem_cons, List.not_mem_nil, false_imp_iff, implies_true, and_true]
    exact ⟨Chk.plain_need (by decide) .., Chk.plain_need (by decide) .., Chk.plain_need (by decide) ..⟩

/-- Checks 2 to 5 of R95 answer no INTERNAL where those of the body and of XBODY answer none. -/
theorem State.intakeChk_plain (s : State) {src : Src} {sh : Shape} {c : Bytes} (hb : ∀ x ∈ sh.body c, Chk.Plain x)
    (hx : ∀ x ∈ sh.xbody c, Chk.Plain x) : Chk.Plain (s.intakeChk src sh c) := by
  refine Chk.plain_first ?_
  simp only [List.forall_mem_append, List.forall_mem_cons, List.not_mem_nil, false_imp_iff, implies_true, and_true]
  refine ⟨⟨⟨⟨s.checkMailbox_plain src sh c, Chk.plain_rm .., Chk.plain_rz .., Chk.plain_ite (Chk.plain_rz ..) Chk.plain_none,
    Chk.plain_rz ..⟩, hb⟩, ?_⟩, Chk.plain_need (by decide) .., s.checkHandles_plain ..⟩
  split
  · exact hx
  · simp

/-- A command whose checks answer no INTERNAL, and whose own effect is a report, is one. -/
theorem State.Answers.command {s : State} {sh : Shape} {row : Bool} {src : Src} {c : Bytes} {own : State → Chk} {act : State → State}
    (hb : ∀ x ∈ sh.body c, Chk.Plain x) (hx : ∀ x ∈ sh.xbody c, Chk.Plain x) (hown : ∀ s, Chk.Plain (own s))
    (hact : ∀ t, s.Answers t → s.Answers (act t)) : s.Answers (s.command sh row src c own act) := by
  have htake : s.Answers (s.take src) := (State.Answers.refl s).take src
  unfold State.command
  split
  · split
    · exact (State.Answers.refl s).awaitDomain src sh.op
    · dsimp only
      split
      · rename_i he
        have h := he ▸ (s.take src).intakeChk_plain hb hx
        exact htake.refuse h.ne _ _
      · split
        · rename_i he
          have h := he ▸ hown (s.take src)
          exact htake.refuse h.ne _ _
        · exact hact _ htake
  · exact State.Answers.refl s

/-! ### The queries -/

section
variable {s t : State} (h : s.Answers t) (src : Src) (c : Bytes)
include h

theorem State.Answers.readCounters : s.Answers (t.readCounters src c) := by
  unfold State.readCounters
  split
  · exact h.only (by decide) ..
  · exact h.defer_hfpIssue ..

theorem State.Answers.readFaults : s.Answers (t.readFaults src c) := by
  unfold State.readFaults
  dsimp only
  split
  · split
    · exact h.only (by decide) ..
    · exact h.only (by decide) ..
  · exact h.defer_hfpIssue ..

theorem State.Answers.reqQuery : s.Answers (t.reqQuery src c) := by
  unfold State.reqQuery
  dsimp only
  split
  · exact h.refuse (by decide) ..
  · split
    · exact h.only (by decide) ..
    · exact h.defer_hfpIssue ..

/-- The query form of STEP_PORT_CONFIG has no effect of its own. -/
theorem State.Answers.spQuery : s.Answers (t.spConfig src c (fun s _ => s)) := by
  unfold State.spConfig
  dsimp only
  split
  · exact h.refuse (by decide) ..
  · exact h.only (by decide) ..

end

theorem chkCountersRead_plain (s : State) (c : Bytes) : (s.chkCountersRead c).Plain := by
  refine Chk.plain_first ?_
  split <;> simp

section
variable (s : State) (src : Src) (c : Bytes)

theorem execFwQuery_answers : ∃ t, execFwQuery src c s = .next t ∧ s.Answers t :=
  ⟨_, rfl, .command (by simp [shFW_QUERY]) (by simp [shFW_QUERY]) (fun _ => Chk.plain_none) fun _ h => h.only (by decide) ..⟩

theorem execCommandUnassigned_answers : ∃ t, execCommandUnassigned src c s = .next t ∧ s.Answers t := by
  refine ⟨_, rfl, ?_⟩
  split
  · exact ((State.Answers.refl s).take src).refuse (by decide) ..
  · exact .refl s

theorem countersRead_answers {row : Bool} {act : State → State} (hact : ∀ t, s.Answers t → s.Answers (act t)) :
    s.Answers (s.command shCOUNTERS_READ row src c (fun s => s.chkCountersRead c) act) := by
  refine .command ?_ (by simp [shCOUNTERS_READ]) (fun s => chkCountersRead_plain s c) hact
  simp only [shCOUNTERS_READ]
  split <;> simp

theorem execReqQuery_answers : ∃ t, execReqQuery src c s = .next t ∧ s.Answers t :=
  ⟨_, rfl, .command (by simp [shREQ_QUERY]) (by simp [shREQ_QUERY]) (fun _ => Chk.plain_field ..) fun _ h => h.reqQuery src c⟩

theorem execStepPortConfigQuery_answers : ∃ t, execStepPortConfigQuery src c s = .next t ∧ s.Answers t := by
  refine ⟨_, rfl, .command ?_ (by simp [shSTEP_PORT_CONFIG]) (fun _ => Chk.plain_none) fun _ h => h.spQuery src c⟩
  simp only [shSTEP_PORT_CONFIG]
  split <;> simp

end

/-- Settles O60: each of the six rows leaves what `State.Answers` names. -/
theorem queriesChangeNoTerrace : Obligations.QueriesChangeNoTerrace := by
  intro s t src c i hi he
  have answers : ∃ t', exec i s = .next t' ∧ s.Answers t' := by
    simp only [List.mem_cons, List.not_mem_nil, or_false] at hi
    obtain rfl | rfl | rfl | rfl | rfl | rfl := hi
    · exact execFwQuery_answers s src c
    · exact execCommandUnassigned_answers s src c
    · exact ⟨_, rfl, countersRead_answers s src c fun _ h => h.readCounters src c⟩
    · exact ⟨_, rfl, countersRead_answers s src c fun _ h => h.readFaults src c⟩
    · exact execReqQuery_answers s src c
    · exact execStepPortConfigQuery_answers s src c
  obtain ⟨t', ht', h⟩ := answers
  obtain rfl : t' = t := by simpa [ht'] using he
  exact ⟨h.terr, h.tasks, h.cnt, h.faults, h.turn, h.start, h.lcs, h.pwr, h.mp, h.tick, h.fuses, h.gens, h.pending⟩

end Sys2Proof.Machine
end

section
/-! SUPPORT. Wake events (R494, R495, R497, R590): the first pending one fixes the tick, and the sequencer acts where it can. -/

namespace Sys2Proof.Machine

/-! ### Latching and acting -/

/-- The sleep's registers behind a wake event of source `src`: the first pending one fixes the tick, and those of its tick are
reported together (R494). -/
def Sleep.latch (l : Sleep) (now : Tick) (src : Nat) : Sleep :=
  if l.wakeAt = none then { l with wakeAt := some now, wakeSrc := src }
  else if l.wakeAt = some now then { l with wakeSrc := l.wakeSrc ||| src }
  else l

section
variable (l : Sleep) (now : Tick) (src : Nat)

theorem Sleep.latch_phase : (l.latch now src).phase = l.phase := by
  unfold Sleep.latch
  split
  · rfl
  · split <;> rfl

theorem Sleep.latch_stage : (l.latch now src).stage = l.stage := by
  unfold Sleep.latch
  split
  · rfl
  · split <;> rfl

theorem Sleep.latch_wakeAt : (l.latch now src).wakeAt ≠ none := by
  unfold Sleep.latch
  split
  · exact Option.some_ne_none _
  · split <;> assumption

end

theorem State.latchWake_of_asleep {s : State} (h : s.sleep.phase ≠ .awake) (src : Nat) :
    s.latchWake src = State.actWake { s with sleep := s.sleep.latch s.tick src } := by
  refine (if_neg h).trans (congrArg (fun l => State.actWake { s with sleep := l }) ?_)
  unfold Sleep.latch
  cases s.sleep.wakeAt <;> simp

/-- A pending wake is acted on at an abort point, in S1, in S2 and in S3 (R493, R500), and stays pending elsewhere. -/
theorem State.actWake_of_pending {s : State} (h : s.sleep.wakeAt ≠ none) :
    (s.sleep.phase = .entering →
      (s.sleep.stage ≤ 4 → s.actWake = s.abandon) ∧ (4 < s.sleep.stage → s.actWake = s)) ∧
    (s.sleep.phase = .s1 → s.actWake = s.finishSleep 0) ∧
    (s.sleep.phase = .s2 → s.actWake = s.exitClocks) ∧
    (s.sleep.phase = .s3 → s.actWake = s.exitVolt) ∧
    (s.sleep.phase ∉ [.entering, .s1, .s2, .s3] → s.actWake = s) := by
  rw [State.actWake, if_neg (by simpa using h)]
  refine ⟨fun hp => ⟨fun hst => ?_, fun hst => ?_⟩, fun hp => ?_, fun hp => ?_, fun hp => ?_, fun hp => ?_⟩
  · simp only [hp, if_pos hst]
  · simp only [hp, if_neg (Nat.not_le_of_lt hst)]
  · simp only [hp]
  · simp only [hp]
  · simp only [hp]
  · simp only [List.mem_cons, List.not_mem_nil, or_false, not_or] at hp
    obtain ⟨h1, h2, h3, h4⟩ := hp
    split
    · exact absurd ‹_› h1
    · exact absurd ‹_› h2
    · exact absurd ‹_› h3
    · exact absurd ‹_› h4
    · rfl

/-! ### The events -/

/-- The events that count in their phase, each with its source and what SP_ATTN's pin holds behind it. -/
def State.wakesBy (s : State) (i : Instr) (src : Nat) (b : Bool) : Prop :=
  (i = .sidebandWake ∧ src = 2 ∧ b = s.spAttn) ∨
  (i = .wakeAlarm ∧ s.sleep.alarm ≠ 0 ∧ s.sleep.alarm ≤ s.tick ∧ s.sleep.phase ≠ .quiesce ∧
    src = (if s.sleep.ticket.isSome then 4 else 32) ∧ b = s.spAttn) ∨
  (i = .spAttn ∧ (s.pwr.spAwake = false ∨ s.sleep.phase = .s1) ∧ (s.sleep.attnWake = true ∨ s.sleep.ticket = none) ∧
    src = 8 ∧ b = true) ∨
  (i = .s1Wake .hfpAccess ∧ s.sleep.phase = .s1 ∧ src = 16 ∧ b = s.spAttn) ∨
  (i = .s1Wake .spIValid ∧ s.sleep.phase = .s1 ∧ src = 0 ∧ b = s.spAttn) ∨
  (i = .s1Wake .timer ∧ s.sleep.phase = .s1 ∧ s.sleep.alarm ≠ 0 ∧ s.sleep.alarm ≤ s.tick ∧ src = 32 ∧ b = s.spAttn)

section
variable {s : State}

theorem State.alarmDue_of_passed (h0 : s.sleep.alarm ≠ 0) (h : s.sleep.alarm ≤ s.tick) : s.alarmDue = true := by
  simp [State.alarmDue, h0, h]

theorem State.alarmDue_of_pending (h : s.sleep.alarm = 0 ∨ s.tick < s.sleep.alarm) : s.alarmDue = false := by
  simpa [State.alarmDue, Classical.or_iff_not_imp_left] using h

theorem exec_of_wakesBy {i : Instr} {src : Nat} {b : Bool} (h : s.wakesBy i src b) :
    exec i s = .next (State.latchWake { s with spAttn := b } src) := by
  obtain ⟨rfl, rfl, rfl⟩ | ⟨rfl, h0, hdue, hq, rfl, rfl⟩ | ⟨rfl, hpin, hcmd, rfl, rfl⟩ | ⟨rfl, hp, rfl, rfl⟩ |
    ⟨rfl, hp, rfl, rfl⟩ | ⟨rfl, hp, h0, hdue, rfl, rfl⟩ := h
  · rfl
  · exact congrArg Host.Outcome.next (if_pos (by simp [State.alarmDue_of_passed h0 hdue, hq]))
  · have hpin : ¬ (s.pwr.spAwake && s.sleep.phase ≠ .s1) = true := by simpa [Classical.or_iff_not_imp_left] using hpin
    have hcmd : (s.sleep.attnWake || s.sleep.ticket.isNone) = true := by simpa using hcmd
    exact congrArg Host.Outcome.next ((if_neg hpin).trans (if_pos hcmd))
  · exact congrArg Host.Outcome.next (if_neg (by simp [hp]))
  · exact congrArg Host.Outcome.next (if_neg (by simp [hp]))
  · exact congrArg Host.Outcome.next ((if_neg (by simp [hp])).trans (if_pos (State.alarmDue_of_passed h0 hdue)))

/-! ### Automatic S1 (R495) -/

theorem State.autoS1_of_idle (hr : s.running = true) (hs : s.sched.sealed = false) (h0 : s.pwr.s1Idle ≠ 0) (hi : s.idle = true)
    (ht : s.sleep.idleSince + s.pwr.s1Idle ≤ s.tick) :
    s.autoS1 = { s with sleep := { s.sleep with
      ticket := none, goal := 1, attnWake := true, failed := false, alarm := (s.timers.min?).getD 0, wakeSrc := 0
      wakeAt := none, since := s.tick, phase := .entering, stage := 1, code := 4 } } := by
  rw [State.autoS1, if_neg (by simp [hr, hs, h0, hi, ht])]
  rfl

theorem State.autoS1_of_busy (h : s.running = false ∨ s.sched.sealed = true ∨ s.pwr.s1Idle = 0 ∨ s.idle = false ∨
    s.tick < s.sleep.idleSince + s.pwr.s1Idle) : s.autoS1 = s :=
  if_pos (by simpa [or_assoc] using h)

/-! ### The restored block -/

theorem State.pinFill_sleep (s : State) (h : Handle) (o : Obj) : (s.pinFill h o).sleep = s.sleep := by
  refine State.forEach_same (v := State.sleep) ?_ _ s
  intro t v
  rfl

theorem State.refillPins_sleep (s : State) : s.refillPins.sleep = s.sleep := by
  refine State.forEach_same (v := State.sleep) (fun t x => ?_) _ s
  refine State.forEach_same (v := State.sleep) ?_ _ t
  intro t o
  exact State.pinFill_sleep ..

/-- What the wake rebuilds stands in the terraces, the cores, the counters and the memory ports: which groups were kept stays
known. -/
theorem State.restore_sleep (s : State) :
    (((s.forEach s.lostBanks State.rebuildBank).dropMasks.dropScratch).refillPins).sleep = s.sleep := by
  have bank : ∀ (t : State) (q : Nat), (t.rebuildBank q).sleep = t.sleep := fun t q =>
    State.forEach_same (v := State.sleep) (fun t x => by simp) _ t
  rw [State.refillPins_sleep]
  exact State.forEach_same bank _ s

theorem State.wakeRestored_of_waking {u : State} (h : s.sleep.phase = .waking)
    (hu : u = ((s.forEach s.lostBanks State.rebuildBank).dropMasks.dropScratch).refillPins) :
    s.wakeRestored = if bit s.keptGroups 2 then u.finishSleep 0 else u.restart := by
  have hkept : u.keptGroups = s.keptGroups := by
    rw [State.keptGroups, State.keptGroups, hu, State.restore_sleep]
  rw [State.wakeRestored, if_neg (by simp [h])]
  dsimp only
  rw [← hu, hkept]
  cases bit s.keptGroups 2 <;> rfl

end

/-- Settles O50: an event that counts latches and acts, and one that does not leaves the state; the rest by the lemma of
its row. -/
theorem wakeEventsAreLatched : Obligations.WakeEventsAreLatched := by
  intro s
  refine ⟨fun i src b h => ?_, fun h => ?_, fun h => ?_, fun h => ?_, fun hp k => ?_, fun hr hs h0 hi ht => ?_, fun h => ?_,
    fun hp u hu => ?_, fun hp => ?_, fun h => ?_, fun h => ?_, fun h => ?_, fun h => ?_⟩
  · rw [exec_of_wakesBy h]
    refine ⟨fun ha => ?_, fun ha u hu => ?_⟩
    · rw [State.awake_latchWake (s := { s with spAttn := b }) ha]
    · have hsleep : u.sleep = s.sleep.latch s.tick src := by rw [hu]; rfl
      have hlatch : State.latchWake { s with spAttn := b } src = u.actWake := by
        rw [State.latchWake_of_asleep (s := { s with spAttn := b }) ha, hu]
        rfl
      have hact := State.actWake_of_pending (s := u) (by rw [hsleep]; exact Sleep.latch_wakeAt _ _ _)
      rw [hsleep, Sleep.latch_phase, Sleep.latch_stage] at hact
      obtain ⟨hent, h1, h2, h3, hrest⟩ := hact
      rw [hlatch]
      exact ⟨fun hp => ⟨fun hst => congrArg Host.Outcome.next ((hent hp).1 hst),
          fun hst => congrArg Host.Outcome.next ((hent hp).2 hst)⟩,
        fun hp => congrArg Host.Outcome.next (h1 hp), fun hp => congrArg Host.Outcome.next (h2 hp),
        fun hp => congrArg Host.Outcome.next (h3 hp), fun hp => congrArg Host.Outcome.next (hrest hp)⟩
  · refine congrArg Host.Outcome.next (if_neg ?_)
    rw [← or_assoc] at h
    obtain h | h := h
    · simp [State.alarmDue_of_pending h]
    · simp [h]
  · refine congrArg Host.Outcome.next (ite_eq_left_iff.2 fun _ => if_neg ?_)
    simp [State.alarmDue_of_pending h]
  · obtain ⟨hon, hp⟩ | ⟨hno, htk⟩ := h
    · exact congrArg Host.Outcome.next (if_pos (by simp [hon, hp]))
    · refine congrArg Host.Outcome.next (ite_eq_left_iff.2 fun _ => if_neg ?_)
      simpa [hno, Option.isSome_iff_ne_none] using htk
  · exact congrArg Host.Outcome.next (if_pos hp)
  · exact congrArg Host.Outcome.next (State.autoS1_of_idle hr hs h0 hi ht)
  · exact congrArg Host.Outcome.next (State.autoS1_of_busy h)
  · have hexec : exec .wakeRestoreDone s = .next (if bit s.keptGroups 2 then u.finishSleep 0 else u.restart) :=
      congrArg Host.Outcome.next (State.wakeRestored_of_waking hp hu)
    exact ⟨fun hkept => by rw [hexec, if_pos hkept], fun hlost => by rw [hexec, if_neg (by simp [hlost])]⟩
  · exact congrArg Host.Outcome.next (if_pos hp)
  · exact congrArg Host.Outcome.next (if_pos h)
  · exact congrArg Host.Outcome.next (if_pos h)
  · exact congrArg Host.Outcome.next (if_neg (show ¬ s.sleep.teWait.isSome = true by simp [h]))
  · exact congrArg Host.Outcome.next (if_neg (show ¬ s.sleep.rbWait.isSome = true by simp [h]))

end Sys2Proof.Machine
end

section
/-! SUPPORT. Responses of the host fabric (R79, R85, R86, R116, R585): which of them end an operation, and what each then does. -/

namespace Sys2Proof.Machine

/-! ### Which responses count -/

section
variable {s : State} {op : Nat}

/-- Without an operation, and while the block hears none, a response is discarded. -/
theorem hfp_discards (h : s.hfpOp op = none ∨ s.hears = false) (d : HostData) (resp : BitVec 2) :
    exec (.hfpReadResponse op d) s = .next s ∧ exec (.hfpWriteAck op resp) s = .next s ∧
      exec (.hfpResponseTimeout op) s = .next s := by
  simp only [exec, execHfpReadResponse, execHfpWriteAck, execHfpResponseTimeout, State.hfpLate]
  cases ho : s.hfpOp op with
  | none => simp
  | some o =>
    have hh : s.hears = false := h.resolve_left (by simp [ho])
    simp [hh]

variable {o : HfpOp} (ho : s.hfpOp op = some o)
include ho

theorem exec_hfpReadResponse (d : HostData) : exec (.hfpReadResponse op d) s =
    .next (if s.hears && o.kind.reads then (s.hfpDone op).hfpData o.kind d else s) := by
  simp only [exec, execHfpReadResponse, ho]

theorem exec_hfpWriteAck (resp : BitVec 2) : exec (.hfpWriteAck op resp) s =
    .next (if s.hears && !o.kind.reads then (s.hfpDone op).hfpWritten o.kind (resp = 0) else s) := by
  simp only [exec, execHfpWriteAck, ho]

theorem exec_hfpResponseTimeout_early (h : s.tick < o.at_ + 100000) : exec (.hfpResponseTimeout op) s = .next s := by
  simp [exec, execHfpResponseTimeout, State.hfpLate, ho, h]

/-- After 100,000 ticks the operation ends as an error would end it (R585). -/
theorem exec_hfpResponseTimeout_late (h : o.at_ + 100000 ≤ s.tick) :
    (o.kind.reads = true → exec (.hfpResponseTimeout op) s = exec (.hfpReadResponse op .error) s) ∧
    (o.kind.reads = false → exec (.hfpResponseTimeout op) s = exec (.hfpWriteAck op 2) s) := by
  have hlate : exec (.hfpResponseTimeout op) s = .next (if s.hears then
      (if o.kind.reads then (s.hfpDone op).hfpData o.kind .error else (s.hfpDone op).hfpWritten o.kind false) else s) := by
    simp only [exec, execHfpResponseTimeout, State.hfpLate, ho]
    cases s.hears <;> simp [Nat.not_lt_of_le h]
  refine ⟨fun hk => ?_, fun hk => ?_⟩
  · rw [hlate, exec_hfpReadResponse ho]
    simp [hk]
  · rw [hlate, exec_hfpWriteAck ho]
    simp [hk]

variable (hh : s.hears = true)
include hh

theorem exec_hfpReadResponse_of_read (hk : o.kind.reads = true) (d : HostData) :
    exec (.hfpReadResponse op d) s = .next ((s.hfpDone op).hfpData o.kind d) := by
  rw [exec_hfpReadResponse ho, if_pos (by simp [hh, hk])]

theorem exec_hfpWriteAck_of_write (hk : o.kind.reads = false) (resp : BitVec 2) :
    exec (.hfpWriteAck op resp) s = .next ((s.hfpDone op).hfpWritten o.kind (resp = 0)) := by
  rw [exec_hfpWriteAck ho, if_pos (by simp [hh, hk])]

end

/-! ### Entries read ahead -/

section
variable {s : State} {mb ep : Nat} {d : HostData}

/-- An entry of a ring no longer in force, or of a mailbox that has stopped, is dropped. -/
theorem State.entryRead_of_stale
    (h : (s.mailbox mb).enable = false ∨ (s.mailbox mb).error = true ∨ (s.mailbox mb).epoch ≠ ep) (idx : Nat) :
    s.entryRead mb ep idx d = s :=
  if_pos (by simpa [or_assoc] using h)

variable (hen : (s.mailbox mb).enable = true) (herr : (s.mailbox mb).error = false) (hep : (s.mailbox mb).epoch = ep)
include hen herr hep

theorem State.entryRead_of_error (hd : partsOf d = none) (idx : Nat) : s.entryRead mb ep idx d = s.mbError mb 4 := by
  simp [State.entryRead, hen, herr, hep, hd]

theorem State.entryRead_of_entry {x : Bytes} (hd : partsOf d = some x) (idx : Nat) :
    s.entryRead mb ep idx d =
      s.modMb mb (fun m => if m.inRange idx then { m with ahead := m.ahead.put idx x } else m) := by
  simp [State.entryRead, hen, herr, hep, hd]

end

/-! ### Completions acknowledged -/

/-- What follows a FINAL by its opcode: source 21 after a POWER_SLEEP, the reset's delay after a LIFECYCLE_ADVANCE. -/
theorem State.afterFinal_cases (s : State) (c : Cpl) :
    (c.kind = kFINAL → c.opcode = 0x08 → s.afterFinal c = s.raise 21) ∧
    (c.kind = kFINAL → c.opcode = 0x06 → s.afterFinal c = s.advanceWritten) ∧
    (c.kind ≠ kFINAL ∨ (c.opcode ≠ 0x08 ∧ c.opcode ≠ 0x06) → s.afterFinal c = s) := by
  refine ⟨fun hk ho => ?_, fun hk ho => ?_, fun h => ?_⟩
  · simp [State.afterFinal, hk, ho]
  · simp [State.afterFinal, hk, ho]
  · obtain hk | ⟨h8, h6⟩ := h
    · simp [State.afterFinal, hk]
    · simp [State.afterFinal, h8, h6]

theorem State.cplVisible_eq (s : State) (mb : Nat) (c : Cpl) : s.cplVisible mb c =
    ((if c.kind = kONLY ∨ c.kind = kFINAL then s.modMb mb (fun m => { m with live := m.live - 1 }) else s).announceCpl
      mb c.noIrq).afterFinal c := by
  simp only [State.cplVisible, Bool.or_eq_true, decide_eq_true_eq]

/-- Settles O56: the response ends the operation, and each kind acts by its own lemma. -/
theorem hostFabricAnswers : Obligations.HostFabricAnswers := by
  intro s op
  refine ⟨fun h d resp => hfp_discards h d resp, fun o ho => ⟨fun hk resp => ?_, fun hk d => ?_,
    exec_hfpResponseTimeout_early ho, exec_hfpResponseTimeout_late ho, fun hh u hu => ⟨?_, fun resp => ?_⟩⟩⟩
  · rw [exec_hfpWriteAck ho, if_neg (by simp [hk])]
  · rw [exec_hfpReadResponse ho, if_neg (by simp [hk])]
  · rintro d _ rfl
    have read : ∀ k, o.kind = k → k.reads = true → exec (.hfpReadResponse op d) s = .next (u.hfpData k d) := by
      rintro k rfl hr
      rw [exec_hfpReadResponse_of_read ho hh hr, hu]
    refine ⟨fun mb ep idx m hk hm => ?_, fun id as hk => read _ hk rfl, fun h p a n hk => read _ hk rfl,
      fun h as hk => read _ hk rfl, fun h v a hk => read _ hk rfl, fun hk => read _ hk rfl, fun hk => read _ hk rfl⟩
    have hmb : u.mailbox mb = m := by rw [hm, hu]; rfl
    have hexec : exec (.hfpReadResponse op d) s = .next (u.entryRead mb ep idx d) := read _ hk rfl
    rw [hexec, ← hmb]
    exact ⟨fun hstale => congrArg Host.Outcome.next (State.entryRead_of_stale hstale idx),
      fun hen herr hep => ⟨fun hd => congrArg Host.Outcome.next (State.entryRead_of_error hen herr hep hd idx),
        fun x hd => congrArg Host.Outcome.next (State.entryRead_of_entry hen herr hep hd idx)⟩⟩
  · have write : ∀ k, o.kind = k → k.reads = false →
        exec (.hfpWriteAck op resp) s = .next (u.hfpWritten k (resp = 0)) := by
      rintro k rfl hr
      rw [exec_hfpWriteAck_of_write ho hh hr, hu]
    refine ⟨fun mb ep sl ph hd c hk => ?_, fun n a v hk => ?_, fun t h v hk => ?_, fun h a n ph r hk => ?_,
      fun id a b sy hk => write _ hk rfl, fun h k a b hk => ?_, fun tk a b r0 r1 hk => ?_⟩
    · rw [write _ hk rfl]
      simp only [State.hfpWritten, decide_eq_true_eq]
      refine ⟨fun hresp => by rw [if_neg hresp], fun hresp v hv => ?_⟩
      rw [if_pos hresp, State.cplVisible_eq, ← hv]
      obtain ⟨h8, h6, hno⟩ := State.afterFinal_cases v c
      exact ⟨fun hk ho => congrArg Host.Outcome.next (h8 hk ho), fun hk ho => congrArg Host.Outcome.next (h6 hk ho),
        fun h => congrArg Host.Outcome.next (hno h)⟩
    · rw [write _ hk rfl]
      simp only [State.hfpWritten, decide_eq_true_eq]
    · rw [write _ hk rfl]
      simp only [State.hfpWritten, decide_eq_true_eq]
    · rw [write _ hk rfl]
      simp only [State.hfpWritten, decide_eq_true_eq]
    · rw [write _ hk rfl]
      simp only [State.hfpWritten, decide_eq_true_eq, apply_ite (fun s => State.tokRunAll s (hTerr h))]
    · rw [write _ hk rfl]
      simp only [State.hfpWritten, decide_eq_true_eq]

end Sys2Proof.Machine
end

section
/-! SUPPORT. The flash port and tier T2 (R148 to R150, R511, R592, R593): the mount, the operations of jobs and background work,
case by case. -/

namespace Sys2Proof.Machine

/-! ### The mount -/

section
variable {s : State}

/-- FLASH records stand in the logs alone: they move nothing that the mount reads. -/
theorem State.flashFaults_keep (s : State) (l : List Nat) :
    (s.forEach l (fun s _ => flashFault s)).lcs = s.lcs ∧ (s.forEach l (fun s _ => flashFault s)).medium = s.medium ∧
      (s.forEach l (fun s _ => flashFault s)).flash = s.flash ∧ (s.forEach l (fun s _ => flashFault s)).tick = s.tick :=
  ⟨State.forEach_same (v := State.lcs) (fun s _ => s.fault_lcs ..) l s,
    State.forEach_same (v := State.medium) (fun s _ => s.fault_medium ..) l s,
    State.forEach_same (v := State.flash) (fun s _ => s.fault_flash ..) l s,
    State.forEach_same (v := State.tick) (fun s _ => s.fault_tick ..) l s⟩

theorem State.mountDone_of_noMount (h : s.mounting = false) : s.mountDone = s := if_pos (by simp [h])

/-- Without a trained channel the mount fails (R593). -/
theorem State.mountDone_of_noChannel (h : s.mounting = true) (hphy : ∀ r ∈ s.flash.phyReady, r = false) :
    s.mountDone = s.mountFails := by
  have hany : s.flash.phyReady.any id = false := by simpa using hphy
  simp [State.mountDone, h, hany]

theorem State.mountDone_of_channel (h : s.mounting = true) (hphy : ∃ r ∈ s.flash.phyReady, r = true) {m : Medium}
    (hm : m = { s.medium with blocks := s.medium.known s.flash.fit }) :
    s.mountDone = { s.forEach (List.range s.flash.excluded) (fun s _ => flashFault s) with
      lcs := { s.lcs with t2Ready := true }, medium := m
      flash := { s.flash with usable := m.usableGib, reserve := m.good / unitsPerGib - m.usableGib
                              maps := s.medium.ckpt, prog := []
                              jobs := s.flash.jobs.map (fun o => { o with at_ := s.tick }) } } := by
  have hany : s.flash.phyReady.any id = true := by simpa using hphy
  obtain ⟨hlcs, hmedium, hflash, htick⟩ := s.flashFaults_keep (List.range s.flash.excluded)
  simp [State.mountDone, h, hany, hlcs, hmedium, hflash, htick, hm]

end

/-! ### Operations of jobs -/

section
variable {s : State} {o : FlashOp} {n : Nat} {b : FBlock} (hready : s.lcs.t2Ready = true)
include hready

section
variable (ho : s.flash.jobs.find? (fun o => o.job.writes) = some o) (hn : s.freeBlock = some n)
  (hb : s.medium.blocks[n]? = some b)
include ho hn hb

/-- A program that failed retires its block (R149). -/
theorem State.flashReady_of_failed : s.flashReady b.chan b.target false = (s.modBlock n FBlock.program).retireBlock n := by
  simp [State.flashReady, ho, hn, hb, hready]

theorem State.flashReady_of_piece {h : Handle} {v first count : Nat}
    (hp : (s.jobPieces o.job)[s.flash.prog.length]? = some (h, v, first, count)) :
    s.flashReady b.chan b.target true = { s.modBlock n FBlock.program with
      flash := { s.flash with prog := s.flash.prog ++ [⟨h, v, first, count, n⟩] } } := by
  simp [State.flashReady, ho, hn, hb, hready, hp, State.modBlock]

/-- Behind the last piece the mapping changes, and what waited for the copy goes on (R150). -/
theorem State.flashReady_of_allPieces (hp : (s.jobPieces o.job)[s.flash.prog.length]? = none) :
    s.flashReady b.chan b.target true = ({ s with
      flash := { s.flash with maps := mapOver s.liveMaps s.flash.prog, prog := [] }
      medium := { s.medium with ckpt := mapOver s.liveMaps s.flash.prog } }.dropJob o).jobWritten o.job := by
  simp [State.flashReady, ho, hn, hb, hready, hp]

end

theorem State.flashRead_of_job (ho : s.flash.jobs.find? (fun o => !o.job.writes) = some o) (data : Bytes) (retry : Nat) :
    s.flashRead data retry = ((s.readBlocks o.job.source (if data = [] then Config.deepestRetry else retry)).dropJob o).jobRead
      o.job data := by
  simp [State.flashRead, ho, hready]

end

section
variable {s : State}

/-- No target of the medium is ready, no job writes, or the target is another than that of the next free block. -/
theorem State.flashReady_of_noJob {chan target : Nat} {ok : Bool}
    (h : s.lcs.t2Ready = false ∨ s.flash.jobs.find? (fun o => o.job.writes) = none ∨
      ∀ n, s.freeBlock = some n → ∀ b, s.medium.blocks[n]? = some b → b.chan ≠ chan ∨ b.target ≠ target) :
    s.flashReady chan target ok = s := by
  unfold State.flashReady
  split
  · rename_i o n ho hn
    refine if_pos ?_
    obtain h | h | h := h
    · simp [h]
    · cases ho.symm.trans h
    · have hb := h n hn
      cases hblock : s.medium.blocks[n]? with
      | none => simp
      | some b => simpa using Or.inr (a := s.lcs.t2Ready = false) (hb b hblock)
  · rfl

theorem State.flashRead_of_noJob (h : s.lcs.t2Ready = false ∨ s.flash.jobs.find? (fun o => !o.job.writes) = none)
    (data : Bytes) (retry : Nat) : s.flashRead data retry = s := by
  unfold State.flashRead
  obtain h | h := h <;> simp [h]

end

/-! ### Background work -/

section
variable {s : State}

theorem State.ftlWork_of_busy (h : s.lcs.t2Ready = false ∨ s.running = false ∨ s.slotWork = true ∨ s.flash.jobs ≠ [])
    (w : FtlWork) : s.ftlWork w = s :=
  if_pos (by simpa [or_assoc] using h)

theorem State.refreshBlock_of_block {p : FBlock → Bool} {b : Nat × FBlock} (hb : s.dataBlocks.find? (fun b => p b.2) = some b) :
    s.refreshBlock p =
      ((s.moveBlock b.1).modBlock b.1 (fun x => { x with reads := 0, due := false })).count cT2_REFRESH noTerr locBlock 1 := by
  simp only [State.refreshBlock, hb, State.tally]

theorem State.refreshBlock_of_none {p : FBlock → Bool} (hb : s.dataBlocks.find? (fun b => p b.2) = none) :
    s.refreshBlock p = s := by
  simp only [State.refreshBlock, hb]

/-- When background work runs: T2 is ready, the turns run, and neither the running turn nor T2 has work that waits (R149). -/
structure State.FlashIdle (s : State) : Prop where
  ready : s.lcs.t2Ready = true
  runs  : s.running = true
  idle  : s.slotWork = false
  jobs  : s.flash.jobs = []

/-- What `ftlWork` tests first. -/
theorem State.FlashIdle.guard (h : s.FlashIdle) :
    (!s.lcs.t2Ready || !s.running || s.slotWork || !s.flash.jobs.isEmpty) = false := by
  simp [h.ready, h.runs, h.idle, h.jobs]

variable (h : s.FlashIdle)
include h

theorem State.ftlWork_staticWear_of_block {n : Nat} (hn : s.wearBlock = some n) : s.ftlWork .staticWear = s.moveBlock n := by
  simp [State.ftlWork, h.guard, hn]

theorem State.ftlWork_staticWear_of_none (hn : s.wearBlock = none) : s.ftlWork .staticWear = s := by
  simp [State.ftlWork, h.guard, hn]

theorem State.ftlWork_refresh {w : FtlWork} {p : FBlock → Bool}
    (hw : (w = .disturbRefresh ∧ p = fun b : FBlock => decide (s.disturbReads ≤ b.reads)) ∨
      (w = .retentionRefresh ∧ p = fun b => b.due)) : s.ftlWork w = s.refreshBlock p := by
  obtain ⟨rfl, rfl⟩ | ⟨rfl, rfl⟩ := hw
  · simp [State.ftlWork, h.guard]
  · simp [State.ftlWork, h.guard]

theorem State.ftlWork_retire_of_block {n : Nat} (hn : s.freeBlock = some n) :
    s.ftlWork .retire = (s.modBlock n FBlock.program).retireBlock n := by
  simp [State.ftlWork, h.guard, hn]

theorem State.ftlWork_retire_of_none (hn : s.freeBlock = none) : s.ftlWork .retire = s := by
  simp [State.ftlWork, h.guard, hn]

end

/-- Settles O48: each row acts by the lemma of its case. -/
theorem flashEventsAct : Obligations.FlashEventsAct := by
  intro s
  refine ⟨fun hm => ⟨fun m hphy hmed => ?_, ?_, fun hearly => ?_⟩, fun hm => ⟨?_, ?_⟩,
    fun hready => ⟨fun o n b ho hn hb => ⟨?_, fun h v first count hp => ?_, fun hp => ?_⟩, fun o chan retry data ho => ?_⟩,
    fun chan target ok h => ?_, fun chan data retry h => ?_, fun _ _ => rfl, fun hready hrun hslot hjobs => ?_, fun w h => ?_⟩
  · exact congrArg Host.Outcome.next (State.mountDone_of_channel hm hphy hmed)
  · rintro u rfl
    exact ⟨fun hphy => congrArg Host.Outcome.next (State.mountDone_of_noChannel hm hphy),
      fun hlate => congrArg Host.Outcome.next (if_pos (by simp [hm, hlate]))⟩
  · exact congrArg Host.Outcome.next (if_neg (by simp [hearly]))
  · exact congrArg Host.Outcome.next (State.mountDone_of_noMount hm)
  · exact congrArg Host.Outcome.next (if_neg (by simp [hm]))
  · exact congrArg Host.Outcome.next (State.flashReady_of_failed hready ho hn hb)
  · exact congrArg Host.Outcome.next (State.flashReady_of_piece hready ho hn hb hp)
  · exact congrArg Host.Outcome.next (State.flashReady_of_allPieces hready ho hn hb hp)
  · exact congrArg Host.Outcome.next (State.flashRead_of_job hready ho data retry)
  · exact congrArg Host.Outcome.next (State.flashReady_of_noJob h)
  · exact congrArg Host.Outcome.next (State.flashRead_of_noJob h data retry)
  · have hidle : s.FlashIdle := ⟨hready, hrun, hslot, hjobs⟩
    refine ⟨fun n hn => congrArg Host.Outcome.next (State.ftlWork_staticWear_of_block hidle hn),
      fun hn => congrArg Host.Outcome.next (State.ftlWork_staticWear_of_none hidle hn), fun w p hw => ?_,
      fun n hn => congrArg Host.Outcome.next (State.ftlWork_retire_of_block hidle hn),
      fun hn => congrArg Host.Outcome.next (State.ftlWork_retire_of_none hidle hn)⟩
    have href := State.ftlWork_refresh hidle hw
    exact ⟨fun b hb => congrArg Host.Outcome.next (href.trans (State.refreshBlock_of_block hb)),
      fun hb => congrArg Host.Outcome.next (href.trans (State.refreshBlock_of_none hb))⟩
  · exact congrArg Host.Outcome.next (State.ftlWork_of_busy h w)

end Sys2Proof.Machine
end

section
/-! SUPPORT. TERRACE_CREATE (R415, R452, R464): the terrace it makes, and what of the state the making leaves alone. -/

namespace Sys2Proof.Machine

theorem noiseBytes_length (k n : Nat) : (noiseBytes k n).length = 8 * ceilDiv n 8 := by
  simp only [noiseBytes, List.length_flatMap, le_length, List.map_const', List.length_range, List.sum_replicate_nat]
  exact Nat.mul_comm _ 8

theorem Drbg.generate_live (d : Drbg) : d.generate.live = d.live := by
  simp only [Drbg.generate]

/-! ### The terrace of a descriptor -/

/-- What TERRACE_CREATE makes of a descriptor before its DRBG is instantiated. -/
def State.newTerrace (s : State) (d : TDesc) (expert : Bool) : Terrace :=
  { mkTerrace s.cfg d expert s.fresh with t1At0 := s.placeT1 d 0, t1At1 := s.placeT1 d 1 }

/-- Terrace `t` starts as `te`, with empty logs and an instantiated DRBG. -/
def State.startTerrace (s : State) (t : Nat) (te : Terrace) : State :=
  { s.freshLogs t with terr := s.terr.put t te, fresh := s.fresh + 20 }.instantiate t

section
variable (s : State) (t : Nat) (te : Terrace)

@[simp] theorem State.startTerrace_tasks : (s.startTerrace t te).tasks = s.tasks := rfl
@[simp] theorem State.startTerrace_mp : (s.startTerrace t te).mp = s.mp := rfl
@[simp] theorem State.startTerrace_irq : (s.startTerrace t te).irq = s.irq := rfl
@[simp] theorem State.startTerrace_mbs : (s.startTerrace t te).mbs = s.mbs := rfl
@[simp] theorem State.startTerrace_hfp : (s.startTerrace t te).hfp = s.hfp := rfl

theorem State.startTerrace_terrace_ne {n : Nat} (h : n ≠ t) : (s.startTerrace t te).terrace n = s.terrace n :=
  (State.modT_terrace_ne h _).trans (Tbl.get_put_ne h te)

/-- Of the terrace itself the instantiation changes the DRBG alone, which then holds state (R415). -/
theorem State.startTerrace_terrace_self :
    ∃ g : Drbg, g.live = true ∧ (s.startTerrace t te).terrace t = some { te with drbg := g } := by
  refine ⟨_, ?_, (State.modT_terrace_self _ t _).trans (congrArg (Option.map _) (Tbl.get_put_self ..))⟩
  exact Drbg.generate_live _

end

theorem State.terraceCreate_of_checks {s : State} {src : Src} {c d : Bytes}
    (h : s.createChk (rd c 24 1) (.okay d) = none) {u : State}
    (hu : u = s.startTerrace (rd c 24 1) (s.newTerrace (parseDesc d) (bit (rd c 25 1) 0))) :
    s.terraceCreate src c (.okay d) =
      u.only (ticketOf src c) stOK (u.terrHandle (rd c 24 1)) (parseDesc d).dataBytes (parseDesc d).liveSlots := by
  subst hu
  simp only [State.terraceCreate, h]
  rfl

/-- Settles O22: a failed check refuses, and else `startTerrace` makes the terrace of the descriptor and leaves the rest. -/
theorem terraceCreateMakesTerrace : Obligations.TerraceCreateMakesTerrace := by
  intro s src c d
  refine ⟨fun desc st off hacc hchk => ?_, fun hacc hchk => ?_⟩
  · rw [exec_accepted hacc rfl rfl]
    exact congrArg Host.Outcome.next (terraceCreate_refuses hchk)
  · rw [exec_accepted hacc rfl rfl, State.terraceCreate_of_checks hchk rfl]
    obtain ⟨g, hlive, hte⟩ := (s.take src).startTerrace_terrace_self (rd c 24 1)
      ((s.take src).newTerrace (parseDesc d) (bit (rd c 25 1) 0))
    refine ⟨_, _, rfl, hte, fun n hn => ?_, rfl, rfl, noiseBytes_length _ 96, hlive, rfl, rfl, rfl, rfl, rfl, rfl, rfl, rfl,
      ?_⟩
    · exact (State.startTerrace_terrace_ne _ _ _ hn).trans (State.terrace_congr (State.take_terr s src) n)
    · simp

end Sys2Proof.Machine
end

section
/-! SUPPORT. OBJ_CREATE, OBJ_LOAD, OBJ_SEAL and OBJ_REPLACE (R131 to R134, R138), case by case. -/

namespace Sys2Proof.Machine

/-! ### A command on its object (R131) -/

section
variable {s : State} {tk : Ticket} {h : Handle} {f : Obj → State} {o : Obj} (ho : s.obj h = some o)
include ho

theorem State.onObj_of_state (hst : o.state ≤ osDESTROYING) : s.onObj tk h f = f o := by
  simp only [State.onObj, ho, if_pos hst]

/-- An object outside the states of R130 ends the command. -/
theorem State.onObj_of_noState (hst : osDESTROYING < o.state) : s.onObj tk h f = s.refuse tk stINTERNAL noField := by
  simp only [State.onObj, ho, if_neg (Nat.not_le_of_lt hst)]

end

/-! ### OBJ_CREATE -/

section
variable {s : State} {src : Src} {c : Bytes} {te : Terrace} (hte : s.terrace (hTerr (cHandle c)) = some te)
include hte

theorem State.objCreate_of_error : s.objCreate src c .error = s.refuse (ticketOf src c) stDATA_ERROR noField := by
  unfold State.objCreate
  dsimp only
  rw [hte]

variable {b : Bytes}

theorem State.objCreate_of_badHeader {st off : Nat} (hb : s.headerChk te b (rd c 24 4) = some (st, off)) :
    s.objCreate src c (.okay b) = s.refuse (ticketOf src c) st off := by
  unfold State.objCreate
  dsimp only
  rw [hte]
  dsimp only
  rw [hb]

theorem State.objCreate_of_goodHeader {h : Handle} {o : Obj} (hb : s.headerChk te b (rd c 24 4) = none)
    (hh : h = s.handleOf (hTerr (cHandle c)) (hdKind b) (te.freshObj (hTerr (cHandle c)) (hdKind b)))
    (ho : o = { kind := hdKind b, gen := hGen h, state := osLOADING, overlay := hdOverlay b, uid := hdUid b, dep := hdDep b
                base := rd c 24 4, hint := rd c 28 1, cur := 0, nextVer := 1, versions := [], header := b, chunks := []
                t0Kib := 0, pinned := false, cold := rd c 28 1 = 3, t1Gone := false, ticket := none, sealing := none }) :
    s.objCreate src c (.okay b) =
      (s.modT (hTerr (cHandle c)) (fun te => { te with objs := te.objs.put (hKey h) o })).only (ticketOf src c) stOK h
        (t1Bytes (hdLines b)) 0 := by
  subst hh ho
  unfold State.objCreate
  dsimp only
  rw [hte]
  dsimp only
  rw [hb]

end

/-! ### OBJ_LOAD, OBJ_SEAL and OBJ_REPLACE -/

section
variable {s : State} {src : Src} {c : Bytes} {o : Obj} (ho : s.obj (cHandle c) = some o) (hst : o.state ≤ osDESTROYING)
include ho hst

theorem State.objLoad_of_unloadable (hl : o.loadable = false) :
    s.objLoad src c = s.refuse (ticketOf src c) stNOT_PERMITTED noField :=
  (State.onObj_of_state ho hst).trans (if_pos (by simp [hl]))

theorem State.objLoad_of_loadable (hl : o.loadable = true) {v : State} (hv : v = s.first (ticketOf src c) (cHandle c)) :
    s.objLoad src c = (v.addTask (hTerr (cHandle c)) 3 4 (hIndex (cHandle c)) (ticketOf src c)
      (.objLoad (cHandle c) (rd c 24 8) (rd c 32 4)) none).hfpIssue (hTerr (cHandle c))
        (.taskRead v.nextId [(rd c 16 8, rd c 32 4)]) := by
  subst hv
  exact (State.onObj_of_state ho hst).trans (if_neg (by simp [hl]))

theorem State.objSeal_of_unloaded (hl : o.loadable = false ∨ allLoaded o.chunks (hdSize o.hdr) = false) :
    s.objSeal src c = s.refuse (ticketOf src c) stNOT_PERMITTED noField :=
  (State.onObj_of_state ho hst).trans (if_pos (by simpa using hl))

/-- The image is read back from T1, and the object of a first sealing is SEALING meanwhile (R134). -/
theorem State.objSeal_of_loaded (hl : o.loadable = true) (hall : allLoaded o.chunks (hdSize o.hdr) = true) :
    s.objSeal src c = ((s.modObj (cHandle c) (fun o => { o with
      state := if o.state = osLOADING then osSEALING else o.state, ticket := some (ticketOf src c)
      sealing := some (rd c 16 1, rd c 24 8, rd c 32 4) })).defer (ticketOf src c)).mpOwn (hTerr (cHandle c))
        (.sealRead (cHandle c)) :=
  (State.onObj_of_state ho hst).trans (if_neg (by simp [hl, hall]))

/-- A vocabulary is replaced as an overlay only (R141). -/
theorem State.objReplace_of_irreplaceable (hr : o.state ≠ osREADY ∨ (o.kind = tyVocab ∧ o.overlay = false)) :
    s.objReplace src c = s.refuse (ticketOf src c) stNOT_PERMITTED noField :=
  (State.onObj_of_state ho hst).trans (if_pos (by simpa using hr))

theorem State.objReplace_of_ready (hr : o.state = osREADY) (hk : o.kind ≠ tyVocab ∨ o.overlay = true) {v : State}
    (hv : v = s.first (ticketOf src c) (cHandle c)) :
    s.objReplace src c = (v.addTask (hTerr (cHandle c)) 3 4 (hIndex (cHandle c)) (ticketOf src c)
      (.objReplace (cHandle c) (rd c 24 1) (rd c 28 4) (rd c 32 8) (cExp c && bit (rd c 48 4) 0)) none).hfpIssue
        (hTerr (cHandle c)) (.taskRead v.nextId [(rd c 16 8, 0)]) := by
  subst hv
  refine (State.onObj_of_state ho hst).trans (if_neg ?_)
  obtain hk | hk := hk <;> simp [hr, hk]

end

/-- Settles O30: each accepted command's own effect, by the lemma of its case. -/
theorem objectLoadingStarts : Obligations.ObjectLoadingStarts := by
  rintro s u src c tk g rfl rfl rfl
  refine ⟨?_, fun o i ho hst hi hacc => ?_,
    fun o ho hst => ⟨fun hacc => ?_, fun hacc => ?_, fun hacc => ?_⟩⟩
  · rintro te _ rfl hte
    refine ⟨fun hacc => ?_, fun b hacc => ?_⟩
    · rw [exec_accepted hacc rfl rfl]
      exact congrArg Host.Outcome.next (State.objCreate_of_error hte)
    · rw [exec_accepted hacc rfl rfl]
      exact ⟨fun st off hb => congrArg Host.Outcome.next (State.objCreate_of_badHeader hte hb),
        fun h o hb hh ho => congrArg Host.Outcome.next (State.objCreate_of_goodHeader hte hb hh ho)⟩
  · simp only [List.mem_cons, List.not_mem_nil, or_false] at hi
    obtain rfl | rfl | rfl := hi
    all_goals
      rw [exec_accepted hacc rfl rfl]
      exact congrArg Host.Outcome.next (State.onObj_of_noState ho hst)
  · rw [exec_accepted hacc rfl rfl]
    exact ⟨fun hl => congrArg Host.Outcome.next (State.objLoad_of_unloadable ho hst hl),
      fun hl => congrArg Host.Outcome.next (State.objLoad_of_loadable ho hst hl rfl)⟩
  · rw [exec_accepted hacc rfl rfl]
    exact ⟨fun hl => congrArg Host.Outcome.next (State.objSeal_of_unloaded ho hst hl),
      fun hl hall => congrArg Host.Outcome.next (State.objSeal_of_loaded ho hst hl hall)⟩
  · rw [exec_accepted hacc rfl rfl]
    exact ⟨fun hr => congrArg Host.Outcome.next (State.objReplace_of_irreplaceable ho hst hr),
      fun hr hk => congrArg Host.Outcome.next (State.objReplace_of_ready ho hst hr hk rfl)⟩

end Sys2Proof.Machine
end

section
/-! SUPPORT. OBJ_DESTROY, OBJ_HINT, OBJ_QUERY and RELOAD_LIMIT_EXPIRY (R131, R135, R136, R146, R155), case by case. -/

namespace Sys2Proof.Machine

/-! ### OBJ_DESTROY -/

section
variable {s : State} {src : Src} {c : Bytes} {te : Terrace} {o : Obj} (hte : s.terrace (hTerr (cHandle c)) = some te)
  (ho : s.obj (cHandle c) = some o)
include hte ho

theorem State.objDestroy_of_noState (hst : osDESTROYING < o.state) :
    s.objDestroy src c = s.refuse (ticketOf src c) stINTERNAL noField := by
  simp only [State.objDestroy, hte, State.onObj_of_noState ho hst]

variable (hst : o.state ≤ osDESTROYING)
include hst

theorem State.objDestroy_of_base (hb : te.isBase (cHandle c) = true) :
    s.objDestroy src c = s.refuse (ticketOf src c) stNOT_PERMITTED noField := by
  simp only [State.objDestroy, hte, State.onObj_of_state ho hst, hb, if_true]

variable (hb : te.isBase (cHandle c) = false) {v : State} (hv : v = s.first (ticketOf src c) (cHandle c))
include hb hv

theorem State.objDestroy_of_loading (hl : o.ostate = osLOADING) :
    s.objDestroy src c = (v.freeObj (cHandle c)).final (ticketOf src c) stOK (cHandle c) 0 noField 0 0 := by
  simp only [State.objDestroy, hte, State.onObj_of_state ho hst, hb, hv, hl, Bool.false_eq_true, if_false, if_true]

/-- A lost object's users end with it (R135). -/
theorem State.objDestroy_of_lost (hl : o.ostate = osLOST) :
    s.objDestroy src c = ((v.forEach o.versions (fun s x => s.endUsers (cHandle c) x.num stOBJECT_LOST)).freeObj
      (cHandle c)).final (ticketOf src c) stOK (cHandle c) 0 noField 0 0 := by
  have hload : osLOST ≠ osLOADING := by decide
  simp only [State.objDestroy, hte, State.onObj_of_state ho hst, hb, hv, hl, hload, Bool.false_eq_true, if_false, if_true]

theorem State.objDestroy_of_live (hload : o.ostate ≠ osLOADING) (hlost : o.ostate ≠ osLOST) :
    s.objDestroy src c = (v.modObj (cHandle c) (fun o => { o with
      state := osDESTROYING, ticket := some (ticketOf src c) })).settleObj (cHandle c) := by
  simp only [State.objDestroy, hte, State.onObj_of_state ho hst, hb, hv, hload, hlost, Bool.false_eq_true, if_false]

end

/-! ### OBJ_HINT -/

/-- A pin that fits, or that stands already, passes the test of R146. -/
theorem pinMisfit_eq_false {hint : Nat} {pinned fits : Bool} (h : hint = 1 → pinned = true ∨ fits = true) :
    (decide (hint = 1) && !pinned && !fits) = false := by
  by_cases hh : hint = 1
  · obtain hp | hf := h hh
    · simp [hp]
    · simp [hf]
  · simp [hh]

/-- Where a hint has no lines to fill, it takes effect at once. -/
theorem State.hintNow_of_noFill {s : State} {h : Handle} {o : Obj} {tk : Ticket} {hint : Nat}
    (hfill : hint = 1 → o.pinned = true ∨ o.t0Need = 0) :
    s.hintNow h o tk hint = (s.modObj h (fun o => { applyHint hint o with ticket := none })).finish tk stOK h noField 0 0 := by
  refine if_neg ?_
  simp only [Bool.and_eq_true, decide_eq_true_eq, Bool.not_eq_true', not_and, ne_eq, Decidable.not_not]
  rintro ⟨hh, hp⟩
  exact (hfill hh).resolve_left (by simp [hp])

section
variable {s : State} {src : Src} {c : Bytes} {te : Terrace} {o : Obj} (hte : s.terrace (hTerr (cHandle c)) = some te)
  (ho : s.obj (cHandle c) = some o)
include hte ho

theorem State.objHint_of_noState (hst : osDESTROYING < o.state) :
    s.objHint src c = s.refuse (ticketOf src c) stINTERNAL noField := by
  simp only [State.objHint, hte, State.onObj_of_noState ho hst]

variable (hst : o.state ≤ osDESTROYING)
include hst

theorem State.objHint_of_loading (hload : o.state = osLOADING) :
    s.objHint src c = (s.modObj (cHandle c) (fun o => { o with
      hint := rd c 16 1, cold := rd c 16 1 = 3 })).only (ticketOf src c) stOK (cHandle c) 0 0 := by
  simp only [State.objHint, hte, State.onObj_of_state ho hst, hload, if_true]

variable (hload : o.state ≠ osLOADING)
include hload

theorem State.objHint_of_pinTooLarge (hh : rd c 16 1 = 1) (hp : o.pinned = false) (hfit : te.pinFits o.kind o.t0Need = false) :
    s.objHint src c = s.refuse (ticketOf src c) stNO_RESOURCE noField := by
  simp [State.objHint, hte, State.onObj_of_state ho hst, hload, hh, hp, hfit]

/-- PIN fills the lines of every version before OK. -/
theorem State.objHint_of_pin (hh : rd c 16 1 = 1) (hgone : o.t1Gone = false) (hp : o.pinned = false)
    (hfit : te.pinFits o.kind o.t0Need = true) (hneed : o.t0Need ≠ 0) :
    s.objHint src c = ((s.defer (ticketOf src c)).modObj (cHandle c) (fun o => { o with
      ticket := some (ticketOf src c), hint := 1, cold := false })).pinFill (cHandle c) o := by
  simp [State.objHint, State.hintNow, hte, State.onObj_of_state ho hst, hload, hh, hp, hfit, hgone, hneed]

section
variable (hh : rd c 16 1 = 3)
include hh

theorem State.objHint_of_coldAlready (hcold : o.cold = true) :
    s.objHint src c = (s.modObj (cHandle c) (applyHint 3)).only (ticketOf src c) stOK (cHandle c) 0 0 := by
  simp [State.objHint, hte, State.onObj_of_state ho hst, hload, hh, hcold]

theorem State.objHint_of_cold_failed (hcold : o.cold = false) (hfail : s.boot.t2Failed = true) :
    s.objHint src c = s.refuse (ticketOf src c) stDATA_ERROR noField := by
  simp [State.objHint, hte, State.onObj_of_state ho hst, hload, hh, hcold, hfail]

theorem State.objHint_of_cold (hcold : o.cold = false) (hfail : s.boot.t2Failed = false) :
    s.objHint src c = if te.t2Fits (hdSize o.hdr)
      then ((s.modObj (cHandle c) (fun o => { o with ticket := some (ticketOf src c) })).defer (ticketOf src c)).flashAsk
        (.coldHint (cHandle c) (ticketOf src c))
      else s.refuse (ticketOf src c) stNO_RESOURCE noField := by
  simp [State.objHint, hte, State.onObj_of_state ho hst, hload, hh, hcold, hfail]

end

section
variable (hh : rd c 16 1 ≠ 3)
include hh

theorem State.objHint_of_noFill (hgone : o.t1Gone = false)
    (hpin : rd c 16 1 = 1 → o.pinned = true ∨ (o.t0Need = 0 ∧ te.pinFits o.kind o.t0Need = true)) :
    s.objHint src c = ((s.defer (ticketOf src c)).modObj (cHandle c) (fun o => { applyHint (rd c 16 1) o with
      ticket := none })).finish (ticketOf src c) stOK (cHandle c) noField 0 0 := by
  have hpass := pinMisfit_eq_false fun h1 => (hpin h1).imp_right And.right
  simp only [State.objHint, hte, State.onObj_of_state ho hst, hload, hh, hgone, hpass, Bool.and_false, Bool.false_eq_true,
    if_false, if_true, ne_eq, not_false_eq_true]
  exact State.hintNow_of_noFill fun h1 => (hpin h1).imp_right And.left

variable (hpin : rd c 16 1 = 1 → o.pinned = true ∨ te.pinFits o.kind o.t0Need = true) (hgone : o.t1Gone = true)
include hpin hgone

theorem State.objHint_of_t1Gone_failed (hfail : s.boot.t2Failed = true) :
    s.objHint src c = s.refuse (ticketOf src c) stDATA_ERROR noField := by
  simp only [State.objHint, hte, State.onObj_of_state ho hst, hload, hh, pinMisfit_eq_false hpin, hgone, hfail, Bool.and_true,
    Bool.false_eq_true, decide_true, if_false, if_true, ne_eq, not_false_eq_true]

/-- A hint other than COLD brings an object whose home was T2 back to T1. -/
theorem State.objHint_of_t1Gone (hfail : s.boot.t2Failed = false) :
    s.objHint src c = if te.t1Free < o.coldLines then s.refuse (ticketOf src c) stNO_RESOURCE noField
      else ((s.modObj (cHandle c) (fun o => { o with ticket := some (ticketOf src c), t1Gone := false, promoting := true })).defer
        (ticketOf src c)).flashAsk (.warmHint (cHandle c) (ticketOf src c) (rd c 16 1)) := by
  simp only [State.objHint, hte, State.onObj_of_state ho hst, hload, hh, pinMisfit_eq_false hpin, hgone, hfail, Bool.and_true,
    Bool.false_eq_true, decide_true, if_false, if_true, ne_eq, not_false_eq_true]

end

end

/-! ### OBJ_QUERY -/

theorem State.objQuery_of_obj {s : State} {src : Src} {c : Bytes} {o : Obj} (ho : s.obj (cHandle c) = some o) :
    s.objQuery src c = { s with fresh := s.fresh + 1 }.only (ticketOf src c) stOK (cHandle c)
      (o.ostate + 256 * (if o.cold then 2 else if o.pinned then 1 else 0) + 2 ^ 16 * o.cur + 2 ^ 32 * o.users)
      ((if o.pinned then o.t0Kib else if o.versions = [] then 0 else Config.t0Resident s.fresh % (hdT0 o.hdr + 1))
        + 2 ^ 32 * o.versions.length + 2 ^ 40 * o.hint) := by
  simp only [State.objQuery, ho, State.t0Resident, List.isEmpty_iff]

/-! ### RELOAD_LIMIT_EXPIRY -/

section
variable {s : State} {t i ver : Nat}

/-- Without a quarantined version that the host reloads, nothing is due. -/
theorem State.reloadExpiry_of_noReload
    (h : ∀ (o : Obj) (v : Version), (s.terrace t).bind (fun te => te.objs.get i) = some o → o.ver ver = some v →
      v.quarantine = false ∨ v.backing ≠ 0) : s.reloadExpiry t i ver = s := by
  unfold State.reloadExpiry
  split
  · rfl
  · rename_i o ho
    dsimp only
    split
    · rename_i v hv
      refine if_neg ?_
      obtain hq | hb := h o v ho hv
      · simp [hq]
      · simp [hb]
    · rfl

variable {o : Obj} {v : Version} (ho : (s.terrace t).bind (fun te => te.objs.get i) = some o) (hv : o.ver ver = some v)
include ho hv

theorem State.reloadExpiry_early (h : s.tick < v.quarAt + 100 * (if v.limit = 0 then 100000 else v.limit)) :
    s.reloadExpiry t i ver = s := by
  simp only [State.reloadExpiry, ho, hv, decide_eq_false (Nat.not_le_of_lt h), Bool.and_false, Bool.false_eq_true, if_false]

/-- The version is lost at its limit (R155 step 6). -/
theorem State.reloadExpiry_late (hq : v.quarantine = true) (hb : v.backing = 0)
    (h : v.quarAt + 100 * (if v.limit = 0 then 100000 else v.limit) ≤ s.tick) :
    s.reloadExpiry t i ver = s.loseVersion (mkHandle t (i / 2 ^ 18) (i % 2 ^ 18) o.gen) ver := by
  simp only [State.reloadExpiry, ho, hv, hq, hb, decide_true, Bool.and_true, Bool.true_and, decide_eq_true_eq, if_pos h]

end

/-- Settles O31: each accepted command's own effect, and the timer's, by the lemma of its case. -/
theorem objectEndsHintsAndQueries : Obligations.ObjectEndsHintsAndQueries := by
  rintro s u src c tk g o te rfl rfl rfl
  refine ⟨fun i hte ho hst hi hacc => ?_, fun hte ho hst hacc => ?_, fun hte ho hst hacc => ?_, fun hacc ho => ?_,
    fun t i ver v ho hv hq hb => ?_, fun t i ver h => congrArg Host.Outcome.next (State.reloadExpiry_of_noReload h)⟩
  · simp only [List.mem_cons, List.not_mem_nil, or_false] at hi
    obtain rfl | rfl := hi
    · rw [exec_accepted hacc rfl rfl]
      exact congrArg Host.Outcome.next (State.objDestroy_of_noState hte ho hst)
    · rw [exec_accepted hacc rfl rfl]
      exact congrArg Host.Outcome.next (State.objHint_of_noState hte ho hst)
  · rw [exec_accepted hacc rfl rfl]
    exact ⟨fun hb => congrArg Host.Outcome.next (State.objDestroy_of_base hte ho hst hb),
      fun hb v hv => ⟨fun hl => congrArg Host.Outcome.next (State.objDestroy_of_loading hte ho hst hb hv hl),
        fun hl => congrArg Host.Outcome.next (State.objDestroy_of_lost hte ho hst hb hv hl),
        fun hload hlost => congrArg Host.Outcome.next (State.objDestroy_of_live hte ho hst hb hv hload hlost)⟩⟩
  · rw [exec_accepted hacc rfl rfl, ← State.take_boot s src]
    exact ⟨fun hload => congrArg Host.Outcome.next (State.objHint_of_loading hte ho hst hload),
      fun hload hh hp hfit => congrArg Host.Outcome.next (State.objHint_of_pinTooLarge hte ho hst hload hh hp hfit),
      fun hload hh hgone hp hfit hneed =>
        congrArg Host.Outcome.next (State.objHint_of_pin hte ho hst hload hh hgone hp hfit hneed),
      fun hload hh hgone hpin => congrArg Host.Outcome.next (State.objHint_of_noFill hte ho hst hload hh hgone hpin),
      fun hload hh hpin hgone hfail =>
        congrArg Host.Outcome.next (State.objHint_of_t1Gone_failed hte ho hst hload hh hpin hgone hfail),
      fun hload hh hpin hgone hfail =>
        congrArg Host.Outcome.next (State.objHint_of_t1Gone hte ho hst hload hh hpin hgone hfail),
      fun hload hh hcold => congrArg Host.Outcome.next (State.objHint_of_coldAlready hte ho hst hload hh hcold),
      fun hload hh hcold hfail => congrArg Host.Outcome.next (State.objHint_of_cold_failed hte ho hst hload hh hcold hfail),
      fun hload hh hcold hfail => congrArg Host.Outcome.next (State.objHint_of_cold hte ho hst hload hh hcold hfail)⟩
  · rw [exec_accepted hacc rfl rfl]
    exact congrArg Host.Outcome.next (State.objQuery_of_obj ho)
  · exact ⟨fun h => congrArg Host.Outcome.next (State.reloadExpiry_late ho hv hq hb h),
      fun h => congrArg Host.Outcome.next (State.reloadExpiry_early ho hv h)⟩

end Sys2Proof.Machine
end

section
/-! SUPPORT. STEP_BOUNDARY and IDLE_BOUNDARY (R322, R324, R502): what a due boundary waits for, and its run as the chain of its
parts. -/

namespace Sys2Proof.Machine

/-! ### The domains a boundary needs (R502) -/

section
variable {s : State} {t : Nat} {f : State → State}

/-- A boundary that may look a Starter up waits for bank group 0, whatever PD_TE does. -/
theorem State.withTe_of_boundaryRb (h : s.boundaryRb t = true) : s.withTe t f = s.wantRb := by
  simp only [State.withTe, h, if_true]

variable (hrb : s.boundaryRb t = false)
include hrb

theorem State.withTe_of_teOff (hte : s.sleep.teOn = false) :
    s.withTe t f = { s with sleep := { s.sleep with teWait := some (s.sleep.teWait.getD s.tick) } } := by
  simp only [State.withTe, hrb, hte, Bool.false_eq_true, if_false]

theorem State.withTe_of_teOn (hte : s.sleep.teOn = true) :
    s.withTe t f = f { s with sched := { s.sched with worked := true } } := by
  simp only [State.withTe, hrb, hte, Bool.false_eq_true, if_false, if_true]

end

/-! ### The parts in order (R283) -/

section
variable {u : State} {t : Nat}

theorem State.boundary_of_none (h : u.terrace t = none) : u.boundary t = u := by
  simp only [State.boundary, h]

/-- A boundary of an existing terrace: `v` has the closed step off the port, `b` is the record it works on, `c` stands behind
the parts that every boundary runs, `d` behind the joins or what a quiescing or halted terrace does instead of them, and `w`
awaits the acknowledge of its DELTA. -/
theorem State.boundary_of_terrace {te : Terrace} {v w : State} {b c d : Bd} (hte : u.terrace t = some te)
    (hv : v = (u.heal t).modT t (fun x => { x with
      model := x.model.measure (u.heal t).tick, sp := x.sp.leave te.sp.flight }))
    (hb : b = { s := v, t := t, closed := te.sp.flight, held := te.streams.flatMap (fun x => x.2.waiting.map (·.req)),
                doneOld := (te.reqs.filter (fun r => r.2.state = rsDONE)).map (·.1) })
    (hc : c = ((((b.part1.each Bd.cancel).each Bd.deadline).part4.destroy).each Bd.rollback).part6)
    (hd : d = if c.s.sleep.phase = .quiesce then c.openRanges.quiesce
      else if te.sp.halted then c.openRanges else c.part7.part8)
    (hw : w = ((d.emit.s.destroyPool t).showReqs t).modT t (fun te => { te with journal := { te.journal with
      unacked := true, retried := false, boundaries := te.journal.boundaries + 1 } })) :
    u.boundary t = w.mpOwn t (.journalDelta t false) := by
  unfold State.boundary
  rw [hte, hw, hd, hc, hb, hv]

end

/-! ### The two rows -/

/-- Behind an idle boundary the turn's idle boundary has run; a step boundary leaves that mark. -/
def State.markIdle (s : State) (t : Nat) (idle : Bool) : State :=
  if idle then s.modT t (fun te => { te with idleDone := true }) else s

/-- Both rows are one operation, which differs in when it is due and in the mark it leaves. -/
theorem exec_boundary {s : State} {t : Nat} {p : Option ParityErr} {i : Instr} {due idle : Bool}
    (h : (i = .stepBoundary t p ∧ due = s.stepBoundaryDue t ∧ idle = false) ∨
      (i = .idleBoundary t p ∧ due = s.idleBoundaryDue t ∧ idle = true)) :
    exec i s = .next (if due then s.withTe t (fun s => ((s.parityFirst t p).boundary t).markIdle t idle) else s) := by
  obtain ⟨rfl, rfl, rfl⟩ | ⟨rfl, rfl, rfl⟩ := h
  · rfl
  · rfl

/-- Settles O54: one operation for both rows, by the domain it waits for, else by the chain of the boundary's parts. -/
theorem boundariesEndWithDelta : Obligations.BoundariesEndWithDelta := by
  intro s t p i due idle hi
  rw [exec_boundary hi]
  refine ⟨fun hdue => ?_, fun hdue hrb => ?_, fun hdue hrb => ⟨fun hoff => ?_, fun hon u hu => ?_⟩⟩
  · rw [hdue, if_neg Bool.false_ne_true]
  · rw [if_pos hdue, State.withTe_of_boundaryRb hrb]
    rfl
  · rw [if_pos hdue, State.withTe_of_teOff hrb hoff]
  · rw [if_pos hdue, State.withTe_of_teOn hrb hon, ← hu]
    refine ⟨fun hte => ?_, fun te v w x b c d hte hv hb hc hd hw hx => ?_⟩
    · rw [State.boundary_of_none hte]
      rfl
    · rw [State.boundary_of_terrace hte hv hb hc hd hw, ← hx]
      rfl

end Sys2Proof.Machine
end

section
/-! SUPPORT. Background work (R178, R182, R537, R540): when each of its operations acts, and the removal of rows by steps as one
change of every row. -/

namespace Sys2Proof.Machine

/-! ### Removing rows (R174) -/

/-- The row behind a removal of what `p` selects. -/
def RRow.dropped (p : RRow → Bool) (r : RRow) : RRow :=
  if r.rstate = rrEMPTY || !p r then r else r.setState rrEMPTY

theorem RRow.dropped_not (q : RRow → Bool) :
    RRow.dropped (fun r => !q r) = fun r => if r.rstate = rrEMPTY || q r then r else r.setState rrEMPTY := by
  funext r
  rw [RRow.dropped, Bool.not_not]

/-- The steps of a removal from the rows `suf` that stand behind `pre`. -/
def dropSteps (p : RRow → Bool) (pre suf : List RRow) : List RStepU :=
  (((List.range' pre.length suf.length).zip suf).filter (fun x => x.2.rstate ≠ rrEMPTY)).flatMap
    (fun x => if p x.2 then removeSteps x.1 x.2 else [])

/-- The steps of a removal from a first row, then those from the rest. -/
theorem dropSteps_cons (p : RRow → Bool) (pre : List RRow) (r : RRow) (suf : List RRow) :
    dropSteps p pre (r :: suf) =
      (if r.rstate = rrEMPTY || !p r then [] else removeSteps pre.length r) ++ dropSteps p (pre ++ [r.dropped p]) suf := by
  by_cases he : r.rstate = rrEMPTY <;> cases hp : p r <;> simp [dropSteps, List.range'_succ, he, hp]

/-- The steps of a removal touch each row by itself. -/
theorem applySteps_dropSteps (p : RRow → Bool) (suf : List RRow) (pre : List RRow) :
    applySteps (pre ++ suf) (dropSteps p pre suf) = pre ++ suf.map (RRow.dropped p) := by
  induction suf generalizing pre with
  | nil => rfl
  | cons r suf ih =>
    have first : applySteps (pre ++ r :: suf) (if r.rstate = rrEMPTY || !p r then [] else removeSteps pre.length r) =
        pre ++ r.dropped p :: suf := by
      unfold RRow.dropped
      split
      · rfl
      · exact setAt_append_cons rfl r suf _
    calc applySteps (pre ++ r :: suf) (dropSteps p pre (r :: suf))
        = applySteps (pre ++ r.dropped p :: suf) (dropSteps p (pre ++ [r.dropped p]) suf) := by
          rw [dropSteps_cons, applySteps, List.foldl_append, ← applySteps, ← applySteps, first]
      _ = applySteps ((pre ++ [r.dropped p]) ++ suf) (dropSteps p (pre ++ [r.dropped p]) suf) := by
          rw [List.append_assoc, List.singleton_append]
      _ = pre ++ (r :: suf).map (RRow.dropped p) := by
          rw [ih, List.append_assoc, List.map_cons, List.singleton_append]

/-- In a region without an order a removal changes the rows alone: no hole of it asks for a compaction (R182). -/
theorem Region.remove_of_unordered {r : Region} (h : r.ordered = false) (p : RRow → Bool) :
    r.remove p = { r with rows := r.rows.map (RRow.dropped p) } := by
  have steps : (inUse r.rows).flatMap (fun x => if p x.2 then removeSteps x.1 x.2 else []) = dropSteps p [] r.rows := by
    simp only [inUse, numbered, dropSteps, List.range_eq_range', List.length_nil]
  have rows : applySteps r.rows (dropSteps p [] r.rows) = r.rows.map (RRow.dropped p) := applySteps_dropSteps p r.rows []
  simp only [Region.remove, steps, rows, h, Bool.false_and, Bool.or_false]

theorem Region.ordered_of_echo {r : Region} (h : r.kind = rkECHO) : r.ordered = false := by
  simp only [Region.ordered, h]
  decide

/-! ### BASE records (R537, R540) -/

section
variable {s : State} {t : Nat}

theorem State.baseWrite_of_none (h : s.terrace t = none) : s.baseWrite t = s := by
  simp only [State.baseWrite, h]

theorem State.baseWrite_of_busy (h : s.tableRuns = false ∨ s.basing t = true) : s.baseWrite t = s := by
  unfold State.baseWrite
  split
  · rfl
  · exact if_pos (by simpa using h)

theorem State.baseWrite_starts {te : Terrace} (hte : s.terrace t = some te) (hrun : s.tableRuns = true)
    (hfree : s.basing t = false) :
    s.baseWrite t = (s.modT t (fun te => { te with journal := { te.journal with basePass := some 1 } })).mpOwn t
      (.journalBase t false) := by
  simp only [State.baseWrite, hte, hrun, hfree, Bool.not_true, Bool.or_false, Bool.false_eq_true, if_false]

/-! ### Compaction (R182) -/

variable {i : Nat}

theorem State.compact_of_none (h : s.terrace t = none) : s.compact t i = s := by
  simp only [State.compact, h]

theorem State.compact_of_noIdleTurn (h : s.idleTurn t = false) : s.compact t i = s := by
  unfold State.compact
  split
  · rfl
  · split
    · rfl
    · exact if_pos (by simp [h])

section
variable {te : Terrace} (hte : s.terrace t = some te)
include hte

theorem State.compact_of_noRegion (h : te.regions[i]? = none) : s.compact t i = s := by
  simp only [State.compact, hte, h]

variable {r : Region} (hr : te.regions[i]? = some r)
include hr

theorem State.compact_of_notDue (h : r.ordered = false ∨ r.compact = false) : s.compact t i = s := by
  simp only [State.compact, hte, hr]
  exact if_pos (by obtain h | h := h <;> simp [h])

theorem State.compact_of_due {rows : List RRow} {moves : Nat} (hidle : s.idleTurn t = true) (hord : r.ordered = true)
    (hdue : r.compact = true) (hc : compactRows te.holes r.rows = (rows, moves)) :
    s.compact t i = (s.modT t (fun te => { te with
      regions := setAt i (fun r => { r with rows := rows, compact := false }) te.regions })).count cRIDDLE_MOVE t
        te.quadLoc moves := by
  simp only [State.compact, hte, hr, hidle, hord, hdue, hc, Bool.not_true, Bool.or_false, Bool.false_eq_true, if_false]

end

/-! ### ECHO rows of ended requests (R178) -/

theorem State.echoCleanup_of_none (h : s.terrace t = none) : s.echoCleanup t = s := by
  simp only [State.echoCleanup, h]

theorem State.echoCleanup_of_noIdleTurn (h : s.idleTurn t = false) : s.echoCleanup t = s := by
  unfold State.echoCleanup
  split
  · rfl
  · exact if_pos (by simp [h])

/-- In an idle turn a row of an ECHO region is made EMPTY where no live request has its key. -/
theorem State.echoCleanup_of_idleTurn {te : Terrace} (hte : s.terrace t = some te) (hidle : s.idleTurn t = true) :
    s.echoCleanup t = s.modT t (fun _ => te.modRegion rkECHO (fun r => { r with
      rows := r.rows.map (fun row =>
        if row.rstate = rrEMPTY || te.echoLive t r.salt row then row else row.setState rrEMPTY) })) := by
  have regions : te.modRegion rkECHO (fun r => r.remove (fun row => !te.echoLive t r.salt row)) =
      te.modRegion rkECHO (fun r => { r with
        rows := r.rows.map (fun row =>
          if row.rstate = rrEMPTY || te.echoLive t r.salt row then row else row.setState rrEMPTY) }) := by
    refine congrArg (fun l => { te with regions := l }) (List.map_congr_left fun r _ => ?_)
    split
    · exact (Region.remove_of_unordered (Region.ordered_of_echo ‹_›) _).trans (by rw [RRow.dropped_not])
    · rfl
  simp only [State.echoCleanup, hte, hidle, Bool.not_true, Bool.false_eq_true, if_false, regions]

end

/-- Settles O58: each kind of work by the lemma of its case. -/
theorem backgroundWorkActs : Obligations.BackgroundWorkActs := by
  intro s t i
  refine ⟨fun h => ?_, fun h => congrArg Host.Outcome.next (State.baseWrite_of_busy h), fun h => ?_, fun te hte => ⟨?_, ?_, ?_, ?_⟩⟩
  · exact ⟨congrArg Host.Outcome.next (State.baseWrite_of_none h), congrArg Host.Outcome.next (State.compact_of_none h),
      congrArg Host.Outcome.next (State.echoCleanup_of_none h)⟩
  · exact ⟨congrArg Host.Outcome.next (State.compact_of_noIdleTurn h),
      congrArg Host.Outcome.next (State.echoCleanup_of_noIdleTurn h)⟩
  · exact fun hrun hfree => congrArg Host.Outcome.next (State.baseWrite_starts hte hrun hfree)
  · exact fun h => congrArg Host.Outcome.next (State.compact_of_noRegion hte h)
  · exact fun r hr h => congrArg Host.Outcome.next (State.compact_of_notDue hte hr h)
  · exact fun hidle =>
      ⟨fun r rows moves hr hord hdue hc => congrArg Host.Outcome.next (State.compact_of_due hte hr hidle hord hdue hc),
        congrArg Host.Outcome.next (State.echoCleanup_of_idleTurn hte hidle)⟩

end Sys2Proof.Machine
end

section
/-! SUPPORT. TOK_STREAM_OPEN, TOK_STREAM_PUT and TOK_STREAM_CLOSE (R210 to R212, R218), case by case. -/

namespace Sys2Proof.Machine

/-! ### TOK_STREAM_OPEN -/

section
variable {s : State} {src : Src} {c : Bytes}

theorem State.tokStreamOpen_of_unusable {st r0 : Nat} (h : s.usable [cHandle c] = some (st, r0)) :
    s.tokStreamOpen src c = s.complete (ticketOf src c) kONLY st (cHandle c) 0 noField r0 0 := by
  simp only [State.tokStreamOpen, h]
  rfl

variable {te : Terrace} (husable : s.usable [cHandle c] = none) (hte : s.terrace (hTerr (cHandle c)) = some te)
include husable hte

theorem State.tokStreamOpen_of_full (hfull : 64 ≤ te.toks.length) :
    s.tokStreamOpen src c = s.refuse (ticketOf src c) stNO_RESOURCE noField := by
  simp only [State.tokStreamOpen, husable, hte, Option.map_some, Option.getD_some, if_pos hfull]

/-- The stream stands in the first free place of its terrace, and the vocabulary's version in force is its own (R210). -/
theorem State.tokStreamOpen_of_room {i : Nat} {h : Handle} {x : TokStream} (hroom : te.toks.length < 64)
    (hi : i = Tbl.fresh te.toks) (hh : h = s.handleOf (hTerr (cHandle c)) tyTok i)
    (hx : x = { gen := hGen h, ticket := { ticketOf src c with handle := h }, vocab := cHandle c, ver := s.curVer (cHandle c)
                dest := rd c 16 8, kind := rd c 40 1, sync := rd c 24 4, release := rd c 28 4, w := rd c 32 2, o := rd c 34 2
                slots := rd c 36 4, prefer := rd c 41 1, reject := bit (rd c 42 1) 0, core := te.firstCore }) :
    s.tokStreamOpen src c = ((s.modT (hTerr (cHandle c)) (fun te => { te with toks := te.toks.put i x })).engage
      (cHandle c)).first (ticketOf src c) h := by
  subst hi hh hx
  simp only [State.tokStreamOpen, husable, hte, Option.map_some, Option.getD_some, if_neg (Nat.not_le_of_lt hroom)]

end

/-! ### TOK_STREAM_PUT -/

section
variable {s : State} {src : Src} {c : Bytes} {x : TokStream} (hx : s.tokStream (cHandle c) = some x)
include hx

theorem State.tokStreamPut_of_full (hfull : 64 ≤ x.puts.length) :
    s.tokStreamPut src c = s.refuse (ticketOf src c) stNO_RESOURCE noField := by
  simp only [State.tokStreamPut, hx, if_pos hfull]

variable (hroom : x.puts.length < 64)
include hroom

/-- A put of text waits for its read (R211). -/
theorem State.tokStreamPut_of_text (hlen : rd c 24 3 ≠ 0) :
    s.tokStreamPut src c = ((s.newId.modTok (cHandle c) (fun y => { y with
      puts := y.puts ++ [{ id := s.nextId, ticket := ticketOf src c, text := none, docEnd := bit (rd c 27 1) 0
                           ready := false }] })).first (ticketOf src c) (cHandle c)).hfpIssue (hTerr (cHandle c))
        (.putRead (cHandle c) s.nextId (rd c 16 8) (rd c 24 3)) := by
  simp only [State.tokStreamPut, hx, if_neg (Nat.not_le_of_lt hroom), if_neg hlen]

/-- An empty put has nothing to read, and its task is ready at once. -/
theorem State.tokStreamPut_of_empty (hlen : rd c 24 3 = 0) :
    s.tokStreamPut src c = ((s.newId.modTok (cHandle c) (fun y => { y with
      puts := y.puts ++ [{ id := s.nextId, ticket := ticketOf src c, text := some [], docEnd := bit (rd c 27 1) 0
                           ready := false }] })).first (ticketOf src c) (cHandle c)).addTask (hTerr (cHandle c)) 1 4
        (hIndex (cHandle c)) (ticketOf src c) (.streamPut (cHandle c) s.nextId) (some []) := by
  simp only [State.tokStreamPut, hx, if_neg (Nat.not_le_of_lt hroom), if_pos hlen]

end

/-! ### TOK_STREAM_CLOSE -/

section
variable {s : State} {src : Src} {c : Bytes} {x : TokStream} (hx : s.tokStream (cHandle c) = some x)
include hx

/-- A stream that an error has ended wrote its FINAL then, and its close frees the slot (R218, log entry 35). -/
theorem State.tokStreamClose_of_err {e : Nat} (he : x.err = some e) :
    s.tokStreamClose src c = ((s.only (ticketOf src c) stOK (cHandle c) 0 0).modT (hTerr (cHandle c)) (fun te =>
      { te with toks := te.toks.del (hIndex (cHandle c)) })).bumpGen (hTerr (cHandle c)) tyTok (hIndex (cHandle c)) := by
  simp only [State.tokStreamClose, hx, he, Option.isSome_some, if_true]

variable (he : x.err = none)
include he

theorem State.tokStreamClose_of_drain (habandon : bit (rd c 16 1) 0 = false) :
    s.tokStreamClose src c = ((s.defer (ticketOf src c)).modTok (cHandle c) (fun y => { y with
      closing := true, abandon := false, closer := some (ticketOf src c) })).tokRun (cHandle c) := by
  simp only [State.tokStreamClose, hx, he, habandon, Option.isSome_none, Bool.false_eq_true, if_false]

theorem State.tokStreamClose_of_abandon (habandon : bit (rd c 16 1) 0 = true) :
    s.tokStreamClose src c = ((s.defer (ticketOf src c)).modTok (cHandle c) (fun y => { y with
      closing := true, abandon := true, closer := some (ticketOf src c) })).tokFail (cHandle c) none stCANCELLED 0 stCANCELLED
        stCANCELLED := by
  simp only [State.tokStreamClose, hx, he, habandon, Option.isSome_none, Bool.false_eq_true, if_false, if_true]

end

/-- Settles O34: each accepted command's own effect, by the lemma of its case. -/
theorem tokenStreamCommandsAct : Obligations.TokenStreamCommandsAct := by
  rintro s u src c tk g rfl rfl rfl
  refine ⟨fun hacc => ?_, fun x hacc hx => ?_, fun x hacc hx => ?_⟩
  · rw [exec_accepted hacc rfl rfl]
    refine ⟨fun st r0 h => congrArg Host.Outcome.next (State.tokStreamOpen_of_unusable h), fun te husable hte => ?_⟩
    exact ⟨fun hfull => congrArg Host.Outcome.next (State.tokStreamOpen_of_full husable hte hfull),
      fun i h x hroom hi hh hx => congrArg Host.Outcome.next (State.tokStreamOpen_of_room husable hte hroom hi hh hx)⟩
  · rw [exec_accepted hacc rfl rfl]
    exact ⟨fun hfull => congrArg Host.Outcome.next (State.tokStreamPut_of_full hx hfull),
      fun hroom hlen => congrArg Host.Outcome.next (State.tokStreamPut_of_text hx hroom hlen),
      fun hroom hlen => congrArg Host.Outcome.next (State.tokStreamPut_of_empty hx hroom hlen)⟩
  · rw [exec_accepted hacc rfl rfl]
    exact ⟨fun e he => congrArg Host.Outcome.next (State.tokStreamClose_of_err hx he),
      fun he habandon => congrArg Host.Outcome.next (State.tokStreamClose_of_drain hx he habandon),
      fun he habandon => congrArg Host.Outcome.next (State.tokStreamClose_of_abandon hx he habandon)⟩

end Sys2Proof.Machine
end

section
/-! SUPPORT. PACK and PAIR (R255, R256), check by check and then the task they start. -/

namespace Sys2Proof.Machine

/-- An accepted PACK or PAIR runs `packStart`, as the row's own flag says which of the two it is. -/
theorem exec_packStart_of_accepted {s : State} {src : Src} {c : Bytes} {pair : Bool} {row : HostRead → Instr} {x : HostRead}
    (hrow : row = if pair then fun x => .pair src c x else fun x => .pack src c x) (hacc : s.accepts (row x) = true) :
    exec (row x) s = .next ((s.take src).packStart pair src c x) := by
  subst hrow
  cases pair with
  | false => exact exec_accepted hacc rfl rfl
  | true => exact exec_accepted hacc rfl rfl

section
variable {s : State} {src : Src} {c : Bytes} {te : Terrace} {pair : Bool} (hte : s.terrace (hTerr (cHandle c)) = some te)
include hte

theorem State.packStart_of_unusable {x : HostRead} {st r0 : Nat}
    (h : s.usable [cHandle c, rd c 32 4, rd c 36 4] = some (st, r0)) :
    s.packStart pair src c x = s.complete (ticketOf src c) kONLY st (cHandle c) 0 noField r0 0 := by
  simp only [State.packStart, hte, h]
  rfl

variable (husable : s.usable [cHandle c, rd c 32 4, rd c 36 4] = none)
include husable

/-- The handles' checks come before the descriptor's read, whatever that brings (R256). -/
theorem State.packStart_of_badHandles {x : HostRead} {st off : Nat} (h : te.packHandles c = some (st, off)) :
    s.packStart pair src c x = s.refuse (ticketOf src c) st off := by
  simp only [State.packStart, hte, husable, h]

variable (hhandles : te.packHandles c = none)
include hhandles

theorem State.packStart_of_readError :
    s.packStart pair src c .error = s.refuse (ticketOf src c) stDATA_ERROR noField := by
  simp only [State.packStart, hte, husable, hhandles]

variable {d : Bytes}

theorem State.packStart_of_badDesc {st off : Nat} (h : te.packDesc pair c d = some (st, off)) :
    s.packStart pair src c (.okay d) = s.refuse (ticketOf src c) st off := by
  simp only [State.packStart, hte, husable, hhandles, h]

variable (hdesc : te.packDesc pair c d = none) {v : State} {k : TaskKind} {reads : List (Nat × Nat)}
  (hv : v = (([cHandle c, rd c 32 4, rd c 36 4].filter (· ≠ 0)).foldl State.engage s).first (ticketOf src c) (cHandle c))
  (hk : k = .pack pair (cHandle c) (rd c 32 4) (rd c 36 4) (rd c 44 4) (s.curVer (cHandle c)) (s.curVer (rd c 32 4))
    (s.curVer (rd c 36 4)) (rd c 24 8) (rd c 40 4) (parseAsm d (te.slotNames (cHandle c))))
  (hreads : reads = asmReads d (te.slotNames (cHandle c)) true)
include hdesc hv hk hreads

/-- A descriptor that names no host text has nothing to read, and its task is ready at once. -/
theorem State.packStart_of_noReads (h : reads = []) :
    s.packStart pair src c (.okay d) =
      v.addTask (hTerr (cHandle c)) 2 4 (hIndex (cHandle c)) (ticketOf src c) k (some []) := by
  have hnone : (asmReads d (te.slotNames (cHandle c)) true).isEmpty = true := List.isEmpty_iff.2 (hreads.symm.trans h)
  subst hv hk
  simp only [State.packStart, hte, husable, hhandles, hdesc, if_pos hnone]

/-- The task waits for the slots and the identifiers that its descriptor names (R259). -/
theorem State.packStart_of_reads (h : reads ≠ []) :
    s.packStart pair src c (.okay d) =
      (v.addTask (hTerr (cHandle c)) 2 4 (hIndex (cHandle c)) (ticketOf src c) k none).hfpIssue (hTerr (cHandle c))
        (.taskRead v.nextId reads) := by
  subst hv hk hreads
  have hsome : ¬ (asmReads d (te.slotNames (cHandle c)) true).isEmpty = true := fun he => h (List.isEmpty_iff.1 he)
  simp only [State.packStart, hte, husable, hhandles, hdesc, if_neg hsome]

end

/-- Settles O33: PACK and PAIR both run `packStart`, which ends at the first check that fails and else starts the task. -/
theorem packAndPairStart : Obligations.PackAndPairStart := by
  rintro s u src c tk te pair row rfl rfl hte hrow
  refine ⟨fun x st r0 hacc h => ?_, fun x st off hacc husable h => ?_, fun hacc husable hhandles => ?_,
    fun d hacc husable hhandles => ?_⟩
  · rw [exec_packStart_of_accepted hrow hacc, State.packStart_of_unusable hte h]
  · rw [exec_packStart_of_accepted hrow hacc, State.packStart_of_badHandles hte husable h]
  · rw [exec_packStart_of_accepted hrow hacc, State.packStart_of_readError hte husable hhandles]
  · rw [exec_packStart_of_accepted hrow hacc]
    refine ⟨fun st off h => congrArg Host.Outcome.next (State.packStart_of_badDesc hte husable hhandles h), ?_⟩
    intro v k reads hdesc hv hk hreads
    exact ⟨fun h => congrArg Host.Outcome.next (State.packStart_of_noReads hte husable hhandles hdesc hv hk hreads h),
      fun h => congrArg Host.Outcome.next (State.packStart_of_reads hte husable hhandles hdesc hv hk hreads h)⟩

end Sys2Proof.Machine
end

section
/-! SUPPORT. REQ_SUBMIT (R266, R271 to R274, R297), check by check in the order of R273, and then the admitted request. -/

namespace Sys2Proof.Machine

section
variable {s : State} {src : Src} {c : Bytes} {arrival : Tick} {rd_ : SubmitReads} {te : Terrace}
  (hte : s.terrace (hTerr (cHandle c)) = some te)
include hte

theorem State.reqSubmit_of_readError (h : subReadError rd_ = true) :
    s.reqSubmit src c arrival rd_ = s.refuse (ticketOf src c) stDATA_ERROR noField := by
  simp only [State.reqSubmit, hte, h, if_true]

variable (hread : subReadError rd_ = false) {b : Sub} (hb : b = mkSub c rd_)
include hread hb

theorem State.reqSubmit_of_chk2 {st off : Nat} (h : s.subChk2 te src b = some (st, off)) :
    s.reqSubmit src c arrival rd_ = s.refuse (ticketOf src c) st off := by
  subst hb
  simp only [State.reqSubmit, hte, hread, h, Bool.false_eq_true, if_false]

variable (h2 : s.subChk2 te src b = none)
include h2

/-- The last parts of check 2 alone give a RESULT0, the position of a token that the vocabulary does not have (R273). -/
theorem State.reqSubmit_of_tokens {st off r0 : Nat} (h : te.subTokens (s.curVer b.vocab) b = some (st, off, r0)) :
    s.reqSubmit src c arrival rd_ = s.complete (ticketOf src c) kONLY st (cHandle c) 0 off r0 0 := by
  subst hb
  simp only [State.reqSubmit, hte, hread, h2, h, Bool.false_eq_true, if_false]
  rfl

variable (htoks : te.subTokens (s.curVer b.vocab) b = none)
include htoks

theorem State.reqSubmit_of_chk3 {st off : Nat} (h : te.subChk3 b = some (st, off)) :
    s.reqSubmit src c arrival rd_ = s.refuse (ticketOf src c) st off := by
  subst hb
  simp only [State.reqSubmit, hte, hread, h2, htoks, h, Bool.false_eq_true, if_false]

variable (h3 : te.subChk3 b = none)
include h3

theorem State.reqSubmit_of_chk4 {st r0 : Nat} (h : s.subChk4 te b = some (st, r0)) :
    s.reqSubmit src c arrival rd_ =
      (s.admitFail (hTerr (cHandle c)) st).complete (ticketOf src c) kONLY st (cHandle c) 0 noField r0 0 := by
  subst hb
  simp only [State.reqSubmit, hte, hread, h2, htoks, h3, h, Bool.false_eq_true, if_false]
  rfl

variable (h4 : s.subChk4 te b = none) {t i : Nat} {h : Handle} {r : Req} (ht : t = hTerr (cHandle c))
  (hi : i = Tbl.fresh te.reqs) (hh : h = s.handleOf t tyReq i) (hr : r = s.mkReq te src b h arrival)
include h4 ht hi hh hr

/-- Checks 5 to 8 fail: only a stop set that finds no place in a region with room for it counts besides (R181, R297). -/
theorem State.reqSubmit_of_notAdmitted {st r0 : Nat} (hadm : s.admission te i h r = .error (st, r0)) :
    s.reqSubmit src c arrival rd_ =
      ((s.stopFull te i h r).admitFail t st).complete (ticketOf src c) kONLY st (cHandle c) 0 noField r0 0 := by
  subst hb ht hi hh hr
  simp only [State.reqSubmit, hte, hread, h2, htoks, h3, h4, hadm, Bool.false_eq_true, if_false]
  rfl

/-- The entry, its stop rows and its Starter's user are written before the objects are engaged and intake starts. -/
theorem State.reqSubmit_of_admitted {reg : Region} {moved : Nat} (hadm : s.admission te i h r = .ok (reg, moved)) :
    s.reqSubmit src c arrival rd_ =
      (((b.objects.filter (· ≠ 0)).foldl State.engage
        (((s.modT t (fun te => { te.modRegion rkSTOP (fun _ => reg) with
          reqs := te.reqs.put i r
          starters := if r.starter = 0 then te.starters
            else te.starters.mod (hIndex r.starter) (fun x => { x with users := x.users + 1 }) })).count cRIDDLE_MOVE t
              te.quadLoc moved).tally cREQ_ADMITTED t)).first (ticketOf src c) h).startIntake h b
        (te.slotNames (rqTemplate b.d)) := by
  subst hb ht hi hh hr
  simp only [State.reqSubmit, hte, hread, h2, htoks, h3, h4, hadm, Bool.false_eq_true, if_false]

end

/-- Settles O35: `reqSubmit` ends at the first check that fails, each by its lemma, and else makes the entry of `mkReq`. -/
theorem requestsAreAdmitted : Obligations.RequestsAreAdmitted := by
  rintro s u src c tk rd_ te b t i h r row rfl rfl ht rfl hacc hte hb hi hh hr
  have hte' : (s.take src).terrace (hTerr (cHandle c)) = some te := ht ▸ hte
  rw [exec_accepted hacc rfl rfl]
  refine ⟨fun herr => congrArg Host.Outcome.next (State.reqSubmit_of_readError hte' herr), fun hread =>
    ⟨fun st off h => congrArg Host.Outcome.next (State.reqSubmit_of_chk2 hte' hread hb h), fun h2 =>
    ⟨fun st off r0 h => congrArg Host.Outcome.next (State.reqSubmit_of_tokens hte' hread hb h2 h), fun htoks =>
    ⟨fun st off h => congrArg Host.Outcome.next (State.reqSubmit_of_chk3 hte' hread hb h2 htoks h), fun h3 =>
    ⟨fun st r0 h => ?_, fun h4 => ⟨fun st r0 h => ?_, fun reg moved h => ?_⟩⟩⟩⟩⟩, ?_⟩
  · rw [State.reqSubmit_of_chk4 hte' hread hb h2 htoks h3 h, ht]
  · rw [State.reqSubmit_of_notAdmitted hte' hread hb h2 htoks h3 h4 ht hi hh hr h]
  · rw [State.reqSubmit_of_admitted hte' hread hb h2 htoks h3 h4 ht hi hh hr h]
  · subst hb hr
    exact ⟨rfl, rfl, rfl, rfl, rfl, rfl, rfl, rfl, rfl, rfl, rfl, rfl⟩

end Sys2Proof.Machine
end

section
/-! SUPPORT. INTAKE_COMPLETE (R267, R273, R375): when it leaves the request alone, the ends of a prompt, and the QUEUED entry. -/

namespace Sys2Proof.Machine

/-! ### Fields of a handle (R92) -/

theorem hTerr_mkHandle {t ty idx gen : Nat} (ht : t < 16) (hty : ty < 16) (hidx : idx < 2 ^ 18) (hgen : gen < 64) :
    hTerr (mkHandle t ty idx gen) = t := by
  unfold hTerr mkHandle
  omega

theorem hIndex_mkHandle {t ty idx gen : Nat} (hidx : idx < 2 ^ 18) (hgen : gen < 64) :
    hIndex (mkHandle t ty idx gen) = idx := by
  unfold hIndex mkHandle
  omega

/-! ### No work done -/

/-- The entry of a Starter's build is no request at intake (R314). -/
theorem State.intakeComplete_of_noRequest {s : State} {t idx : Nat}
    (h : ∀ x r, s.terrace t = some x → x.reqs.get idx = some r → r.build ≠ none) : s.intakeComplete t idx = s := by
  unfold State.intakeComplete
  split
  · rfl
  · rename_i te hte
    split
    · rfl
    · rename_i r hr
      exact if_pos (by simp [Option.isSome_iff_ne_none.2 (h te r hte hr)])

section
variable {s : State} {t idx : Nat} {te : Terrace} {r : Req} (hte : s.terrace t = some te) (hr : te.reqs.get idx = some r)
include hte hr

theorem State.intakeComplete_of_unready
    (h : r.state ≠ rsADMIT_WAIT ∨ r.cancel = true ∨ s.intakeReady (mkHandle t tyReq idx r.gen) r = false) :
    s.intakeComplete t idx = s := by
  unfold State.intakeComplete
  simp only [hte, hr]
  refine if_pos ?_
  obtain h | h | h := h <;> simp [h]

/-! ### Work done -/

variable (hbuild : r.build = none) {h : Handle} (hh : h = mkHandle t tyReq idx r.gen) (hstate : r.state = rsADMIT_WAIT)
  (hcancel : r.cancel = false) (hready : s.intakeReady h r = true) {core : Nat}
  (hcore : core = ((s.tasks.find? (Task.isIntake h)).bind (·.core)).getD te.firstCore) {v : State}
  (hv : v = s.promptCount t core (te.promptTokens r))
include hbuild hh hstate hcancel hready hcore hv

theorem State.intakeComplete_of_stageFail {st off x : Nat} (hfail : (te.promptTokens r).fail = some (st, off, x)) :
    s.intakeComplete t idx = v.intakeFail h st off := by
  subst hh hv hcore
  simp [State.intakeComplete, hte, hr, hbuild, hstate, hcancel, hready, hfail]

variable (hfail : (te.promptTokens r).fail = none) {ts : List Tok} (hts : ts = (te.promptTokens r).toks)
include hfail hts

theorem State.intakeComplete_of_promptFail {st off : Nat}
    (hlen : r.promptFail (te.starterLen r.starter + ts.length) = some (st, off)) :
    s.intakeComplete t idx = v.intakeFail h st off := by
  subst hh hv hcore hts
  simp [State.intakeComplete, hte, hr, hbuild, hstate, hcancel, hready, hfail, hlen]

theorem State.intakeComplete_of_prompt (hlen : r.promptFail (te.starterLen r.starter + ts.length) = none) {start : Nat}
    (hstart : start = ((te.automaton r.grammar r.pins.grammar).map
      (fun a => if r.grammar = 0 then 0 else gStart a.1.header)).getD 0) {y : State}
    (hy : y = (v.stopIntake h).modReq h (fun r => { r with
      state := rsQUEUED, prompt := ts, promptLen := te.starterLen r.starter + ts.length, gstate := start, intake := .none })) :
    s.intakeComplete t idx =
      if start = 0 then y else y.maskFill r.grammar r.pins.grammar start (y.aheadBay t r) 0 := by
  subst hh hv hcore hts hy hstart
  simp only [State.intakeComplete, hte, hr, hbuild, hstate, hcancel, hready, hfail, hlen]
  cases te.automaton r.grammar r.pins.grammar <;> rfl

end

/-! ### The terrace's entries -/

/-- The end of an intake and the change of its request move no other entry of the terrace. -/
theorem State.stopIntake_modReq_reqs {s : State} {t idx : Nat} {te : Terrace} {r : Req} {h : Handle} (f : Req → Req)
    (hte : s.terrace t = some te) (hr : te.reqs.get idx = some r) (ht : hTerr h = t) (hidx : hIndex h = idx) :
    ∃ te', ((s.stopIntake h).modReq h f).terrace t = some te' ∧ te'.reqs.get idx = some (f r) ∧
      ∀ k, k ≠ idx → te'.reqs.get k = te.reqs.get k := by
  subst ht hidx
  obtain ⟨te1, hte1, e1⟩ := State.stopIntake_terrace (h := h) hte
  have keep : te1.reqs = te.reqs := by rw [e1]
  refine ⟨te1.modReq (hIndex h) f, by rw [State.modReq, State.modT_terrace_self, hte1, Option.map_some], ?_, fun k hk => ?_⟩
  · rw [Terrace.modReq, Tbl.get_mod_self, keep, hr, Option.map_some]
  · rw [Terrace.modReq, Tbl.get_mod_ne hk, keep]

/-- Settles O36: `intakeComplete` case by case, and the entry read back from the state it answers. -/
theorem intakeCompletes : Obligations.IntakeCompletes := by
  refine ⟨fun s t idx h => congrArg Host.Outcome.next (State.intakeComplete_of_noRequest h), ?_⟩
  rintro s t idx te r h core v hte hr hbuild hh hcore hv
  refine ⟨fun hun => congrArg Host.Outcome.next (State.intakeComplete_of_unready hte hr (hh ▸ hun)),
    fun hstate hcancel hready => ⟨fun st off x hfail => congrArg Host.Outcome.next
      (State.intakeComplete_of_stageFail hte hr hbuild hh hstate hcancel hready hcore hv hfail), ?_⟩⟩
  rintro ts n hfail hts rfl
  refine ⟨fun st off hlen => congrArg Host.Outcome.next
    (State.intakeComplete_of_promptFail hte hr hbuild hh hstate hcancel hready hcore hv hfail hts hlen), ?_⟩
  rintro hlen y start hstart hy
  refine ⟨congrArg Host.Outcome.next
    (State.intakeComplete_of_prompt hte hr hbuild hh hstate hcancel hready hcore hv hfail hts hlen hstart hy), ?_⟩
  intro ht hidx hgen
  have hvt : v.terrace t = some te := by rw [hv, State.terrace_congr (State.promptCount_terr ..), hte]
  have hTerr_h : hTerr h = t := by rw [hh, hTerr_mkHandle ht (by decide) hidx hgen]
  have hIndex_h : hIndex h = idx := by rw [hh, hIndex_mkHandle hidx hgen]
  obtain ⟨te', hte', hr', hother⟩ := State.stopIntake_modReq_reqs _ hvt hr hTerr_h hIndex_h
  subst hy
  exact ⟨te', _, hte', hr', rfl, rfl, rfl, rfl, rfl, hother⟩

end Sys2Proof.Machine
end

section
/-! SUPPORT. STARTER_CREATE SPAN and FROM_REQUEST (R313 to R316), check by check and then the BUILDING Starter, and
STARTER_RELEASE (R318). -/

namespace Sys2Proof.Machine

/-! ### STARTER_CREATE SPAN -/

section
variable {s : State} {src : Src} {c : Bytes} {te : Terrace} (hte : s.terrace (hTerr (cHandle c)) = some te)
include hte

theorem State.starterSpan_of_unusable {x : HostRead} {st r0 : Nat} (h : s.usable [cHandle c] = some (st, r0)) :
    s.starterSpan src c x = s.complete (ticketOf src c) kONLY st (cHandle c) 0 noField r0 0 := by
  simp only [State.starterSpan, hte, h]
  rfl

variable (husable : s.usable [cHandle c] = none)
include husable

/-- From here on the terrace's regions are healed, whatever the command ends with. -/
theorem State.starterSpan_of_noPool {x : HostRead} (h : te.pool = none) :
    s.starterSpan src c x = (s.heal (hTerr (cHandle c))).refuse (ticketOf src c) stNOT_PERMITTED noField := by
  simp only [State.starterSpan, hte, husable, h, Option.isNone_none, if_true]

variable (hpool : te.pool ≠ none)
include hpool

theorem State.starterSpan_of_readError :
    s.starterSpan src c .error = (s.heal (hTerr (cHandle c))).refuse (ticketOf src c) stDATA_ERROR noField := by
  simp only [State.starterSpan, hte, husable, Option.isNone_iff_eq_none, if_neg hpool]

variable {y : State} (hy : y = s.heal (hTerr (cHandle c))) {b : Bytes} {vb : Vocab} {ts : List Tok}
  (hvocab : te.vocab (cHandle c) (y.curVer (cHandle c)) = some vb) (hts : ts = (toTokens b).take (rd c 32 4))
include hy hvocab hts

/-- The position of a token that the vocabulary refuses goes to RESULT0 (R314). -/
theorem State.starterSpan_of_badToken {p : Nat} (h : badToken vb ts = some p) :
    s.starterSpan src c (.okay b) = y.complete (ticketOf src c) kONLY stBAD_FIELD (cHandle c) 0 24 p 0 := by
  subst hy hts
  simp only [State.starterSpan, hte, husable, Option.isNone_iff_eq_none, if_neg hpool, hvocab, h]
  rfl

variable (htoks : badToken vb ts = none) {d : Bytes} (hd : d = te.digestOf (cHandle c) (y.curVer (cHandle c)) ts)
  {f : State × Option Nat} (hf : f = y.findStarter (hTerr (cHandle c)) d)
include htoks hd hf

/-- The Starter of these tokens has no hold left to give (R316). -/
theorem State.starterSpan_of_holdsFull {i : Nat} (hfound : f.2 = some i) (h : f.1.matchStarter (hTerr (cHandle c)) i = none) :
    s.starterSpan src c (.okay b) = f.1.refuse (ticketOf src c) stNO_RESOURCE noField := by
  subst hy hts hd hf
  simp only [State.starterSpan, hte, husable, Option.isNone_iff_eq_none, if_neg hpool, hvocab, htoks, hfound, h]

theorem State.starterSpan_of_match {i : Nat} {w : State} (hfound : f.2 = some i)
    (h : f.1.matchStarter (hTerr (cHandle c)) i = some w) :
    s.starterSpan src c (.okay b) = (w.first (ticketOf src c) (w.handleOf (hTerr (cHandle c)) tyStarter i)).starterFinal
      (hTerr (cHandle c)) i { ticketOf src c with handle := w.handleOf (hTerr (cHandle c)) tyStarter i } true := by
  subst hy hts hd hf
  simp only [State.starterSpan, hte, husable, Option.isNone_iff_eq_none, if_neg hpool, hvocab, htoks, hfound, h]

variable (hnew : f.2 = none)
include hnew

theorem State.starterSpan_of_spanFail {st r0 : Nat} (h : f.1.spanFail te ts.length = some (st, r0)) :
    s.starterSpan src c (.okay b) = f.1.complete (ticketOf src c) kONLY st (cHandle c) 0 noField r0 0 := by
  subst hy hts hd hf
  simp only [State.starterSpan, hte, husable, Option.isNone_iff_eq_none, if_neg hpool, hvocab, htoks, hnew, h]
  rfl

theorem State.starterSpan_of_build (h : f.1.spanFail te ts.length = none) :
    s.starterSpan src c (.okay b) = f.1.spanBuild te src c ts d := by
  subst hy hts hd hf
  simp only [State.starterSpan, hte, husable, Option.isNone_iff_eq_none, if_neg hpool, hvocab, htoks, hnew, h]

end

/-! ### STARTER_CREATE FROM_REQUEST -/

section
variable {s : State} {src : Src} {c : Bytes} {te : Terrace} {q : Handle} {r : Req}
  (hte : s.terrace (hTerr (cHandle c)) = some te) (hq : q = rd c 20 4) (hr : s.req q = some r)
include hte hq hr

theorem State.starterFrom_of_noPool (h : te.pool = none) :
    s.starterFrom src c = s.refuse (ticketOf src c) stNOT_PERMITTED noField := by
  subst hq
  simp only [State.starterFrom, hte, hr, Option.isNone_iff_eq_none, if_pos h]

variable (hpool : te.pool ≠ none)
include hpool

theorem State.starterFrom_of_vocab_ne (h : r.vocab ≠ cHandle c) :
    s.starterFrom src c = s.refuse (ticketOf src c) stBAD_FIELD 20 := by
  subst hq
  simp only [State.starterFrom, hte, hr, Option.isNone_iff_eq_none, if_neg hpool, if_pos h]

variable (hvocab : r.vocab = cHandle c)
include hvocab

theorem State.starterFrom_of_captured (h : r.capture ≠ none) :
    s.starterFrom src c = s.refuse (ticketOf src c) stNOT_PERMITTED noField := by
  subst hq
  simp only [State.starterFrom, hte, hr, Option.isNone_iff_eq_none, if_neg hpool, if_neg (Decidable.not_not.2 hvocab),
    Option.isSome_iff_ne_none, if_pos h]

variable (hcapture : r.capture = none)
include hcapture

/-- A chain of Starters has at most eight of them (R315). -/
theorem State.starterFrom_of_longChain (hstarter : r.starter ≠ 0) (h : 8 ≤ te.chainLen (hIndex r.starter)) :
    s.starterFrom src c = s.refuse (ticketOf src c) stBAD_FIELD 20 := by
  subst hq
  simp only [State.starterFrom, hte, hr, Option.isNone_iff_eq_none, if_neg hpool, if_neg (Decidable.not_not.2 hvocab), hcapture,
    Option.isSome_none, Bool.false_eq_true, if_false, Bool.and_eq_true, decide_eq_true_eq, if_pos (And.intro hstarter h)]

variable (hshort : ¬ (r.starter ≠ 0 ∧ 8 ≤ te.chainLen (hIndex r.starter)))
include hshort

theorem State.starterFrom_of_quotaFull (h : te.desc.starterQuota ≤ te.starters.length) :
    s.starterFrom src c = s.refuse (ticketOf src c) stNO_RESOURCE noField := by
  subst hq
  simp only [State.starterFrom, hte, hr, Option.isNone_iff_eq_none, if_neg hpool, if_neg (Decidable.not_not.2 hvocab), hcapture,
    Option.isSome_none, Bool.false_eq_true, if_false, Bool.and_eq_true, decide_eq_true_eq, if_neg hshort, if_pos h]

/-- The Starter waits in the first free slot for the capture that the request now carries (R315). -/
theorem State.starterFrom_of_room (hroom : te.starters.length < te.desc.starterQuota) {i : Nat} {h : Handle}
    (hi : i = Tbl.fresh te.starters) (hh : h = s.handleOf (hTerr (cHandle c)) tyStarter i) :
    s.starterFrom src c = ((((s.modT (hTerr (cHandle c)) (fun te => { te with starters := (te.starters.put i
      { gen := hGen h, state := stBUILDING, holds := 1, users := 0, vocab := r.vocab, ver := r.pins.vocab, toks := []
        link := none, runs := [], digest := [], ticket := some { ticketOf src c with handle := h }
        fromReq := some (hIndex q), cancel := false }) })).modReq q (fun r =>
          { r with capture := some (i, rd c 32 4, { ticketOf src c with handle := h }) })).pinStarter r.vocab r.pins.vocab).first
            { ticketOf src c with handle := h } h) := by
  subst hq hi hh
  simp only [State.starterFrom, hte, hr, Option.isNone_iff_eq_none, if_neg hpool, if_neg (Decidable.not_not.2 hvocab), hcapture,
    Option.isSome_none, Bool.false_eq_true, if_false, Bool.and_eq_true, decide_eq_true_eq, if_neg hshort,
    if_neg (Nat.not_le_of_lt hroom)]

end

/-! ### STARTER_RELEASE -/

section
variable {s : State} {src : Src} {c : Bytes} {te : Terrace} {i : Nat} {x : Starter} {y : State}
  (hte : s.terrace (hTerr (cHandle c)) = some te) (hi : i = te.starterIx (hIndex (cHandle c)))
  (hx : te.starters.get i = some x) (hy : y = s.only (ticketOf src c) stOK (cHandle c) (x.holds - 1) x.users)
include hte hi hx hy

theorem State.starterRelease_of_building (h : x.state = stBUILDING) :
    s.starterRelease src c = y.cancelBuild (hTerr (cHandle c)) i x := by
  subst hi hy
  simp only [State.starterRelease, hte, hx, if_pos h]
  rfl

theorem State.starterRelease_of_built (h : x.state ≠ stBUILDING) :
    s.starterRelease src c = y.dropHold (hTerr (cHandle c)) i x := by
  subst hi hy
  simp only [State.starterRelease, hte, hx, if_neg h]
  rfl

end

/-- Settles O38: each accepted command's own effect, by the lemma of the check it ends at or of the Starter it makes. -/
theorem starterCommandsAct : Obligations.StarterCommandsAct := by
  rintro s u src c tk v t te rfl rfl rfl rfl hte
  refine ⟨fun x y hacc hy => ?_, fun q r hacc hq hr => ?_, fun i x y hacc hi hx hy => ?_⟩
  · rw [exec_accepted hacc rfl rfl]
    refine ⟨fun st r0 h => congrArg Host.Outcome.next (State.starterSpan_of_unusable hte h), fun husable hpool => ?_,
      fun husable hpool hx => ?_, fun b vb ts husable hpool hx hvocab hts => ⟨fun p h => ?_, fun d f htoks hd hf =>
      ⟨fun i hfound => ⟨fun h => ?_, fun w h => ?_⟩, fun hnew => ⟨fun st r0 h => ?_, fun i j ver g h hi hj hver hg => ?_⟩⟩⟩⟩
    · rw [State.starterSpan_of_noPool hte husable hpool, hy]
    · rw [hx, State.starterSpan_of_readError hte husable hpool, hy]
    · rw [hx, State.starterSpan_of_badToken hte husable hpool hy hvocab hts h]
    · rw [hx, State.starterSpan_of_holdsFull hte husable hpool hy hvocab hts htoks hd hf hfound h]
    · rw [hx, State.starterSpan_of_match hte husable hpool hy hvocab hts htoks hd hf hfound h]
    · rw [hx, State.starterSpan_of_spanFail hte husable hpool hy hvocab hts htoks hd hf hnew h]
    · rw [hx, State.starterSpan_of_build hte husable hpool hy hvocab hts htoks hd hf hnew h, hg, hver, hj, hi]
      rfl
  · rw [exec_accepted hacc rfl rfl]
    refine ⟨fun h => congrArg Host.Outcome.next (State.starterFrom_of_noPool hte hq hr h),
      fun hpool h => congrArg Host.Outcome.next (State.starterFrom_of_vocab_ne hte hq hr hpool h),
      fun hpool hvocab h => congrArg Host.Outcome.next (State.starterFrom_of_captured hte hq hr hpool hvocab h),
      fun hpool hvocab hcapture hstarter h => congrArg Host.Outcome.next
        (State.starterFrom_of_longChain hte hq hr hpool hvocab hcapture hstarter h),
      fun hpool hvocab hcapture hchain => ?_⟩
    have hshort : ¬ (r.starter ≠ 0 ∧ 8 ≤ te.chainLen (hIndex r.starter)) :=
      fun ⟨hstarter, hlong⟩ => hchain.elim hstarter (Nat.not_lt.2 hlong)
    exact ⟨fun h => congrArg Host.Outcome.next (State.starterFrom_of_quotaFull hte hq hr hpool hvocab hcapture hshort h),
      fun i h hroom hi hh => congrArg Host.Outcome.next
        (State.starterFrom_of_room hte hq hr hpool hvocab hcapture hshort hroom hi hh)⟩
  · rw [exec_accepted hacc rfl rfl]
    exact ⟨fun h => congrArg Host.Outcome.next (State.starterRelease_of_building hte hi hx hy h),
      fun h => congrArg Host.Outcome.next (State.starterRelease_of_built hte hi hx hy h)⟩

end Sys2Proof.Machine
end

section
/-! SUPPORT. POOL_CONFIG (R300, R301, R303): its operation, its refusals, and what each operation makes of the pool. -/

namespace Sys2Proof.Machine

/-! ### The operation of an accepted row -/

section
variable {s : State} {src : Src} {c : Bytes}

/-- The reserved values of OP that the row takes end at check 3. -/
theorem poolConfigCreate_op (h : s.accepts (.poolConfigCreate src c) = true) : rd c 16 1 = 0 := by
  have hrow := accepted_row rfl h
  have hcode := accepted_body rfl h (rc c 16 2) List.mem_cons_self
  simp [rc, field, Chk.need] at hrow hcode
  omega

theorem poolConfigAddRange_op (h : s.accepts (.poolConfigAddRange src c) = true) : rd c 16 1 = 1 := by
  have hrow := accepted_row rfl h
  simp at hrow
  exact hrow.2

theorem poolConfigDelete_op (h : s.accepts (.poolConfigDelete src c) = true) : rd c 16 1 = 2 := by
  have hrow := accepted_row rfl h
  simp at hrow
  exact hrow.2

/-- The taking of an entry frees no slot. -/
theorem State.take_genOf (t ty idx : Nat) : (s.take src).genOf t ty idx = s.genOf t ty idx := by
  simp only [State.genOf, State.genSteps, State.take_gens, State.take_genBase]

theorem State.take_handleOf (t ty idx : Nat) : (s.take src).handleOf t ty idx = s.handleOf t ty idx := by
  simp only [State.handleOf, State.take_genOf]

/-! ### What it makes of the pool -/

variable {te : Terrace} (hte : s.terrace (hTerr (cHandle c)) = some te)
include hte

theorem State.poolConfig_of_poolFail {st off : Nat} (h : s.poolFail te c = some (st, off)) :
    s.poolConfig src c = s.refuse (ticketOf src c) st off := by
  simp only [State.poolConfig, hte, h]

variable (hpass : s.poolFail te c = none)
include hpass

theorem State.poolConfig_of_create (hop : rd c 16 1 = 0) {p : Pool}
    (hp : p = ⟨s.genOf (hTerr (cHandle c)) tyPool 0, rd c 17 1, [cRun c], [], rd c 28 4⟩) :
    s.poolConfig src c = (s.modT (hTerr (cHandle c)) (fun te => { te with pool := some p })).only (ticketOf src c) stOK
      (s.handleOf (hTerr (cHandle c)) tyPool 0) (runsCount [cRun c]) { te with pool := some p }.freePages := by
  subst hp
  simp [State.poolConfig, State.poolSet, hte, hpass, hop, Pool.all]

theorem State.poolConfig_of_addRange (hop : rd c 16 1 = 1) {p q : Pool} (hpool : te.pool = some p)
    (hq : q = { p with newRanges := p.newRanges ++ [cRun c], runs := p.runs + rd c 28 4 }) :
    s.poolConfig src c = (s.modT (hTerr (cHandle c)) (fun te => { te with pool := te.pool.map (fun p =>
        { p with newRanges := p.newRanges ++ [cRun c], runs := p.runs + rd c 28 4 }) })).only (ticketOf src c) stOK
      (s.handleOf (hTerr (cHandle c)) tyPool 0) (runsCount q.all) { te with pool := some q }.freePages := by
  subst hq
  simp [State.poolConfig, State.poolSet, hte, hpass, hop, hpool]

/-- The pool's handle has its next generation behind the deletion; the answer names the pool that was (R301). -/
theorem State.poolConfig_of_delete (hop : rd c 16 1 = 2) :
    s.poolConfig src c = ((s.modT (hTerr (cHandle c)) (fun te => { te with pool := none })).bumpGen (hTerr (cHandle c)) tyPool
      0).only (ticketOf src c) stOK (s.handleOf (hTerr (cHandle c)) tyPool 0) 0 0 := by
  simp [State.poolConfig, State.poolSet, hte, hpass, hop, State.terrace_congr (State.bumpGen_terr ..)]

end

/-- Settles O29: each row runs `poolConfig` on its own operation, which a check refuses or the lemma of its case states. -/
theorem poolConfigActs : Obligations.PoolConfigActs := by
  rintro s u src c t tk te rfl rfl rfl hs
  have hte : (s.take src).terrace (hTerr (cHandle c)) = some te := (State.terrace_congr (State.take_terr s src) _).trans hs
  have hcreate (hacc : s.accepts (.poolConfigCreate src c) = true) :
      exec (.poolConfigCreate src c) s = .next ((s.take src).poolConfig src c) := exec_accepted hacc rfl rfl
  have hadd (hacc : s.accepts (.poolConfigAddRange src c) = true) :
      exec (.poolConfigAddRange src c) s = .next ((s.take src).poolConfig src c) := exec_accepted hacc rfl rfl
  have hdelete (hacc : s.accepts (.poolConfigDelete src c) = true) :
      exec (.poolConfigDelete src c) s = .next ((s.take src).poolConfig src c) := exec_accepted hacc rfl rfl
  refine ⟨fun st off h => ?_, fun hpass => ⟨fun p hacc hp => ?_, fun p q hacc hpool hq => ?_, fun hacc => ?_⟩⟩
  · rw [← State.poolConfig_of_poolFail hte h]
    exact ⟨hcreate, hadd, hdelete⟩
  · rw [← State.take_genOf] at hp
    rw [hcreate hacc, State.poolConfig_of_create hte hpass (poolConfigCreate_op hacc) hp, State.take_handleOf]
  · rw [hadd hacc, State.poolConfig_of_addRange hte hpass (poolConfigAddRange_op hacc) hpool hq, State.take_handleOf]
  · rw [hdelete hacc, State.poolConfig_of_delete hte hpass (poolConfigDelete_op hacc), State.take_handleOf]

end Sys2Proof.Machine
end

section
/-! SUPPORT. BOUNDS, TILES and ROWS_FULL (R346, R348, R355, R356): the first checks of every message that names a step (R358),
the message's own, and what a message that passes them does. -/

namespace Sys2Proof.Machine

/-! ### The first checks (R358) -/

section
variable {s : State} {m : SpMsg} {body : Step → Bool → State}

theorem State.message_of_closed (h : s.ingressOpen = false) : s.message m body = s := by
  simp only [State.message, h, Bool.not_false, if_true]

variable (hopen : s.ingressOpen = true)
include hopen

theorem State.message_of_late (h : s.concernOf m = .inl none) :
    s.message m body = s.count cSP_LATE_MSG (mTerr m) locBlock 1 := by
  simp only [State.message, hopen, h, Bool.not_true, Bool.false_eq_true, if_false, State.tally]

theorem State.message_of_code {code : Nat} (h : s.concernOf m = .inl (some code)) :
    s.message m body = s.protoErr (mTerr m) code false := by
  simp only [State.message, hopen, h, Bool.not_true, Bool.false_eq_true, if_false]

variable {f : Step} {old : Bool} (hstep : s.concernOf m = .inr (f, old))
include hstep

theorem State.message_of_notReady (h : s.tready (mTerr m) = false) :
    s.message m body = s.protoErr (mTerr m) peNO_TREADY (!old) := by
  simp only [State.message, hopen, hstep, h, Bool.not_true, Bool.not_false, Bool.false_eq_true, if_false, if_true]

theorem State.message_of_ready (h : s.tready (mTerr m) = true) : s.message m body = body f old := by
  simp only [State.message, hopen, hstep, h, Bool.not_true, Bool.false_eq_true, if_false]

end

/-! ### The three rows -/

section
variable {s : State} {m : SpMsg} {n : Nat} {i : Instr}
  (hi : (i = .bounds m ∧ n = 2) ∨ (i = .tiles m ∧ n = 4) ∨ (i = .rowsFull m ∧ n = 5))
include hi

/-- TILES and ROWS_FULL are one operation, which differs in whether the row's values are a FULL_ROW answer. -/
theorem exec_tileMessage (hn : n ≠ 2) (htype : mType m = n) : exec i s = .next (s.tileMsg m (n = 5)) := by
  obtain ⟨rfl, rfl⟩ | ⟨rfl, rfl⟩ | ⟨rfl, rfl⟩ := hi
  · exact absurd rfl hn
  · exact congrArg Host.Outcome.next (if_neg (Decidable.not_not.2 htype))
  · exact congrArg Host.Outcome.next (if_neg (Decidable.not_not.2 htype))

theorem exec_boundsMessage (hn : n = 2) : exec i s = .next (s.bounds m) := by
  obtain ⟨rfl, -⟩ | ⟨-, rfl⟩ | ⟨-, rfl⟩ := hi
  · rfl
  · cases hn
  · cases hn

/-- Each runs its work behind the first checks. -/
theorem exec_rowMessage (htype : mType m = n) : ∃ body, exec i s = .next (s.message m body) := by
  by_cases hn : n = 2
  · rw [exec_boundsMessage hi hn, State.bounds, if_neg (Decidable.not_not.2 (htype.trans hn))]
    exact ⟨_, rfl⟩
  · rw [exec_tileMessage hi hn htype, State.tileMsg]
    exact ⟨_, rfl⟩

theorem exec_rowMessage_ignored (h : mType m ≠ n ∨ s.ingressOpen = false) : exec i s = .next s := by
  by_cases htype : mType m = n
  · obtain ⟨body, hbody⟩ := exec_rowMessage (s := s) hi htype
    rw [hbody, State.message_of_closed (h.resolve_left (Decidable.not_not.2 htype))]
  · obtain ⟨rfl, rfl⟩ | ⟨rfl, rfl⟩ | ⟨rfl, rfl⟩ := hi
    all_goals exact congrArg Host.Outcome.next (if_pos htype)

end

/-! ### What a message does that passes the first checks -/

section
variable {s : State} {m : SpMsg} {f : Step} {old : Bool} (hopen : s.ingressOpen = true)
  (hstep : s.concernOf m = .inr (f, old)) (hready : s.tready (mTerr m) = true)
include hopen hstep hready

section
variable (htype : mType m = 2)
include htype

theorem State.bounds_of_err {e : Nat} (he : boundsErr m f (f.outRow m) = some e) :
    s.bounds m = s.protoErr (mTerr m) e (!old) := by
  simp only [State.bounds, htype, State.message_of_ready hopen hstep hready, he, ne_eq, not_true_eq_false, if_false]

/-- The row's bounds are stored, and the row runs on them (R346). -/
theorem State.bounds_of_row {row : Row} (hrow : f.outRow m = some row) (hok : boundsErr m f (some row) = none) :
    s.bounds m = ((s.modRow (mTerr m) old (rd m.head 16 2) (fun r => { r with
      hasBounds := true, bounds := boundVals f.bfmt (rd m.head 24 4) r.nt m.payload })).maskHit (mTerr m) row).runRows
        (mTerr m) := by
  simp only [State.bounds, htype, State.message_of_ready hopen hstep hready, hrow, hok, ne_eq, not_true_eq_false, if_false]

end

variable {full : Bool}

theorem State.tileMsg_of_err {e : Nat} (he : tilesErr m f full (f.outRow m) = some e) :
    s.tileMsg m full = s.protoErr (mTerr m) e (!old) := by
  simp only [State.tileMsg, State.message_of_ready hopen hstep hready, he]

/-- The tiles are added to the row's request: `u` has counted them and those that breach a bound, `v` a full row that is complete,
`w` the mask of a FULL_ROW step's first tiles (R348, R356). -/
theorem State.tileMsg_of_row {row : Row} {te : Terrace} {q : TileReq} {r : Req} {l : List (Nat × List XVal)} {br : List Nat}
    {u v w : State} (hrow : f.outRow m = some row) (hok : tilesErr m f full (some row) = none)
    (hte : s.terrace (mTerr m) = some te) (hq : row.req = some q) (hr : te.reqs.get row.idx = some r) (hl : l = msgTiles m f q)
    (hbr : br = ((te.rowCtx f r row).breaching row l).filter (fun j => !row.breached.contains j))
    (hu : u = ((s.modRow (mTerr m) old (rd m.head 16 2) (fun x => { x with
      req := some { q with got := q.got + l.length }
      scale := if f.lfmt = fmtQ16R then some (rd m.head 24 4) else none
      breached := x.breached ++ br
      breach := x.breach || (!full && !br.isEmpty)
      fetched := if x.wants then l.foldl (fun a y => a.put y.1 y.2) x.fetched else x.fetched })).count
        cTILES_FETCHED (mTerr m) locBlock l.length).count cBOUND_BREACH (mTerr m) locBlock br.length)
    (hv : v = if full = true ∧ q.got + l.length = q.list.length then u.count cFULL_ROW_FETCH (mTerr m) locBlock 1 else u)
    (hw : w = if q.round = 0xFF ∧ q.got = 0 then v.maskHit (mTerr m) row else v) :
    s.tileMsg m full = (if br = [] then w else w.breachTest (mTerr m)).runRows (mTerr m) := by
  subst hw hv hu hbr hl
  simp only [State.tileMsg, State.message_of_ready hopen hstep hready, hrow, hok, hte, hq, hr, State.tally, Bool.and_eq_true,
    decide_eq_true_eq, List.isEmpty_iff]

end

/-- Settles O51: the first checks are the same for the three rows; behind them the lemma of the check or of the row it feeds. -/
theorem stepPortRowsArrive : Obligations.StepPortRowsArrive := by
  rintro s m t n i rfl hi
  refine ⟨exec_rowMessage_ignored hi, fun htype hopen => ?_⟩
  obtain ⟨body, hbody⟩ := exec_rowMessage (s := s) hi htype
  refine ⟨fun hlate => ?_, fun code hcode => ?_, fun f old hstep => ⟨fun hnot => ?_, fun hready =>
    ⟨fun e hn he => ?_, fun e hn he => ?_, fun row hrow => ⟨fun hn hok => ?_,
      fun hn hok te q r l br u v w hte hq hr hl hbr hu hv hw => ?_⟩⟩⟩⟩
  · rw [hbody, State.message_of_late hopen hlate]
  · rw [hbody, State.message_of_code hopen hcode]
  · rw [hbody, State.message_of_notReady hopen hstep hnot]
    rfl
  · rw [exec_boundsMessage hi hn, State.bounds_of_err hopen hstep hready (htype.trans hn) he]
  · rw [exec_tileMessage hi hn htype, State.tileMsg_of_err hopen hstep hready he]
  · rw [exec_boundsMessage hi hn, State.bounds_of_row hopen hstep hready (htype.trans hn) hrow hok]
  · have hkind : decide (n = 4) = !decide (n = 5) := by
      obtain ⟨-, rfl⟩ | ⟨-, rfl⟩ | ⟨-, rfl⟩ := hi
      · exact absurd rfl hn
      · rfl
      · rfl
    rw [hkind] at hu
    rw [exec_tileMessage hi hn htype, State.tileMsg_of_row hopen hstep hready hrow hok hte hq hr hl hbr hu
      (by simpa only [decide_eq_true_eq] using hv) hw]

end Sys2Proof.Machine
end

section
/-! SUPPORT. ATTN messages (R334, R353, R355, R358) and messages of a reserved type: which are ignored, and what each does. -/

namespace Sys2Proof.Machine

/-! ### Messages that change nothing, and a reserved type -/

section
variable {s : State} {m : SpMsg}

theorem State.reservedMsg_ignored (h : mType m ∈ [2, 4, 5, 8] ∨ s.ingressOpen = false) : s.reservedMsg m = s := by
  refine if_pos ?_
  rw [Bool.or_eq_true, Bool.not_eq_true', List.contains_iff_mem]
  exact h

theorem State.reservedMsg_of_open (hopen : s.ingressOpen = true) (htype : mType m ∉ [2, 4, 5, 8]) :
    s.reservedMsg m = s.protoErr (mTerr m) peBAD_TYPE false := by
  refine if_neg ?_
  rw [Bool.or_eq_true, Bool.not_eq_true', List.contains_iff_mem, hopen]
  exact fun h => h.elim htype Bool.true_eq_false.mp

theorem State.attnDrafts_ignored (h : mType m ≠ 8 ∨ aKind m ≠ 2 ∨ s.ingressOpen = false) : s.attnDrafts m = s := by
  refine if_pos ?_
  simpa only [Bool.or_eq_true, decide_eq_true_eq, Bool.not_eq_true', or_assoc] using h

end

/-! ### STEP_DONE and ABORT -/

section
variable {s : State} {m : SpMsg}

/-- A STEP_DONE row runs its work behind the first checks. -/
theorem State.attnDone_message (htype : mType m = 8) (h2 : aKind m ≠ 2) (h3 : aKind m ≠ 3) :
    ∃ body, s.attnDone m = s.message m body := by
  refine ⟨_, if_neg ?_⟩
  simp only [htype, h2, h3, ne_eq, not_true_eq_false, decide_false, Bool.or_false, Bool.false_eq_true, not_false_eq_true]

theorem State.attnAbort_message (htype : mType m = 8) (h3 : aKind m = 3) : ∃ body, s.attnAbort m = s.message m body := by
  refine ⟨_, if_neg ?_⟩
  simp only [htype, h3, ne_eq, not_true_eq_false, decide_false, Bool.or_false, Bool.false_eq_true, not_false_eq_true]

theorem State.attnDone_ignored (h : mType m ≠ 8 ∨ aKind m = 2 ∨ aKind m = 3 ∨ s.ingressOpen = false) :
    s.attnDone m = s := by
  by_cases hown : mType m = 8 ∧ aKind m ≠ 2 ∧ aKind m ≠ 3
  · obtain ⟨htype, h2, h3⟩ := hown
    obtain ⟨body, hbody⟩ := State.attnDone_message (s := s) htype h2 h3
    rw [hbody, State.message_of_closed (by simpa only [htype, h2, h3, ne_eq, not_true_eq_false, false_or] using h)]
  · refine if_pos ?_
    simp only [Bool.or_eq_true, decide_eq_true_eq]
    omega

theorem State.attnAbort_ignored (h : mType m ≠ 8 ∨ aKind m ≠ 3 ∨ s.ingressOpen = false) : s.attnAbort m = s := by
  by_cases hown : mType m = 8 ∧ aKind m = 3
  · obtain ⟨htype, h3⟩ := hown
    obtain ⟨body, hbody⟩ := State.attnAbort_message (s := s) htype h3
    rw [hbody, State.message_of_closed (by simpa only [htype, h3, ne_eq, not_true_eq_false, false_or] using h)]
  · refine if_pos ?_
    simp only [Bool.or_eq_true, decide_eq_true_eq]
    omega

end

/-- Both rows run their work behind the first checks. -/
theorem exec_attnMessage {s : State} {m : SpMsg} {i : Instr} (htype : mType m = 8)
    (hi : (i = .attnStepDone m ∧ aKind m ≠ 2 ∧ aKind m ≠ 3) ∨ (i = .attnAbort m ∧ aKind m = 3)) :
    ∃ body, exec i s = .next (s.message m body) := by
  obtain ⟨rfl, h2, h3⟩ | ⟨rfl, h3⟩ := hi
  · exact (State.attnDone_message htype h2 h3).imp fun _ => congrArg Host.Outcome.next
  · exact (State.attnAbort_message htype h3).imp fun _ => congrArg Host.Outcome.next

section
variable {s : State} {m : SpMsg} {f : Step} {old : Bool} (hopen : s.ingressOpen = true)
  (hstep : s.concernOf m = .inr (f, old)) (hready : s.tready (mTerr m) = true) (htype : mType m = 8)
include hopen hstep hready htype

section
variable (h2 : aKind m ≠ 2) (h3 : aKind m ≠ 3)
include h2 h3

theorem State.attnDone_of_err {e : Nat} (he : attnErr m = some e) : s.attnDone m = s.protoErr (mTerr m) e (!old) := by
  simp [State.attnDone, htype, h2, h3, State.message_of_ready hopen hstep hready, he]

variable (hok : attnErr m = none)
include hok

/-- A STEP_DONE that repeats, or comes before every BOUNDS of its step, is unsolicited (R355). -/
theorem State.attnDone_unsolicited (h : f.done = true ∨ f.heard = false) :
    s.attnDone m = s.protoErr (mTerr m) peUNSOLICITED (!old) := by
  simp [State.attnDone, htype, h2, h3, State.message_of_ready hopen hstep hready, hok, h]

theorem State.attnDone_of_heard (hdone : f.done = false) (hheard : f.heard = true) :
    s.attnDone m = s.modStep (mTerr m) old (fun f => { f with done := true }) := by
  simp [State.attnDone, htype, h2, h3, State.message_of_ready hopen hstep hready, hok, hdone, hheard]

end

variable (h3 : aKind m = 3)
include h3

theorem State.attnAbort_of_err {e : Nat} (he : attnErr m = some e) : s.attnAbort m = s.protoErr (mTerr m) e (!old) := by
  simp [State.attnAbort, htype, h3, State.message_of_ready hopen hstep hready, he]

theorem State.attnAbort_of_ok (hok : attnErr m = none) :
    s.attnAbort m = (s.modStep (mTerr m) old (fun f => { f with reason := rd m.head 24 4 })).protoErr (mTerr m) peABORTED
      (!old) := by
  simp [State.attnAbort, htype, h3, State.message_of_ready hopen hstep hready, hok]

end

/-! ### DRAFTS (R334) -/

section
variable {s : State} {m : SpMsg} (hopen : s.ingressOpen = true) (htype : mType m = 8) (h2 : aKind m = 2)
include hopen htype h2

theorem State.attnDrafts_of_noTerrace (hte : s.terrace (mTerr m) = none) :
    s.attnDrafts m = s.protoErr (mTerr m) peBAD_TERRACE false := by
  simp [State.attnDrafts, hopen, htype, h2, hte]

variable {te : Terrace} (hte : s.terrace (mTerr m) = some te)
include hte

theorem State.attnDrafts_of_notReady (hready : s.tready (mTerr m) = false) :
    s.attnDrafts m = s.protoErr (mTerr m) peNO_TREADY false := by
  simp [State.attnDrafts, hopen, htype, h2, hte, hready]

variable (hready : s.tready (mTerr m) = true) {h : Handle} {r : Option Req} (hh : h = rd m.head 20 4)
  (hr : r = if hTerr h = mTerr m ∧ hType h = tyReq then s.req h else none)
include hready hh hr

theorem State.attnDrafts_of_err {e : Nat} (he : draftsErr m ((r.map (·.draftMax)).getD 15) = some e) :
    s.attnDrafts m = s.protoErr (mTerr m) e false := by
  simp only [State.attnDrafts, hopen, htype, h2, hte, hready, ← hh, Bool.and_eq_true, decide_eq_true_eq, ← hr, he, ne_eq,
    not_true_eq_false, decide_false, Bool.not_true, Bool.or_false, Bool.false_eq_true, if_false]

variable (hok : draftsErr m ((r.map (·.draftMax)).getD 15) = none)
include hok

/-- A set that no request of the terrace has asked of this step, or that names a token it may not, is discarded (R353). -/
theorem State.attnDrafts_stale (h : ∀ q v, r = some q → q.wantDrafts = true → q.draftSrc = 2 → q.lastStep = mStep m →
    te.vocab q.vocab q.pins.vocab = some v → badToken v (draftToks m) ≠ none) :
    s.attnDrafts m = s.count cDRAFT_STALE (mTerr m) locBlock 1 := by
  simp only [State.attnDrafts, hopen, htype, h2, hte, hready, ← hh, Bool.and_eq_true, decide_eq_true_eq, ← hr, hok, ne_eq,
    not_true_eq_false, decide_false, Bool.not_true, Bool.or_false, Bool.false_eq_true, if_false]
  refine if_neg ?_
  cases r with
  | none => exact Bool.false_ne_true
  | some q =>
    cases hv : te.vocab q.vocab q.pins.vocab with
    | none => simp [hv]
    | some v =>
      simp only [hv, Bool.and_eq_true, decide_eq_true_eq, Option.isNone_iff_eq_none]
      rintro ⟨⟨⟨hwant, hsrc⟩, hlast⟩, hbad⟩
      exact h q v rfl hwant hsrc hlast hv hbad

/-- A solicited set of usable tokens takes the place of the request's drafts (R334). -/
theorem State.attnDrafts_solicited {q : Req} {v : Vocab} (hq : r = some q) (hwant : q.wantDrafts = true) (hsrc : q.draftSrc = 2)
    (hlast : q.lastStep = mStep m) (hv : te.vocab q.vocab q.pins.vocab = some v) (hbad : badToken v (draftToks m) = none) :
    s.attnDrafts m = s.modReq h (fun r => { r with
      drafts := draftToks m, draftBase := rd m.head 24 4, hasDrafts := true, wantDrafts := false }) := by
  subst hq
  simp only [State.attnDrafts, hopen, htype, h2, hte, hready, ← hh, Bool.and_eq_true, decide_eq_true_eq, ← hr, hok, hwant, hsrc,
    hlast, hv, hbad, ne_eq, not_true_eq_false, decide_false, decide_true, Bool.not_true, Bool.or_false, Bool.and_true,
    Option.isNone_none, Bool.false_eq_true, if_false, if_true]

end

/-- Settles O52: STEP_DONE and ABORT share the first checks; DRAFTS has its own; behind them the lemma of each case. -/
theorem stepPortAttention : Obligations.StepPortAttention := by
  rintro s m t rfl
  refine ⟨fun h => congrArg Host.Outcome.next (State.attnDone_ignored h),
    fun h => congrArg Host.Outcome.next (State.attnAbort_ignored h),
    fun h => congrArg Host.Outcome.next (State.attnDrafts_ignored h),
    fun h => congrArg Host.Outcome.next (State.reservedMsg_ignored h), fun hopen =>
      ⟨fun htype => congrArg Host.Outcome.next (State.reservedMsg_of_open hopen htype), fun i htype hi => ?_,
        fun htype h2 => ⟨fun hte => congrArg Host.Outcome.next (State.attnDrafts_of_noTerrace hopen htype h2 hte),
          fun te h r hte hh hr =>
            ⟨fun hnot => congrArg Host.Outcome.next (State.attnDrafts_of_notReady hopen htype h2 hte hnot),
              fun hready => ⟨fun e he =>
                congrArg Host.Outcome.next (State.attnDrafts_of_err hopen htype h2 hte hready hh hr he), fun hok => ?_⟩⟩⟩⟩⟩
  · obtain ⟨body, hbody⟩ := exec_attnMessage (s := s) htype hi
    refine ⟨fun hlate => ?_, fun code hcode => ?_, fun f old hstep => ⟨fun hnot => ?_, fun hready => ?_⟩⟩
    · rw [hbody, State.message_of_late hopen hlate]
    · rw [hbody, State.message_of_code hopen hcode]
    · rw [hbody, State.message_of_notReady hopen hstep hnot]
      rfl
    · obtain ⟨rfl, h2, h3⟩ | ⟨rfl, h3⟩ := hi
      · exact ⟨fun e he => congrArg Host.Outcome.next (State.attnDone_of_err hopen hstep hready htype h2 h3 he), fun hok =>
          ⟨fun _ hdone hheard =>
              congrArg Host.Outcome.next (State.attnDone_of_heard hopen hstep hready htype h2 h3 hok hdone hheard),
            fun _ h => congrArg Host.Outcome.next (State.attnDone_unsolicited hopen hstep hready htype h2 h3 hok h),
            fun h => absurd h h3⟩⟩
      · exact ⟨fun e he => congrArg Host.Outcome.next (State.attnAbort_of_err hopen hstep hready htype h3 he), fun hok =>
          ⟨fun h => absurd h3 h, fun h => absurd h3 h,
            fun _ => congrArg Host.Outcome.next (State.attnAbort_of_ok hopen hstep hready htype h3 hok)⟩⟩
  · have hstale := State.attnDrafts_stale hopen htype h2 hte hready hh hr hok
    refine ⟨fun hnone => congrArg Host.Outcome.next (hstale fun q v hq => ?_), fun q hq => ⟨fun h =>
      congrArg Host.Outcome.next (hstale fun q' v hq' hwant hsrc hlast hv => ?_), fun v hv => ⟨fun hbad =>
      congrArg Host.Outcome.next (hstale fun q' v' hq' _ _ _ hv' => ?_), fun hwant hsrc hlast hbad => congrArg Host.Outcome.next
        (State.attnDrafts_solicited hopen htype h2 hte hready hh hr hok hq hwant hsrc hlast hv hbad)⟩⟩⟩
    · exact absurd (hnone.symm.trans hq) (Option.some_ne_none q).symm
    · cases Option.some.inj (hq.symm.trans hq')
      simp [hwant, hsrc, hlast, hv] at h
    · cases Option.some.inj (hq.symm.trans hq')
      cases Option.some.inj (hv.symm.trans hv')
      exact hbad

end Sys2Proof.Machine
end

section
/-! SUPPORT. STEP_TIMEOUT and ROW_WITHDRAW_TIMEOUT (R338, R358, R361), case by case. -/

namespace Sys2Proof.Machine

/-! ### STEP_TIMEOUT -/

section
variable {s : State} {t : Nat}

theorem State.stepTimeout_of_noStep (h : ∀ te, s.terrace t = some te → te.sp.flight = none) : s.stepTimeout t = s := by
  cases hte : s.terrace t with
  | none => simp only [State.stepTimeout, hte, Option.bind_none]
  | some te => simp only [State.stepTimeout, hte, h te hte, Option.bind_some, Option.map_none]

variable {te : Terrace} {f : Step} (hte : s.terrace t = some te) (hf : te.sp.flight = some f)
include hte hf

theorem State.stepTimeout_notDue (h : f.sent = false ∨ f.complete = true ∨ s.tick < f.openAt + te.sp.cur.limit) :
    s.stepTimeout t = s := by
  simp only [State.stepTimeout, hte, hf, Option.bind_some, Option.map_some]
  refine if_neg ?_
  simp only [Bool.and_eq_true, Bool.not_eq_true', decide_eq_true_eq]
  rintro ⟨⟨hsent, hopen⟩, hdue⟩
  obtain h | h | h := h
  · exact Bool.false_ne_true (h.symm.trans hsent)
  · exact Bool.false_ne_true (hopen.symm.trans h)
  · exact Nat.not_le_of_lt h hdue

theorem State.stepTimeout_due (hsent : f.sent = true) (hopen : f.complete = false)
    (h : f.openAt + te.sp.cur.limit ≤ s.tick) : s.stepTimeout t = s.protoErr t peTIMEOUT true := by
  simp [State.stepTimeout, hte, hf, hsent, hopen, h]

end

/-! ### ROW_WITHDRAW_TIMEOUT -/

section
variable {s : State} {t i : Nat}

theorem State.rowTimeout_of_noStep (h : ∀ te, s.terrace t = some te → te.sp.flight = none) : s.rowTimeout t i = s := by
  cases hte : s.terrace t with
  | none => simp only [State.rowTimeout, hte, Option.bind_none]
  | some te => simp only [State.rowTimeout, Terrace.flightRow, hte, h te hte, Option.bind_some, Option.bind_none]

variable {te : Terrace} {f : Step} (hte : s.terrace t = some te) (hf : te.sp.flight = some f)
include hte hf

theorem State.rowTimeout_of_noRow (h : f.rows[i]? = none) : s.rowTimeout t i = s := by
  simp only [State.rowTimeout, Terrace.flightRow, hte, hf, h, Option.bind_some, Option.map_none]

variable {row : Row} (hrow : f.rows[i]? = some row)
include hrow

/-- The row is withdrawn only where it waits in a step that goes on, for a cause that withdraws rows, since 5,000 ticks, and no
other owner's row is left to run (R338). -/
theorem State.rowTimeout_notDue (h : ∀ at_ code, row.waitAt = some (at_, code) → f.failed = false → row.isOver = false →
      (∀ r ∈ f.rows, r.idx = row.idx ∨ r.isOver = true ∨ r.kind = 0) →
      at_ + 5000 ≤ s.tick → code ≠ scOBJ_QUARANTINE ∧ code ≠ scFILL_LATE) :
    s.rowTimeout t i = s := by
  simp only [State.rowTimeout, Terrace.flightRow, hte, hf, hrow, Option.bind_some, Option.map_some]
  split
  · rename_i at_ code hwait
    refine if_neg ?_
    simp only [Bool.and_eq_true, Bool.or_eq_true, Bool.not_eq_true', decide_eq_true_eq, List.all_eq_true, or_assoc]
    rintro ⟨⟨⟨⟨hfailed, hover⟩, hcode⟩, hdue⟩, hall⟩
    obtain ⟨hquar, hlate⟩ := h at_ code hwait hfailed hover hall hdue
    exact hcode.elim hquar hlate
  · rfl

theorem State.rowTimeout_due {at_ code : Nat} (hwait : row.waitAt = some (at_, code)) (hfailed : f.failed = false)
    (hover : row.isOver = false) (hall : ∀ r ∈ f.rows, r.idx = row.idx ∨ r.isOver = true ∨ r.kind = 0)
    (hdue : at_ + 5000 ≤ s.tick) (hcode : code = scOBJ_QUARANTINE ∨ code = scFILL_LATE) :
    s.rowTimeout t i = s.withdrawOwner t row.idx code := by
  simp only [State.rowTimeout, Terrace.flightRow, hte, hf, hrow, hwait, Option.bind_some, Option.map_some]
  refine if_pos ?_
  simp only [Bool.and_eq_true, Bool.or_eq_true, Bool.not_eq_true', decide_eq_true_eq, List.all_eq_true, or_assoc]
  exact ⟨⟨⟨⟨hfailed, hover⟩, hcode⟩, hdue⟩, hall⟩

end

/-- Settles O53: each timer by the lemma of what it finds, no step or row, one that is not due, or one that is. -/
theorem stepTimersAct : Obligations.StepTimersAct := by
  intro s t i
  have hidle (hno : ∀ te, s.terrace t = some te → te.sp.flight = none) :
      exec (.stepTimeout t) s = .next s ∧ exec (.rowWithdrawTimeout t i) s = .next s :=
    ⟨congrArg Host.Outcome.next (State.stepTimeout_of_noStep hno), congrArg Host.Outcome.next (State.rowTimeout_of_noStep hno)⟩
  refine ⟨fun hte => hidle (by simp [hte]), fun te hte => ⟨fun hf => hidle (by simp [hte, hf]), fun f hf =>
    ⟨fun hsent hopen hdue => ?_, fun h => ?_, fun hrow => ?_, fun row hrow => ⟨fun h => ?_, fun at_ code hwait =>
      ⟨fun h => ?_, fun hover hfailed hcode hall hdue => ?_⟩⟩⟩⟩⟩
  · exact congrArg Host.Outcome.next (State.stepTimeout_due hte hf hsent hopen hdue)
  · exact congrArg Host.Outcome.next (State.stepTimeout_notDue hte hf h)
  · exact congrArg Host.Outcome.next (State.rowTimeout_of_noRow hte hf hrow)
  · refine congrArg Host.Outcome.next (State.rowTimeout_notDue hte hf hrow fun at_ code hwait hfailed hover hall _ => ?_)
    exfalso
    obtain h | h | h | ⟨r, hr, hidx, hrun, hkind⟩ := h
    · simp [hwait] at h
    · simp [hfailed] at h
    · simp [hover] at h
    · simpa [hidx, hrun, hkind] using hall r hr
  · refine congrArg Host.Outcome.next (State.rowTimeout_notDue hte hf hrow fun at' code' hwait' _ _ _ hdue => ?_)
    cases Option.some.inj (hwait.symm.trans hwait')
    exact h.resolve_left (Nat.not_lt.2 hdue)
  · exact congrArg Host.Outcome.next (State.rowTimeout_due hte hf hrow hwait hfailed hover hall hdue hcode)

end Sys2Proof.Machine
end

section
/-! SUPPORT. STEP_PORT_CONFIG (R360 to R362): what SET refuses, and the answer of each operation on a live terrace. -/

namespace Sys2Proof.Machine

/-! ### The answer (R362) -/

section
variable {s : State} {src : Src} {c : Bytes} {te : Terrace} (hte : s.terrace (hTerr (cHandle c)) = some te)
include hte

theorem State.spConfig_unchanged :
    s.spConfig src c (fun s _ => s) = s.only (ticketOf src c) stOK (cHandle c) te.sp.result0 te.sp.result1 := by
  simp only [State.spConfig, hte]
  rfl

/-- An operation answers the port as it leaves it. -/
theorem State.spConfig_modSp (p : StepPort → StepPort) :
    s.spConfig src c (fun s t => s.modSp t p) = (s.modT (hTerr (cHandle c)) (fun x => { x with sp := p x.sp })).only
      (ticketOf src c) stOK (cHandle c) (p te.sp).result0 (p te.sp).result1 := by
  simp only [State.spConfig, State.modSp, State.modT_terrace_self, hte, Option.map_some]
  rfl

/-! ### SET (R361) -/

theorem State.spSet_of_chk {st off : Nat} (h : s.spSetChk te (cSpSet c) = some (st, off)) :
    s.spSet src c = s.refuse (ticketOf src c) st off := by
  simp only [State.spSet, hte, h]

variable (hpass : s.spSetChk te (cSpSet c) = none)
include hpass

/-- The partitions of every terrace stand in one staging SRAM (R341). -/
theorem State.spSet_of_stagingFull (h : s.cfg.stagingKiB < s.stagingUsed (hTerr (cHandle c)) + rd c 28 2) :
    s.spSet src c = s.refuse (ticketOf src c) stNO_RESOURCE noField := by
  simp only [State.spSet, hte, hpass]
  exact if_pos h

/-- SET takes effect at the next boundary, so its answer is the settings in force. -/
theorem State.spSet_of_room (h : s.stagingUsed (hTerr (cHandle c)) + rd c 28 2 ≤ s.cfg.stagingKiB) :
    s.spSet src c = (s.modT (hTerr (cHandle c)) (fun x => { x with sp := { x.sp with posted := some (cSpSet c) } })).only
      (ticketOf src c) stOK (cHandle c) te.sp.result0 te.sp.result1 := by
  simp only [State.spSet, hte, hpass]
  exact (if_neg (Nat.not_lt.2 h)).trans (State.spConfig_modSp hte _)

end

/-- The taking of an entry moves no partition. -/
theorem State.take_stagingUsed (s : State) (src : Src) (t : Nat) : (s.take src).stagingUsed t = s.stagingUsed t := by
  simp only [State.stagingUsed, State.take_terr]

/-- Settles O28: each accepted row's own effect, by the lemma of the check SET ends at or of the change of the port. -/
theorem stepPortConfigActs : Obligations.StepPortConfigActs := by
  rintro s u src c te tk hs rfl rfl
  have hte : (s.take src).terrace (hTerr (cHandle c)) = some te := (State.terrace_congr (State.take_terr s src) _).trans hs
  refine ⟨fun hacc => ?_, fun hacc p hp => ?_, fun hacc => ?_⟩
  · rw [exec_accepted hacc rfl rfl, ← State.take_stagingUsed s src, ← State.take_cfg s src]
    exact ⟨fun st off h => congrArg Host.Outcome.next (State.spSet_of_chk hte h),
      fun hpass h => congrArg Host.Outcome.next (State.spSet_of_stagingFull hte hpass h),
      fun hpass h => congrArg Host.Outcome.next (State.spSet_of_room hte hpass h)⟩
  · rw [exec_accepted hacc rfl rfl, hp, State.spConfig_modSp hte]
  · rw [exec_accepted hacc rfl rfl, State.spConfig_unchanged hte]

end Sys2Proof.Machine
end

section
/-! SUPPORT. The Spring and the DRBGs (R414 to R416): a failure, the retry behind it, and what each terrace's DRBG does. -/

namespace Sys2Proof.Machine

/-! ### Failure and retry (R416) -/

section
variable {s : State} {raw : List Bool}

/-- The actions of R416 in order, with the failures of the last second. -/
theorem State.springFail_eq {recent : List Tick} {u : State}
    (hrecent : recent = (s.tick :: s.spring.failAt).filter (fun a => s.tick < a + 100000000))
    (hu : u = (State.raise { s with
      spring := { failed := true, dead := s.spring.dead || 4 ≤ recent.length, failAt := recent, queue := [] }
      terr := s.terr.mapVals (fun _ (te : Terrace) => { te with drbg := { count := te.drbg.count } }) } 20).count cENTROPY_FAIL
        noTerr locBlock 1) : s.springFail = u := by
  subst hrecent hu
  rfl

theorem execSpringHealthFail_of_fails (hon : s.springOn = true) (h : rawFails raw = true) :
    execSpringHealthFail raw s = .next s.springFail := by
  simp only [execSpringHealthFail, hon, h, Bool.and_self, if_true]

theorem execSpringHealthFail_unchanged (h : s.springOn = false ∨ rawFails raw = false) :
    execSpringHealthFail raw s = .next s :=
  congrArg Host.Outcome.next (if_neg (by obtain h | h := h <;> simp [h]))

theorem State.springRetry_of_notDue (h : s.springOn = false ∨ s.spring.failed = false ∨ s.spring.dead = true ∨
    s.tick < s.spring.failAt.headD 0 + 100000 ∨ raw.length < 1024) : s.springRetry raw = s :=
  if_pos (by simpa [or_assoc] using h)

/-- A due retry turns on the start-up test, which reads the first 1,024 raw bits. -/
theorem State.springRetry_of_due (hon : s.springOn = true) (hfailed : s.spring.failed = true) (hdead : s.spring.dead = false)
    (htime : s.spring.failAt.headD 0 + 100000 ≤ s.tick) (hbits : 1024 ≤ raw.length) :
    s.springRetry raw = if rawFails (raw.take 1024) then s.springFail else
      { s with spring := { s.spring with failed := false, queue := s.terr.keys } } :=
  if_neg (by simpa [hon, hfailed, hdead, hbits] using htime)

end

/-! ### Reinstantiation (R416) -/

section
variable {s : State} {t : Nat}

theorem State.reinstantiate_of_notDue (h : s.springOn = false ∨ s.spring.failed = true ∨ s.spring.queue.head? ≠ some t) :
    s.reinstantiate t = s :=
  if_neg (by obtain h | h | h := h <;> simp [h])

/-- The front of the queue gets its DRBG. -/
theorem State.reinstantiate_of_front (hon : s.springOn = true) (hfailed : s.spring.failed = false) {q : List Nat}
    (hq : s.spring.queue = t :: q) :
    s.reinstantiate t = { s with spring := { s.spring with queue := q } }.instantiate t := by
  simp [State.reinstantiate, hon, hfailed, hq]

end

/-! ### Generate and reseed (R415) -/

section
variable {s : State} {t : Nat}

theorem execDrbgGenerate_of_none (h : s.terrace t = none) : execDrbgGenerate t s = .next s := by
  simp only [execDrbgGenerate, h]

theorem execDrbgReseed_of_none (h : s.terrace t = none) : execDrbgReseed t s = .next s := by
  simp only [execDrbgReseed, h]

section
variable {te : Terrace} (hte : s.terrace t = some te)
include hte

theorem execDrbgGenerate_of_due (hon : s.springOn = true) (hlive : te.drbg.live = true) (hroom : te.drbg.buffer.length < 100) :
    execDrbgGenerate t s = .next (s.generate t) := by
  simp only [execDrbgGenerate, hte, hon, hlive, hroom, decide_true, Bool.and_self, if_true]

theorem execDrbgGenerate_of_notDue (h : s.springOn = false ∨ te.drbg.live = false ∨ 100 ≤ te.drbg.buffer.length) :
    execDrbgGenerate t s = .next s := by
  simp only [execDrbgGenerate, hte]
  exact congrArg Host.Outcome.next (if_neg (by obtain h | h | h := h <;> simp [h]))

theorem execDrbgReseed_of_due (hon : s.springOn = true) (hfailed : s.spring.failed = false) (hlive : te.drbg.live = true)
    (hgens : reseedLimit ≤ te.drbg.gens) :
    execDrbgReseed t s =
      .next (State.modT { s with fresh := s.fresh + 16 } t (fun te => { te with drbg := te.drbg.reseed s.fresh })) := by
  simp only [execDrbgReseed, hte, hon, hfailed, hlive, hgens, Bool.not_false, decide_true, Bool.and_self, if_true]

theorem execDrbgReseed_of_notDue
    (h : s.springOn = false ∨ s.spring.failed = true ∨ te.drbg.live = false ∨ te.drbg.gens < reseedLimit) :
    execDrbgReseed t s = .next s := by
  simp only [execDrbgReseed, hte]
  exact congrArg Host.Outcome.next (if_neg (by obtain h | h | h | h := h <;> simp [h]))

end

theorem execDrbgGenerate_of_off (h : s.springOn = false) : execDrbgGenerate t s = .next s := by
  cases hte : s.terrace t with
  | none => exact execDrbgGenerate_of_none hte
  | some te => exact execDrbgGenerate_of_notDue hte (.inl h)

theorem execDrbgReseed_of_off (h : s.springOn = false) : execDrbgReseed t s = .next s := by
  cases hte : s.terrace t with
  | none => exact execDrbgReseed_of_none hte
  | some te => exact execDrbgReseed_of_notDue hte (.inl h)

end

/-- New variates join behind those that stand, which draws use up in order. -/
theorem Drbg.generate_keeps_buffer {d : Drbg} (h : d.buffer.length ≤ 100) :
    d.generate.buffer.take d.buffer.length = d.buffer := by
  simp only [Drbg.generate, List.take_take, Nat.min_eq_left h, List.take_left]

theorem Drbg.generate_gens (d : Drbg) : d.generate.gens = d.gens + 1 := by
  simp only [Drbg.generate]

theorem Drbg.generate_count (d : Drbg) : d.generate.count = d.count := by
  simp only [Drbg.generate]

theorem Drbg.generate_buffer_length_le (d : Drbg) : d.generate.buffer.length ≤ 100 := List.length_take_le ..

/-- Settles O59: each event by the lemma of what it finds, one that is not due or one that is. -/
theorem springEventsAct : Obligations.SpringEventsAct := by
  intro s raw t
  refine ⟨fun hoff => ?_, fun hon => ⟨fun recent u hrecent hu => ?_, fun h => ?_, ?_, fun h => ?_, fun h => ?_, ?_,
    fun te hte => ?_, fun h => ?_⟩, fun d h => ?_⟩
  · exact ⟨execSpringHealthFail_unchanged (.inl hoff), congrArg Host.Outcome.next (State.springRetry_of_notDue (.inl hoff)),
      congrArg Host.Outcome.next (State.reinstantiate_of_notDue (.inl hoff)), execDrbgGenerate_of_off hoff,
      execDrbgReseed_of_off hoff⟩
  · rw [← State.springFail_eq hrecent hu]
    exact ⟨execSpringHealthFail_of_fails hon, fun hfailed hdead htime hbits hfails =>
      congrArg Host.Outcome.next ((State.springRetry_of_due hon hfailed hdead htime hbits).trans (if_pos hfails))⟩
  · exact execSpringHealthFail_unchanged (.inr h)
  · exact fun hfailed hdead htime hbits hpass => congrArg Host.Outcome.next
      ((State.springRetry_of_due hon hfailed hdead htime hbits).trans (if_neg (Bool.eq_false_iff.1 hpass)))
  · exact congrArg Host.Outcome.next (State.springRetry_of_notDue (.inr h))
  · exact congrArg Host.Outcome.next (State.reinstantiate_of_notDue (.inr h))
  · rintro q te n x hfailed hq - rfl rfl
    exact congrArg Host.Outcome.next (State.reinstantiate_of_front hon hfailed hq)
  · exact ⟨execDrbgGenerate_of_due hte hon, fun h => execDrbgGenerate_of_notDue hte (.inr h), execDrbgReseed_of_due hte hon,
      fun h => execDrbgReseed_of_notDue hte (.inr h)⟩
  · exact ⟨execDrbgGenerate_of_none h, execDrbgReseed_of_none h⟩
  · exact ⟨Drbg.generate_keeps_buffer h, Drbg.generate_buffer_length_le d, Drbg.generate_gens d,
      Drbg.generate_count d, Drbg.generate_live d⟩

end Sys2Proof.Machine
end

section
/-! SUPPORT. The capability registers and KDV_ID (R559 to R561). -/

namespace Sys2Proof.Machine

/-- Each capability register holds the word of its configuration, whatever else the state is. -/
theorem State.regValue_capabilities (s : State) (port : Nat) :
    s.regValue port 0x008 = kdvCap0 s.cfg ∧ s.regValue port 0x00C = kdvCap1 s.cfg ∧
      s.regValue port 0x010 = kdvCap2 s.cfg ∧ s.regValue port 0x014 = kdvCap3 s.cfg := ⟨rfl, rfl, rfl, rfl⟩

/-- Settles O6: the four words of each configuration. -/
theorem capabilityRegistersRead : Obligations.CapabilityRegistersRead := by
  intro s port
  obtain ⟨h0, h1, h2, h3⟩ := State.regValue_capabilities s port
  rw [h0, h1, h2, h3]
  refine ⟨fun hcfg => ?_, fun hcfg => ?_, fun hcfg => ?_⟩
  · rw [hcfg]
    decide
  · rw [hcfg]
    decide
  · rw [hcfg]
    decide

/-- Offset 0 is readable before READY and in every sleep state (R496, R509). -/
theorem State.readable_kdvId (s : State) : s.readable 0 = true := rfl

/-- Settles O7: R555 lets a read below 0x018 through, and offset 0 is readable in every state. -/
theorem kdvIdReadsInEveryState : Obligations.KdvIdReadsInEveryState := by
  intro s a hoff hread
  have hzero : 0 = a.off % 2 ^ 20 := by simp [hoff]
  have haccess : s.access a = (State.touch { s with rsp := 0 }).regRead a.port 0 :=
    (State.access_of_allowed hzero (.inr (.inr ⟨hread, by decide⟩))).trans (by simp [hread])
  refine ⟨_, congrArg Host.Outcome.next haccess, ?_⟩
  rw [State.regRead_value (State.readable_kdvId _) (by decide) (by decide)]
  rfl

end Sys2Proof.Machine
end

section
/-! SUPPORT. IRQ_STATUS, IRQ_MASK and IRQ_MODE (R565 to R570). -/

namespace Sys2Proof.Machine

section
variable {s : State} {f : State → State}

theorem State.alwaysWrite_of_notReady (h : s.lcs.ready = false) : s.alwaysWrite f = s := by
  simp [State.alwaysWrite, h]

theorem State.alwaysWrite_of_ready (h : s.lcs.ready = true) : s.alwaysWrite f = f s.touch := by
  simp [State.alwaysWrite, h]

/-- A source whose status bit is 0 has no message waiting (R569). -/
theorem State.unmaskMsg_of_clear (h : s.irq.status = 0) (n : Nat) : s.unmaskMsg n = s := by
  rw [State.unmaskMsg, if_neg (by simp [h])]

theorem State.forEach_unmaskMsg_of_clear (h : s.irq.status = 0) (l : List Nat) : s.forEach l State.unmaskMsg = s :=
  State.forEach_induct (p := fun t => t = s) (fun _ n e => by rw [e, State.unmaskMsg_of_clear h]) l s rfl

end

/-- Settles O14: IRQ_STATUS and IRQ_MASK by `alwaysWrite`, IRQ_MODE by `hostWrite`, each behind the wake of S1. -/
theorem interruptRegisterWrites : Obligations.InterruptRegisterWrites := by
  intro s v raised
  refine ⟨fun hr => ⟨congrArg Host.Outcome.next (State.alwaysWrite_of_notReady hr),
      congrArg Host.Outcome.next (State.alwaysWrite_of_notReady hr),
      congrArg Host.Outcome.next (State.hostWrite_of_notReady hr)⟩,
    fun hr hf => congrArg Host.Outcome.next (State.hostWrite_of_frontEnd hr hf), ?_⟩
  rintro hr _ rfl
  refine ⟨congrArg Host.Outcome.next (State.alwaysWrite_of_ready hr),
    congrArg Host.Outcome.next (State.alwaysWrite_of_ready hr),
    fun hf => congrArg Host.Outcome.next (State.hostWrite_of_live hr hf), fun ha hclear => ⟨?_, ?_⟩⟩
  · refine congrArg Host.Outcome.next ((State.awake_alwaysWrite ha hr _).trans ?_)
    exact State.forEach_unmaskMsg_of_clear (s := { s with irq := { s.irq with mask := v &&& 0xFFFFFF } }) hclear _
  · refine congrArg Host.Outcome.next ((State.awake_hostWrite ha hr _).trans ?_)
    exact State.forEach_unmaskMsg_of_clear (s := { s with irq := { s.irq with mode := v &&& 0xFE0000 } }) hclear _

end Sys2Proof.Machine
end

section
/-! SUPPORT. TIMEBASE_LO and the counter window (R572 to R577). -/

namespace Sys2Proof.Machine

/-- GROUP, TERR and LOCATION of CNT_SELECT (R574). -/
theorem cntSelect_fields (w : Word) :
    bits w.toNat 0 8 = w.toNat % 256 ∧ bits w.toNat 8 5 = w.toNat / 256 % 32 ∧ bits w.toNat 16 16 = w.toNat / 65536 := by
  have hw : w.toNat < 4294967296 := w.isLt
  refine ⟨?_, rfl, ?_⟩
  · simp [bits]
  · simp only [bits, Nat.reducePow]
    omega

section
variable {s : State}

theorem State.cntSelect_of_busy (h : s.cntWin.busy = true) (v : Word) : s.cntSelect v = s := by
  simp [State.cntSelect, h]

theorem State.cntSelect_of_idle (h : s.cntWin.busy = false) {v : Word} {ok : Bool}
    (hok : ok = (assignedGroup (v.toNat % 256) && s.terrOk (v.toNat / 256 % 32) && locOk s.cfg (v.toNat / 65536))) :
    s.cntSelect v = { s with cntWin := { s.cntWin with
      select := v &&& 0xFFFF1FFF, err := !ok, busy := ok, since := s.tick } } := by
  obtain ⟨hgroup, hterr, hloc⟩ := cntSelect_fields v
  simp only [State.cntSelect, h, Bool.false_eq_true, if_false, hgroup, hterr, hloc, hok]

theorem State.snapshot_of_none (h : s.cntWin.busy = false ∨ s.clocked = false) : s.snapshot = s := by
  refine if_pos ?_
  obtain h | h := h
  · simp [h]
  · have hp : s.sleep.phase ≠ .awake ∧ s.sleep.phase ≠ .quiesce := by simpa [State.clocked] using h
    simp [hp]

theorem State.snapshot_of_busy (hb : s.cntWin.busy = true) (hc : s.clocked = true) {g t l : Nat}
    (hg : g = s.cntWin.select.toNat % 256) (ht : t = s.cntWin.select.toNat / 256 % 32)
    (hl : l = s.cntWin.select.toNat / 65536) :
    s.snapshot = { s with cntWin := { s.cntWin with
      busy := false, valid := true, sample := s.tick, clear := s.clearTick t g, newest := newestSeq s.faults.blockLog
      vals := (List.range 255).map (fun i => s.counter ⟨g, i + 1, t, l⟩) } } := by
  have hp : s.sleep.phase = .awake ∨ s.sleep.phase = .quiesce := by simpa [State.clocked] using hc
  obtain ⟨hgroup, hterr, hloc⟩ := cntSelect_fields s.cntWin.select
  rw [hg, ht, hl, ← hgroup, ← hterr, ← hloc]
  exact if_neg (by obtain h | h := hp <;> simp [hb, h])

end

/-- Settles O15: the latched read, the select by `hostWrite`, and the snapshot by whether one is under way. -/
theorem timebaseAndCounterWindow : Obligations.TimebaseAndCounterWindow := by
  rintro s port v _ rfl
  refine ⟨rfl, fun hr => congrArg Host.Outcome.next (State.hostWrite_of_notReady hr),
    fun hr hf => congrArg Host.Outcome.next (State.hostWrite_of_frontEnd hr hf),
    fun hr hf => ⟨fun hb => ?_, fun hb ok hok => ?_⟩,
    fun h => congrArg Host.Outcome.next (State.snapshot_of_none h),
    fun hb hc g t l hg ht hl => congrArg Host.Outcome.next (State.snapshot_of_busy hb hc hg ht hl)⟩
  · exact congrArg Host.Outcome.next ((State.hostWrite_of_live hr hf).trans (State.cntSelect_of_busy hb v))
  · exact congrArg Host.Outcome.next ((State.hostWrite_of_live hr hf).trans (State.cntSelect_of_idle hb hok))

end Sys2Proof.Machine
end

section
/-! SUPPORT. The common command codes of address assignment (R529, R530). -/

namespace Sys2Proof.Machine

section
variable {s : State}

theorem execSetdasa_of_match {stat addr : BitVec 7}
    (h : s.lcs.otpValid = true ∧ s.fuses.sbValid = true ∧ stat = s.fuses.sbStatic) :
    execSetdasa stat addr s = .next { s with sb := { s.sb with dynAddr := addr, dynValid := true } } :=
  congrArg Host.Outcome.next (if_pos (by simpa [and_assoc] using h))

theorem execSetdasa_ignored {stat addr : BitVec 7}
    (h : ¬ (s.lcs.otpValid = true ∧ s.fuses.sbValid = true ∧ stat = s.fuses.sbStatic)) : execSetdasa stat addr s = .next s :=
  congrArg Host.Outcome.next (if_neg (by simpa [and_assoc] using h))

/-- A valid address stays valid when it is replaced. -/
theorem execSetnewda_of_valid {addr : BitVec 7} (h : s.sb.dynValid = true) :
    execSetnewda addr s = .next { s with sb := { s.sb with dynAddr := addr } } := by
  refine congrArg Host.Outcome.next ((if_pos h).trans ?_)
  simp only [State.setDyn, State.modSb, ← h]

theorem execSetnewda_ignored {addr : BitVec 7} (h : ¬ s.sb.dynValid = true) : execSetnewda addr s = .next s :=
  congrArg Host.Outcome.next (if_neg h)

end

/-- Settles O42: SETDASA and SETNEWDA by whether they are ignored; the other codes have one case. -/
theorem sidebandAddressing : Obligations.SidebandAddressing := by
  rintro s stat addr _ rfl
  refine ⟨rfl, ?_, ?_, rfl, rfl, rfl, rfl, rfl⟩
  · split
    · rename_i h
      exact execSetdasa_of_match h
    · rename_i h
      exact execSetdasa_ignored h
  · split
    · rename_i h
      exact execSetnewda_of_valid h
    · rename_i h
      exact execSetnewda_ignored h

end Sys2Proof.Machine
end

section
/-! SUPPORT. The instructions of the test access port (R524, R525, R528). -/

namespace Sys2Proof.Machine

/-! ### DBG_ACCESS, DBG_CLOSE and TRST_N -/

/-- OP and ADDRESS of the DBG_ACCESS register (R524). -/
theorem dbgAccess_fields (dr : BitVec 128) :
    bits dr.toNat 0 2 = dr.toNat % 4 ∧ bits dr.toNat 2 30 = dr.toNat / 4 % 2 ^ 30 := by
  refine ⟨?_, rfl⟩
  simp [bits]

section
variable {s : State} {dr : BitVec 128}

theorem State.dbgAccess_of_closed (h : s.lcs.debugOpen = false) : s.dbgAccess dr = s.tapOut 0xFF 0 :=
  if_pos (by simp [h])

variable (hopen : s.lcs.debugOpen = true)
include hopen

theorem State.dbgAccess_of_noAccess (hop : dr.toNat % 4 = 0 ∨ dr.toNat % 4 = 3) : s.dbgAccess dr = s.tapOut 0x13 0 := by
  rw [← (dbgAccess_fields dr).1] at hop
  exact (if_neg (by simp [hopen])).trans (if_pos (by simpa using hop))

variable (hop : dr.toNat % 4 = 1 ∨ dr.toNat % 4 = 2)
include hop

/-- An access with a legal OP meets the bound of the window. -/
theorem State.dbgAccess_of_access : s.dbgAccess dr =
    if 0x20000 ≤ dr.toNat / 4 % 2 ^ 30 then s.tapOut 0x13 (2 ^ 64)
    else if dr.toNat % 4 = 1 then
      { s.tapOut 0x13 (2 ^ 32 * (Config.debugWindow s.fresh).toNat) with fresh := s.fresh + 1 }
    else (s.tapOut 0x13 0).debugWrite (dr.toNat / 4 % 2 ^ 30) (BitVec.ofNat 32 (dr.toNat / 2 ^ 32 % 2 ^ 32)) := by
  obtain ⟨hbits, haddr⟩ := dbgAccess_fields dr
  rw [← hbits, ← haddr]
  rw [← hbits] at hop
  exact (if_neg (by simp [hopen])).trans (if_neg (by obtain h | h := hop <;> simp [h]))

theorem State.dbgAccess_beyond (h : 0x20000 ≤ dr.toNat / 4 % 2 ^ 30) : s.dbgAccess dr = s.tapOut 0x13 (2 ^ 64) :=
  (State.dbgAccess_of_access hopen hop).trans (if_pos h)

end

section
variable {s : State} {dr : BitVec 128} (hopen : s.lcs.debugOpen = true)
include hopen

theorem State.dbgAccess_read (hop : dr.toNat % 4 = 1) (h : dr.toNat / 4 % 2 ^ 30 < 0x20000) :
    s.dbgAccess dr = { s.tapOut 0x13 (2 ^ 32 * (Config.debugWindow s.fresh).toNat) with fresh := s.fresh + 1 } := by
  rw [State.dbgAccess_of_access hopen (.inl hop), if_neg (Nat.not_le_of_lt h), if_pos hop]

theorem State.dbgAccess_write (hop : dr.toNat % 4 = 2) (h : dr.toNat / 4 % 2 ^ 30 < 0x20000) :
    s.dbgAccess dr = { s with tap := { s.tap with
      ir := 0x13, dr := 0, window := (dr.toNat / 4 % 2 ^ 30, BitVec.ofNat 32 (dr.toNat / 2 ^ 32)) :: s.tap.window } } := by
  have hword : BitVec.ofNat 32 (dr.toNat / 2 ^ 32 % 2 ^ 32) = BitVec.ofNat 32 (dr.toNat / 2 ^ 32) :=
    BitVec.eq_of_toNat_eq (by simp)
  rw [State.dbgAccess_of_access hopen (.inr hop), if_neg (Nat.not_le_of_lt h), if_neg (by omega), hword]
  exact if_pos hopen

end

section
variable {s : State}

theorem State.closePort_of_closed (h : s.lcs.debugOpen = false) : s.closePort = s := if_neg (by simp [h])

theorem State.closePort_of_open (h : s.lcs.debugOpen = true) :
    s.closePort = State.raise { s with lcs := { s.lcs with debugOpen := false } } 22 := if_pos h

end

/-- Settles O43: DBG_ACCESS by its OP and address, DBG_CLOSE and TRST_N by whether the port is open. -/
theorem tapInstructionsAnswer : Obligations.TapInstructionsAnswer := by
  intro s
  refine ⟨rfl, rfl, fun dr => ⟨fun ho hop h => ?_, fun ho hop h => ?_, fun ho hop h => ?_, fun ho hop => ?_, fun ho => ?_⟩,
    fun ho => ⟨?_, ?_⟩, fun ho => ⟨?_, ?_⟩⟩
  · exact congrArg Host.Outcome.next (State.dbgAccess_write ho hop h)
  · exact congrArg Host.Outcome.next (State.dbgAccess_read ho hop h)
  · exact congrArg Host.Outcome.next (State.dbgAccess_beyond ho hop h)
  · exact congrArg Host.Outcome.next (State.dbgAccess_of_noAccess ho hop)
  · exact congrArg Host.Outcome.next (State.dbgAccess_of_closed ho)
  · exact congrArg Host.Outcome.next (if_neg (by simp [ho]))
  · exact congrArg Host.Outcome.next (State.closePort_of_closed (s := s.tapOut 0x01 0) ho)
  · exact congrArg Host.Outcome.next ((if_pos ho).trans (State.closePort_of_open (s := s.tapOut 0x14 0) ho))
  · exact congrArg Host.Outcome.next (State.closePort_of_open (s := s.tapOut 0x01 0) ho)

/-! ### DBG_STATUS (R525) -/

theorem leVal_lt (n : Nat) (b : Bytes) : leVal n b < 256 ^ n := by
  induction n generalizing b with
  | zero => simp [leVal]
  | succ n ih =>
    cases b with
    | nil => simp [leVal]
    | cons x b =>
      have hx := x.isLt
      have hb := ih b
      simp only [leVal, Nat.pow_succ]
      omega

theorem b2n_lt (b : Bool) : b2n b < 2 := by
  cases b <;> decide

theorem b2n_eq_one {b : Bool} : decide (b2n b = 1) = b := by
  cases b <;> rfl

/-- A field and a flag of a word that is read out, by arithmetic. -/
theorem ofNat256_field {n lo w v : Nat} (hn : n < 2 ^ 256) (hv : n / 2 ^ lo % 2 ^ w = v) :
    ((BitVec.ofNat 256 n).extractLsb' lo w).toNat = v := by
  rw [BitVec.extractLsb'_toNat, BitVec.toNat_ofNat, Nat.mod_eq_of_lt hn, Nat.shiftRight_eq_div_pow, hv]

theorem ofNat256_flag {n i : Nat} {b : Bool} (hi : i < 256) (hb : n / 2 ^ i % 2 = b2n b) :
    (BitVec.ofNat 256 n).getLsbD i = b := by
  rw [BitVec.getLsbD_ofNat, Nat.testBit_eq_decide_div_mod_eq, hb, b2n_eq_one, decide_eq_true hi, Bool.true_and]

/-- Settles O44: the status word is a sum of fields that do not meet, and the identifier stands above it. -/
theorem debugStatusWordIsRead : Obligations.DebugStatusWordIsRead := by
  intro s
  refine ⟨_, rfl, fun hstate hatt hres huid => ?_⟩
  have hid : leVal 16 s.fuses.uid < 256 ^ 16 := leVal_lt 16 _
  have hopen := b2n_lt s.lcs.debugOpen
  have hlive := b2n_lt s.tap.nonce.isSome
  have hlocked := b2n_lt s.tap.locked
  have hword : s.dbgWord + 2 ^ 32 * leVal 16 s.fuses.uid = s.lcs.state + 8 * b2n s.lcs.debugOpen +
      16 * b2n s.tap.nonce.isSome + 32 * s.tap.attempts + 128 * b2n s.tap.locked + 256 * s.tap.result +
      2 ^ 32 * leVal 16 s.fuses.uid := rfl
  have hlt : s.dbgWord + 2 ^ 32 * leVal 16 s.fuses.uid < 2 ^ 256 := by omega
  refine ⟨ofNat256_field hlt ?_, ofNat256_flag (by decide) ?_, ofNat256_flag (by decide) ?_, ofNat256_field hlt ?_,
    ofNat256_flag (by decide) ?_, ofNat256_field hlt ?_, ofNat256_field hlt ?_, ofNat256_field hlt ?_⟩ <;> omega

end Sys2Proof.Machine
end

section
/-! SUPPORT. TERRACE_SET and KEY_INSTALL (R457, R458, R466, R517). -/

namespace Sys2Proof.Machine

section
variable {s : State} {src : Src} {c : Bytes} {te : Terrace} {blob : HostRead}
variable (hte : s.terrace (hTerr (cHandle c)) = some te)
include hte

theorem State.keyInstall_of_noRoot (h : s.fuses.rootKey = none) :
    s.keyInstall src c blob = s.refuse (ticketOf src c) stNOT_PERMITTED noField := by
  simp only [State.keyInstall, hte, h]

variable {root : Bytes} (hroot : s.fuses.rootKey = some root)
include hroot

theorem State.keyInstall_of_held (h : te.keyless = false) :
    s.keyInstall src c blob = s.refuse (ticketOf src c) stNOT_PERMITTED noField := by
  simp only [State.keyInstall, hte, hroot, h, Bool.not_false, if_true]

variable (hfree : te.keyless = true)
include hfree

theorem State.keyInstall_of_error :
    s.keyInstall src c .error = s.refuse (ticketOf src c) stDATA_ERROR noField := by
  simp only [State.keyInstall, hte, hroot, hfree, Bool.not_true, Bool.false_eq_true, if_false]

theorem State.keyInstall_of_badWrap {b : Bytes}
    (h : aesUnwrap (tkek root (hTerr (cHandle c)) s.lcs.state) (b.take 104) = none) :
    s.keyInstall src c (.okay b) = s.refuse (ticketOf src c) stBAD_FORMAT noField := by
  simp only [State.keyInstall, hte, hroot, hfree, h, Bool.not_true, Bool.false_eq_true, if_false]

theorem State.keyInstall_of_unwrapped {b k : Bytes}
    (h : aesUnwrap (tkek root (hTerr (cHandle c)) s.lcs.state) (b.take 104) = some k) :
    s.keyInstall src c (.okay b) =
      (s.modT (hTerr (cHandle c)) (fun te => { te with keys := k })).only (ticketOf src c) stOK (cHandle c) 0 0 := by
  simp only [State.keyInstall, hte, hroot, hfree, h, Bool.not_true, Bool.false_eq_true, if_false]

end

theorem Terrace.keyless_iff {te : Terrace} : te.keyless = true ↔ te.objs = [] ∧ te.reqs = [] ∧ te.starters = [] := by
  simp [Terrace.keyless, and_assoc]

/-- Settles O23: an accepted TERRACE_SET has the effect of its row, and KEY_INSTALL ends at the first condition that fails. -/
theorem terraceSettingsAndKeys : Obligations.TerraceSettingsAndKeys := by
  intro s src c
  refine ⟨fun h => exec_accepted h rfl rfl, fun h => exec_accepted h rfl rfl, fun te blob h hte => ?_⟩
  have hexec : exec (.keyInstall src c blob) s = .next ((s.take src).keyInstall src c blob) := exec_accepted h rfl rfl
  have hte' : (s.take src).terrace (hTerr (cHandle c)) = some te := (State.terrace_congr (State.take_terr s src) _).trans hte
  have hkey : (s.take src).fuses.rootKey = s.fuses.rootKey := by rw [State.take_fuses]
  rw [hexec]
  refine ⟨fun hbad => ?_, fun root hroot ho hr hs => ?_⟩
  · cases hroot : s.fuses.rootKey with
    | none => exact congrArg Host.Outcome.next (State.keyInstall_of_noRoot hte' (hkey.trans hroot))
    | some root =>
      refine congrArg Host.Outcome.next (State.keyInstall_of_held hte' (hkey.trans hroot) (Bool.eq_false_iff.2 fun hfree => ?_))
      obtain ⟨ho, hr, hs⟩ := Terrace.keyless_iff.1 hfree
      simp [ho, hr, hs, hroot] at hbad
  · have hroot' := hkey.trans hroot
    have hfree : te.keyless = true := Terrace.keyless_iff.2 ⟨ho, hr, hs⟩
    refine ⟨?_, ?_⟩
    · rintro rfl
      exact congrArg Host.Outcome.next (State.keyInstall_of_error hte' hroot' hfree)
    · rintro b rfl
      rw [← State.take_lcs s src]
      exact ⟨fun hno => congrArg Host.Outcome.next (State.keyInstall_of_badWrap hte' hroot' hfree hno),
        fun k hk => congrArg Host.Outcome.next (State.keyInstall_of_unwrapped hte' hroot' hfree hk)⟩

end Sys2Proof.Machine
end

section
/-! SUPPORT. COUNTERS_READ and COUNTERS_CLEAR (R550 to R553). -/

namespace Sys2Proof.Machine

section
variable {s : State} {src : Src} {c : Bytes}

theorem State.readCounters_inline (h : rd c 16 8 = 0) : s.readCounters src c =
    s.only (ticketOf src c) stOK 0 (s.counter ⟨rd c 29 1, rd c 28 1, rd c 25 1 % 32, rd c 26 2⟩) s.tick := if_pos h

theorem State.readCounters_written (h : rd c 16 8 ≠ 0) : s.readCounters src c =
    (s.defer (ticketOf src c)).hfpIssue (srcTerr (srcMb src)) (.queryWrite (ticketOf src c) (rd c 16 8)
      (le 8 s.tick ++ le 8 (s.clearTick (rd c 25 1 % 32) (rd c 29 1)) ++ le 4 (rd c 30 2) ++ le 4 (newestSeq (s.logOf src).1)
        ++ zeros 8 ++ (List.range (rd c 30 2)).flatMap (fun i =>
          le 8 (s.counter ⟨rd c 29 1, rd c 28 1 + i, rd c 25 1 % 32, rd c 26 2⟩))) s.tick (rd c 30 2)) := if_neg h

theorem State.readFaults_newest {r : FaultRec} {l : List FaultRec} (h : rd c 16 8 = 0) (hlog : (s.logOf src).1 = r :: l) :
    s.readFaults src c = s.only (ticketOf src c) stOK 0 (r.seq + 2 ^ 32 * r.cls + 2 ^ 40 * r.cause) r.tick := by
  simp only [State.readFaults, h, hlog, if_true]

theorem State.readFaults_empty (h : rd c 16 8 = 0) (hlog : (s.logOf src).1 = []) :
    s.readFaults src c = s.only (ticketOf src c) stOK 0 0 0 := by
  simp only [State.readFaults, h, hlog, if_true]

theorem State.readFaults_written (h : rd c 16 8 ≠ 0) {recs : List FaultRec}
    (hrecs : recs = ((s.logOf src).1.reverse.filter (fun r => rd c 32 4 ≤ r.seq)).take (rd c 30 2)) : s.readFaults src c =
    (s.defer (ticketOf src c)).hfpIssue (srcTerr (srcMb src)) (.queryWrite (ticketOf src c) (rd c 16 8)
      (le 8 s.tick ++ le 8 (s.logOf src).2 ++ le 4 recs.length ++ le 4 (newestSeq (s.logOf src).1) ++ zeros 8
        ++ recs.flatMap FaultRec.bytes) s.tick recs.length) := by
  rw [hrecs]
  exact if_neg h

end

/-- Settles O27: each accepted command's own effect, by whether it names an output address. -/
theorem counterCommandsAnswer : Obligations.CounterCommandsAnswer := by
  rintro s _ src c _ rfl rfl
  rw [← State.take_tick s src]
  refine ⟨fun h h0 => ?_, fun h h0 => ?_, fun h h0 => ⟨fun r l hlog => ?_, fun hlog => ?_⟩,
    fun h h0 recs hrecs => ?_, fun h => ?_⟩
  · exact (exec_accepted h rfl rfl).trans (congrArg Host.Outcome.next (State.readCounters_inline h0))
  · exact (exec_accepted h rfl rfl).trans (congrArg Host.Outcome.next (State.readCounters_written h0))
  · exact (exec_accepted h rfl rfl).trans (congrArg Host.Outcome.next (State.readFaults_newest h0 hlog))
  · exact (exec_accepted h rfl rfl).trans (congrArg Host.Outcome.next (State.readFaults_empty h0 hlog))
  · exact (exec_accepted h rfl rfl).trans (congrArg Host.Outcome.next (State.readFaults_written h0 hrecs))
  · exact exec_accepted h rfl rfl

end Sys2Proof.Machine
end

section
/-! SUPPORT. POWER_SET, POWER_SLEEP and the end of quiesce (R483, R489 to R493). -/

namespace Sys2Proof.Machine

/-! ### What the settings of the level ask for -/

section
variable {s : State}

theorem State.powerNext_of_changing (h : s.pwr.phase ≠ .idle) : s.powerNext = s := if_pos h

variable (hidle : s.pwr.phase = .idle)
include hidle

theorem State.powerNext_of_apart (h : s.pwr.level ≠ s.desiredLevel) :
    s.powerNext = s.beginChange s.desiredLevel s.pwr.setBy.isSome :=
  (if_neg (not_not_intro hidle)).trans (if_pos h)

/-- The POWER_SET that waited for the level in force ends. -/
theorem State.powerNext_of_reached {tk : Ticket} (h : s.pwr.level = s.desiredLevel) (hset : s.pwr.setBy = some tk) :
    s.powerNext = (s.modPwr (fun p => { p with setBy := none })).finish tk stOK 0 noField
      (s.pwr.level + 256 * b2n s.pwr.auto) 0 := by
  rw [State.powerNext, if_neg (not_not_intro hidle), if_neg (not_not_intro h)]
  simp only [hset]

end

/-- A POWER_SET on a block behind the taking of its entry: the settings it stores stand beside the level and the phase of the
change, which stay. -/
theorem State.powerSet_acts {u v : State} {tk : Ticket} {n hi lo : Nat} {auto : Bool}
    (hv : v = (u.defer tk).modPwr (fun p => { p with
      s1Idle := n, auto := auto, levelHi := hi, levelLo := lo, setBy := some tk })) :
    (u.pwr.phase ≠ .idle → v.powerNext = v) ∧
    (u.pwr.phase = .idle → u.pwr.level = v.desiredLevel → v.powerNext =
      (v.modPwr (fun p => { p with setBy := none })).finish tk stOK 0 noField (u.pwr.level + 256 * b2n auto) 0) ∧
    (u.pwr.phase = .idle → u.pwr.level ≠ v.desiredLevel → v.powerNext = v.beginChange v.desiredLevel true) := by
  have hpwr : v.pwr = { u.pwr with s1Idle := n, auto := auto, levelHi := hi, levelLo := lo, setBy := some tk } := by
    rw [hv, State.modPwr, State.defer_pwr]
  have hphase : v.pwr.phase = u.pwr.phase := by rw [hpwr]
  have hlevel : v.pwr.level = u.pwr.level := by rw [hpwr]; rfl
  have hauto : v.pwr.auto = auto := by rw [hpwr]
  have hset : v.pwr.setBy = some tk := by rw [hpwr]
  rw [← hphase, ← hlevel]
  refine ⟨State.powerNext_of_changing, fun hi h => ?_, fun hi h => ?_⟩
  · rw [State.powerNext_of_reached hi h hset, hauto]
  · rw [State.powerNext_of_apart hi h, hset, Option.isSome_some]

theorem b2n_beq_one (n : Nat) : b2n (n == 1) = if n = 1 then 1 else 0 := by
  by_cases h : n = 1
  · rw [h]
    rfl
  · simp [b2n, h]

/-! ### The start of the entry -/

section
variable {s : State}

theorem State.actWake_of_none (h : s.sleep.wakeAt = none) : s.actWake = s := if_pos (by simp [h])

theorem State.enterSleep_of_noWake (h : s.sleep.wakeAt = none) :
    s.enterSleep = { s with sleep := { s.sleep with phase := .entering, stage := 1, code := 4 } } :=
  State.actWake_of_none (s := { s with sleep := { s.sleep with phase := .entering, stage := 1, code := 4 } }) h

/-- A wake that is pending meets the first abort point (R493). -/
theorem State.enterSleep_of_wake (h : s.sleep.wakeAt ≠ none) :
    s.enterSleep = State.abandon { s with sleep := { s.sleep with phase := .entering, stage := 1, code := 4 } } := by
  obtain ⟨hent, -⟩ :=
    State.actWake_of_pending (s := { s with sleep := { s.sleep with phase := .entering, stage := 1, code := 4 } }) h
  exact (hent rfl).1 (by decide : 1 ≤ 4)

end

section
variable {s v : State} {tk : Ticket} {c : Bytes} {l : Sleep} (hv : v = s.first tk 0)
variable (hl : l = { v.sleep with
  ticket := some tk, goal := rd c 16 1, attnWake := bit (rd c 17 1) 0, retMask := BitVec.ofNat 32 (rd c 20 4)
  alarm := rd c 24 8, limit := if rd c 32 4 = 0 then 1000000 else rd c 32 4, since := v.tick, spilled := [], code := 4
  wakeSrc := 0, wakeAt := none, failed := false, phase := .quiesce })
include hv hl

theorem State.powerSleep_quiesces (h : rd c 16 1 ≠ 1) : s.powerSleep tk c = { v with sleep := l } := by
  rw [hl, hv]
  exact if_neg h

theorem State.powerSleep_enters (h : rd c 16 1 = 1) :
    s.powerSleep tk c = { v with sleep := { l with phase := .entering, stage := 1 } } := by
  rw [hl, hv]
  exact (if_pos h).trans (State.enterSleep_of_noWake rfl)

end

/-- Settles O26: POWER_SET by whether a change is in progress and the level stands, POWER_SLEEP by its goal, and the rows of
quiesce by whether they are due. -/
theorem powerCommandsStart : Obligations.PowerCommandsStart := by
  rintro s _ src c _ rfl rfl
  have htick : ((s.take src).first (ticketOf src c) 0).tick = s.tick := by rw [State.first_tick, State.take_tick]
  refine ⟨fun h v hv => ?_, fun h v hv l hl => ?_, fun hp hq => ⟨fun hw => ?_, fun hw => ?_⟩, fun h => ?_, fun hp ht => ?_,
    fun h => ?_⟩
  · have hexec : exec (.powerSet src c) s = .next v.powerNext := hv ▸ exec_accepted h rfl rfl
    obtain ⟨hchanging, hreached, hapart⟩ := State.powerSet_acts hv
    rw [State.take_pwr] at hchanging hreached hapart
    rw [hexec]
    refine ⟨fun hp => congrArg Host.Outcome.next (hchanging hp), fun hp hl => ?_,
      fun hp hl => congrArg Host.Outcome.next (hapart hp hl)⟩
    rw [hreached hp hl, b2n_beq_one]
    rfl
  · have hexec : exec (.powerSleep src c) s = .next ((s.take src).powerSleep (ticketOf src c) c) := exec_accepted h rfl rfl
    rw [← htick, ← hv] at hl
    rw [hexec]
    exact ⟨fun hg => congrArg Host.Outcome.next (State.powerSleep_quiesces hv hl hg),
      fun hg => congrArg Host.Outcome.next (State.powerSleep_enters hv hl hg)⟩
  · exact congrArg Host.Outcome.next ((if_pos (by simp [hp, hq])).trans (State.enterSleep_of_noWake hw))
  · exact congrArg Host.Outcome.next ((if_pos (by simp [hp, hq])).trans (State.enterSleep_of_wake hw))
  · exact congrArg Host.Outcome.next (if_neg (by obtain h | h := h <;> simp [h]))
  · exact congrArg Host.Outcome.next (if_pos (by simp [hp, ht]))
  · exact congrArg Host.Outcome.next (if_neg (by obtain h | h := h <;> simp [h]))

end Sys2Proof.Machine
end

section
/-! SUPPORT. The lifecycle's advance (R521 to R523): what a reading of LIFECYCLE does to a burn, and the reset behind its end. -/

namespace Sys2Proof.Machine

/-- LIFECYCLE as two readings give it: two that differ count as no legal state (log entry 91). -/
def lifecycleRead (w1 w2 : Word) : Nat := if w1 = w2 then lifecycleOf w1 else lcINVALID

/-- On the sideband the end of an advance is visible at once: source 22 is raised and the tick kept (R523). -/
def Advance.shown (a : Advance) (s : State) : State :=
  if a.ticket.src = .sideband then { s.raise 22 with advance := some { a with done := true, ended := some s.tick } } else s

section
variable {s : State} {a : Advance}

theorem State.advanceEnd_of_reset (st r0 : Nat) : s.advanceEnd a st r0 true =
    a.shown (State.final { s with advance := some { a with done := true } } a.ticket st 0 0 noField r0 0) := by
  simp only [State.advanceEnd, Advance.shown, if_true, Bool.true_and, decide_eq_true_eq]

theorem State.advanceEnd_of_noReset (st r0 : Nat) : s.advanceEnd a st r0 false =
    State.final { s with advance := none, intakeClosed := false } a.ticket st 0 0 noField r0 0 := by
  simp only [State.advanceEnd, Bool.false_eq_true, if_false, Bool.false_and]

variable {w1 w2 : Word} {r : Nat} (hr : r = lifecycleRead w1 w2)
include hr

theorem State.advanceRead_next (hnext : r = a.nibble + 1) (hlt : r < a.target) :
    s.advanceRead a w1 w2 = { s with advance := some { a with nibble := r, since := s.tick } } := by
  subst hr
  exact if_pos (by simpa using ⟨hnext, hlt⟩)

theorem State.advanceRead_target (h : r = a.target) :
    s.advanceRead a w1 w2 =
      a.shown (State.final { s with advance := some { a with done := true } } a.ticket stOK 0 0 noField a.target 0) := by
  have hlast : ¬ (r = a.nibble + 1 && r < a.target) = true := by simp [h]
  rw [← State.advanceEnd_of_reset]
  subst hr
  exact (if_neg hlast).trans (if_pos h)

theorem State.advanceRead_old (h : r = a.old) (htarget : a.old ≠ a.target) (hnext : a.old ≠ a.nibble + 1) :
    s.advanceRead a w1 w2 =
      State.final { s with advance := none, intakeClosed := false } a.ticket stDATA_ERROR 0 0 noField 0 0 := by
  have hlast : ¬ (r = a.nibble + 1 && r < a.target) = true := by simp [h, hnext]
  rw [← State.advanceEnd_of_noReset]
  subst hr
  exact (if_neg hlast).trans ((if_neg fun e => htarget (h.symm.trans e)).trans (if_pos h))

theorem State.advanceRead_other (hold : r ≠ a.old) (htarget : r ≠ a.target) (hnext : r ≠ a.nibble + 1) :
    s.advanceRead a w1 w2 =
      a.shown (State.final { s with advance := some { a with done := true } } a.ticket stDATA_ERROR 0 0 noField r 0) := by
  have hlast : ¬ (r = a.nibble + 1 && r < a.target) = true := by simp [hnext]
  rw [← State.advanceEnd_of_reset]
  subst hr
  exact (if_neg hlast).trans ((if_neg htarget).trans (if_neg hold))

end

section
variable {s : State} {a : Advance} {w1 w2 : Word}

theorem State.burning_of_active (h : s.advance = some a) (hd : a.done = false) : s.burning = some a := by
  simp [State.burning, h, hd]

theorem State.burning_of_ended (h : ∀ x, s.advance = some x → x.done = true) : s.burning = none := by
  simpa [State.burning] using h

theorem execOtpAdvAck_of_burning (h : s.burning = some a) : execOtpAdvAck w1 w2 s = .next (s.advanceRead a w1 w2) := by
  simp only [execOtpAdvAck, h]

theorem execOtpAdvAck_of_none (h : s.burning = none) : execOtpAdvAck w1 w2 s = .next s := by
  simp only [execOtpAdvAck, h]

theorem execOtpAdvTimeout_of_due (h : s.burning = some a) (ht : a.since + 10000000 ≤ s.tick) :
    execOtpAdvTimeout w1 w2 s = execOtpAdvAck w1 w2 s := by
  simp only [execOtpAdvTimeout, execOtpAdvAck, h, if_pos ht]

theorem execOtpAdvTimeout_of_early (h : s.burning = some a) (ht : s.tick < a.since + 10000000) :
    execOtpAdvTimeout w1 w2 s = .next s := by
  simp only [execOtpAdvTimeout, h, if_neg (Nat.not_le_of_lt ht)]

theorem execOtpAdvTimeout_of_none (h : s.burning = none) : execOtpAdvTimeout w1 w2 s = .next s := by
  simp only [execOtpAdvTimeout, h]

variable {straps : Straps}

theorem execLifecycleReset_of_notEnded (h : ∀ x, s.advance = some x → x.ended = none) :
    execLifecycleReset straps s = .next s := by
  have hnone : s.advance.bind (·.ended) = none := Option.bind_eq_none_iff.2 h
  simp only [execLifecycleReset, hnone]

theorem execLifecycleReset_of_ended {e : Tick} (h : s.advance = some a) (he : a.ended = some e) :
    execLifecycleReset straps s = .next (if e + 1000 ≤ s.tick then s.sysReset 2 straps else s) := by
  have hsome : s.advance.bind (·.ended) = some e := by rw [h, Option.bind_some, he]
  simp only [execLifecycleReset, hsome]

end

/-- Settles O25: each reading of LIFECYCLE by its lemma, and the reset by its delay. -/
theorem lifecycleAdvanceBurnsAndResets : Obligations.LifecycleAdvanceBurnsAndResets := by
  intro s src c a w1 w2 straps
  refine ⟨fun h => ?_, fun ha hd r hr => ?_, fun h => ?_, fun h => execLifecycleReset_of_notEnded h, fun e ha he => ?_⟩
  · have hexec := exec_accepted h rfl rfl
    rw [State.take_lcs, State.take_tick] at hexec
    exact hexec
  · have hburn := State.burning_of_active ha hd
    have hack : exec (.otpAdvAck w1 w2) s = .next (s.advanceRead a w1 w2) := execOtpAdvAck_of_burning hburn
    refine ⟨fun hnext hlt => ?_, fun z hz => ⟨fun h => ?_, fun h ht hn => ?_, fun ho ht hn => ?_⟩,
      execOtpAdvTimeout_of_due hburn, execOtpAdvTimeout_of_early hburn⟩
    · rw [hack, State.advanceRead_next hr hnext hlt]
    · rw [hack, State.advanceRead_target hr h, hz]
      rfl
    · rw [hack, State.advanceRead_old hr h ht hn]
      rfl
    · rw [hack, State.advanceRead_other hr ho ht hn, hz]
      rfl
  · have hburn := State.burning_of_ended h
    exact ⟨execOtpAdvAck_of_none hburn, execOtpAdvTimeout_of_none hburn⟩
  · have hexec : exec (.lifecycleReset straps) s = .next (if e + 1000 ≤ s.tick then s.sysReset 2 straps else s) :=
      execLifecycleReset_of_ended ha he
    refine ⟨fun ht => ⟨_, ?_, rfl, rfl, rfl, rfl, rfl, rfl, rfl⟩, fun ht => ?_⟩
    · rw [hexec, if_pos ht]
    · rw [hexec, if_neg (Nat.not_le_of_lt ht)]

end Sys2Proof.Machine
end

section
/-! SUPPORT. The resets (R486, R506 to R508, R534, R545). -/

namespace Sys2Proof.Machine

section
variable {s : State} {straps : Straps}

theorem State.watchdog_of_stopped (h : s.clocked = false) (parity : Option ParityErr) : s.watchdog straps parity = s :=
  if_pos (by simp [h])

variable (h : s.clocked = true)
include h

theorem State.watchdog_of_noParity : s.watchdog straps none = s.sysReset 3 straps := if_neg (by simp [h])

/-- A parity error that stopped Wellhead leaves its record before the reset (R534, R545). -/
theorem State.watchdog_of_parity (e : ParityErr) : s.watchdog straps (some e) =
    State.sysReset { s with faults := { s.faults with kept := some (
      { seq := 0, cls := fcPARITY_LOST, terr := noTerr, location := locBlock
        cause := cPARITY_LOSS_EVT.1 * 256 + cPARITY_LOSS_EVT.2, detail := 9, handle := 0, tick := s.tick, step := 0xFFFFFFFF
        info := e.word } : FaultRec) } } 3 straps := if_neg (by simp [h])

end

/-- Settles O46: the power-up and the reset of the block name their whole state, and the watchdog is the reset of cause 3. -/
theorem resetsRestart : Obligations.ResetsRestart := by
  rintro s _ straps parity rfl
  refine ⟨rfl, rfl, fun t ht => ⟨?_, ?_, ?_, fun hc => ?_⟩⟩
  · rw [ht]
    rfl
  · rintro hc rfl
    rw [ht]
    exact congrArg Host.Outcome.next (State.watchdog_of_noParity hc)
  · rintro e hc rfl
    rw [ht]
    exact congrArg Host.Outcome.next (State.watchdog_of_parity hc e)
  · exact congrArg Host.Outcome.next (State.watchdog_of_stopped hc parity)

end Sys2Proof.Machine
end

section
/-! SUPPORT. The start-up sequence (R508 to R515): each row in its step, and what a failure leaves. -/

namespace Sys2Proof.Machine

section
variable {s : State}

/-! ### Fuse words -/

theorem State.otpWord_outside (h : s.boot.step ≠ .otp) (w : Word) : s.otpWord w = s := if_pos h

variable {w : Word} (h : s.boot.step = .otp)
include h

theorem State.otpWord_first (hfirst : s.boot.otpFirst = none) :
    s.otpWord w = { s with boot := { s.boot with otpFirst := some w, since := s.tick } } := by
  simp only [State.otpWord, h, hfirst, ne_eq, not_true_eq_false, if_false]

theorem State.otpWord_differs {v : Word} (hfirst : s.boot.otpFirst = some v) (hne : v ≠ w) :
    s.otpWord w = s.bootFail 0x9 false := by
  simp only [State.otpWord, h, hfirst, ne_eq, not_true_eq_false, if_false, if_pos hne]

variable (hfirst : s.boot.otpFirst = some w)
include hfirst

/-- Two readings that agree are kept; behind the last word the fuses are read. -/
theorem State.otpWord_agrees {u : State} (hu : u = { s with boot := { s.boot with
      otpFirst := none, otpSeen := s.boot.otpSeen.put s.boot.otpWord w, otpWord := s.boot.otpWord + 1, since := s.tick } }) :
    s.otpWord w = if s.boot.otpWord = 32 then u.fusesRead else u := by
  simp only [State.otpWord, h, hfirst, ne_eq, not_true_eq_false, if_false, hu]

end

/-! ### The steps -/

section
variable {s : State}

theorem execPdWhRestoreDone_acts (h : s.boot.step = .pdWh) :
    execPdWhRestoreDone s = .next { s with boot := { s.boot with step := .otp, otpWord := 0, since := s.tick } } :=
  congrArg Host.Outcome.next (if_pos h)

theorem execPdWhRestoreDone_outside (h : s.boot.step ≠ .pdWh) : execPdWhRestoreDone s = .next s :=
  congrArg Host.Outcome.next (if_neg h)

theorem execOtpReadTimeout_due (h : s.boot.step = .otp) (ht : s.boot.since + 334 ≤ s.tick) :
    execOtpReadTimeout s = .next (s.bootFail 0x9 false) :=
  congrArg Host.Outcome.next (if_pos (by simp [h, otpLimit, ht]))

theorem execOtpReadTimeout_idle (h : s.boot.step ≠ .otp ∨ s.tick < s.boot.since + 334) : execOtpReadTimeout s = .next s := by
  refine congrArg Host.Outcome.next (if_neg fun hrun => ?_)
  obtain ⟨hstep, ht⟩ : s.boot.step = .otp ∧ s.boot.since + otpLimit ≤ s.tick := by
    simpa only [Bool.and_eq_true, decide_eq_true_eq] using hrun
  exact h.elim (absurd hstep) fun h => Nat.not_le_of_lt h ht

theorem execSramClearDone_outside (h : s.boot.step ≠ .sram) : execSramClearDone s = .next s :=
  congrArg Host.Outcome.next (if_pos h)

theorem execSramClearDone_closed (h : s.boot.step = .sram) (hclosed : s.lcs.state = lcSCRAPPED ∨ s.lcs.state = lcINVALID) :
    execSramClearDone s = .next (s.bootFail 0xA false) :=
  congrArg Host.Outcome.next ((if_neg (not_not_intro h)).trans (if_pos (by simpa using hclosed)))

theorem execSramClearDone_open (h : s.boot.step = .sram) (h1 : s.lcs.state ≠ lcSCRAPPED) (h2 : s.lcs.state ≠ lcINVALID) :
    execSramClearDone s = .next s.readHeader :=
  congrArg Host.Outcome.next ((if_neg (not_not_intro h)).trans (if_neg (by simp [h1, h2])))

/-- The image's header is read from the source of the straps; there is none at a reserved code (R513). -/
theorem State.readHeader_eq {u : State} (hu : u = { s with boot := { s.boot with step := .header, since := s.tick } }) :
    (s.boot.straps.bootSrc = 0 → s.readHeader = u.hfpIssue noTerr .bootHeader) ∧
    (s.boot.straps.bootSrc = 1 → s.readHeader = u.mpIssue 0 .bootHeader) ∧
    (2 ≤ s.boot.straps.bootSrc.toNat → s.readHeader = u.bootFail 0x1 true) := by
  subst hu
  refine ⟨fun h => if_pos h, fun h => ?_, fun h => ?_⟩
  · exact (if_neg (by simp [h])).trans (if_pos h)
  · have reserved : ∀ k : BitVec 2, k.toNat < 2 → s.boot.straps.bootSrc ≠ k := fun k hk e => by
      rw [e] at h
      omega
    exact (if_neg (reserved 0 (by decide))).trans (if_neg (reserved 1 (by decide)))

/-! ### READY -/

theorem execFirmwareStartTimeout_due (h : s.boot.step = .firmware) (ht : s.boot.since + 1000000 ≤ s.tick) :
    execFirmwareStartTimeout s = .next (s.bootFail 0x8 true) :=
  congrArg Host.Outcome.next (if_pos (by simp [h, ht]))

theorem execFirmwareStartTimeout_idle (h : s.boot.step ≠ .firmware ∨ s.tick < s.boot.since + 1000000) :
    execFirmwareStartTimeout s = .next s :=
  congrArg Host.Outcome.next (if_neg (by obtain h | h := h <;> simp [h]))

@[simp] theorem State.refileKept_sleep (s : State) : s.refileKept.sleep = s.sleep := by
  unfold State.refileKept
  split
  · rfl
  · simp

theorem State.fwStarted_outside (h : s.boot.step ≠ .firmware) : s.fwStarted = s := if_pos h

/-- READY is set, source 22 raised and the kept record filed; a wake that restarted the firmware ends (R500, R508). -/
theorem State.fwStarted_of_firmware (h : s.boot.step = .firmware) {u : State}
    (hu : u = { s with
      lcs := { s.lcs with ready := true, svn := rd s.boot.header 16 4 % 128 }
      boot := { s.boot with step := .running, readyAt := s.tick, restart := false }
      pwr := { s.pwr with auto := false, levelHi := 0, levelLo := 0, s1Idle := 1000, spAwake := true }
      sleep := { s.sleep with teOn := true, rbOn := true, teWait := none, rbWait := none, code := 0, idleSince := s.tick }
      programs := List.range s.cfg.quads, sched := { start := s.tick } }) :
    s.fwStarted = if s.boot.restart = true ∧ s.sleep.phase = .waking then (u.raise 22).refileKept.finishSleep 0
      else (u.raise 22).refileKept := by
  have hphase : (u.raise 22).refileKept.sleep.phase = s.sleep.phase := by
    rw [State.refileKept_sleep, State.raise_sleep, hu]
  have hready : State.setReady { s with
      sleep := { s.sleep with teOn := true, rbOn := true, teWait := none, rbWait := none }
      programs := List.range s.cfg.quads } = (u.raise 22).refileKept := by
    rw [hu]
    rfl
  rw [State.fwStarted, if_neg (not_not_intro h)]
  simp only [hready, hphase, Bool.and_eq_true, decide_eq_true_eq]

end

/-- Settles O47: each row by the lemma of its step, and none of them acts outside it. -/
theorem startUpSequence : Obligations.StartUpSequence := by
  intro s
  refine ⟨fun code x => ⟨_, rfl, rfl⟩, execPdWhRestoreDone_acts, execPdWhRestoreDone_outside,
    fun w h => ⟨fun hf => ?_, fun v hf hne => ?_, ?_⟩, fun w h => congrArg Host.Outcome.next (State.otpWord_outside h w),
    execOtpReadTimeout_due, execOtpReadTimeout_idle, fun h => ⟨execSramClearDone_closed h, ?_⟩, execSramClearDone_outside,
    fun h u hu => ?_, fun h => congrArg Host.Outcome.next (State.fwStarted_outside h), execFirmwareStartTimeout_due,
    execFirmwareStartTimeout_idle⟩
  · exact congrArg Host.Outcome.next (State.otpWord_first h hf)
  · exact congrArg Host.Outcome.next (State.otpWord_differs h hf hne)
  · rintro hf _ rfl
    have hexec := congrArg Host.Outcome.next (State.otpWord_agrees h hf rfl) (β := Host.Outcome State Fault Refusal)
    exact ⟨fun hn => hexec.trans (by rw [if_neg hn]), fun hn => hexec.trans (by rw [if_pos hn, hn]; rfl)⟩
  · rintro h1 h2 u hu
    obtain ⟨hhost, hmem, hres⟩ := State.readHeader_eq hu
    have hexec : exec .sramClearDone s = .next s.readHeader := execSramClearDone_open h h1 h2
    exact ⟨fun hb => hexec.trans (congrArg Host.Outcome.next (hhost hb)),
      fun hb => hexec.trans (congrArg Host.Outcome.next (hmem hb)),
      fun hb => hexec.trans (congrArg Host.Outcome.next (hres hb))⟩
  · have hexec := congrArg Host.Outcome.next (State.fwStarted_of_firmware h hu) (β := Host.Outcome State Fault Refusal)
    refine ⟨fun hnot => hexec.trans ?_, fun hr hp => hexec.trans ?_⟩
    · rw [if_neg (by simpa [Classical.or_iff_not_imp_left] using hnot)]
    · rw [if_pos ⟨hr, hp⟩]

end Sys2Proof.Machine
end

section
/-! SUPPORT. The acknowledgements of the power port, their limit, and the AUTO test (R476, R481, R482, R484, R500, R594, R595). -/

namespace Sys2Proof.Machine

/-! ### Voltage and frequency -/

section
variable {s u : State}

theorem State.vackRise_of_noRequest (h : s.pwr.vreq = false) : s.vackRise = s := if_pos (by simp [h])

/-- The acknowledgement of a request clears it and carries on what asked for it: start-up, the entry into S3, a wake or a level
change. -/
theorem State.vackRise_of_request (h : s.pwr.vreq = true) (hu : u = s.modPwr (fun p => { p with vreq := false })) :
    (s.boot.step = .voltage → s.vackRise = u.bootClocks) ∧
    (s.boot.step ≠ .voltage →
      (s.sleep.phase = .s3Enter →
        s.vackRise = State.reachSleep { u with pwr := { u.pwr with phase := .idle } } .s3 3 cSLEEP_ENTER) ∧
      (s.sleep.phase = .wakeVolt →
        s.vackRise = State.exitClocks { u with pwr := { u.pwr with vAcked := true, phase := .idle } }) ∧
      (s.sleep.phase ≠ .s3Enter → s.sleep.phase ≠ .wakeVolt →
        s.vackRise = if s.pwr.phase = .volt then u.voltDone else u)) := by
  subst hu
  rw [State.vackRise, if_neg (by simp [h])]
  refine ⟨fun hb => if_pos hb, fun hb => ⟨fun hp => ?_, fun hp => ?_, fun h3 hv => ?_⟩⟩
  · refine (if_neg hb).trans ?_
    simp only [State.modPwr, hp]
  · refine (if_neg hb).trans ?_
    simp only [State.modPwr, hp]
  · refine (if_neg hb).trans ?_
    split
    · rename_i e
      exact absurd e h3
    · rename_i e
      exact absurd e hv
    · rfl

end

section
variable {s : State}

theorem execPpFack_of_noRequest (h : s.pwr.freq = false) :
    execPpFack true s = .next { s with pwr := { s.pwr with fack := true } } :=
  congrArg Host.Outcome.next (if_neg (show ¬ s.pwr.freq = true by simp [h]))

theorem execPpFack_of_request (h : s.pwr.freq = true) {u : State}
    (hu : u = { s with pwr := { s.pwr with fack := true, freq := false } }) :
    execPpFack true s = .next (if s.pwr.phase = .freq then u.freqDone else u) := by
  subst hu
  exact congrArg Host.Outcome.next (if_pos h)

theorem State.biasSettled_of_due (hp : s.pwr.phase = .bias) (ht : s.pwr.since + 200 ≤ s.tick) :
    s.biasSettled = { s with
      pwr := (if s.pwr.level ≠ s.pwr.target then s.pwr.wantFreq s.tick else s.pwr.wantVolt s.pwr.target s.tick) } :=
  if_pos (by simp [hp, ht])

theorem State.biasSettled_of_notDue (h : s.pwr.phase ≠ .bias ∨ s.tick < s.pwr.since + 200) : s.biasSettled = s :=
  if_neg (by obtain h | h := h <;> simp [h])

/-! ### A missed acknowledgement -/

theorem State.ackTimeout_of_notDue (h : (s.pwr.vreq = false ∧ s.pwr.freq = false) ∨ s.tick < s.pwr.since + 10000) :
    s.ackTimeout = s :=
  if_pos (by simpa using h)

/-- A missed acknowledgement stops start-up and the entry, repeats the wait of a wake, and ends a level change (R482). -/
theorem State.ackTimeout_of_due (hreq : s.pwr.vreq = true ∨ s.pwr.freq = true) (ht : s.pwr.since + 10000 ≤ s.tick) :
    (s.boot.step = .voltage → s.ackTimeout = { State.ackFault { s with
        pwr := { s.pwr with vreq := false, phase := .idle, changing := false } } 1 with
      boot := { s.boot with step := .failed } }) ∧
    (s.boot.step ≠ .voltage →
      (s.sleep.phase = .s3Enter → ∀ u : State,
        u = State.ackFault { s with pwr := { s.pwr with vreq := false, phase := .idle } } 1 →
        s.ackTimeout = State.exitClocks { u with sleep := { u.sleep with failed := true } }) ∧
      (s.sleep.phase = .wakeVolt →
        s.ackTimeout = State.ackFault { s with pwr := { s.pwr with since := s.tick } } 1) ∧
      (s.sleep.phase ≠ .s3Enter → s.sleep.phase ≠ .wakeVolt →
        s.ackTimeout = s.changeFails (if s.pwr.vreq then 1 else 2))) := by
  have hdue : ¬ (!(s.pwr.vreq || s.pwr.freq) || s.tick < s.pwr.since + 10000) = true := by
    obtain h | h := hreq <;> simp [h, ht]
  rw [State.ackTimeout, if_neg hdue]
  refine ⟨fun hb => if_pos hb, fun hb => ⟨?_, fun hp => ?_, fun h3 hv => ?_⟩⟩
  · rintro hp _ rfl
    refine (if_neg hb).trans ?_
    simp only [hp]
    rfl
  · refine (if_neg hb).trans ?_
    simp only [hp]
    rfl
  · refine (if_neg hb).trans ?_
    split
    · rename_i e
      exact absurd e h3
    · rename_i e
      exact absurd e hv
    · rfl

/-! ### The clocks -/

/-- The acknowledged clocks are stored, and what waits for them goes on once every clock runs (R476). -/
theorem State.clkackSet_eq {v : BitVec 6} {u : State} (hu : u = { s with pwr := { s.pwr with clkack := v } }) :
    (s.boot.step = .clocks → s.clkackSet v = u.bootPdWh) ∧
    (s.boot.step ≠ .clocks →
      (s.sleep.phase = .abort → u.clocksUp = true → s.clkackSet v = u.finishSleep s.sleep.outcome) ∧
      (s.sleep.phase = .wakeClk → u.clocksUp = true →
        s.clkackSet v = { u with sleep := { s.sleep with phase := .waking, since := s.tick } }) ∧
      ((s.sleep.phase ≠ .abort ∧ s.sleep.phase ≠ .wakeClk) ∨ u.clocksUp = false → s.clkackSet v = u)) := by
  subst hu
  refine ⟨fun hb => if_pos hb, fun hb => ⟨fun hp hup => ?_, fun hp hup => ?_, fun h => ?_⟩⟩
  · refine (if_neg hb).trans ?_
    simp only [hp, hup, if_true]
  · refine (if_neg hb).trans ?_
    simp only [hp, hup, if_true]
  · refine (if_neg hb).trans ?_
    split
    · rename_i e
      exact if_neg (by simpa using h.resolve_left fun hne => hne.1 e)
    · rename_i e
      exact if_neg (by simpa using h.resolve_left fun hne => hne.2 e)
    · rfl

/-! ### AUTO (R484) -/

theorem State.autoLevel_of_notDue (h : s.running = false ∨ s.pwr.auto = false ∨ s.tick < s.pwr.lastAuto + 100000)
    (busy total : Nat) : s.autoLevel busy total = s :=
  if_pos (by simpa [or_assoc] using h)

/-- A test that is due moves one level toward the load, within the limits of the settings. -/
theorem State.autoLevel_of_due (hr : s.running = true) (ha : s.pwr.auto = true) (ht : s.pwr.lastAuto + 100000 ≤ s.tick)
    {late : Bool} (hlate : late = s.terr.any (fun x => x.2.lateAuto)) {u : State}
    (hu : u = { s with
      terr := s.terr.mapVals (fun _ te => { te with lateAuto := false }), pwr := { s.pwr with lastAuto := s.tick } })
    (busy total : Nat) :
    s.autoLevel busy total =
      if s.pwr.phase ≠ .idle then u
      else if s.sched.sealed then u.powerNext
      else if 3 * total < 4 * busy || late then
        (if s.pwr.levelHi < s.pwr.level then u.beginChange (s.pwr.level - 1) false else u)
      else if 5 * busy < 2 * total then
        (if s.pwr.level < s.pwr.levelLo then u.beginChange (s.pwr.level + 1) false else u)
      else u := by
  subst hlate hu
  exact if_neg (by simp [hr, ha, ht])

end

/-- Settles O49: each acknowledgement by what asked for it, the limit by what it stops, and the AUTO test by the load. -/
theorem levelAcknowledgements : Obligations.LevelAcknowledgements := by
  intro s
  refine ⟨fun h => ?_, ?_, execPpFack_of_noRequest, ?_, rfl, rfl,
    fun hp ht => congrArg Host.Outcome.next (State.biasSettled_of_due hp ht),
    fun h => congrArg Host.Outcome.next (State.biasSettled_of_notDue h),
    fun h => congrArg Host.Outcome.next (State.ackTimeout_of_notDue h), fun hreq ht => ?_, fun v u hu => ?_,
    fun busy total => ?_⟩
  · exact congrArg Host.Outcome.next (State.vackRise_of_noRequest (s := { s with pwr := { s.pwr with vack := true } }) h)
  · rintro h u hu
    obtain ⟨hboot, hrest⟩ := State.vackRise_of_request (s := { s with pwr := { s.pwr with vack := true } }) h hu
    refine ⟨fun hb => congrArg Host.Outcome.next (hboot hb), fun hb => ?_⟩
    obtain ⟨hs3, hwake, hlevel⟩ := hrest hb
    exact ⟨fun hp => congrArg Host.Outcome.next (hs3 hp), fun hp => congrArg Host.Outcome.next (hwake hp),
      fun h3 hv => ⟨fun hp => congrArg Host.Outcome.next ((hlevel h3 hv).trans (if_pos hp)),
        fun hp => congrArg Host.Outcome.next ((hlevel h3 hv).trans (if_neg hp))⟩⟩
  · rintro h u hu
    have hexec : exec (.ppFack true) s = .next (if s.pwr.phase = .freq then u.freqDone else u) := execPpFack_of_request h hu
    exact ⟨fun hp => by rw [hexec, if_pos hp], fun hp => by rw [hexec, if_neg hp]⟩
  · obtain ⟨hboot, hrest⟩ := State.ackTimeout_of_due hreq ht
    refine ⟨fun hb => congrArg Host.Outcome.next (hboot hb), fun hb => ?_⟩
    obtain ⟨hs3, hwake, hlevel⟩ := hrest hb
    exact ⟨fun hp u hu => congrArg Host.Outcome.next (hs3 hp u hu), fun hp => congrArg Host.Outcome.next (hwake hp),
      fun h3 hv => congrArg Host.Outcome.next (hlevel h3 hv)⟩
  · obtain ⟨hboot, hrest⟩ := State.clkackSet_eq hu
    refine ⟨fun hb => congrArg Host.Outcome.next (hboot hb), fun hb => ?_⟩
    obtain ⟨habort, hwake, hstay⟩ := hrest hb
    exact ⟨fun hp hup => congrArg Host.Outcome.next (habort hp hup), fun hp hup => congrArg Host.Outcome.next (hwake hp hup),
      fun h => congrArg Host.Outcome.next (hstay h)⟩
  · refine ⟨fun h => congrArg Host.Outcome.next (State.autoLevel_of_notDue h busy total), fun hr ha ht late u hlate hu => ?_⟩
    have hexec := congrArg Host.Outcome.next (State.autoLevel_of_due hr ha ht hlate hu busy total)
      (β := Host.Outcome State Fault Refusal)
    refine ⟨fun hp => hexec.trans (by rw [if_pos hp]), fun hp => ?_⟩
    rw [if_neg (not_not_intro hp)] at hexec
    refine ⟨fun hs => hexec.trans (by rw [if_pos hs]), fun hs => ?_⟩
    rw [if_neg (by simp [hs])] at hexec
    refine ⟨fun h => hexec.trans (by rw [if_pos (by simpa using h)]), fun hlow hno => ?_⟩
    rw [if_neg (by simp [Nat.not_lt_of_le hlow, hno])] at hexec
    exact ⟨fun h => hexec.trans (by rw [if_pos h]), fun h => hexec.trans (by rw [if_neg (Nat.not_lt_of_le h)])⟩

end Sys2Proof.Machine
end

section
/-! SUPPORT. STREAM_OPEN, STREAM_CLOSE, STREAM_CREDIT and the timer of a result stream (R432, R439, R441, R443). -/

namespace Sys2Proof.Machine

section
variable {s : State} {src : Src} {c : Bytes} {te : Terrace} (hte : s.terrace (hTerr (cHandle c)) = some te)
include hte

theorem State.streamOpen_of_room {i : Nat} (hroom : te.streams.length < 256) (hi : i = Tbl.fresh te.streams) :
    s.streamOpen src c = (s.modT (hTerr (cHandle c)) (fun te => { te with streams := (te.streams.put i
      { gen := hGen (s.handleOf (hTerr (cHandle c)) tyStream i), ring := rd c 16 8, log2 := rd c 24 1
        irqEn := bit (rd c 25 1) 0, ctrl := bit (rd c 25 1) 1, coalCount := rd c 26 2, coalTime := rd c 28 2
        sync := rd c 32 4 }) })).only (ticketOf src c) stOK (s.handleOf (hTerr (cHandle c)) tyStream i) 0 0 := by
  subst hi
  simp only [State.streamOpen, hte, if_neg (Nat.not_le_of_lt hroom)]

theorem State.streamOpen_of_full (hfull : 256 ≤ te.streams.length) :
    s.streamOpen src c = s.refuse (ticketOf src c) stNO_RESOURCE noField := by
  simp only [State.streamOpen, hte, if_pos hfull]

end

/-- A stream that is changed under its own handle. -/
theorem State.modStream_rstream {s : State} {h : Handle} {f : RStream → RStream} (hf : ∀ x, (f x).gen = x.gen) :
    (s.modStream h f).rstream h = (s.rstream h).map f := by
  unfold State.rstream State.modStream
  rw [State.modT_terrace_self]
  cases s.terrace (hTerr h) with
  | none => rfl
  | some te =>
    simp only [Option.map_some, Option.bind_some, Tbl.get_mod_self]
    cases te.streams.get (hIndex h) with
    | none => rfl
    | some x =>
      simp only [Option.map_some, Option.bind_some, hf]
      split <;> rfl

/-- CONSUMED is stored, the free slots are answered, and the records that waited go on (R439). -/
theorem State.streamCredit_of_stream {s : State} {src : Src} {c : Bytes} {x : RStream} (hx : s.rstream (cHandle c) = some x) :
    s.streamCredit src c = ((s.modStream (cHandle c) (fun x => { x with consumed := rd c 16 8, creditAt := s.tick })).only
      (ticketOf src c) stOK (cHandle c) x.produced (2 ^ x.log2 - (x.produced - rd c 16 8))).runStream (cHandle c) := by
  have hmod : (s.modStream (cHandle c) (fun x => { x with consumed := rd c 16 8, creditAt := s.tick })).rstream (cHandle c) =
      some { x with consumed := rd c 16 8, creditAt := s.tick } := by
    refine (State.modStream_rstream (by intro _; rfl)).trans ?_
    rw [hx, Option.map_some]
  simp only [State.streamCredit, hmod, RStream.free, RStream.size]

/-! ### The timer -/

/-- The conditions of R441 on a stream: its interrupt is enabled, a record is unannounced, and the count or the time is
reached. -/
def RStream.irqDue (x : RStream) (now : Tick) : Prop :=
  x.irqEn = true ∧ 0 < x.unann ∧ ((if x.coalCount ≤ 1 then x.out = 0 else x.coalCount ≤ x.unann) ∨
    (x.coalTime ≠ 0 ∧ x.firstAt + 16 * x.coalTime ≤ now))

section
variable {s : State} {h : Handle} {x : RStream} (hx : s.rstream h = some x)
include hx

/-- The test of R441 on a stream reads `irqDue`. -/
theorem State.testStreamIrq_eq : s.testStreamIrq h =
    if x.irqEn && 0 < x.unann && ((if x.coalCount ≤ 1 then decide (x.out = 0) else decide (x.coalCount ≤ x.unann))
      || (x.coalTime ≠ 0 && x.firstAt + 16 * x.coalTime ≤ s.tick))
    then (s.modStream h (fun y => { y with unann := 0 })).raise (hTerr h) else s := by
  simp only [State.testStreamIrq, hx]

theorem State.testStreamIrq_of_due (hdue : x.irqDue s.tick) :
    s.testStreamIrq h = (s.modStream h (fun y => { y with unann := 0 })).raise (hTerr h) := by
  obtain ⟨hen, hun, hcond⟩ := hdue
  rw [State.testStreamIrq_eq hx, if_pos]
  split at hcond
  · rename_i hc
    simpa [hen, hun, hc] using hcond
  · rename_i hc
    simpa [hen, hun, hc] using hcond

theorem State.testStreamIrq_of_notDue (hdue : ¬ x.irqDue s.tick) : s.testStreamIrq h = s := by
  rw [State.testStreamIrq_eq hx, if_neg]
  intro hcond
  refine hdue ?_
  simp only [Bool.and_eq_true, Bool.or_eq_true, decide_eq_true_eq] at hcond
  obtain ⟨⟨hen, hun⟩, hcond⟩ := hcond
  refine ⟨hen, hun, hcond.imp_left fun hcount => ?_⟩
  split at hcount
  · rename_i hc
    simpa [hc] using hcount
  · rename_i hc
    simpa [hc] using hcount

end

section
variable {s : State} {n idx : Nat}

theorem State.streamTimer_of_none (h : (s.terrace n).bind (fun te => te.streams.get idx) = none) : s.streamTimer n idx = s := by
  simp only [State.streamTimer, h]

theorem State.streamTimer_of_stream {x : RStream} (h : (s.terrace n).bind (fun te => te.streams.get idx) = some x) :
    s.streamTimer n idx = if x.coalTime = 0 then s else s.testStreamIrq (mkHandle n tyStream idx x.gen) := by
  simp only [State.streamTimer, h]

end

/-- Settles O39: each accepted command's own effect by the lemma of its case, and the timer by the conditions of R441. -/
theorem streamCommandsAct : Obligations.StreamCommandsAct := by
  rintro s u src c tk t hu rfl rfl
  refine ⟨fun te i h hte hi => ?_, fun h => hu ▸ exec_accepted h rfl rfl, fun x h hx => ?_, ?_, fun n idx h => ?_⟩
  · have hexec : exec (.streamOpen src c) s = .next (u.streamOpen src c) := hu ▸ exec_accepted h rfl rfl
    exact ⟨fun hroom => hexec.trans (congrArg Host.Outcome.next (State.streamOpen_of_room hte hroom hi)),
      fun hfull => hexec.trans (congrArg Host.Outcome.next (State.streamOpen_of_full hte hfull))⟩
  · have hexec : exec (.streamCredit src c) s = .next (u.streamCredit src c) := hu ▸ exec_accepted h rfl rfl
    exact hexec.trans (congrArg Host.Outcome.next (State.streamCredit_of_stream hx))
  · rintro n idx x _ hget rfl hx
    have htimer := State.streamTimer_of_stream hget
    refine ⟨fun hen hun htime hpast => ?_, fun h => ?_⟩
    · rw [if_neg htime, State.testStreamIrq_of_due hx ⟨hen, hun, .inr ⟨htime, hpast⟩⟩] at htimer
      exact congrArg Host.Outcome.next htimer
    · refine congrArg Host.Outcome.next (htimer.trans (ite_eq_left_iff.2 fun htime => State.testStreamIrq_of_notDue hx ?_))
      rintro ⟨hen, hun, hcond⟩
      obtain h | h | h | ⟨hcount, hearly⟩ := h
      · exact Bool.noConfusion (h.symm.trans hen)
      · exact absurd h (Nat.ne_of_gt hun)
      · exact htime h
      · obtain hcond | hcond := hcond
        · split at hcond <;> omega
        · exact Nat.not_le_of_lt hearly hcond.2
  · exact congrArg Host.Outcome.next (State.streamTimer_of_none h)

end Sys2Proof.Machine
end

section
/-! SUPPORT. TERRACE_DESTROY (R467 to R469): its start, what no one takes, and the terrace it frees. -/

namespace Sys2Proof.Machine

/-- Only what a change does to the element at its position counts. -/
theorem setAt_congr {α : Type} {i : Nat} {f g : α → α} {l : List α} {d : α} (h : f (l.getD i d) = g (l.getD i d)) :
    setAt i f l = setAt i g l := by
  induction l generalizing i with
  | nil => simp [setAt]
  | cons a r ih =>
    cases i with
    | zero => exact congrArg (· :: r) h
    | succ i => exact congrArg (a :: ·) (ih h)

theorem State.modMb_congr {s : State} {mb : Nat} {f g : Mailbox → Mailbox} (h : f (s.mailbox mb) = g (s.mailbox mb)) :
    s.modMb mb f = s.modMb mb g :=
  congrArg (fun l => { s with mbs := l }) (setAt_congr h)

/-! ### What no one takes -/

section
variable {s : State} {t : Nat} {te : Terrace}

/-- Where every held completion has waited for its time, all of them go (R467). -/
theorem State.discardHeld_of_allLate (h : ∀ x ∈ (s.mailbox t).held, max x.at_ te.destroyAt + 100000 ≤ s.tick) :
    s.discardHeld t te = (s.modMb t (fun m => { m with
      held := [], live := m.live - ((s.mailbox t).held.filter (fun x => x.kind = kONLY || x.kind = kFINAL)).length })).count
        cDESTROY_DISCARD t locBlock (s.mailbox t).held.length := by
  have hgone : (s.mailbox t).held.filter (fun x => max x.at_ te.destroyAt + 100000 ≤ s.tick) = (s.mailbox t).held :=
    List.filter_eq_self.2 fun x hx => decide_eq_true (h x hx)
  have hkept : (s.mailbox t).held.filter (fun x => !decide (max x.at_ te.destroyAt + 100000 ≤ s.tick)) = [] :=
    List.filter_eq_nil_iff.2 fun x hx => by simp [h x hx]
  simp only [State.discardHeld, hgone]
  refine congrArg (fun w : State => w.count cDESTROY_DISCARD t locBlock (s.mailbox t).held.length) (State.modMb_congr ?_)
  simp only [hkept]

theorem State.destroyDiscard_of_destroying (hte : s.terrace t = some te) (hd : te.destroying.isSome = true) :
    s.destroyDiscard t = (s.forEach te.streams (fun s x =>
      s.discardRecords te (mkHandle t tyStream x.1 x.2.gen) x.2)).discardHeld t te := by
  have hd : ¬ te.destroying.isNone = true := by simp [Option.isSome_iff_ne_none.1 hd]
  simp only [State.destroyDiscard, hte, if_neg hd]

theorem State.destroyDiscard_of_other (h : ∀ x, s.terrace t = some x → x.destroying = none) : s.destroyDiscard t = s := by
  cases hte : s.terrace t with
  | none => simp only [State.destroyDiscard, hte]
  | some te => simp only [State.destroyDiscard, hte, h te hte, Option.isNone_none, if_true]

/-! ### The end -/

theorem State.destroyDone_of_destroying {tk : Ticket} (hte : s.terrace t = some te) (hd : te.destroying = some tk) :
    s.destroyDone t = if s.destroyDrained t te then (s.clearTerrace t te).final tk stOK tk.handle 0 noField 0 0 else s := by
  simp only [State.destroyDone, hte, hd]

theorem State.destroyDone_of_other (h : ∀ x, s.terrace t = some x → x.destroying = none) : s.destroyDone t = s := by
  cases hte : s.terrace t with
  | none => simp only [State.destroyDone, hte]
  | some te => simp only [State.destroyDone, hte, h te hte]

variable (s t te)

theorem State.clearTerrace_terrace_self : (s.clearTerrace t te).terrace t = none := Tbl.get_del_self ..

theorem State.clearTerrace_terrace_ne {n : Nat} (h : n ≠ t) : (s.clearTerrace t te).terrace n = s.terrace n :=
  (Tbl.get_del ..).trans (if_neg (Ne.symm h))

theorem State.clearTerrace_mailbox_self (h : t < s.mbs.length) :
    (s.clearTerrace t te).mailbox t = { epoch := (s.mailbox t).epoch + 1 } :=
  State.modMb_mailbox_self h (fun m => { epoch := m.epoch + 1 })

theorem State.clearTerrace_mailbox_ne {n : Nat} (h : n ≠ t) : (s.clearTerrace t te).mailbox n = s.mailbox n :=
  State.modMb_mailbox_ne h (fun m => { epoch := m.epoch + 1 })

theorem State.mem_clearTerrace_tasks (k : Task) : k ∈ (s.clearTerrace t te).tasks ↔ k ∈ s.tasks ∧ k.terr ≠ t := by
  have htasks : (s.clearTerrace t te).tasks = s.tasks.filter (fun k => k.terr ≠ t) := rfl
  rw [htasks]
  simp

end

/-- Settles O24: the start is its row's effect, and each timer acts by whether the terrace is being destroyed. -/
theorem terraceDestroyRunsToFree : Obligations.TerraceDestroyRunsToFree := by
  intro s src c t job te tk
  refine ⟨fun h => ?_, fun hte hd => ?_, fun hte hd hnone hlate => ?_, fun hte hd hdrained hmb => ?_, fun hte hd hopen => ?_,
    fun h => ⟨congrArg Host.Outcome.next (State.destroyDiscard_of_other h),
      congrArg Host.Outcome.next (State.destroyDone_of_other h)⟩, rfl⟩
  · have hexec := exec_accepted h rfl rfl
    rw [State.take_tick] at hexec
    exact hexec
  · exact congrArg Host.Outcome.next (State.destroyDiscard_of_destroying hte (by rw [hd]; rfl))
  · have hdiscard := State.destroyDiscard_of_destroying hte (by rw [hd]; rfl)
    rw [hnone, State.forEach_nil, State.discardHeld_of_allLate hlate] at hdiscard
    exact congrArg Host.Outcome.next hdiscard
  · have hdone := State.destroyDone_of_destroying hte hd
    rw [if_pos hdrained] at hdone
    exact ⟨_, rfl, congrArg Host.Outcome.next hdone, s.clearTerrace_terrace_self t te,
      fun n hn => s.clearTerrace_terrace_ne t te hn, s.clearTerrace_mailbox_self t te hmb,
      fun n hn => s.clearTerrace_mailbox_ne t te hn, fun k => s.mem_clearTerrace_tasks t te k⟩
  · have hdone := State.destroyDone_of_destroying hte hd
    rw [if_neg (by simp [hopen])] at hdone
    exact congrArg Host.Outcome.next hdone

end Sys2Proof.Machine
end

section
/-! SUPPORT. The debug port (R519, R526, R527): the challenge, the response and its checks, and the end of the erasure. -/

namespace Sys2Proof.Machine

section
variable {s : State}

theorem State.tapClosed_iff : s.tapClosed = true ↔ s.lcs.state = lcSCRAPPED ∨ s.lcs.state = lcINVALID := by
  simp [State.tapClosed]

theorem State.tapClosed_of_ne (h1 : s.lcs.state ≠ lcSCRAPPED) (h2 : s.lcs.state ≠ lcINVALID) : s.tapClosed = false :=
  Bool.eq_false_iff.2 fun h => (State.tapClosed_iff.1 h).elim h1 h2

/-! ### DBG_CHALLENGE -/

theorem State.dbgChallenge_of_closed (h : s.tapClosed = true) : s.dbgChallenge = s.tapBypass.dbgResult 8 := if_pos h

variable (hopen : s.tapClosed = false)
include hopen

theorem State.dbgChallenge_of_busy (hr : s.lcs.ready = false) : s.dbgChallenge = (s.tapOut 0x11 0).dbgResult 6 := by
  simp only [State.dbgChallenge, hopen, hr, Bool.false_eq_true, if_false, Bool.not_false, if_true, drBUSY]

variable (hr : s.lcs.ready = true)
include hr

theorem State.dbgChallenge_of_asleep (hc : s.clocked = false) : s.dbgChallenge = (s.tapOut 0x11 0).dbgResult 5 := by
  simp only [State.dbgChallenge, hopen, hr, hc, Bool.false_eq_true, if_false, Bool.not_true, Bool.not_false, if_true, drASLEEP]

variable (hc : s.clocked = true)
include hc

theorem State.dbgChallenge_of_failed (hf : s.spring.failed = true) : s.dbgChallenge = (s.tapOut 0x11 0).dbgResult 7 := by
  simp only [State.dbgChallenge, hopen, hr, hc, hf, Bool.false_eq_true, if_false, Bool.not_true, if_true, drENTROPY]

/-- A running Spring gives a fresh nonce, which replaces the live one and is counted. -/
theorem State.dbgChallenge_of_running (hf : s.spring.failed = false) : s.dbgChallenge =
    State.tally { s with fresh := s.fresh + 4, tap := { s.tap with
      ir := 0x11, dr := nonceAt s.fresh, nonce := some (nonceAt s.fresh, s.tick) } } cDEBUG_CHALLENGE noTerr := by
  have hdr : BitVec.ofNat 256 (nonceAt s.fresh).toNat = nonceAt s.fresh := by
    rw [BitVec.ofNat_toNat, BitVec.setWidth_eq]
  simp only [State.dbgChallenge, hopen, hr, hc, hf, Bool.false_eq_true, if_false, Bool.not_true, State.tapOut, hdr]
  rfl

end

/-! ### DBG_RESPONSE -/

section
variable {s v : State} {dr : Bytes}

/-- In a closed state, and before the fuses are read, a response acts as BYPASS. -/
theorem State.dbgResponse_of_closed (h : s.lcs.otpValid = false ∨ s.tapClosed = true) :
    s.dbgResponse dr = { s with tap := { s.tap with ir := 0xFF, dr := 0, result := 8 } } := by
  refine if_pos (show (!s.lcs.otpValid || s.tapClosed) = true from ?_)
  obtain h | h := h
  · simp [h]
  · simp [h]

variable (hv : v = { s with tap := { s.tap with ir := 0x12, dr := 0 } })
variable (hvalid : s.lcs.otpValid = true) (hopen : s.tapClosed = false)
include hv hvalid hopen

/-- Behind the states without a port, an open port and an erasure under way come before the challenge. -/
theorem State.dbgResponse_of_port : s.dbgResponse dr =
    if s.lcs.debugOpen || s.tap.erasing.isSome then v
    else if !s.challenged then (v.openPort false).dbgResult 1
    else if s.tap.locked then { v with tap := { v.tap with nonce := none } }
    else match v.responseChk dr with
      | some k => State.responseFail { v with tap := { v.tap with nonce := none } } k
      | none => if s.lcs.state = lcDEPLOYED then (State.erase { v with tap := { v.tap with nonce := none } }).dbgResult 1
        else (State.openPort { v with tap := { v.tap with nonce := none } } true).dbgResult 1 := by
  subst hv
  exact if_neg (show ¬ (!s.lcs.otpValid || s.tapClosed) = true by simp [hvalid, hopen])

theorem State.dbgResponse_of_open (h : s.lcs.debugOpen = true ∨ s.tap.erasing.isSome = true) : s.dbgResponse dr = v := by
  rw [State.dbgResponse_of_port hv hvalid hopen, if_pos (by simpa using h)]

variable (hshut : s.lcs.debugOpen = false) (hidle : s.tap.erasing = none)
include hshut hidle

theorem State.dbgResponse_of_unchallenged (h : s.challenged = false) :
    s.dbgResponse dr = (v.openPort false).dbgResult 1 := by
  rw [State.dbgResponse_of_port hv hvalid hopen, if_neg (by simp [hshut, hidle]), if_pos (by simp [h])]

variable (hchal : s.challenged = true) {w : State} (hw : w = { v with tap := { v.tap with nonce := none } })
include hchal hw

theorem State.dbgResponse_of_locked (h : s.tap.locked = true) : s.dbgResponse dr = w := by
  rw [State.dbgResponse_of_port hv hvalid hopen, if_neg (by simp [hshut, hidle]), if_neg (by simp [hchal]), if_pos h, hw]

variable (hlock : s.tap.locked = false)
include hlock

theorem State.dbgResponse_of_failed {r : Nat} (h : v.responseChk dr = some r) : s.dbgResponse dr = w.responseFail r := by
  rw [State.dbgResponse_of_port hv hvalid hopen, if_neg (by simp [hshut, hidle]), if_neg (by simp [hchal]),
    if_neg (by simp [hlock]), h, hw]

theorem State.dbgResponse_of_good (h : v.responseChk dr = none) : s.dbgResponse dr =
    if s.lcs.state = lcDEPLOYED then w.erase.dbgResult 1 else (w.openPort true).dbgResult 1 := by
  rw [State.dbgResponse_of_port hv hvalid hopen, if_neg (by simp [hshut, hidle]), if_neg (by simp [hchal]),
    if_neg (by simp [hlock]), h, hw]

end

section
variable {s : State}

theorem State.challenged_iff : s.challenged = true ↔ s.lcs.state = lcPROVISIONED ∨ s.lcs.state = lcDEPLOYED := by
  simp [State.challenged]

/-- The RESULT codes of a failure that lowers ATTEMPTS (R526). -/
theorem lowersAttempts_iff (r : Nat) : (drBAD_SIGNATURE ≤ r && r ≤ drSTALE_NONCE) = true ↔ 2 ≤ r ∧ r ≤ 4 := by
  rw [Bool.and_eq_true, decide_eq_true_eq, decide_eq_true_eq]
  rfl

/-- A failed check is counted and reported; failures 2 to 4 cost an attempt, and the last one locks the port (R526). -/
theorem State.responseFail_tap (r : Nat) (hlock : s.tap.locked = false) : (s.responseFail r).tap = { s.tap with
    result := r, attempts := s.tap.attempts - (if 2 ≤ r ∧ r ≤ 4 then 1 else 0)
    locked := decide (s.tap.attempts - (if 2 ≤ r ∧ r ≤ 4 then 1 else 0) = 0) } := by
  simp only [State.responseFail, State.dbgResult, State.tally_tap, lowersAttempts_iff, hlock, Bool.false_or]

theorem State.responseFail_terr (r : Nat) : (s.responseFail r).terr = s.terr := by
  simp [State.responseFail]

theorem State.responseFail_lcs (r : Nat) : (s.responseFail r).lcs = s.lcs := by
  simp [State.responseFail]

/-- The erasure empties every core (R527). -/
theorem State.erase_cores {c : RillCore} (h : c ∈ s.erase.cores) : c = {} := by
  have hcores : s.erase.cores = s.cores.map (fun _ => {}) := rfl
  rw [hcores, List.mem_map] at h
  obtain ⟨_, -, rfl⟩ := h
  rfl

end

/-- Settles O45: the challenge and the response end at the first condition that fails. -/
theorem debugOpening : Obligations.DebugOpening := by
  intro s v hv
  refine ⟨fun r hr => ⟨fun h => ?_, fun h1 h2 => ?_⟩, fun dr => ⟨fun h => ?_, fun hvalid h1 h2 => ?_⟩,
    fun e => ⟨_, rfl, rfl, rfl, rfl⟩, ⟨rfl, rfl, rfl, rfl, rfl, rfl, rfl, rfl, fun _ => State.erase_cores⟩, fun h => ?_,
    fun h => ?_⟩
  · exact congrArg Host.Outcome.next (State.dbgChallenge_of_closed (State.tapClosed_iff.2 h))
  · have hopen := State.tapClosed_of_ne h1 h2
    simp only [hr]
    exact ⟨fun hr => congrArg Host.Outcome.next (State.dbgChallenge_of_busy hopen hr),
      fun hr hc => congrArg Host.Outcome.next (State.dbgChallenge_of_asleep hopen hr hc),
      fun hr hc hf => congrArg Host.Outcome.next (State.dbgChallenge_of_failed hopen hr hc hf),
      fun hr hc hf => ⟨_, rfl, congrArg Host.Outcome.next (State.dbgChallenge_of_running hopen hr hc hf)⟩⟩
  · exact congrArg Host.Outcome.next (State.dbgResponse_of_closed (h.imp_right State.tapClosed_iff.2))
  · have hopen := State.tapClosed_of_ne h1 h2
    refine ⟨fun h => congrArg Host.Outcome.next (State.dbgResponse_of_open hv hvalid hopen h),
      fun hshut hidle => ⟨fun hp hd => ?_, fun hchal w hw => ?_⟩⟩
    · have hno : s.challenged = false := Bool.eq_false_iff.2 fun h => (State.challenged_iff.1 h).elim hp hd
      exact congrArg Host.Outcome.next (State.dbgResponse_of_unchallenged hv hvalid hopen hshut hidle hno)
    · have hchal := State.challenged_iff.2 hchal
      have hterr : w.terr = s.terr := by rw [hw, hv]
      have hlcs : w.lcs = s.lcs := by rw [hw, hv]
      have hattempts : w.tap.attempts = s.tap.attempts := by rw [hw, hv]
      have hlocked : w.tap.locked = s.tap.locked := by rw [hw, hv]
      refine ⟨fun hl => congrArg Host.Outcome.next (State.dbgResponse_of_locked hv hvalid hopen hshut hidle hchal hw hl),
        fun r hl hchk => ⟨?_, ?_, ?_, ?_⟩, fun hl hchk => ?_⟩
      · exact congrArg Host.Outcome.next (State.dbgResponse_of_failed hv hvalid hopen hshut hidle hchal hw hl hchk)
      · rw [State.responseFail_terr, hterr]
      · rw [State.responseFail_lcs, hlcs]
      · rw [State.responseFail_tap r (hlocked.trans hl), hattempts]
      · have hexec : exec (.dbgResponse dr) s = .next (if s.lcs.state = lcDEPLOYED then w.erase.dbgResult 1
            else (w.openPort true).dbgResult 1) :=
          congrArg Host.Outcome.next (State.dbgResponse_of_good hv hvalid hopen hshut hidle hchal hw hl hchk)
        exact ⟨fun hp => hexec.trans (by rw [if_neg (by rw [hp]; decide)]), fun hd => hexec.trans (by rw [if_pos hd])⟩
  · exact congrArg Host.Outcome.next (if_pos (by simp [h]))
  · exact congrArg Host.Outcome.next (if_neg (by simpa using h))

end Sys2Proof.Machine
end
